-- ==== Sys2Proof/Word.lean ====
section
/-!
DEFINITION. The unit of data of the OT1048 (R7, R47): the byte, byte strings, and little-endian numbers
written in them.
-/
namespace Sys2Proof

/-- One octet of a message, a cell or an object value. -/
abbrev Byte := BitVec 8

/-- A string of octets, the first octet first. -/
abbrev Bytes := List Byte

/-- A number of `n` bytes, least significant byte first (R7). -/
def leBytes : Nat → Nat → Bytes
  | 0, _ => []
  | n + 1, v => BitVec.ofNat 8 v :: leBytes n (v / 256)

/-- The number that a little-endian byte string holds (R7). -/
def leNat : Bytes → Nat
  | [] => 0
  | b :: bs => b.toNat + 256 * leNat bs

/-- A number of `n` bytes, most significant byte first (Ethernet, IP, PTP and the NIST counters, R7). -/
def beBytes (n v : Nat) : Bytes := (leBytes n v).reverse

/-- The number that a big-endian byte string holds (R7). -/
def beNat (b : Bytes) : Nat := leNat b.reverse

end Sys2Proof
end

