-- ==== Sys2Proof/Machine/StatePower.lean ====
section
/-!
DEFINITION. State of the clock islands, crossings and input filters (chapter 20) and of power, reset and cast-on
(chapter 22).
-/
namespace Sys2Proof.Machine

/-- R647, R648, R651: one clock island. `faultTimes` are the times of its clock faults within the window of R676. -/
structure Island where
  locked : Bool
  gated : Bool
  inReset : Bool
  fault : Bool
  faults : Nat
  faultAt : Nat
  faultTimes : List Nat
  kHz : Nat
deriving DecidableEq, Repr, Inhabited

/-- R653, R654, R667: one island pair with a crossing. `toggle` is the toggle register, last inverted at counter value `invertedAt` (none since the
crossing opened); `held` is the pending bit and `delivered` counts the pulses that the destination has emitted. -/
structure Crossing where
  dst : Nat
  src : Nat
  toggle : Bool
  invertedAt : Option Nat
  held : Bool
  delivered : Nat
  overrun : Bool
  fenced : Bool
  merged : Nat
  lostAtReset : Nat
  eventAt : Option Nat
  mergedSince : Nat
deriving DecidableEq, Repr, Inhabited

/-- R662 to R664: states of a filtered input. -/
inductive InputMask where
  | none | stuck | chattering
deriving DecidableEq, Repr, Inhabited

/-- One filtered input. `raw` is the level at the ball; `active` the accepted level in its active sense; `windowAt` the
start of an open chattering window. -/
structure Input where
  raw : Bool
  active : Bool
  mask : InputMask
  activeSince : Nat
  maskedAt : Nat
  windowAt : Option Nat
  inWindow : Nat
  delivered : Nat
  glitches : Nat
  stuckCount : Nat
  chatterCount : Nat
deriving DecidableEq, Repr, Inhabited

/-- Chapter 20. -/
structure IslandState where
  islands : List Island
  crossings : List Crossing
  inputs : List Input
deriving DecidableEq, Repr, Inhabited

/-- 0x6800.1 PowerState, and the two conditions in which the device is held in reset: with a main rail not good or
PORST_N low (`held`), and with the reference lost for more than 100 ms (`refHeld`). -/
inductive PowerPhase where
  | castOn | run | lastGasp | flushed | stopped | held | refHeld
deriving DecidableEq, Repr, Inhabited

/-- Chapter 22, volatile. `resetAt` is the counter value of reset release, `gaspAt` that of PFAIL_N falling;
`castStep` is the last step of cast-on completed. -/
structure PowerState where
  phase : PowerPhase
  refSource : Nat
  refLostAt : Option Nat
  railWarn : Nat
  warnEventAt : List (Option Nat)
  warnLowest : List Nat
  castOnTimes : List Nat
  castStep : Nat
  gaspAt : Nat
  gaspStep : Nat
  pfailLow : Bool
  supply : List Nat
  lastSaveAt : Nat
  pendingCause : Nat
deriving DecidableEq, Repr, Inhabited

/-- Chapter 22, held over a cold reset. -/
structure PowerNv where
  resetCause : Nat
  castOnCount : Nat
  lastGaspResult : Nat
  gaspCut : Option (Nat × Nat)
deriving DecidableEq, Repr, Inhabited

/-- R460: what a die's parameter page says: Gbit, planes, pages per block, blocks per plane, page and spare bytes, highest
NV-DDR3 timing mode. -/
structure DieParam where
  gbit : Nat
  planes : Nat
  pages : Nat
  blocks : Nat
  pageBytes : Nat
  spare : Nat
  timing : Nat
deriving DecidableEq, Repr, Inhabited

/-- What is fitted on the board and sampled or found at cast-on: DRAM in MiB, the CASC_ROLE strap (true selects
master), a 25 MHz clock on REFCLK, the voltages found on the VDDIO banks (true for 3.3 V, R728), the NAND
dies that answer, by number (R460). -/
structure Board where
  dramMiB : Nat
  cascMaster : Bool
  refclk : Bool
  banks33 : List Bool
  nand : List (Nat × DieParam)
deriving DecidableEq, Repr, Inhabited

end Sys2Proof.Machine
end

