-- ==== Sys2Proof/Machine/Inputs.lean ====
section
/-!
DEFINITION. The operands of commands that are more than a number or a byte string.
-/
namespace Sys2Proof.Machine

/-- Where a dictionary message came from (R62, R75, R82): transport 0 UDP over IPv4, 1 UDP over IPv6, 2 service port;
Ethernet port; VLAN; UDP port; address. -/
structure Via where
  transport : Nat
  port : Nat
  vlan : Nat
  udpPort : Nat
  address : Bytes
deriving DecidableEq, Repr, Inhabited

/-- R562: the consumers of working keys, one register each. -/
inductive Consumer where
  | lane0 | lane1 | lane2 | lane3 | downlink | exporter | dictAuth | nandXts | image
deriving DecidableEq, Repr, Inhabited

/-- R563: what a key request asks for: the uplink or downlink key of a meter and generation, derived from a FAMILY slot
(R99), or the key of the slot itself. -/
inductive KeyUse where
  | up (eui gen : Nat)
  | down (eui gen : Nat)
  | raw (usage : Nat)
deriving DecidableEq, Repr, Inhabited

/-- R462, R476: how the read of a unit went: the unit, the most corrected bits of a codeword, the codewords corrected, the
soft retries made, and the dies of its stripe with an uncorrectable codeword. -/
structure UnitRead where
  mun : Nat
  bits : Nat
  corrected : Nat
  retries : Nat
  bad : List Nat
deriving DecidableEq, Repr, Inhabited

/-- R672, R682: an error that a unit detects: cell and code; for a DRAM read its region, area and address; and what it strikes: the unreadable
cells of a queue, by their place, or the keys of the entries of a DRAM area. -/
structure NewError where
  cell : Nat
  code : Nat
  region : Nat
  area : Nat
  addr : Nat
  items : List Nat
deriving DecidableEq, Repr, Inhabited

/-- R706, R707: what a cast-on meets: the board as found (REFCLK, CASC_ROLE, DRAM, NAND); the tamper sources active at the gate, and whether
the battery island lost its supply; whether HUK reconstruction and DRAM training succeed; the step from 6 to 9 during which
PFAIL_N falls; the step during which PORST_N or (true) a brown-out cuts it; the ends of steps 0 to 9 in µs; the backup counts passed since
the island was last read; the pages that a power failure left torn, and the mount time in ms (R485). -/
structure CastOnInput where
  board : Board
  sources : List Nat
  vbatLost : Bool
  hukOk : Bool
  dramOk : Bool
  pfailStep : Option Nat
  cut : Option (Nat × Bool)
  times : List Nat
  backup : Nat
  torn : List Nat
  mountMs : Nat
deriving DecidableEq, Repr, Inhabited

end Sys2Proof.Machine
end

