-- ==== Sys2Proof/Machine/StateBase.lean ====
section
/-!
DEFINITION. State of the services that every chapter uses: the configuration and its epochs (chapter 1), the
dictionary (chapter 2), the hardware queues (chapter 13), time (chapter 16) and containment (chapter 21).
-/
namespace Sys2Proof.Machine

/-- R34: the blocks that switch epochs at a boundary of their own. -/
inductive Blk where
  | lanes | vee | balance | plc0 | plc1 | plc2 | radio0 | radio1 | sensing | queues | store | ethernet | time | vault
  | fabric | distribution | cascade | control
deriving DecidableEq, Repr

/-- Values of objects: key (index times 256 plus subindex) and bytes, keys strictly rising. -/
abbrev Settings := List (Nat × Bytes)

/-- R32: a sealed set on its way to be an epoch. `number` is its provisional number; `published` and `switched` belong
to steps 5 and 6; `mramAt` says that step 3 has been done. -/
structure Sealed where
  values : Settings
  number : Nat
  published : Bool
  publishedAt : Nat
  lateRaised : List Blk
  switched : List Blk
deriving DecidableEq, Repr, Inhabited

/-- R32, R33, R50: one of the two MRAM settings copies. `crcOk` is false for a copy whose CRC-32 is wrong. -/
structure SettingsCopy where
  epoch : Nat
  values : Settings
  crcOk : Bool
deriving DecidableEq, Repr, Inhabited

/-- Chapter 1: the configuration. -/
structure CfgState where
  active : Settings
  staged : Settings
  sets : List Sealed
  applied : Nat
  copies : List SettingsCopy
deriving DecidableEq, Repr, Inhabited

/-- R71: a block-read session. -/
structure ReadSession where
  key : Nat
  data : Bytes
  lastAt : Nat
deriving DecidableEq, Repr, Inhabited

/-- R73: a block-write session; it stays for 10 s after its final segment (R71). -/
structure WriteSession where
  key : Nat
  total : Nat
  crc : Nat
  data : Bytes
  lastAt : Nat
deriving DecidableEq, Repr, Inhabited

/-- R60, R61, R84: what is kept per role. `bitmap` bit i stands for sequence `high − i`. `cache` holds the last 16
responses, newest first. -/
structure RoleState where
  high : Nat
  bitmap : Nat
  floor : Nat
  cache : List (Nat × Bytes)
  notifySeq : Nat
  notifyFloor : Nat
  readS : Option ReadSession
  writeS : Option WriteSession
deriving DecidableEq, Repr, Inhabited

/-- R79: an event record before its bytes are laid out. Time in units of 2^-16 ns of TD0. -/
structure EventRec where
  time : Int
  code : Nat
  cell : Nat
  meter : Nat
  data : Bytes
deriving DecidableEq, Repr, Inhabited

/-- R84: an event that waits for its NOTIFY: its ordinal, the counter value at which it came, its 32 bytes. -/
structure Buffered where
  ordinal : Nat
  since : Nat
  record : Bytes
deriving DecidableEq, Repr, Inhabited

/-- R82 to R85: a subscription slot in use. -/
structure Subscription where
  role : Nat
  via : Via
  node : Nat
  leaseEnd : Nat
  cellFilter : Nat
  ranges : List (Nat × Nat)
  ordinal : Nat
  dropped : Nat
  buffered : List Buffered
deriving DecidableEq, Repr, Inhabited

/-- R76: a request that the master has passed to a leaf and not yet answered. -/
structure Proxied where
  ident : Nat
  node : Nat
  role : Nat
  operation : Nat
  seq : Nat
  via : Via
  sentAt : Nat
deriving DecidableEq, Repr, Inhabited

/-- R65: a request accepted during the pause of a bind-off and held. -/
structure HeldRequest where
  message : Bytes
  via : Via
deriving DecidableEq, Repr, Inhabited

/-- Chapter 2: the dictionary engine. Counters in the order of 0x1032.1 to .6. -/
structure DictState where
  roles : List RoleState
  counters : List Nat
  subs : List (Option Subscription)
  held : List HeldRequest
  proxied : List Proxied
  nextProxy : Nat
  lostEvents : List (Nat × Nat)
  authEventAt : Option Nat
  authSince : Nat
  replayEventAt : Option Nat
  windowAt : Nat
  windowCount : Nat
deriving DecidableEq, Repr, Inhabited

/-- R425: a cell of 64 bytes with its tag fields. `pushedAt` is the counter value at which it entered its queue, kept for R40. -/
structure QCell where
  data : Bytes
  first : Bool
  last : Bool
  abort : Bool
  valid : Nat
  pushedAt : Nat
deriving DecidableEq, Repr, Inhabited

/-- R428 to R439: one hardware queue. `owner` is the cell address of the producer whose packet is open and `openCells`
how many cells of it have entered. `dropPending` tells that a DROP_PACKET awaits its LAST cell, `losing` that the rest
of a packet that lost a skein block is still to come (R432). -/
structure Queue where
  head : List QCell
  skein : List (List QCell)
  tail : List QCell
  reserved : Nat
  owner : Option Nat
  openCells : Nat
  cutting : Bool
  lastPop : QCell
  popped : Bool
  dropPending : Bool
  dropDone : Bool
  losing : Bool
  highLive : Bool
  lowLive : Bool
  highCrossed : Bool
  lowCrossed : Bool
  highCount : Nat
  lowCount : Nat
  underrun : Bool
  overrun : Bool
  backpressured : Bool
  overruns : Nat
  underruns : Nat
  discarded : Nat
  overrunEventAt : Option Nat
  droppedSince : Nat
  aboveLimit : Bool
  servedBy : Nat
  fenced : Bool
deriving DecidableEq, Repr, Inhabited

/-- An event that its source could not yet place (R81): the queue, the record and since when it waits. -/
structure WaitingEvent where
  queue : Nat
  record : EventRec
  since : Nat
deriving DecidableEq, Repr, Inhabited

/-- Chapter 13: the queue manager. `totals` are 0x48D0.1 to .5; `spares` the spare cells 0x4040 to 0x4047 that are
free. -/
structure QueueState where
  queues : List Queue
  spares : List Nat
  poolMiB : Nat
  exhausted : Bool
  totals : List Nat
  waiting : List WaitingEvent
  hostPop : Bytes
deriving DecidableEq, Repr, Inhabited

/-- R525: states of a domain. -/
inductive DomState where
  | free | unsync | locking | locked | holdover
deriving DecidableEq, Repr, Inhabited

/-- R520 to R529: one time domain. `offset` is O in units of 2^-16 ns, `period` is P in units of 2^-40 ns. -/
structure Domain where
  offset : Int
  period : Nat
  anchor : Nat
  state : DomState
  sync : Bool
  jumpRefused : Bool
  timeUnknown : Bool
  freezeGap : Bool
  lastOffset : Int
  pathDelay : Int
  steps : Nat
  refused : Nat
  integ : Int
  good : Nat
  badSince : Option Nat
  lastSampleAt : Nat
  holdoverAt : Nat
  lockedAt : Nat
deriving DecidableEq, Repr, Inhabited

/-- R532 to R535: the output of a redundant pair. `slewLeft` is D still to slew, in units of 2^-16 ns, reckoned at
`slewFrom`. -/
structure PairOut where
  enabled : Bool
  partner : Bool
  offset : Int
  period : Nat
  anchor : Nat
  slewing : Bool
  slewD : Int
  slewFrom : Nat
  refusedNow : Bool
deriving DecidableEq, Repr, Inhabited

/-- R541: the PTP instance of a port. `state` is its portState; `parent` the identity of its master, `best` what that announces; `t1`, `t2`, `cf`
belong to the last Sync, `t2` and `t3` in every domain (R519); `delay` is the path's; `peer…` belong to the peer delay mechanism; the rest are
sequences and the counter values at which messages last left. Times are in units of 2^-16 ns. -/
structure PtpPort where
  state : Nat
  parent : Bytes
  best : Bytes
  announceAt : Nat
  syncSeq : Nat
  t1 : Option Int
  t2 : List Int
  cf : Int
  t3 : List Int
  delay : Option Int
  reqSeq : Nat
  reqAt : Nat
  peerOf : Bytes
  peerSeq : Nat
  peerT2 : Int
  peerT4 : Int
  peerCf : Int
  annSeq : Nat
  annAt : Nat
  synSeq : Nat
  synAt : Nat
deriving DecidableEq, Repr, Inhabited

/-- Chapter 16: the time unit, and the vault's backup counter (R536). -/
structure TimeState where
  counter : Nat
  frozenNs : Nat
  domains : List Domain
  pairs : List PairOut
  backup : Nat
  backupPart : Nat
  anchorTime : Int
  anchorCount : Nat
  anchorValid : Bool
  lastAnchorAt : Nat
  savedTd0 : Int
  savedDiffs : List (Option Int)
  utcLearned : Bool
  counters : List Nat
  ptp : List PtpPort
deriving DecidableEq, Repr, Inhabited

/-- R672: an error report. `entry` is the collector at which it enters: that of its cell, or of the block or region to which a rule sends it
(R648, R654). -/
structure ErrReport where
  cell : Nat
  code : Nat
  cls : Nat
  time : Int
  entry : Nat
deriving DecidableEq, Repr, Inhabited

/-- R22, R25: an error collector, at a cell, block, region or health address. `waiting` are the reports that wait to go upward, oldest first, each
with the count of lost reports that it carries; `lost` counts those that this collector could not forward, `lostToSend` those of them (and of the
collectors below) that no report has carried on yet. -/
structure Collector where
  counts : List Nat
  first : Option ErrReport
  lost : Nat
  lostToSend : Nat
  waiting : List (ErrReport × Nat)
deriving DecidableEq, Repr, Inhabited

/-- R686 to R688: the state of a cell, in the numbering of 0x6421.1. -/
inductive CellStatus where
  | inService | fenced | retired | selfTesting | returnReady | held
deriving DecidableEq, Repr, Inhabited

/-- What is kept of a cell that has erred, has been fenced or retired. `transients` are the times of the transient
errors within the window; `retirements` the times of retirements within 86,400 s. -/
structure CellRec where
  status : CellStatus
  transients : List Nat
  attempts : Nat
  lastCode : Nat
  failedAt : Nat
  tested : Bool
  retirements : List Nat
  retiredAt : Nat
  returnAsked : Bool
  lastTest : Nat
deriving DecidableEq, Repr, Inhabited

/-- R693: the registers of the swatch. -/
structure Swatch where
  cell : Nat
  space : Nat
  addr : Nat
  error : Bool
  masked : Bool
  denied : Bool
deriving DecidableEq, Repr, Inhabited

/-- Chapter 21: health, containment, freeze. `failover` is the core whose failover is under way (R685). `restarts` are the times of automatic restarts (R680); `pageErrs` the
uncorrectable errors per DRAM page (R684). -/
structure HealthState where
  failover : Option Nat
  collectors : List (Nat × Collector)
  cells : List (Nat × CellRec)
  raised : List ErrReport
  deviceFault : Bool
  regionFaults : Nat
  lostReports : Nat
  drained : Nat
  restarts : List Nat
  pageErrs : List (Nat × List Nat)
  pagesRetired : List Nat
  frozen : Bool
  freezePin : Bool
  freezeDebug : Bool
  frozenBackup : Nat
  freezes : Nat
  lastGap : Nat
  lastRequester : Nat
  swatch : Swatch
deriving DecidableEq, Repr, Inhabited

/-- R16 to R20: the arbiters. `waiting` are the transactions that wait, oldest first: cell and size in bytes. `deficits` by block;
`visits` by region: the block being visited and whether it has had its quantum; `turns` by block: the cell being served and the turns
left to it; `lendAt` the region that was lent a cycle last; `granted` the requests of each region in the last window. -/
structure FabricState where
  waiting : List (Nat × Nat)
  deficits : List (Nat × Nat)
  visits : List (Nat × Bool)
  turns : List (Nat × (Nat × Nat))
  lendAt : Nat
  granted : List Nat
deriving DecidableEq, Repr, Inhabited

end Sys2Proof.Machine
end

