-- ==== Sys2Proof/Syntax.lean ====
section
/-!
DEFINITION. The commands of the OT1048: one constructor per row of the command table, with the row's operands. A command that a write of a CMD
object starts carries the writer's ROLE (R53) and the value written; one that a medium or a clock brings about carries what it brings.
-/
namespace Sys2Proof

open Machine

/-- The commands: first those with operands, then those without, each in the order of the table. -/
inductive Instr where
  /-- CONFIG_COMMIT (R32): A write of 1 to ConfigCommit seals the staged set as the provisional next epoch. -/
  | configCommit (role : Nat) (v : Nat)
  /-- BLOCK_EPOCH_SWITCH (R34): A block reaches its own switch boundary and moves from its active bank to its next bank. -/
  | blockEpochSwitch (b : Blk)
  /-- DISCARD_STAGED_SET (R88): A write of 1 to 0x1010.5 discards the staged set. -/
  | discardStagedSet (role : Nat) (v : Nat)
  /-- RESTORE_DEFAULTS (R69): RestoreDefaults stages every OPERATOR default of persistence S, all or nothing. -/
  | restoreDefaults (role : Nat) (v : Nat)
  /-- FABRIC_WINDOW (R19): Each 64-cycle fabric window grants regions their shares and lends unused cycles. -/
  | fabricWindow (requests : List (Nat × Nat))
  /-- READ (R66): A READ request is authenticated, checked against its sequence window and answered with the object's value. -/
  | read (message : Bytes) (via : Via)
  /-- WRITE (R66): A WRITE request to an object without a row of its own is checked and applied at once or staged. -/
  | write (message : Bytes) (via : Via)
  /-- READ_BLOCK (R72): A READ_BLOCK returns a segment of a BLOB from a snapshot taken at offset 0. -/
  | readBlock (message : Bytes) (via : Via)
  /-- WRITE_BLOCK (R73): A WRITE_BLOCK adds a segment to the write session and applies the whole value when the CRC matches at the end. -/
  | writeBlock (message : Bytes) (via : Via)
  /-- COMMIT (R70): The COMMIT operation seals the staged set as writing 1 to ConfigCommit does. -/
  | commit (message : Bytes) (via : Via)
  /-- SUBSCRIBE_CREATE (R82): A SUBSCRIBE with ACTION 1 creates or replaces a subscription slot. -/
  | subscribeCreate (message : Bytes) (via : Via)
  /-- SUBSCRIBE_CANCEL (R82): A SUBSCRIBE with ACTION 0 cancels a subscription slot. -/
  | subscribeCancel (message : Bytes) (via : Via)
  /-- SUBSCRIBE_RENEW (R83): A SUBSCRIBE with ACTION 2 renews a slot's lease. -/
  | subscribeRenew (message : Bytes) (via : Via)
  /-- NOTIFY (R84): A NOTIFY message is sent when 32 events are pending or 10 ms after the first pending event. -/
  | notify (slot : Fin 8)
  /-- SUBSCRIPTION_EXPIRED (R83): A subscription whose lease runs out is removed. -/
  | subscriptionExpired (slot : Fin 8)
  /-- BLOCK_SESSION_END (R71): A block session ends 10 s after its last segment. -/
  | blockSessionEnd (role : Fin 5)
  /-- ERROR_REPORT (R673): An error report reaches a collector; it is counted and handled by its class. -/
  | errorReport (new : Option NewError)
  /-- LANE_MAP_MOVE (R141): Once no item of a moving bucket is in flight in the old lane, the bucket switches and its held items are released. -/
  | laneMapMove (bucket : Fin 64)
  /-- FETCH (R134): Stage 1 takes a frame into a lane and starts the meter-table lookup. -/
  | fetch (lane : Fin 4)
  /-- IDENTIFY (R142): Stage 2 receives the meter record, sets the producer and applies barriers. -/
  | identify (lane : Fin 4) (item : Nat)
  /-- DERIVE (R99): Stage 3 receives the derived uplink key and slot generation from the vault. -/
  | derive (lane : Fin 4) (item : Nat)
  /-- DECRYPT (R100): Stage 4 decrypts the body and computes the GCM tag. -/
  | decrypt (lane : Fin 4) (item : Nat)
  /-- DECODE (R112): Stage 5 parses the body and decodes reading values against the base entries. -/
  | decode (lane : Fin 4) (item : Nat)
  /-- VALIDATE (R182): Stage 6 applies the meter class tests and sets the outcome and reasons. -/
  | validate (lane : Fin 4) (item : Nat)
  /-- ESTIMATE (R191): Stage 7 interpolates the gap that a reading closes. -/
  | estimate (lane : Fin 4) (item : Nat)
  /-- BALANCE_CONTRIBUTION (R258): Stage 8 computes balance deltas and evaluates the stage-8 detectors. -/
  | balanceContribution (lane : Fin 4) (item : Nat)
  /-- VERIFY (R149): Stage 9 compares tags, judges the generation and checks the frame-counter window. -/
  | verify (lane : Fin 4) (item : Nat)
  /-- COMMIT_OR_SQUASH (R156): Stage 10 reserves outputs and then commits the item or squashes it. -/
  | commitOrSquash (lane : Fin 4) (item : Nat)
  /-- RECORD_AND_ACKNOWLEDGE (R161): Stage 11 writes interval records and issues the acknowledgement request if the deadline is met. -/
  | recordAndAcknowledge (lane : Fin 4) (item : Nat)
  /-- EXPORT_ENQUEUE (R190): Stage 12 writes the export descriptor of the real reading. -/
  | exportEnqueue (lane : Fin 4) (item : Nat)
  /-- GENERATION_NOTICE (R159): A lane applies a slot generation notice between two commits. -/
  | generationNotice (lane : Fin 4)
  /-- LATENCY_STATS_CLEAR (R174): A write of 1 to 0x4020.3 clears the latency statistics. -/
  | latencyStatsClear (role : Nat) (v : Nat)
  /-- METER_REKEY (R107): A write of 1 to 0x3822.1 starts a rekey of the selected meter. -/
  | meterRekey (role : Nat) (v : Nat)
  /-- REKEY_SEND (R107): The OT1048 sends REKEY under the current downlink key when medium access allows. -/
  | rekeySend (meter : Nat)
  /-- REKEY_RETRY (R108): With no frame under PENDING_GEN within the retry interval, REKEY is sent again, or the rekey stalls after 8 sends. -/
  | rekeyRetry (meter : Nat)
  /-- JOIN_EXPIRED (R125): A provisional record without a frame under PENDING_GEN within the join timeout is removed. -/
  | joinExpired (meter : Nat)
  /-- METER_REMOVE (R128): A write of 1 to 0x3822.2 removes the selected meter through its lane. -/
  | meterRemove (role : Nat) (v : Nat)
  /-- METER_SELECT_EUI (R130): A write of 0x3820.2 selects a meter by EUI or answers UNKNOWN_METER. -/
  | meterSelectEui (role : Nat) (eui : Nat)
  /-- SWEEP_STEP (R201): A sweep visit estimates the due intervals of a meter by profile. -/
  | sweepStep (meter : Nat)
  /-- EDIT_APPLY (R206): A write of 1 to 0x4420.6 checks and queues a manual edit. -/
  | editApply (role : Nat) (v : Nat)
  /-- EDIT_RELEASE (R207): A write of 1 to 0x4420.7 releases an edit and appends a release record. -/
  | editRelease (role : Nat) (v : Nat)
  /-- METER_CLASS_MOVE (R178): A write of 0x4421 moves the selected meter to another class through its lane. -/
  | meterClassMove (role : Nat) (v : Nat)
  /-- HISTORY_REBUILD (R200): The VEE engine rebuilds a meter's history from the record store after cast-on. -/
  | historyRebuild (meter : Nat)
  /-- SYNC_EVENT (R224): A sync event measures the grid error and makes an aligning reset when required. -/
  | syncEvent (source : Fin 3)
  /-- SYNC_NOW (R224): A write of 1 to SyncNow requests an aligning reset. -/
  | syncNow (role : Nat) (v : Nat)
  /-- LOCAL_RESET (R226): A chain makes a synchronising reset at its next 8 kS/s output instant. -/
  | localReset (c : Fin 8)
  /-- GRID_UNLOCKED (R212): The sensing PLL leaving its steering range clears LOCKED and raises GridUnlocked. -/
  | gridUnlocked (steer : Int)
  /-- MEASUREMENT_BLOCK (R239): Each 200 ms block computes powers and RMS, adds energy and writes a block record. -/
  | measurementBlock (instants : List (List Nat)) (dieTemp : Int)
  /-- CHANNEL_OVERRANGE (R214): Once per second with saturated samples, ChannelOverrange is raised per channel. -/
  | channelOverrange (c : Fin 8)
  /-- ZERO_CROSSING (R231): A rising voltage crossing is stamped and a zero-crossing record is written. The operands of type Unit carry nothing. -/
  | zeroCrossing (c : Fin 8) (bits : Nat) (n : Nat) (u : Unit) (v : Unit) (w : Unit) (x : Unit)
  /-- VOLTAGE_LOST (R234): No rising crossing for 3 nominal periods makes a phase voltage lost. -/
  | voltageLost (p : Fin 3)
  /-- ENERGY_RESET (R241): A write of a phase mask to EnergyReset zeroes those registers at the next block boundary. -/
  | energyReset (role : Nat) (mask : Nat)
  /-- GROUP_INTERVAL_CLOSE (R262): A group interval closes, results, alerts, revisions and suspect lists are computed and exported. -/
  | groupIntervalClose (group : Fin 4096)
  /-- ADD_GROUP (R279): A write of AddGroup adds a group to the selected meter as a control item. -/
  | addGroup (role : Nat) (v : Nat)
  /-- REMOVE_GROUP (R279): A write of RemoveGroup removes a group from the selected meter. -/
  | removeGroup (role : Nat) (v : Nat)
  /-- CONFIG_PHASE (R273): A write of ConfigPhase sets the selected meter's configured phase. -/
  | configPhase (role : Nat) (v : Nat)
  /-- CLEAR_DETECTORS (R267): A write of ClearDetectors clears the selected detectors of the meter. -/
  | clearDetectors (role : Nat) (v : Nat)
  /-- MEMBER_BULK (R279): MemberBulk applies a list of membership changes as control items in order. -/
  | memberBulk (role : Nat) (list : Bytes)
  /-- SEGMENT_GRID_PREDICT (R288): A phase engine takes a V1 crossing record and predicts the next cycle's segment boundaries. -/
  | segmentGridPredict (e : Fin 3)
  /-- SEGMENT_TIMER_LOCKED (R291): After V1 returns, an engine re-anchors its grid at its first free boundary. -/
  | segmentTimerLocked (e : Fin 3)
  /-- PREAMBLE_DETECTED (R309): A phase engine detects a preamble and freezes its gain. -/
  | preambleDetected (e : Fin 3)
  /-- SYNC_WORD_FOUND (R309): A sync word found after a preamble gives the arrival stamp. -/
  | syncWordFound (e : Fin 3) (wrong : Nat)
  /-- HEADER_DECODED (R294): A Beyqua header is decoded and checked, or the frame dropped. The operands of type Unit carry nothing. -/
  | headerDecoded (e : Fin 3) (u : Unit)
  /-- PLC_FRAME_END (R309): A power-line payload ends; its CRC decides drop, overrun, overheard or ingest, and link measures update. The operands of type Unit carry nothing. -/
  | plcFrameEnd (e : Fin 3) (u : Unit) (v : Unit) (w : Unit) (x : Unit)
  /-- PLC_TRANSMIT (R284): A phase engine starts a transmission at its MAC's request, abandoning any reception. -/
  | plcTransmit (e : Fin 3)
  /-- PLC_AGC_STEP (R307): The AGC changes the receive gain by one step at most once per millisecond. -/
  | plcAgcStep (e : Fin 3) (samples : List Int)
  /-- BACKOFF_BOUNDARY (R319): At a segment boundary a station senses the medium and counts down or sends. The operands of type Unit carry nothing. -/
  | backoffBoundary (e : Fin 3) (u : Unit)
  /-- ACK_WINDOW_OPEN (R314): At the ACK window opening the engine sends the ACK if stage 11 met the deadline. -/
  | ackWindowOpen (e : Fin 3)
  /-- ROUTE_PIN (R332): A write of RoutePin pins the selected meter's route. -/
  | routePin (role : Nat) (v : Bytes)
  /-- ROUTE_UNPIN (R332): A write of 1 to 0x2853.2 unpins the selected meter's route. -/
  | routeUnpin (role : Nat) (v : Nat)
  /-- IQ_LINK_FAULT (R338): A receive IQ interface fault stops the port's demodulators. -/
  | iqLinkFault (p : Fin 2) (cause : Fin 3)
  /-- IQ_LINK_RESTORED (R338): 1,024 good samples restore the IQ interface and reset the channelizer. -/
  | iqLinkRestored (p : Fin 2)
  /-- SCRIPT_RUN (R344): The port runs the next pending front-end script to its end or failure. -/
  | scriptRun (p : Fin 2) (miso : Bytes) (waits : List Bool)
  /-- USER_A (R342): A write of 1 to ScriptControl raises the USER_A trigger. -/
  | userA (role : Nat) (p : Fin 2)
  /-- USER_B (R342): A write of 2 to ScriptControl raises the USER_B trigger. -/
  | userB (role : Nat) (p : Fin 2)
  /-- FRONT_END_ALARM (R341): A filtered rising edge on an alarm control line raises FrontEndAlarm. -/
  | frontEndAlarm (p : Fin 2) (line : Fin 4)
  /-- SFD_FOUND (R354): A demodulator finds an SFD, stamps it and measures RSSI. The operands of type Unit carry nothing. -/
  | sfdFound (p : Fin 2) (d : Fin 16) (coded : Bool) (u : Unit)
  /-- RADIO_FRAME_END (R354): A radio PPDU ends; PHR and FCS decide drop, overrun or ingest into Q3 or Q4. The operands of type Unit carry nothing. -/
  | radioFrameEnd (p : Fin 2) (d : Fin 16) (air : List Bool) (u : Unit)
  /-- TX_REQUEST (R355): The radio MAC asks a port to send a frame at an instant; invalid or late requests are refused. -/
  | txRequest (p : Fin 2)
  /-- TX_ON (R357): TxLead before a transmission the TX_ON trigger is raised. -/
  | txOn (p : Fin 2)
  /-- TRANSMISSION_START (R357): At the start instant the first IQ sample leaves, or the transmission is abandoned. -/
  | transmissionStart (p : Fin 2)
  /-- TRANSMISSION_END (R357): The last PPDU sample raises TX_OFF and reception resumes. -/
  | transmissionEnd (p : Fin 2)
  /-- AGC_BLOCK (R361): A 10 us power block lowers or raises the radio gain entry. -/
  | agcBlock (p : Fin 2) (samples : List (Int × Int))
  /-- RX_CLIPPING (R340): Once per second with clipped blocks RxClipping is raised. -/
  | rxClipping (p : Fin 2)
  /-- SLOT_BOUNDARY (R367): At each slot boundary channels and listen lists change and drift states are re-evaluated. -/
  | slotBoundary (p : Fin 2)
  /-- SCHEDULE_ACTIVATED (R375): A staged schedule takes effect at its switch boundary or ACTIVE_ASN. -/
  | scheduleActivated (p : Fin 2)
  /-- BEACON_SEND (R379): In a BEACON cell the concentrator sends a beacon at 2 ms, subject to dwell. -/
  | beaconSend (p : Fin 2)
  /-- RADIO_ACK_SEND (R369): At 21 ms the port sends one ACK to the earliest qualifying direct frame of the slot. -/
  | radioAckSend (p : Fin 2)
  /-- DOWN_CELL_SEND (R383): In a DOWN cell the port sends the next unheld unicast downlink. -/
  | downCellSend (p : Fin 2)
  /-- FLOOD_CELL_SEND (R390): In a FLOOD cell the port sends one flood frame: ACK, command or block. -/
  | floodCellSend (p : Fin 2)
  /-- COMMAND_REQUEST (R410): A write of 1 to 0x3C10.3 queues a host command for the selected meter. -/
  | commandRequest (role : Nat) (v : Nat)
  /-- COMMAND_TAKE (R401): The head command of a meter with none outstanding is built through a control item and sent. -/
  | commandTake (meter : Nat)
  /-- COMMAND_TIMEOUT (R403): An unanswered command is retried after its timeout or fails after CmdTries. -/
  | commandTimeout (meter : Nat)
  /-- COMMAND_CANCEL (R423): A write of 1 to 0x3C11.6 cancels a queued command. -/
  | commandCancel (role : Nat) (v : Nat)
  /-- TARIFF_LOAD (R417): TariffLoad stores a table and starts its campaign. -/
  | tariffLoad (role : Nat) (b : Bytes)
  /-- TARIFF_ASSIGN (R417): TariffAssign makes the selected meter a target of a table's campaign. -/
  | tariffAssign (role : Nat) (v : Nat)
  /-- IMAGE_BEGIN_SLOT (R411): ImageBegin opens the loading of a meter image slot. -/
  | imageBeginSlot (role : Nat) (b : Bytes)
  /-- IMAGE_CHUNK (R411): ImageChunk writes image data at the next offset. -/
  | imageChunk (role : Nat) (b : Bytes)
  /-- IMAGE_END_SLOT (R411): ImageEnd checks size and digest and starts the image campaign. -/
  | imageEndSlot (role : Nat) (slot : Nat)
  /-- IMAGE_TARGETS (R413): ImageTargets adds meters to an image campaign. -/
  | imageTargets (role : Nat) (b : Bytes)
  /-- IMAGE_ACTIVATE (R422): ImageActivate queues IMAGE_ACTIVATE for complete targets. -/
  | imageActivate (role : Nat) (b : Bytes)
  /-- IMAGE_REMOVE (R423): ImageRemove ends the campaign and empties the slot. -/
  | imageRemove (role : Nat) (slot : Nat)
  /-- ROUND_START (R414): With no OFFER outstanding a campaign round starts with its block list. -/
  | roundStart (kind : Fin 2) (slot : Fin 256)
  /-- ROUND_END (R414): A round ends, silent counts rise and the next round starts or the campaign ends. -/
  | roundEnd (kind : Fin 2) (slot : Fin 256)
  /-- BLOCK_SEND (R419): An engine or port sends the next multicast block of its lists. -/
  | blockSend (port : Fin 5)
  /-- QUEUE_PUSH (R428): A producer pushes a cell into a queue, with watermark and full-queue handling. -/
  | queuePush (queue : Fin 64) (producer : Nat) (nonStalling : Bool) (tag : Nat) (data : Bytes)
  /-- QUEUE_POP (R433): A consumer pops the oldest cell of a queue, or underruns. -/
  | queuePop (queue : Fin 64)
  /-- DROP_PACKET (R434): DROP_PACKET discards the rest of the consumer's current packet. -/
  | dropPacket (queue : Fin 64)
  /-- QUEUE_RESERVE (R438): An internal producer reserves cells of a queue or waits for room. -/
  | queueReserve (queue : Fin 64) (cells : Nat)
  /-- SKEIN_SPILL (R428): The oldest 8 tail cells are moved to the skein in DRAM. -/
  | skeinSpill (queue : Fin 64)
  /-- SKEIN_REFILL (R431): A skein block is read back into the head when it has room. -/
  | skeinRefill (queue : Fin 64) (lost : Bool) (addr : Nat)
  /-- QUEUE_STATUS_READ (R435): A read of 0x4850.2 returns the status word and clears its sticky bits and counts. -/
  | queueStatusRead (queue : Fin 64)
  /-- HOST_POP (R442): A write of 1 to 0x48C0.2 pops one cell from the selected host queue. -/
  | hostPop (role : Nat) (v : Nat)
  /-- HOST_PUSH (R442): A write of 0x48C0.4 pushes a cell into the selected host queue. -/
  | hostPush (role : Nat) (cell : Bytes)
  /-- HOST_DROP_PACKET (R442): A write of 1 to 0x48C0.5 performs DROP_PACKET on the selected queue. -/
  | hostDropPacket (role : Nat) (v : Nat)
  /-- STRIPE_PROGRAM (R452): A stripe whose data units are sealed is programmed with parity. -/
  | stripeProgram (stream : Fin 4)
  /-- PROGRAM_COMPLETE (R468): On program completion the FTE writes the journal entry mapping the stripe. -/
  | programComplete (stream : Fin 4) (failed : Option (Nat × Nat))
  /-- STORE_READ (R456): The FTE answers a read from Q42 or Q43. -/
  | storeRead (q : Fin 2) (reads : List UnitRead)
  /-- RECLAIM_THROUGH (R457): A write of ReclaimThrough reclaims every day up to the given day. -/
  | reclaimThrough (role : Nat) (day : Nat)
  /-- ERASE_COMPLETE (R471): A superblock erase completes and it becomes FREE, or a failing block is retired. -/
  | eraseComplete (sb : Nat) (failed : Option (Nat × Nat))
  /-- PATROL_READ (R463): Patrol reads closed superblocks within PatrolDays. -/
  | patrolRead (sb : Nat) (reads : List UnitRead)
  /-- DIE_REBUILD_DONE (R477): Relocation away from a retired die completes. -/
  | dieRebuildDone (die : Fin 16)
  /-- IMAGE_UNIT_WRITE (R479): The FTE writes a meter image unit by sweep or after a record change. -/
  | imageUnitWrite (unit : Fin 16384)
  /-- FORMAT (R484): A write of 0xA5 to Format formats the store. -/
  | format (role : Nat) (v : Nat)
  /-- ETH_FRAME_RECEIVED (R492): A received Ethernet frame is checked, stamped and distributed. -/
  | ethFrameReceived (port : Fin 2) (capture : Nat) (frame : Bytes)
  /-- ETH_LINK_CHANGED (R490): An Ethernet link goes up or down. -/
  | ethLinkChanged (port : Fin 2) (linkUp : Bool)
  /-- EXPORT_ACK (R501): A head-end acknowledgement is checked and releases acknowledged datagrams. -/
  | exportAck (via : Via) (datagram : Bytes)
  /-- EXPORT_SESSION_START (R498): A write of 1 to 0x5011.3 starts a new export session. -/
  | exportSessionStart (role : Nat) (v : Nat)
  /-- IMPORT_DATAGRAM (R511): An import datagram is checked and its entries enter Q6. -/
  | importDatagram (via : Via) (stamp : Int) (datagram : Bytes)
  /-- DEPARTURE_ECHO (R514): A frame marked for echo leaves and its echo is written to Q53. -/
  | departureEcho (port : Fin 2) (capture : Nat) (tag : Nat) (frame : Bytes)
  /-- OFFSET_SAMPLE (R526): The servo handles an offset sample by refusal, step or frequency update. -/
  | offsetSample (domain : Fin 8) (theta : Int)
  /-- SOURCE_LOST (R525): No sample for SourceTimeout puts a domain into HOLDOVER. -/
  | sourceLost (domain : Fin 8)
  /-- SYNC_LOST (R525): HoldoverLimit in HOLDOVER clears SYNC. -/
  | syncLost (domain : Fin 8)
  /-- PERIOD_WRITE (R522): A write of PeriodWrite re-anchors the domain with a new period. -/
  | periodWrite (domain : Fin 8) (role : Nat) (v : Nat)
  /-- STEP_REQUEST (R528): StepRequest steps a domain subject to jump refusal. -/
  | stepRequest (domain : Fin 8) (role : Nat) (delta : Int)
  /-- FORCED_STEP (R529): ForcedStep steps a domain without jump refusal. -/
  | forcedStep (domain : Fin 8) (role : Nat) (delta : Int)
  /-- SET_TIME (R529): SetTime steps a domain to the given time. -/
  | setTime (domain : Fin 8) (role : Nat) (time : Bytes)
  /-- CLEAR_STICKY (R531): ClearSticky clears JUMP_REFUSED and FREEZE_GAP. -/
  | clearSticky (domain : Fin 8) (role : Nat) (v : Nat)
  /-- PAIR_SWITCHED (R534): The selected member leaving LOCKED switches a pair's output to the other member. -/
  | pairSwitched (pair : Fin 2)
  /-- PAIR_REVERT (R534): A primary LOCKED for RevertHold is reselected. -/
  | pairRevert (pair : Fin 2)
  /-- SLEW_COMPLETE (R534): The pair output finishes its slew and ties to the new member. -/
  | slewComplete (pair : Fin 2)
  /-- PTP_FRAME_RECEIVED (R542): A received PTP frame is stamped and passed to firmware through Q55. -/
  | ptpFrameReceived (port : Fin 2) (capture : Nat) (frame : Bytes)
  /-- IHLOST_TIME_EXCHANGE (R544): A leaf's stamp exchange with upstream gives delay and an offset sample. -/
  | ihlostTimeExchange (port : Fin 2) (t1 : Int) (c2 : Nat) (c3 : Nat) (t4 : Int)
  /-- PPS_EDGE (R547): A filtered PPS edge is stamped and gives an offset sample. -/
  | ppsEdge (gpio : Fin 16) (stamp : Nat)
  /-- KEY_REQUEST (R563): The vault checks a slot and delivers a key to a consumer's working register. -/
  | keyRequest (c : Consumer) (slot : Nat) (u : KeyUse)
  /-- KEY_IMPORT (R567): A write of KeyImport is checked in order and starts the import. -/
  | keyImport (role : Nat) (blob : Bytes)
  /-- KEY_REVOKE (R568): KeyRevoke revokes a slot and its descendants. -/
  | keyRevoke (role : Nat) (slot : Nat)
  /-- KEY_ERASE (R569): KeyErase empties a slot and its record. -/
  | keyErase (role : Nat) (slot : Nat)
  /-- TAMPER_DETECTED (R572): A qualified tamper source applies its response. -/
  | tamperDetected (source : Fin 12)
  /-- MESH_SAMPLE (R571): Each MeshPeriod the battery island drives and samples the mesh. -/
  | meshSample (first : Bool) (second : Bool)
  /-- TAMPER_REARM (R571): A source inactive for RearmTime rearms. -/
  | tamperRearm (source : Fin 12) (inactiveFor : Nat)
  /-- TAMPER_STATUS_CLEAR (R590): A write of 1 to 0x5832.3 clears the sticky tamper status. -/
  | tamperStatusClear (role : Nat) (v : Nat)
  /-- LOCKDOWN_RELEASE (R576): LockdownRelease clears ZEROISE_OWED and restarts through cast-on. -/
  | lockdownRelease (role : Nat) (v : Nat)
  /-- PROVISION (R582): Provision checks a bundle and starts the transition to PROVISIONED. -/
  | provision (role : Nat) (bundle : Bytes)
  /-- DEPLOY (R581): Deploy starts the transition to DEPLOYED. -/
  | deploy (role : Nat) (eui : Nat)
  /-- RETURN (R581): Return starts the transition to RETURNED. -/
  | returnDevice (role : Nat) (eui : Nat)
  /-- LOCK (R581): Lock starts the transition to LOCKED. -/
  | lock (role : Nat) (eui : Nat)
  /-- SUBMIT_RESPONSE (R588): A write of 2 to VDM_CTRL starts the check of a signed response. -/
  | submitResponse (response : Bytes)
  /-- ATTEST (R589): A challenge written to Attest is signed with slot 0. -/
  | attest (role : Nat) (challenge : Bytes)
  /-- SERVICE_WRITE (R594): A WRITE transaction delivers one frame to an input buffer, or discards it. -/
  | serviceWrite (frame : Bytes)
  /-- SERVICE_READ (R595): A READ transaction clocks out the oldest pending output frame. -/
  | serviceRead (clocked : Nat)
  /-- HITLESS_HANDOVER (R606): UpdateCommand 1 starts loading, checking and forward sealing for a handover. -/
  | hitlessHandover (role : Nat)
  /-- HANDOVER_ABANDONED (R608): A handover whose new set is not ready or whose record is not imported in time is abandoned. -/
  | handoverAbandoned (cause : Nat)
  /-- RESTART_MODE_UPDATE (R615): UpdateCommand 2 installs the staged image through a cold restart. -/
  | restartModeUpdate (role : Nat)
  /-- REVERT (R614): UpdateCommand 3 reverts to the old image during probation. -/
  | revert (role : Nat)
  /-- ACCEPT (R613): UpdateCommand 4 ends probation as a success. -/
  | accept (role : Nat)
  /-- DISCARD_STAGED (R615): UpdateCommand 5 discards the staged image. -/
  | discardStaged (role : Nat)
  /-- ENUMERATE (R623): An ENUMERATE message numbers a leaf and is passed on. -/
  | enumerate (port : Fin 2) (payload : Bytes)
  /-- CASCADE_FORMED (R623): The enumeration report forms the cascade. -/
  | cascadeFormed (port : Fin 2) (report : Bytes)
  /-- IHLOST_LINK_CHANGED (R622): An Ihlost link comes up or goes down, re-enumerating or rerouting. -/
  | ihlostLinkChanged (port : Fin 2) (linkUp : Bool)
  /-- IHLOST_MESSAGE (R627): An Ihlost message is received, checked, acknowledged and delivered or passed on. -/
  | ihlostMessage (port : Fin 2) (ack : Option Nat) (message : Bytes)
  /-- HOP_RESEND (R627): A message unacknowledged within 20 us is resent. -/
  | hopResend (port : Fin 2)
  /-- MASTER_HEARTBEAT (R628): The master sends its heartbeat every 1 ms. -/
  | masterHeartbeat (arrival : Option (Fin 2))
  /-- LEAF_LOST (R643): The master marks a leaf lost. -/
  | leafLost (node : Fin 64)
  /-- FORWARD_ENTRY_EXPIRE (R633): A kept deadline entry of a forwarded frame is freed at its deadline. -/
  | forwardEntryExpire (eui : Nat) (fc : Nat)
  /-- SAMPLE_SYNC_EPOCH (R640): A SAMPLE_SYNC epoch is sent to leaves and taken as their sync event. -/
  | sampleSyncEpoch (arrival : Option (Fin 2 × Int))
  /-- ISLAND_FREQUENCY_CHECK (R648): Each millisecond island rates are measured and a faulty island is held in reset. -/
  | islandFrequencyCheck (island : Fin 25) (locked : Bool) (kHz : Nat)
  /-- ISLAND_CLOCK_RESTORED (R648): A PLL holding lock for 100 us releases its island. -/
  | islandClockRestored (island : Fin 25)
  /-- ISLAND_UNGATE (R651): Work arriving at a gated island ungates it. -/
  | islandUngate (island : Fin 25)
  /-- CROSSING_OVERRUN (R654): A pulse-toggle event merged into a pending one is counted lost. -/
  | crossingOverrun (dst : Fin 25) (src : Fin 25)
  /-- CROSSING_FENCED (R667): A reset of one side closes a crossing and discards items in flight. -/
  | crossingFenced (dst : Fin 25) (src : Fin 25) (side : Fin 3) (items : Nat)
  /-- CROSSING_CLEAR (R670): A write of 1 to CrossingClear clears crossing flags and counts. -/
  | crossingClear (role : Nat) (v : Nat)
  /-- INPUT_CHANGE (R662): A filtered input changes level; activations are stamped and delivered or masked. -/
  | inputChange (input : Fin 25) (level : Bool) (heldNs : Nat)
  /-- INPUT_STUCK (R663): An input active for StuckTimeout becomes STUCK. -/
  | inputStuck (input : Fin 25)
  /-- INPUT_REARMED (R663): A masked input inactive long enough after hold-off rearms. -/
  | inputRearmed (input : Fin 25)
  /-- RETRY (R675): A failed operation is retried after its backoff. -/
  | retry (cell : Nat) (item : Nat) (ok : Bool)
  /-- RETIRE_CELL (R677): A write of RetireCell retires a retirable cell. -/
  | retireCell (role : Nat) (v : Nat)
  /-- CONTROL_FAILOVER (R685): The standby set takes over from a failed active control core. -/
  | controlFailover (hitless : Bool) (pauseUs : Nat)
  /-- SELF_TEST (R686): A fenced or retired cell runs its self-test. -/
  | selfTest (cell : Nat) (pass : Bool) (space : Fin 2) (word : Nat)
  /-- RETURN_CELL (R688): A write of ReturnCell returns a ready or held cell at the next epoch. -/
  | returnCell (role : Nat) (v : Nat)
  /-- CLEAR_COLLECTOR (R695): A write of 1 to ClearCollector clears the selected collector. -/
  | clearCollector (role : Nat) (v : Nat)
  /-- FREEZE (R690): A freeze request stops every island but the battery island. -/
  | freeze (requester : Fin 2)
  /-- FREEZE_RELEASED (R691): Release of the last requester restarts islands and steps time by the gap. -/
  | freezeReleased (requester : Fin 2)
  /-- SW_DATA (R693): A read of SW_DATA returns a swatch word and advances SW_ADDR. -/
  | swData (cell : Nat) (space : Nat) (addr : Nat) (present : Bool) (secret : Bool)
  /-- CAST_ON (R707): Reset release runs the cast-on steps to link start. -/
  | castOn (input : CastOnInput)
  /-- LAST_GASP_STOP (R710): At 180 ms the radio ports and lanes stop and the last gasp ends FLUSHED. -/
  | lastGaspStop (late : Nat)
  /-- DEVICE_RESTART (R713): DeviceRestart flushes and restarts the device. -/
  | deviceRestart (role : Nat) (v : Nat)
  /-- SUPPLY_WARNING (R697): A rail below its warning level raises SupplyWarning. -/
  | supplyWarning (rail : Fin 7) (bank : Nat) (mV : Nat)
  /-- SYNC_WORD_NOT_FOUND (R309): After a preamble is detected, no sync word with at most 2 wrong symbols follows within 20 symbols, so the phase engine returns to search. -/
  | syncWordNotFound (e : Fin 3)
  /-- GRID_EXTEND (R288): When no V1 crossing record arrives for a cycle, a phase engine extends its segment grid by one more period of the same length. -/
  | gridExtend (e : Fin 3)
  /-- ENERGY_BELOW_BUSY (R318): After a preamble or sync word without a usable header, energy stays below the busy level for 2 consecutive symbols, which is taken as the end of a frame whose ACK window belongs to no station. -/
  | energyBelowBusy (e : Fin 3)
  /-- FORMAT_COMPLETE (R484): A format that has run for up to 2 s completes and the store leaves FORMATTING for READY, appends resuming. -/
  | formatComplete (bad : List (Nat × Nat × Nat))
  /-- ISLAND_GATE (R651): An island with no work has its clock gated in Idle, and DRAM unused for 10 us enters power-down. -/
  | islandGate (island : Fin 25)
  /-- CONFIG_SET_CHECK (R32): Once the sealed set reaches its turn, firmware checks it across objects, writes the S objects to MRAM and loads the next-configuration banks. -/
  | configSetCheck
  /-- CONFIG_EPOCH_LATE (R35): Two seconds after publication a block that has not switched causes ConfigEpochLate. -/
  | configEpochLate
  /-- EVENTS_LOST (R81): When event-queue space returns, EventsLost is raised with a source's lost count. -/
  | eventsLost
  /-- NODE_TIMEOUT (R76): A proxied request with no leaf result within 50 ms is answered with NODE_TIMEOUT. -/
  | nodeTimeout
  /-- LEAF_RESULT (R77): A leaf's result to a proxied request arrives and is sent on, or discarded if NODE_TIMEOUT was already sent. -/
  | leafResult
  /-- DISPATCH (R140): The dispatcher takes an item from an ingest or control queue, checks it and hashes it to a lane. -/
  | dispatch
  /-- QUARANTINE_SUMMARY (R155): Once per second with quarantine outcomes, the dispatcher raises QuarantineSummary. -/
  | quarantineSummary
  /-- LATENCY_EXCEEDED (R173): Once per second while late link-timed commits grow, LatencyExceeded is raised. -/
  | latencyExceeded
  /-- JOIN_ACCEPT_SEND (R124): A JOIN_ACCEPT answering an accepted or duplicate JOIN is built and sent once. -/
  | joinAcceptSend
  /-- NETWORK_KEY_GRACE_END (R103): The previous network key stops being used after its grace period. -/
  | networkKeyGraceEnd
  /-- VEE_RECORD (R195): The VEE engine takes a record from Q40, updates history, corrects and forwards it. -/
  | veeRecord
  /-- EDIT_APPLIED (R206): The VEE engine, with Q40 empty, appends the edit record, exports its correction and raises EditApplied. -/
  | editApplied
  /-- BALANCE_DELTA_APPLY (R261): The balance engine applies a stage-10 contribution to its groups' intervals. -/
  | balanceDeltaApply
  /-- BALANCE_CORRECTION_APPLY (R259): The balance engine applies a Q39 correction packet. -/
  | balanceCorrectionApply
  /-- SENSING_BLOCK_APPLY (R254): The balance engine adds a Q52 block record to the supply energy. -/
  | sensingBlockApply
  /-- UTC_DAY_CLOSE (R268): At the UTC day close the COLLAPSE and VOLTAGE detectors are judged. -/
  | utcDayClose
  /-- PHASE_REPORT (R275): The phase identification cell applies a report and may decide a new phase. -/
  | phaseReport
  /-- NEIGHBOUR_QUERY_PERIOD (R328): Once per NeighbourQueryPeriod the MAC asks for a neighbour query to each joined meter. -/
  | neighbourQueryPeriod
  /-- NEIGHBOUR_REPORT (R328): A neighbour report passed to the MAC updates the link table and recomputes the route. -/
  | neighbourReport
  /-- LINK_AGE_EXPIRE (R329): A link-table entry unrefreshed for LinkAge is removed. -/
  | linkAgeExpire
  /-- SEEN_ENTRY_EXPIRE (R389): A seen-cache entry expires after FLOOD_LIFE. -/
  | seenEntryExpire
  /-- RECORD_APPEND (R450): The FTE takes a record from Q41, gives it an ASEQ and places it in a unit. -/
  | recordAppend
  /-- BATCH_AGE_SEAL (R452): The oldest unprogrammed record reaching BatchAge forces a seal. -/
  | batchAgeSeal
  /-- DAY_RECLAIMED (R457): The FTE reclaims the oldest reclaimable day. -/
  | dayReclaimed
  /-- STORE_FULL_HOURLY (R458): Once per hour in READ_ONLY the StoreFullAlarm is raised again. -/
  | storeFullHourly
  /-- STORE_RESUMED (R459): At a day change, ReclaimThrough or epoch, a READ_ONLY store rechecks and may return to READY. -/
  | storeResumed
  /-- GARBAGE_COLLECTION (R471): Below FreeLow the FTE collects or erases a closed superblock. -/
  | garbageCollection
  /-- WEAR_MOVE (R474): A spread above WearSpread moves the coldest superblock onto the most-worn free one. -/
  | wearMove
  /-- UNIT_RELOCATE (R462): A unit needing retries or many corrections is rewritten within 10 s. -/
  | unitRelocate
  /-- MAP_CHECKPOINT (R469): A full journal half starts a map checkpoint to NAND. -/
  | mapCheckpoint
  /-- CHECKPOINT_COMPLETE (R469): A finished checkpoint updates the root and frees the journal half. -/
  | checkpointComplete
  /-- EXPORT_RECORD_TAKE (R499): The export engine takes a record and sends the datagram when the next would not fit. -/
  | exportRecordTake
  /-- EXPORT_HOLDOFF (R500): Holdoff after a datagram's first record sends the datagram. -/
  | exportHoldoff
  /-- EXPORT_RETRANSMIT (R502): A datagram's timer runs out and its stored bytes are sent again. -/
  | exportRetransmit
  /-- EXPORT_STALLED (R503): No valid acknowledgement for DeadTime stalls the stream and may switch target. -/
  | exportStalled
  /-- EXPORT_SHED (R503): STALLED for ShedDelay with Shed 1 enters SHEDDING. -/
  | exportShed
  /-- KEEP_ALIVE (R505): After KeepAlive seconds of silence an empty datagram is sent. -/
  | keepAlive
  /-- EXPORT_KEY_SWITCH (R506): A new export key applies once no datagram is outstanding, or reseals after DeadTime. -/
  | exportKeySwitch
  /-- CUM_PERSIST (R507): The highest CUM is written to MRAM once per second. -/
  | cumPersist
  /-- RETURN_DATAGRAM (R513): A route-6 downlink packet is sent to its gateway as a return datagram. -/
  | returnDatagram
  /-- BACKUP_ANCHOR (R536): Once per 60 s the time unit sends the vault a TD0 and backup-count anchor. -/
  | backupAnchor
  /-- LEAP_APPLIED (R539): TD0 reaching the leap second changes UtcOffset. -/
  | leapApplied
  /-- KEY_IMPORTED (R567): An import completes, writes the slot and its record, and raises GEN. -/
  | keyImported
  /-- ISSUE_CHALLENGE (R587): A write of 1 to VDM_CTRL issues a debug challenge. -/
  | issueChallenge
  /-- DEBUG_AUTHORISED (R588): The signature check completes and grants or refuses the session. -/
  | debugAuthorised
  /-- CLOSE_SESSION (R587): A write of 3 to VDM_CTRL closes the debug session. -/
  | closeSession
  /-- CHALLENGE_LAPSE (R588): A challenge lapses 60 s after it is issued. -/
  | challengeLapse
  /-- FLAGS (R594): A FLAGS transaction returns the flags byte and clears its sticky bits. -/
  | flags
  /-- STATUS (R596): A STATUS frame is answered with the update status. -/
  | status
  /-- IMAGE_BEGIN (R601): IMAGE_BEGIN opens staging into the inactive slot. -/
  | imageBegin
  /-- IMAGE_DATA (R601): IMAGE_DATA writes image bytes at NEXT. -/
  | imageData
  /-- IMAGE_END (R602): IMAGE_END checks the image and stages or refuses it. -/
  | imageEnd
  /-- BIND_OFF (R606): When the new set is ready, the old set writes the handover record and the new set takes over. -/
  | bindOff
  /-- PROBATION_ENDED (R613): ProbationTime passes and the new image is kept. -/
  | probationEnded
  /-- HEARTBEAT_LOST (R612): A missed heartbeat in probation reverts in restart mode. -/
  | heartbeatLost
  /-- MASTER_LOST (R643): A leaf with no heartbeat for MasterTimeout declares its master lost. -/
  | masterLost
  /-- MASTER_REGAINED (R644): Returning heartbeats reconnect a leaf, which resends its directory and records. -/
  | masterRegained
  /-- DIRECTORY_UPDATE (R631): The master registers or removes directory entries from a node. -/
  | directoryUpdate
  /-- FORWARD (R633): The master routes a forwarded unknown-meter frame to its owner or exports it. -/
  | forward
  /-- RECORD_ACK (R636): Once per millisecond the master acknowledges each leaf's records. -/
  | recordAck
  /-- SW_STATUS (R693): A read of SW_STATUS returns the status and clears ERROR. -/
  | swStatus
  /-- PORST (R704): PORST_N low beyond its filter makes a cold reset. -/
  | porst
  /-- BROWN_OUT (R698): A main rail trip makes a cold reset or ends the last gasp. -/
  | brownOut
  /-- LAST_GASP (R710): PFAIL_N falling stops ingest and makes state durable. -/
  | lastGasp
  /-- PFAIL_RELEASED (R711): PFAIL_N rising after the last gasp makes a cold reset 10 ms later. -/
  | pfailReleased
  /-- REFERENCE_LOST (R703): Loss of the 25 MHz reference holds the PLLs. -/
  | referenceLost
  /-- REFERENCE_RESTORED (R703): The reference returns within 100 ms and the PLLs relock. -/
  | referenceRestored
  /-- REFERENCE_LOSS_LIMIT (R703): Reference loss beyond 100 ms flushes and holds the device in reset. -/
  | referenceLossLimit
  /-- PERIODIC_SAVE (R709): Energy registers and TD0 time are saved to MRAM every 60 s. -/
  | periodicSave
  /-- EVENT_PLACE_TIMEOUT (R81): An event source that cannot place an event in the full event queues within 1 ms counts it as lost. -/
  | eventPlaceTimeout
deriving DecidableEq, Repr

end Sys2Proof
end

