-- ==== Sys2Proof/Decode.lean ====
section
/-!
DEFINITION. The command that a word spells. The command table gives no row any bits, so no word spells a command.
-/
namespace Sys2Proof

/-- No row of the command table has an encoding: commands come from outside as events and register accesses. -/
def decodeTableWord (_nbits _w : Nat) : Option Instr := none

end Sys2Proof
end

