-- ==== Sys2Proof/Machine/Bits.lean ====
section
/-!
DEFINITION. Small helpers over numbers, bytes and lists that every family uses: saturating counts, two's complement,
fields of a byte string, bitmaps held as numbers, updates of one element of a list, and the CRC-32 of R72.
-/
namespace Sys2Proof.Machine

/-- A saturating count: `n + k`, held at `max`. -/
def satAdd (max n k : Nat) : Nat := if n + k ≤ max then n + k else max

/-- The largest values of the unsigned types. -/
def maxU8 : Nat := 0xFF
def maxU16 : Nat := 0xFFFF
def maxU32 : Nat := 0xFFFFFFFF
def maxU64 : Nat := 0xFFFFFFFFFFFFFFFF

/-- One more, saturating at 65,535. -/
def sat16 (n : Nat) : Nat := satAdd maxU16 n 1
/-- One more, saturating at 2^32 − 1. -/
def sat32 (n : Nat) : Nat := satAdd maxU32 n 1

/-- A value held between two bounds. -/
def clampInt (v lo hi : Int) : Int := if v < lo then lo else if hi < v then hi else v

/-- The number of `n` bytes that stands for a signed value in two's complement. -/
def twos (n : Nat) (v : Int) : Nat := (v % ((256 : Int) ^ n)).toNat

/-- The signed value of a two's complement number of `n` bytes. -/
def untwos (n v : Nat) : Int := if 2 * v < 256 ^ n then (v : Int) else (v : Int) - (256 : Int) ^ n

/-- A signed number of `n` bytes, little-endian. -/
def leInt (n : Nat) (v : Int) : Bytes := leBytes n (twos n v)

/-- Bytes `off` to `off + n - 1` of a byte string; a byte beyond its end is left out. -/
def slice (b : Bytes) (off n : Nat) : Bytes := (b.drop off).take n

/-- The little-endian number in bytes `off` to `off + n - 1`. -/
def fieldLE (b : Bytes) (off n : Nat) : Nat := leNat (slice b off n)

/-- The signed little-endian number in bytes `off` to `off + n - 1`. -/
def fieldInt (b : Bytes) (off n : Nat) : Int := untwos n (fieldLE b off n)

/-- A byte string brought to length `n`: cut, or filled with 0x00. -/
def padTo (n : Nat) (b : Bytes) : Bytes := (b.take n) ++ List.replicate (n - b.length) 0

/-- One byte. -/
def byte (n : Nat) : Byte := BitVec.ofNat 8 n

/-- `n` zero bytes. -/
def zeros (n : Nat) : Bytes := List.replicate n 0

/-- Exclusive or of two byte strings, as long as the shorter. -/
def xorBytes (a b : Bytes) : Bytes := List.zipWith (· ^^^ ·) a b

/-- Bit `i` of a number. -/
def bit (v i : Nat) : Bool := v / 2 ^ i % 2 == 1

/-- The number with bit `i` set. -/
def setBit (v i : Nat) : Nat := if bit v i then v else v + 2 ^ i

/-- The number with bit `i` clear. -/
def clearBit (v i : Nat) : Nat := if bit v i then v - 2 ^ i else v

/-- The field of `w` bits at bit `lo`. -/
def bits (v lo w : Nat) : Nat := v / 2 ^ lo % 2 ^ w

/-- 1 for true, 0 for false. -/
def b2n (b : Bool) : Nat := if b then 1 else 0

/-- The number of set bits among the lowest `n`. -/
def popcount (n v : Nat) : Nat := ((List.range n).filter (bit v)).length

/-- Bitwise and of numbers of at most `n` bits. -/
def andBits (n a b : Nat) : Nat :=
  (List.range n).foldl (fun acc i => if bit a i && bit b i then acc + 2 ^ i else acc) 0

/-- Bitwise or of numbers of at most `n` bits. -/
def orBits (n a b : Nat) : Nat :=
  (List.range n).foldl (fun acc i => if bit a i || bit b i then acc + 2 ^ i else acc) 0

/-- Bits of `a` that are clear in `b`, among the lowest `n`. -/
def andNotBits (n a b : Nat) : Nat :=
  (List.range n).foldl (fun acc i => if bit a i && !bit b i then acc + 2 ^ i else acc) 0

/-- A number from its set bits. -/
def ofBits (l : List Bool) : Nat := l.foldr (fun b n => b2n b + 2 * n) 0

/-- Element `i` of a list, or the type's default. -/
def at' {α : Type} [Inhabited α] (l : List α) (i : Nat) : α := l.getD i default

/-- The list with element `i` replaced by what `f` makes of it. -/
def upd {α : Type} (l : List α) (i : Nat) (f : α → α) : List α := l.modify i f

/-- The value kept under a key in a list of pairs. -/
def lookupKey {α : Type} (k : Nat) (l : List (Nat × α)) : Option α :=
  match l with
  | [] => none
  | (k', v) :: r => if k' = k then some v else lookupKey k r

/-- A list of pairs, keys strictly rising, with the value of `k` replaced or put in its place. -/
def insertKey {α : Type} (k : Nat) (v : α) : List (Nat × α) → List (Nat × α)
  | [] => [(k, v)]
  | (k', v') :: r => if k < k' then (k, v) :: (k', v') :: r
                     else if k = k' then (k, v) :: r
                     else (k', v') :: insertKey k v r

/-- A list of pairs without the key `k`. -/
def eraseKey {α : Type} (k : Nat) (l : List (Nat × α)) : List (Nat × α) := l.filter (fun p => p.1 ≠ k)

/-- Whether the keys of a list of pairs rise strictly. -/
def keysRise {α : Type} : List (Nat × α) → Bool
  | [] => true
  | [_] => true
  | (a, _) :: (b, y) :: r => decide (a < b) && keysRise ((b, y) :: r)

/-- The integer square root of `n`, by bits from `2 ^ k` down. -/
def isqrtAux (n : Nat) : Nat → Nat → Nat
  | 0, r => r
  | k + 1, r => let t := r + 2 ^ k; isqrtAux n k (if t * t ≤ n then t else r)

/-- The largest number whose square does not exceed `n`, for `n` below 2^128. -/
def isqrt (n : Nat) : Nat := isqrtAux n 64 0

/-- The middle element of a list of numbers in rising order (the lower of two). -/
def insertSorted (v : Int) : List Int → List Int
  | [] => [v]
  | x :: r => if v ≤ x then v :: x :: r else x :: insertSorted v r

/-- A list of numbers in rising order. -/
def sortInts (l : List Int) : List Int := l.foldr insertSorted []

/-- One bit step of the reflected CRC-32 of IEEE 802.3. -/
def crcStep (c : BitVec 32) : BitVec 32 :=
  if c.getLsbD 0 then (c >>> 1) ^^^ 0xEDB88320#32 else c >>> 1

/-- `n` bit steps. -/
def crcSteps : Nat → BitVec 32 → BitVec 32
  | 0, c => c
  | n + 1, c => crcSteps n (crcStep c)

/-- The CRC-32 of R72: IEEE 802.3 polynomial, initial value and final XOR 0xFFFFFFFF, reflected. -/
def crc32 (b : Bytes) : Nat :=
  ((b.foldl (fun c x => crcSteps 8 (c ^^^ x.setWidth 32)) 0xFFFFFFFF#32) ^^^ 0xFFFFFFFF#32).toNat

/-- R31: epoch `a` is later than epoch `b` in serial arithmetic of 32 bits. -/
def laterEpoch (a b : Nat) : Bool :=
  let d := (a + 2 ^ 32 - b % 2 ^ 32) % 2 ^ 32
  decide (1 ≤ d ∧ d ≤ 0x7FFFFFFF)

/-- R31: the number after `n`; after 0xFFFFFFFF it is 1. -/
def nextEpoch (n : Nat) : Nat := if n = 0xFFFFFFFF then 1 else n + 1

/-- Counts of the free-running counter (500 MHz, R517) in given times. -/
def cUs (n : Nat) : Nat := n * 500
def cMs (n : Nat) : Nat := n * 500000
def cSec (n : Nat) : Nat := n * 500000000
def cNs (n : Nat) : Nat := n / 2

end Sys2Proof.Machine
end

