-- ==== Sys2Proof/Machine/ObjTypes.lean ====
section
/-!
DEFINITION. What an object of the dictionary is: types and encodings (R47), access kinds (R48), roles (R52, R53),
persistence (R50), ranges (R68), and the row that describes one object or a run of objects with one description.
-/
namespace Sys2Proof.Machine

/-- R47: the types of values. -/
inductive Ty where
  | bool | u8 | u16 | u32 | u64 | i8 | i16 | i32 | i64 | fix32 | fix64 | time80 | eui64
  | octets (n : Nat) | text (n : Nat) | blob
deriving DecidableEq, Repr

/-- R48: access kinds. -/
inductive Access where
  | ro | wo | rw | rwc | cmd
deriving DecidableEq, Repr

/-- The Role column of an object (R53). -/
inductive RoleCol where
  | observer | operator | keyholder | service | vendor
deriving DecidableEq, Repr

/-- R50: persistence S, V, or none. -/
inductive Save where
  | s | v | none
deriving DecidableEq, Repr

/-- The Default column. -/
inductive Dflt where
  | num (n : Nat) | int (v : Int) | text (l : List Nat) | hex (l : List Nat) | fill (b : Nat) | empty | zeros (n : Nat)
deriving DecidableEq, Repr

/-- The range an owning chapter states for an object (R68). -/
inductive Range where
  | any
  | nat (lo hi : Nat)
  | step (lo hi k : Nat)
  | oneOf (l : List Nat)
  | zeroOr (lo hi : Nat)
  | orVal (v lo hi : Nat)
  | int (lo hi : Int)
  | each (lo hi : Nat)
  | blob (max mult : Nat)
  | blobFix (n : Nat)
deriving DecidableEq, Repr

/-- A description shared by the objects `lo.slo` to `hi.shi`. -/
structure ObjRow where
  lo : Nat
  hi : Nat
  slo : Nat
  shi : Nat
  name : String
  ty : Ty
  acc : Access
  role : RoleCol
  save : Save
  fast : Bool
  dflt : Dflt
  range : Range
deriving DecidableEq, Repr

/-- One row, written in the order of a chapter's object table. -/
def row (lo hi slo shi : Nat) (name : String) (ty : Ty) (acc : Access) (role : RoleCol) (save : Save) (fast : Bool)
    (dflt : Dflt) (range : Range) : ObjRow :=
  { lo := lo, hi := hi, slo := slo, shi := shi, name := name, ty := ty, acc := acc, role := role, save := save,
    fast := fast, dflt := dflt, range := range }

/-- R47: the type code that accompanies a value. -/
def Ty.code : Ty → Nat
  | .bool => 0x01 | .u8 => 0x02 | .u16 => 0x03 | .u32 => 0x04 | .u64 => 0x05
  | .i8 => 0x06 | .i16 => 0x07 | .i32 => 0x08 | .i64 => 0x09
  | .fix32 => 0x0A | .fix64 => 0x0B | .time80 => 0x0C | .eui64 => 0x0D
  | .octets _ => 0x0E | .text _ => 0x0F | .blob => 0x10

/-- R47: the size of a value in bytes (0 for a BLOB, which has no fixed size). -/
def Ty.size : Ty → Nat
  | .bool => 1 | .u8 => 1 | .u16 => 2 | .u32 => 4 | .u64 => 8
  | .i8 => 1 | .i16 => 2 | .i32 => 4 | .i64 => 8
  | .fix32 => 4 | .fix64 => 8 | .time80 => 12 | .eui64 => 8
  | .octets n => n | .text n => n | .blob => 0

/-- The bytes of a default value. -/
def Dflt.bytes (d : Dflt) (size : Nat) : Bytes :=
  match d with
  | .num n => leBytes size n
  | .int v => leInt size v
  | .text l => padTo size (l.map byte)
  | .hex l => padTo size (l.map byte)
  | .fill b => List.replicate size (byte b)
  | .empty => []
  | .zeros n => List.replicate n 0

/-- R47: characters 0x20 to 0x7E, then 0x00 bytes to the end. -/
def textOk : Bytes → Bool
  | [] => true
  | b :: r => if b = 0 then r.all (· == 0) else decide (0x20 ≤ b.toNat ∧ b.toNat ≤ 0x7E) && textOk r

/-- R47: a time value's nanoseconds do not exceed 999,999,999. -/
def timeOk (b : Bytes) : Bool := decide (fieldLE b 8 4 ≤ 999999999)

/-- Whether a value is of its type's encoding: 0 when it is, or the abort code of R47. -/
def Ty.encodingAbort (t : Ty) (b : Bytes) : Nat :=
  match t with
  | .bool => if leNat b ≤ 1 then 0 else 0x03000002
  | .time80 => if timeOk b then 0 else 0x03000002
  | .text _ => if textOk b then 0 else 0x03000004
  | _ => 0

/-- Whether a value lies in a range (R68). -/
def Range.ok (r : Range) (b : Bytes) : Bool :=
  match r with
  | .any => true
  | .nat lo hi => decide (lo ≤ leNat b ∧ leNat b ≤ hi)
  | .step lo hi k => decide (lo ≤ leNat b ∧ leNat b ≤ hi ∧ leNat b % k = 0)
  | .oneOf l => l.contains (leNat b)
  | .zeroOr lo hi => decide (leNat b = 0 ∨ (lo ≤ leNat b ∧ leNat b ≤ hi))
  | .orVal v lo hi => decide (leNat b = v ∨ (lo ≤ leNat b ∧ leNat b ≤ hi))
  | .int lo hi => decide (lo ≤ untwos b.length (leNat b) ∧ untwos b.length (leNat b) ≤ hi)
  | .each lo hi => b.all (fun x => decide (lo ≤ x.toNat ∧ x.toNat ≤ hi))
  | .blob mx m => decide (b.length ≤ mx ∧ b.length % m = 0)
  | .blobFix n => decide (b.length = n)

/-- Whether a row describes the object `idx.sub`. -/
def ObjRow.covers (r : ObjRow) (idx sub : Nat) : Bool :=
  decide (r.lo ≤ idx ∧ idx ≤ r.hi ∧ r.slo ≤ sub ∧ sub ≤ r.shi)

end Sys2Proof.Machine
end

