-- ==== Sys2Proof/Machine/Objects.lean ====
section
/-!
DEFINITION. The rows of the object dictionary: every object table of the chapters (R88 and its like in each chapter), one row per
object or range of objects, with type, access kind, role, persistence, default and range as its chapter gives them.
-/
namespace Sys2Proof.Machine

/-- Objects of chapter 1 of the manual, part 1. -/
def objRows01a : List ObjRow := [
  row 0x6010 0x6010 0 0 "FabricShare" .u8 .ro .observer .none false (.num 6) (.any),
  row 0x6010 0x6010 1 1 "FabricShare" .u8 .rwc .operator .s false (.num 8) (.any),
  row 0x6010 0x6010 2 2 "FabricShare" .u8 .rwc .operator .s false (.num 26) (.any),
  row 0x6010 0x6010 3 3 "FabricShare" .u8 .rwc .operator .s false (.num 16) (.any),
  row 0x6010 0x6010 4 4 "FabricShare" .u8 .rwc .operator .s false (.num 9) (.any),
  row 0x6010 0x6010 5 5 "FabricShare" .u8 .rwc .operator .s false (.num 4) (.any),
  row 0x6010 0x6010 6 6 "FabricShare" .u8 .ro .observer .none false (.num 1) (.any),
  row 0x6011 0x6011 0 0 "FabricBorrow" .bool .rwc .operator .s false (.num 1) (.nat 0 1),
  row 0x6012 0x6012 0 0 "CellWeights" .blob .rwc .operator .s false (.empty) (.blob 2048 4),
  row 0x6013 0x6013 0 0 "BlockQuanta" .blob .rwc .operator .s false (.empty) (.blob 2048 4)]

/-- Objects of chapter 2 of the manual, part 1. -/
def objRows02a : List ObjRow := [
  row 0x1001 0x1001 0 0 "DeviceEui" .eui64 .ro .observer .none true (.num 0) (.any),
  row 0x1008 0x1008 0 0 "PartName" (.text 16) .ro .observer .none true (.text [0x4F, 0x54, 0x31, 0x30, 0x34, 0x38]) (.any),
  row 0x1009 0x1009 0 0 "SiliconRevision" (.text 4) .ro .observer .none true (.text [0x42, 0x30]) (.any),
  row 0x100A 0x100A 0 0 "FirmwareVersion" .u32 .ro .observer .none true (.num 0) (.any),
  row 0x1010 0x1010 0 0 "ConfigCommit" .u8 .ro .observer .none false (.num 5) (.any),
  row 0x1010 0x1010 1 1 "ConfigCommit" .u8 .cmd .operator .none false (.num 0) (.any),
  row 0x1010 0x1010 2 2 "ConfigCommit" .u32 .ro .observer .none true (.num 0) (.any),
  row 0x1010 0x1010 3 3 "ConfigCommit" .u32 .ro .observer .none true (.num 0) (.any),
  row 0x1010 0x1010 4 4 "ConfigCommit" .u16 .ro .observer .none false (.num 0) (.any),
  row 0x1010 0x1010 5 5 "ConfigCommit" .u8 .cmd .operator .none false (.num 0) (.any),
  row 0x1011 0x1011 0 0 "RestoreDefaults" .u8 .cmd .operator .none false (.num 0) (.any),
  row 0x1018 0x1018 0 0 "LifeCycleState" .u8 .ro .observer .none true (.num 0) (.any),
  row 0x1020 0x1027 0 0 "EventSubscription" .u8 .ro .observer .none false (.num 7) (.any),
  row 0x1020 0x1027 1 1 "EventSubscription" .bool .ro .observer .none false (.num 0) (.any),
  row 0x1020 0x1027 2 2 "EventSubscription" (.octets 20) .ro .observer .none false (.num 0) (.any),
  row 0x1020 0x1027 3 3 "EventSubscription" .u8 .ro .observer .none false (.num 0) (.any),
  row 0x1020 0x1027 4 4 "EventSubscription" .u16 .ro .observer .none false (.num 0) (.any),
  row 0x1020 0x1027 5 5 "EventSubscription" .u16 .ro .observer .none false (.num 0) (.any),
  row 0x1020 0x1027 6 6 "EventSubscription" (.octets 18) .ro .observer .none false (.num 0) (.any),
  row 0x1020 0x1027 7 7 "EventSubscription" .u32 .ro .observer .none false (.num 0) (.any),
  row 0x1031 0x1031 0 0 "RoleKeySlot" .u8 .ro .observer .none false (.num 4) (.any),
  row 0x1031 0x1031 1 4 "RoleKeySlot" .u8 .rw .keyholder .s false (.num 255) (.orVal 255 0 31),
  row 0x1032 0x1032 0 0 "DictCounters" .u8 .ro .observer .none false (.num 6) (.any),
  row 0x1032 0x1032 1 1 "DictCounters" .u64 .ro .observer .v true (.num 0) (.any),
  row 0x1032 0x1032 2 2 "DictCounters" .u64 .ro .observer .v true (.num 0) (.any),
  row 0x1032 0x1032 3 3 "DictCounters" .u64 .ro .observer .v true (.num 0) (.any),
  row 0x1032 0x1032 4 4 "DictCounters" .u64 .ro .observer .v true (.num 0) (.any),
  row 0x1032 0x1032 5 5 "DictCounters" .u64 .ro .observer .v true (.num 0) (.any),
  row 0x1032 0x1032 6 6 "DictCounters" .u64 .ro .observer .v true (.num 0) (.any),
  row 0x1034 0x1034 0 0 "DictSequenceHigh" .u8 .ro .observer .none false (.num 5) (.any),
  row 0x1034 0x1034 1 5 "DictSequenceHigh" .u64 .ro .observer .none true (.num 0) (.any),
  row 0x1035 0x1035 0 0 "DictBlockNext" .u8 .ro .observer .none false (.num 2) (.any),
  row 0x1035 0x1035 1 1 "DictBlockNext" .u32 .ro .observer .v false (.num 0) (.any),
  row 0x1035 0x1035 2 2 "DictBlockNext" .u32 .ro .observer .v false (.num 0) (.any)]

/-- Objects of chapter 3 of the manual, part 1. -/
def objRows03a : List ObjRow := [
  row 0x3800 0x380F 0 0 "FamilyTable" .u8 .ro .observer .none false (.num 4) (.any),
  row 0x3800 0x380F 1 1 "FamilyTable" .u8 .rwc .keyholder .s false (.num 255) (.orVal 255 0 31),
  row 0x3800 0x380F 2 2 "FamilyTable" .u8 .rwc .operator .s false (.num 0) (.nat 0 2),
  row 0x3800 0x380F 3 3 "FamilyTable" .u8 .rwc .operator .s false (.num 0) (.nat 0 63),
  row 0x3800 0x380F 4 4 "FamilyTable" .u32 .ro .observer .none true (.num 0) (.any),
  row 0x3810 0x3810 0 0 "AllowList" .blob .rwc .operator .s false (.empty) (.blob 65536 8),
  row 0x3811 0x3811 0 0 "NetworkKey" .u8 .ro .observer .none false (.num 4) (.any),
  row 0x3811 0x3811 1 1 "NetworkKey" .u8 .rwc .keyholder .s false (.num 255) (.orVal 255 0 31),
  row 0x3811 0x3811 2 2 "NetworkKey" .u16 .ro .observer .s false (.num 0) (.any),
  row 0x3811 0x3811 3 3 "NetworkKey" .u32 .ro .observer .s false (.num 0) (.any),
  row 0x3811 0x3811 4 4 "NetworkKey" .u32 .ro .observer .s false (.num 0) (.any),
  row 0x3812 0x3812 0 0 "KeyPolicy" .u8 .ro .observer .none false (.num 5) (.any),
  row 0x3812 0x3812 1 1 "KeyPolicy" .u32 .rwc .operator .s false (.num 4026531840) (.nat 268435456 4294901760),
  row 0x3812 0x3812 2 2 "KeyPolicy" .u32 .rwc .operator .s false (.num 86400) (.nat 60 2592000),
  row 0x3812 0x3812 3 3 "KeyPolicy" .u16 .rwc .operator .s false (.num 600) (.nat 60 3600),
  row 0x3812 0x3812 4 4 "KeyPolicy" .u16 .rwc .operator .s false (.num 300) (.nat 30 3600),
  row 0x3812 0x3812 5 5 "KeyPolicy" .u32 .rwc .operator .s false (.num 604800) (.any),
  row 0x3820 0x3820 0 0 "MeterSelect" .u8 .ro .observer .none false (.num 2) (.any),
  row 0x3820 0x3820 1 1 "MeterSelect" .u32 .rw .operator .v false (.num 0) (.nat 0 1048575),
  row 0x3820 0x3820 2 2 "MeterSelect" .eui64 .rw .operator .v false (.num 0) (.any),
  row 0x3821 0x3821 0 0 "MeterRecord" (.octets 256) .ro .observer .none false (.num 0) (.any),
  row 0x3822 0x3822 0 0 "MeterCommand" .u8 .ro .observer .none false (.num 2) (.any),
  row 0x3822 0x3822 1 1 "MeterCommand" .u8 .cmd .keyholder .none false (.num 0) (.any),
  row 0x3822 0x3822 2 2 "MeterCommand" .u8 .cmd .operator .none false (.num 0) (.any),
  row 0x3830 0x3830 0 0 "FrameCounters" .u8 .ro .observer .none false (.num 7) (.any),
  row 0x3830 0x3830 1 7 "FrameCounters" .u64 .ro .observer .v true (.num 0) (.any)]

/-- Objects of chapter 4 of the manual, part 1. -/
def objRows04a : List ObjRow := [
  row 0x4000 0x4000 0 0 "PipelineMode" .u8 .rwc .operator .s false (.num 0) (.nat 0 1),
  row 0x4001 0x4001 0 0 "LaneState" .u8 .ro .observer .none false (.num 4) (.any),
  row 0x4001 0x4001 1 4 "LaneState" .u8 .ro .observer .none true (.num 0) (.any),
  row 0x4002 0x4002 0 0 "LaneMap" .u8 .ro .observer .none false (.num 2) (.any),
  row 0x4002 0x4002 1 1 "LaneMap" (.octets 64) .rwc .operator .s false (.hex (List.range 64 |>.map (· % 4))) (.each 0 3),
  row 0x4002 0x4002 2 2 "LaneMap" (.octets 64) .ro .observer .none true (.num 0) (.any),
  row 0x4003 0x4003 0 0 "DispatchWeight" .u8 .ro .observer .none false (.num 3) (.any),
  row 0x4003 0x4003 1 1 "DispatchWeight" .u8 .rwc .operator .s false (.num 4) (.nat 1 255),
  row 0x4003 0x4003 2 2 "DispatchWeight" .u8 .rwc .operator .s false (.num 4) (.nat 1 255),
  row 0x4003 0x4003 3 3 "DispatchWeight" .u8 .rwc .operator .s false (.num 1) (.nat 1 255),
  row 0x4004 0x4004 0 0 "AckLead" .u8 .ro .observer .none false (.num 2) (.any),
  row 0x4004 0x4004 1 1 "AckLead" .u16 .rwc .operator .s false (.num 150) (.nat 50 1000),
  row 0x4004 0x4004 2 2 "AckLead" .u16 .rwc .operator .s false (.num 300) (.nat 100 2000),
  row 0x4010 0x4010 0 0 "PipelineCounters" .u8 .ro .observer .none false (.num 19) (.any),
  row 0x4010 0x4010 1 9 "PipelineCounters" .u64 .ro .observer .v true (.num 0) (.any),
  row 0x4010 0x4010 10 10 "PipelineCounters" .u64 .ro .observer .v true (.num 0) (.any),
  row 0x4010 0x4010 11 11 "PipelineCounters" .u64 .ro .observer .v true (.num 0) (.any),
  row 0x4010 0x4010 12 12 "PipelineCounters" .u64 .ro .observer .v true (.num 0) (.any),
  row 0x4010 0x4010 13 13 "PipelineCounters" .u64 .ro .observer .v true (.num 0) (.any),
  row 0x4010 0x4010 14 14 "PipelineCounters" .u64 .ro .observer .v true (.num 0) (.any),
  row 0x4010 0x4010 15 15 "PipelineCounters" .u64 .ro .observer .v true (.num 0) (.any),
  row 0x4010 0x4010 16 16 "PipelineCounters" .u64 .ro .observer .v true (.num 0) (.any),
  row 0x4010 0x4010 17 17 "PipelineCounters" .u64 .ro .observer .v true (.num 0) (.any),
  row 0x4010 0x4010 18 18 "PipelineCounters" .u64 .ro .observer .v true (.num 0) (.any),
  row 0x4010 0x4010 19 19 "PipelineCounters" .u64 .ro .observer .v true (.num 0) (.any),
  row 0x4011 0x4014 0 0 "LaneCounters" .u8 .ro .observer .none false (.num 6) (.any),
  row 0x4011 0x4014 1 1 "LaneCounters" .u64 .ro .observer .v true (.num 0) (.any),
  row 0x4011 0x4014 2 2 "LaneCounters" .u64 .ro .observer .v true (.num 0) (.any),
  row 0x4011 0x4014 3 3 "LaneCounters" .u64 .ro .observer .v true (.num 0) (.any),
  row 0x4011 0x4014 4 4 "LaneCounters" .u8 .ro .observer .v true (.num 0) (.any),
  row 0x4011 0x4014 5 5 "LaneCounters" .u8 .ro .observer .v true (.num 0) (.any),
  row 0x4011 0x4014 6 6 "LaneCounters" .u64 .ro .observer .v true (.num 0) (.any),
  row 0x4020 0x4020 0 0 "LatencyStats" .u8 .ro .observer .none false (.num 3) (.any),
  row 0x4020 0x4020 1 1 "LatencyStats" .u32 .ro .observer .v true (.num 0) (.any),
  row 0x4020 0x4020 2 2 "LatencyStats" .u64 .ro .observer .v true (.num 0) (.any),
  row 0x4020 0x4020 3 3 "LatencyStats" .u8 .cmd .operator .none false (.num 0) (.any)]

/-- Objects of chapter 5 of the manual, part 1. -/
def objRows05a : List ObjRow := [
  row 0x4410 0x4410 0 0 "LateWindow" .u32 .rwc .operator .s false (.num 604800) (.nat 3600 2592000),
  row 0x4411 0x4411 0 0 "SweepPeriod" .u16 .rwc .operator .s false (.num 60) (.nat 10 3600),
  row 0x4412 0x4412 0 0 "VeeCounters" .u8 .ro .observer .none false (.num 12) (.any),
  row 0x4412 0x4412 1 3 "VeeCounters" .u64 .ro .observer .v true (.num 0) (.any),
  row 0x4412 0x4412 4 5 "VeeCounters" .u64 .ro .observer .v true (.num 0) (.any),
  row 0x4412 0x4412 6 6 "VeeCounters" .u64 .ro .observer .v true (.num 0) (.any),
  row 0x4412 0x4412 7 7 "VeeCounters" .u64 .ro .observer .v true (.num 0) (.any),
  row 0x4412 0x4412 8 8 "VeeCounters" .u64 .ro .observer .v true (.num 0) (.any),
  row 0x4412 0x4412 9 9 "VeeCounters" .u64 .ro .observer .v true (.num 0) (.any),
  row 0x4412 0x4412 10 10 "VeeCounters" .u64 .ro .observer .v true (.num 0) (.any),
  row 0x4412 0x4412 11 11 "VeeCounters" .u64 .ro .observer .v true (.num 0) (.any),
  row 0x4412 0x4412 12 12 "VeeCounters" .u32 .ro .observer .v true (.num 0) (.any),
  row 0x4420 0x4420 0 0 "EditRequest" .u8 .ro .observer .none false (.num 9) (.any),
  row 0x4420 0x4420 1 1 "EditRequest" .u32 .rw .operator .v false (.num 0) (.any),
  row 0x4420 0x4420 2 2 "EditRequest" .u8 .rw .operator .v false (.num 0) (.any),
  row 0x4420 0x4420 3 3 "EditRequest" (.octets 20) .rw .operator .v false (.num 0) (.any),
  row 0x4420 0x4420 4 4 "EditRequest" .u8 .rw .operator .v false (.num 0) (.nat 0 2),
  row 0x4420 0x4420 5 5 "EditRequest" .u32 .rw .operator .v false (.num 0) (.any)]

/-- Objects of chapter 5 of the manual, part 2. -/
def objRows05b : List ObjRow := [
  row 0x4420 0x4420 6 6 "EditRequest" .u8 .cmd .operator .none false (.num 0) (.any),
  row 0x4420 0x4420 7 7 "EditRequest" .u8 .cmd .operator .none false (.num 0) (.any),
  row 0x4420 0x4420 8 8 "EditRequest" .u8 .ro .observer .v false (.num 0) (.any),
  row 0x4420 0x4420 9 9 "EditRequest" .u32 .ro .observer .v false (.num 0) (.any),
  row 0x4421 0x4421 0 0 "MeterClassMove" .u8 .cmd .operator .none false (.num 0) (.any)]

/-- The class records of chapter 5. Their range takes in the indices of the objects above, which are those objects (log entry 72). -/
def objRows05c : List ObjRow := [
  row 0x4400 0x443F 0 0 "MeterClass" .u8 .ro .observer .none false (.num 33) (.any),
  row 0x4400 0x443F 1 1 "IntervalMin" .u8 .rwc .operator .s false (.num 15) (.oneOf [1, 5, 15, 30, 60]),
  row 0x4400 0x443F 2 2 "ChannelKind" (.octets 4) .rwc .operator .s false (.hex [0x01, 0x00, 0x00, 0x00]) (.any),
  row 0x4400 0x443F 3 3 "ChannelQuantity" (.octets 4) .rwc .operator .s false (.hex [0x01, 0x00, 0x00, 0x00]) (.any),
  row 0x4400 0x443F 4 7 "HighLimit" .u64 .rwc .operator .s false (.num 1099511627775) (.nat 0 0xFFFFFFFFFF),
  row 0x4400 0x443F 8 11 "LowLimit" .u64 .rwc .operator .s false (.num 0) (.nat 0 0xFFFFFFFFFF),
  row 0x4400 0x443F 12 15 "MaxChange" .u64 .rwc .operator .s false (.num 1099511627775) (.any),
  row 0x4400 0x443F 16 19 "RolloverModulus" .u64 .rwc .operator .s false (.num 0) (.zeroOr 2 1099511627776),
  row 0x4400 0x443F 20 20 "SumCheck" (.octets 2) .rwc .operator .s false (.hex [0xFF, 0x00]) (.any),
  row 0x4400 0x443F 21 21 "SumTolerance" .u64 .rwc .operator .s false (.num 0) (.any),
  row 0x4400 0x443F 22 22 "IdPast" .u16 .rwc .operator .s false (.num 672) (.nat 1 65535),
  row 0x4400 0x443F 23 23 "IdFuture" .u8 .rwc .operator .s false (.num 1) (.nat 0 4),
  row 0x4400 0x443F 24 24 "FlagAction" .u16 .rwc .operator .s false (.num 277) (.any),
  row 0x4400 0x443F 25 25 "Severity" .u32 .rwc .operator .s false (.num 83953050) (.any),
  row 0x4400 0x443F 26 26 "ClockLimit" .u16 .rwc .operator .s false (.num 300) (.any),
  row 0x4400 0x443F 27 27 "InterpMax" .u8 .rwc .operator .s false (.num 8) (.nat 0 96),
  row 0x4400 0x443F 28 28 "EstimateDelay" .u8 .rwc .operator .s false (.num 2) (.nat 1 96),
  row 0x4400 0x443F 29 29 "ProfileMax" .u16 .rwc .operator .s false (.num 96) (.nat 0 2048),
  row 0x4400 0x443F 30 30 "RequiredMask" .u8 .rwc .operator .s false (.num 1) (.any),
  row 0x4400 0x443F 31 31 "BadRunAlert" .u8 .rwc .operator .s false (.num 4) (.any),
  row 0x4400 0x443F 32 32 "ScaleMin" .u8 .rwc .operator .s false (.num 8) (.nat 1 96),
  row 0x4400 0x443F 33 33 "Members" .u32 .ro .observer .none true (.num 0) (.any)]

/-- Objects of chapter 6 of the manual, part 1. -/
def objRows06a : List ObjRow := [
  row 0x2000 0x2000 0 0 "SensingControl" .u8 .ro .observer .none false (.num 7) (.any),
  row 0x2000 0x2000 1 1 "ChannelEnable" .u8 .rwc .operator .s false (.num 255) (.any),
  row 0x2000 0x2000 2 2 "NominalFrequency" .u8 .rwc .operator .s false (.num 50) (.oneOf [50, 60]),
  row 0x2000 0x2000 3 3 "NominalVoltage" .fix32 .rwc .operator .s false (.num 15073280) (.int 65536 1966080000),
  row 0x2000 0x2000 4 4 "SyncSource" .u8 .rwc .operator .s false (.num 0) (.nat 0 2),
  row 0x2000 0x2000 5 5 "SyncTolerance" .u32 .rwc .operator .s false (.num 1000) (.nat 500 1000000),
  row 0x2000 0x2000 6 6 "SyncNow" .u8 .cmd .operator .none false (.num 0) (.any),
  row 0x2000 0x2000 7 7 "AuxKind" .u8 .rwc .operator .s false (.num 0) (.nat 0 3),
  row 0x2001 0x2008 0 0 "ChannelConfig" .u8 .ro .observer .none false (.num 8) (.any),
  row 0x2001 0x2008 1 1 "PgaGain" .u8 .rwc .operator .s false (.num 0) (.nat 0 5),
  row 0x2001 0x2008 2 2 "CicShift" .u8 .rwc .operator .s false (.num 5) (.nat 0 31),
  row 0x2001 0x2008 3 3 "HalfBandShift" .u8 .rwc .operator .s false (.num 17) (.nat 0 31),
  row 0x2001 0x2008 4 4 "FirShift" .u8 .rwc .operator .s false (.num 17) (.nat 0 31),
  row 0x2001 0x2008 5 5 "FirSet" .u8 .rwc .operator .s false (.num 0) (.nat 0 3),
  row 0x2001 0x2008 6 6 "SensorGain" .fix64 .rwc .operator .s false (.num 0) (.int 4294967 4294967296000000),
  row 0x2001 0x2008 7 7 "UserPhase" .fix32 .rwc .operator .s false (.num 0) (.int (-327680) 327680),
  row 0x2001 0x2008 8 8 "ZcHysteresis" .u8 .rwc .operator .s false (.num 2) (.nat 1 20),
  row 0x2010 0x2017 0 0 "CalibrationView" .u8 .ro .observer .none false (.num 7) (.any),
  row 0x2010 0x2017 1 1 "FactoryGain" .u32 .ro .observer .none false (.num 0) (.any),
  row 0x2010 0x2017 2 2 "FactoryOffset" .i32 .ro .observer .none false (.num 0) (.any),
  row 0x2010 0x2017 3 3 "TempCoef1" .i16 .ro .observer .none false (.num 0) (.any),
  row 0x2010 0x2017 4 4 "TempCoef2" .i16 .ro .observer .none false (.num 0) (.any),
  row 0x2010 0x2017 5 5 "FactoryPhase" .fix32 .ro .observer .none false (.num 0) (.any),
  row 0x2010 0x2017 6 6 "EffectiveGain" .fix64 .ro .observer .none true (.num 0) (.any),
  row 0x2010 0x2017 7 7 "EffectivePhase" .fix32 .ro .observer .none true (.num 0) (.any),
  row 0x2020 0x2020 0 0 "FirUserSet" .u8 .ro .observer .none false (.num 2) (.any),
  row 0x2020 0x2020 1 2 "FirUserSet" .blob .rwc .operator .s false (.empty) (.blob 1544 1),
  row 0x2021 0x2021 0 0 "FirReadback" .u8 .ro .observer .none false (.num 2) (.any),
  row 0x2021 0x2021 1 1 "FirReadback" .u8 .rw .observer .v false (.num 0) (.nat 0 12),
  row 0x2021 0x2021 2 2 "FirReadback" .blob .ro .observer .none false (.empty) (.any),
  row 0x2030 0x2030 0 0 "SensingStatus" .u8 .ro .observer .none false (.num 4) (.any),
  row 0x2030 0x2030 1 1 "SensingStatus" .u64 .ro .observer .v true (.num 0) (.any),
  row 0x2030 0x2030 2 2 "SensingStatus" .u16 .ro .observer .v true (.num 0) (.any),
  row 0x2030 0x2030 3 3 "SensingStatus" .u32 .ro .observer .v true (.num 0) (.any),
  row 0x2030 0x2030 4 4 "SensingStatus" .i32 .ro .observer .v true (.num 0) (.any),
  row 0x2100 0x2102 0 0 "PhaseMeasure" .u8 .ro .observer .none false (.num 13) (.any),
  row 0x2100 0x2102 1 1 "Vrms" .fix32 .ro .observer .v true (.num 0) (.any),
  row 0x2100 0x2102 2 2 "Irms" .fix32 .ro .observer .v true (.num 0) (.any),
  row 0x2100 0x2102 3 3 "ActivePower" .fix64 .ro .observer .v true (.num 0) (.any),
  row 0x2100 0x2102 4 4 "ReactivePower" .fix64 .ro .observer .v true (.num 0) (.any)]

/-- Objects of chapter 6 of the manual, part 2. -/
def objRows06b : List ObjRow := [
  row 0x2100 0x2102 5 5 "ApparentPower" .fix64 .ro .observer .v true (.num 0) (.any),
  row 0x2100 0x2102 6 6 "PhaseAngle" .fix32 .ro .observer .v true (.num 0) (.any),
  row 0x2100 0x2102 7 13 "EnergyRegisters" .u64 .ro .observer .s true (.num 0) (.any),
  row 0x2103 0x2103 0 0 "GridMeasure" .u8 .ro .observer .none false (.num 7) (.any),
  row 0x2103 0x2103 1 7 "GridMeasure" .fix32 .ro .observer .v true (.num 0) (.any),
  row 0x2104 0x2104 0 0 "ChainDelay" .u8 .ro .observer .none false (.num 8) (.any),
  row 0x2104 0x2104 1 8 "ChainDelay" .u32 .ro .observer .none true (.num 0) (.any),
  row 0x2105 0x2105 0 0 "EnergyReset" .u8 .cmd .operator .none false (.num 0) (.any),
  row 0x2110 0x2110 0 0 "SensingCounters" .u8 .ro .observer .none false (.num 5) (.any),
  row 0x2110 0x2110 1 5 "SensingCounters" .u64 .ro .observer .v true (.num 0) (.any),
  row 0x2111 0x2111 0 0 "VoltageEventLimits" .u8 .ro .observer .none false (.num 3) (.any),
  row 0x2111 0x2111 1 1 "SagThreshold" .u8 .rwc .operator .s false (.num 90) (.nat 50 99),
  row 0x2111 0x2111 2 2 "SwellThreshold" .u8 .rwc .operator .s false (.num 110) (.nat 101 150),
  row 0x2111 0x2111 3 3 "VoltHysteresis" .u8 .rwc .operator .s false (.num 2) (.nat 1 10)]

/-- Objects of chapter 7 of the manual, part 1. -/
def objRows07a : List ObjRow := [
  row 0x2400 0x2400 0 0 "BalanceControl" .u8 .ro .observer .none false (.num 4) (.any),
  row 0x2400 0x2400 1 1 "CloseDelay" .u32 .rwc .operator .s false (.num 1800) (.nat 60 21600),
  row 0x2400 0x2400 2 2 "CorrPool" .u32 .rwc .operator .s false (.num 16384) (.nat 0 1048576),
  row 0x2400 0x2400 3 3 "PhaseRefAge" .u8 .rwc .operator .s false (.num 5) (.nat 1 60),
  row 0x2400 0x2400 4 4 "PhaseAgree" .u8 .rwc .operator .s false (.num 8) (.nat 2 32),
  row 0x2410 0x2411 0 0 "GroupTable" .blob .rwc .operator .s false (.zeros 65536) (.blobFix 65536),
  row 0x2430 0x246F 0 0 "ParamSet" .u8 .ro .observer .none false (.num 15) (.any),
  row 0x2430 0x246F 1 1 "AbsThreshold" .u32 .rwc .operator .s false (.num 500) (.any),
  row 0x2430 0x246F 2 2 "RelThreshold" .u16 .rwc .operator .s false (.num 500) (.nat 0 10000),
  row 0x2430 0x246F 3 3 "ConsecIntervals" .u8 .rwc .operator .s false (.num 4) (.nat 1 16),
  row 0x2430 0x246F 4 4 "CompletenessMin" .u16 .rwc .operator .s false (.num 9000) (.nat 0 10000),
  row 0x2430 0x246F 5 5 "CollapseRatio" .u8 .rwc .operator .s false (.num 20) (.nat 1 99),
  row 0x2430 0x246F 6 6 "CollapseMin" .u32 .rwc .operator .s false (.num 1000) (.any),
  row 0x2430 0x246F 7 7 "CollapseDays" .u8 .rwc .operator .s false (.num 2) (.nat 1 14),
  row 0x2430 0x246F 8 8 "ReverseMin" .u32 .rwc .operator .s false (.num 10) (.any),
  row 0x2430 0x246F 9 9 "NeutralCount" .u8 .rwc .operator .s false (.num 2) (.nat 1 255),
  row 0x2430 0x246F 10 10 "VoltOutlier" .u8 .rwc .operator .s false (.num 60) (.nat 5 255),
  row 0x2430 0x246F 11 11 "VoltOutlierCount" .u8 .rwc .operator .s false (.num 3) (.nat 1 96),
  row 0x2430 0x246F 12 12 "CorrMinSamples" .u16 .rwc .operator .s false (.num 96) (.nat 16 672),
  row 0x2430 0x246F 13 13 "DetectorWeight" .fix32 .rwc .operator .s false (.num 6554) (.int 0 65536),
  row 0x2430 0x246F 14 14 "SuspectMin" .fix32 .rwc .operator .s false (.num 19661) (.int (-65536) 458752),
  row 0x2430 0x246F 15 15 "—" .u8 .ro .observer .none false (.num 0) (.any),
  row 0x2480 0x2480 0 0 "MemberCommand" .u8 .ro .observer .none false (.num 6) (.any),
  row 0x2480 0x2480 1 1 "AddGroup" .u16 .cmd .operator .none false (.num 0) (.any),
  row 0x2480 0x2480 2 2 "RemoveGroup" .u16 .cmd .operator .none false (.num 0) (.any),
  row 0x2480 0x2480 3 3 "ConfigPhase" .u8 .cmd .operator .none false (.num 0) (.any),
  row 0x2480 0x2480 4 4 "ClearDetectors" .u8 .cmd .operator .none false (.num 0) (.any),
  row 0x2480 0x2480 5 5 "MemberCommand" .u8 .ro .observer .v false (.num 0) (.any),
  row 0x2480 0x2480 6 6 "MemberCommand" .u32 .ro .observer .v false (.num 0) (.any),
  row 0x2481 0x2481 0 0 "MemberBulk" .blob .cmd .operator .none false (.empty) (.any),
  row 0x2482 0x2482 0 0 "BulkStatus" .u8 .ro .observer .none false (.num 3) (.any),
  row 0x2482 0x2482 1 3 "BulkStatus" .u32 .ro .observer .v false (.num 0) (.any),
  row 0x2483 0x2483 0 0 "MeterBalanceView" .u8 .ro .observer .none false (.num 6) (.any),
  row 0x2483 0x2483 1 4 "MeterBalanceView" .u8 .ro .observer .v false (.num 0) (.any),
  row 0x2483 0x2483 5 5 "MeterBalanceView" .u16 .ro .observer .v false (.num 0) (.any),
  row 0x2483 0x2483 6 6 "MeterBalanceView" .u8 .ro .observer .v false (.num 0) (.any),
  row 0x2490 0x2490 0 0 "GroupSelect" .u16 .rw .observer .v false (.num 0) (.nat 0 4095),
  row 0x2491 0x2491 0 0 "GroupStatus" .u8 .ro .observer .none false (.num 6) (.any),
  row 0x2491 0x2491 1 2 "GroupStatus" .u32 .ro .observer .v false (.num 0) (.any),
  row 0x2491 0x2491 3 3 "GroupStatus" .u8 .ro .observer .v false (.num 0) (.any)]

/-- Objects of chapter 7 of the manual, part 2. -/
def objRows07b : List ObjRow := [
  row 0x2491 0x2491 4 4 "GroupStatus" .u32 .ro .observer .v false (.num 0) (.any),
  row 0x2491 0x2491 5 5 "GroupStatus" .blob .ro .observer .none false (.empty) (.any),
  row 0x2491 0x2491 6 6 "GroupStatus" .blob .ro .observer .none false (.empty) (.any),
  row 0x24A0 0x24A0 0 0 "BalanceCounters" .u8 .ro .observer .none false (.num 9) (.any),
  row 0x24A0 0x24A0 1 9 "BalanceCounters" .u64 .ro .observer .v true (.num 0) (.any)]

/-- Objects of chapter 8 of the manual, part 1. -/
def objRows08a : List ObjRow := [
  row 0x2800 0x2800 0 0 "PlcControl" .u8 .ro .observer .none false (.num 3) (.any),
  row 0x2800 0x2800 1 1 "EngineEnable" .u8 .rwc .operator .s false (.num 7) (.any),
  row 0x2800 0x2800 2 2 "DownlinkMap" .u8 .rwc .operator .s false (.num 0) (.oneOf [0, 7]),
  row 0x2800 0x2800 3 3 "SegTolerance" .u16 .rwc .operator .s false (.num 100) (.nat 20 500),
  row 0x2801 0x2803 0 0 "PhaseEngine" .u8 .ro .observer .none false (.num 8) (.any),
  row 0x2801 0x2803 1 1 "Band" .u8 .rwc .operator .s false (.num 0) (.nat 0 1),
  row 0x2801 0x2803 2 2 "BlankThreshold" .u8 .rwc .operator .s false (.num 18) (.nat 6 30),
  row 0x2801 0x2803 3 3 "BlankHold" .u8 .rwc .operator .s false (.num 16) (.nat 8 64),
  row 0x2801 0x2803 4 4 "TxAttenuation" .u8 .rwc .operator .s false (.num 12) (.nat 0 80),
  row 0x2801 0x2803 5 5 "TxRmsLimit" .u8 .rwc .operator .s false (.num 24) (.nat 0 80),
  row 0x2801 0x2803 6 6 "ToneAttenuation" (.octets 32) .rwc .operator .s false (.num 0) (.each 0 80),
  row 0x2801 0x2803 7 7 "ModeThreshold" (.octets 3) .rwc .operator .s false (.hex [0x08, 0x0E, 0x14]) (.any),
  row 0x2801 0x2803 8 8 "RxGain" .u8 .rwc .operator .s false (.num 255) (.orVal 255 0 7),
  row 0x2810 0x2810 0 0 "ToneMapTable" .u8 .ro .observer .none false (.num 6) (.any),
  row 0x2810 0x2810 1 1 "ToneMapTable" .u8 .ro .observer .v false (.num 0) (.any),
  row 0x2810 0x2810 2 2 "ToneMapTable" .u8 .ro .observer .v false (.num 0) (.any),
  row 0x2810 0x2810 3 3 "ToneMapTable" (.octets 18) .ro .observer .v false (.num 0) (.any),
  row 0x2810 0x2810 4 4 "ToneMapTable" .u8 .ro .observer .v false (.num 0) (.any),
  row 0x2810 0x2810 5 5 "ToneMapTable" (.octets 18) .ro .observer .v false (.num 0) (.any),
  row 0x2810 0x2810 6 6 "ToneMapTable" .i8 .ro .observer .v false (.num 0) (.any),
  row 0x2820 0x2820 0 0 "NoiseProfile" .u8 .ro .observer .none false (.num 3) (.any),
  row 0x2820 0x2820 1 3 "NoiseProfile" (.octets 512) .ro .observer .v false (.num 0) (.any),
  row 0x2830 0x2832 0 0 "PlcCounters" .u8 .ro .observer .none false (.num 13) (.any),
  row 0x2830 0x2832 1 13 "PlcCounters" .u64 .ro .observer .v true (.num 0) (.any),
  row 0x2840 0x2840 0 0 "PlcStatus" .u8 .ro .observer .none false (.num 6) (.any),
  row 0x2840 0x2840 1 3 "PlcStatus" .u8 .ro .observer .v true (.num 0) (.any),
  row 0x2840 0x2840 4 6 "PlcStatus" .u8 .ro .observer .v true (.num 0) (.any)]

/-- Objects of chapter 9 of the manual, part 1. -/
def objRows09a : List ObjRow := [
  row 0x2850 0x2850 0 0 "PlcRouting" .u8 .ro .observer .none false (.num 6) (.any),
  row 0x2850 0x2850 1 1 "RouteMinSnr" .i16 .rwc .operator .s false (.num 24) (.int (-40) 160),
  row 0x2850 0x2850 2 2 "RouteHysteresis" .u8 .rwc .operator .s false (.num 12) (.nat 0 80),
  row 0x2850 0x2850 3 3 "HopFailLimit" .u8 .rwc .operator .s false (.num 3) (.nat 1 15),
  row 0x2850 0x2850 4 4 "FailPenalty" .u8 .rwc .operator .s false (.num 24) (.nat 4 120),
  row 0x2850 0x2850 5 5 "LinkAge" .u32 .rwc .operator .s false (.num 86400) (.nat 3600 2592000),
  row 0x2850 0x2850 6 6 "NeighbourQueryPeriod" .u32 .rwc .operator .s false (.num 21600) (.zeroOr 600 604800),
  row 0x2851 0x2851 0 0 "MeterLinks" .blob .ro .observer .none false (.empty) (.any),
  row 0x2852 0x2852 0 0 "MeterRoute" .u8 .ro .observer .none false (.num 5) (.any),
  row 0x2852 0x2852 1 1 "MeterRoute" .u8 .ro .observer .v false (.num 0) (.any),
  row 0x2852 0x2852 2 2 "MeterRoute" (.octets 15) .ro .observer .v false (.num 0) (.any),
  row 0x2852 0x2852 3 3 "MeterRoute" .i16 .ro .observer .v false (.num 0) (.any),
  row 0x2852 0x2852 4 4 "MeterRoute" .bool .ro .observer .v false (.num 0) (.any),
  row 0x2852 0x2852 5 5 "MeterRoute" .u32 .ro .observer .v false (.num 0) (.any),
  row 0x2853 0x2853 0 0 "RoutePin" .u8 .ro .observer .none false (.num 2) (.any),
  row 0x2853 0x2853 1 1 "RoutePin" (.octets 16) .cmd .operator .none false (.num 0) (.any),
  row 0x2853 0x2853 2 2 "RoutePin" .u8 .cmd .operator .none false (.num 0) (.any),
  row 0x2860 0x2862 0 0 "AccessCounters" .u8 .ro .observer .none false (.num 8) (.any),
  row 0x2860 0x2862 1 8 "AccessCounters" .u64 .ro .observer .v true (.num 0) (.any)]

/-- Objects of chapter 10 of the manual, part 1. -/
def objRows10a : List ObjRow := [
  row 0x3000 0x3000 0 0 "RadioControl" .u8 .ro .observer .none false (.num 2) (.any),
  row 0x3000 0x3000 1 1 "PortEnable" .u8 .rwc .operator .s false (.num 0) (.any),
  row 0x3000 0x3000 2 2 "PreambleOctets" .u16 .rwc .operator .s false (.num 8) (.nat 4 64),
  row 0x3001 0x3002 0 0 "RadioPort" .u8 .ro .observer .none false (.num 23) (.any),
  row 0x3001 0x3002 1 1 "CenterFrequency" .u32 .rwc .operator .s false (.num 0) (.any),
  row 0x3001 0x3002 2 2 "IqSwap" .bool .rwc .operator .s false (.num 0) (.nat 0 1),
  row 0x3001 0x3002 3 3 "DcShift" .u8 .rwc .operator .s false (.num 14) (.zeroOr 8 20),
  row 0x3001 0x3002 4 4 "IqGain" .fix32 .rwc .operator .s false (.num 65536) (.int 58982 72090),
  row 0x3001 0x3002 5 5 "IqPhase" .fix32 .rwc .operator .s false (.num 0) (.int (-655360) 655360),
  row 0x3001 0x3002 6 6 "RxFrontEndDelay" .u32 .rwc .operator .s false (.num 0) (.nat 0 100000),
  row 0x3001 0x3002 7 7 "TxFrontEndDelay" .u32 .rwc .operator .s false (.num 0) (.nat 0 100000),
  row 0x3001 0x3002 8 8 "TxLead" .u16 .rwc .operator .s false (.num 200) (.nat 10 2000),
  row 0x3001 0x3002 9 9 "TxScale" .u8 .rwc .operator .s false (.num 6) (.nat 0 80),
  row 0x3001 0x3002 10 10 "TxFcs" .u8 .rwc .operator .s false (.num 4) (.oneOf [2, 4]),
  row 0x3001 0x3002 11 11 "TxFec" .bool .rwc .operator .s false (.num 0) (.nat 0 1),
  row 0x3001 0x3002 12 12 "TxWhitening" .bool .rwc .operator .s false (.num 1) (.nat 0 1),
  row 0x3001 0x3002 13 13 "TxShaping" .u8 .rwc .operator .s false (.num 1) (.nat 0 2),
  row 0x3001 0x3002 14 14 "GainTable" (.octets 32) .rwc .operator .s false (.num 0) (.any),
  row 0x3001 0x3002 15 15 "GainSteps" .u8 .rwc .operator .s false (.num 1) (.nat 1 16),
  row 0x3001 0x3002 16 16 "AgcMode" .u8 .rwc .operator .s false (.num 255) (.orVal 255 0 15),
  row 0x3001 0x3002 17 17 "AgcTarget" .i8 .rwc .operator .s false (.int (-24)) (.int (-40) (-6)),
  row 0x3001 0x3002 18 18 "RxLevelOffset" .i16 .rwc .operator .s false (.num 0) (.any),
  row 0x3001 0x3002 19 19 "SpiMode" .u8 .rwc .operator .s false (.num 0) (.nat 0 1),
  row 0x3001 0x3002 20 20 "SpiClock" .u8 .rwc .operator .s false (.num 10) (.nat 1 20),
  row 0x3001 0x3002 21 21 "CtlDirection" .u8 .rwc .operator .s false (.num 15) (.any),
  row 0x3001 0x3002 22 22 "CtlIdle" .u8 .rwc .operator .s false (.num 0) (.any),
  row 0x3001 0x3002 23 23 "CtlAlarm" .u8 .rwc .operator .s false (.num 0) (.any),
  row 0x3003 0x3004 0 0 "ScriptTable" .blob .rwc .operator .s false (.empty) (.blob 4096 4),
  row 0x3005 0x3005 0 0 "ScriptEntry" .u8 .ro .observer .none false (.num 2) (.any),
  row 0x3005 0x3005 1 2 "ScriptEntry" (.octets 16) .rwc .operator .s false (.fill 0xFF) (.any),
  row 0x3006 0x3006 0 0 "ScriptControl" .u8 .ro .observer .none false (.num 6) (.any),
  row 0x3006 0x3006 1 2 "ScriptControl" .u8 .cmd .operator .none false (.num 0) (.any),
  row 0x3006 0x3006 3 4 "ScriptControl" (.octets 4) .ro .observer .v false (.num 0) (.any),
  row 0x3006 0x3006 5 6 "ScriptControl" .u8 .ro .observer .v false (.num 0) (.any),
  row 0x3010 0x3010 0 0 "ChannelTable" .blob .rwc .operator .s false (.zeros 2048) (.blobFix 2048),
  row 0x3011 0x3011 0 0 "ChannelBins" .u8 .ro .observer .none false (.num 2) (.any),
  row 0x3011 0x3011 1 2 "ChannelBins" (.octets 256) .ro .observer .none false (.num 0) (.any),
  row 0x3020 0x3021 0 0 "DemodState" (.octets 64) .ro .observer .v true (.num 0) (.any),
  row 0x3030 0x3031 0 0 "RadioCounters" .u8 .ro .observer .none false (.num 13) (.any),
  row 0x3030 0x3031 1 13 "RadioCounters" .u64 .ro .observer .v true (.num 0) (.any)]

/-- Objects of chapter 10 of the manual, part 2. -/
def objRows10b : List ObjRow := [
  row 0x3040 0x3040 0 0 "RadioStatus" .u8 .ro .observer .none false (.num 6) (.any),
  row 0x3040 0x3040 1 2 "RadioStatus" .u16 .ro .observer .v true (.num 0) (.any),
  row 0x3040 0x3040 3 4 "RadioStatus" .i16 .ro .observer .v true (.num 0) (.any),
  row 0x3040 0x3040 5 6 "RadioStatus" .u8 .ro .observer .v true (.num 0) (.any)]

/-- Objects of chapter 11 of the manual, part 1. -/
def objRows11a : List ObjRow := [
  row 0x3100 0x3101 0 0 "Schedule" .blob .rwc .operator .s false (.empty) (.blob 2336 1),
  row 0x3102 0x3102 0 0 "MacControl" .u8 .ro .observer .none false (.num 4) (.any),
  row 0x3102 0x3102 1 1 "DriftPpm" .u16 .rwc .operator .s false (.num 100) (.nat 1 1000),
  row 0x3102 0x3102 2 2 "FloodTtl" .u8 .rwc .operator .s false (.num 4) (.nat 1 15),
  row 0x3102 0x3102 3 3 "BeaconTtl" .u8 .rwc .operator .s false (.num 2) (.nat 0 15),
  row 0x3102 0x3102 4 4 "CrossRelay" .bool .rwc .operator .s false (.num 0) (.nat 0 1),
  row 0x3130 0x3131 0 0 "MacCounters" .u8 .ro .observer .none false (.num 13) (.any),
  row 0x3130 0x3131 1 13 "MacCounters" .u64 .ro .observer .v true (.num 0) (.any),
  row 0x3140 0x3140 0 0 "MacStatus" .u8 .ro .observer .none false (.num 6) (.any),
  row 0x3140 0x3140 1 2 "MacStatus" .u64 .ro .observer .v true (.num 0) (.any),
  row 0x3140 0x3140 3 4 "MacStatus" .u32 .ro .observer .v true (.num 0) (.any),
  row 0x3140 0x3140 5 6 "MacStatus" (.octets 257) .ro .observer .v false (.num 0) (.any),
  row 0x3150 0x3150 0 0 "ChildState" .u8 .ro .observer .none false (.num 5) (.any),
  row 0x3150 0x3150 1 1 "ChildState" .u8 .ro .observer .v false (.num 0) (.any),
  row 0x3150 0x3150 2 2 "ChildState" .time80 .ro .observer .v false (.num 0) (.any),
  row 0x3150 0x3150 3 3 "ChildState" .u32 .ro .observer .v false (.num 0) (.any),
  row 0x3150 0x3150 4 4 "ChildState" .u8 .ro .observer .v false (.num 0) (.any),
  row 0x3150 0x3150 5 5 "ChildState" .u16 .ro .observer .v false (.num 0) (.any)]

/-- Objects of chapter 12 of the manual, part 1. -/
def objRows12a : List ObjRow := [
  row 0x3C00 0x3C00 0 0 "DistributionControl" .u8 .ro .observer .none false (.num 8) (.any),
  row 0x3C00 0x3C00 1 1 "CmdTimeoutPlc" .u16 .rwc .operator .s false (.num 20) (.nat 5 600),
  row 0x3C00 0x3C00 2 2 "CmdTimeoutRadio" .u16 .rwc .operator .s false (.num 60) (.nat 10 3600),
  row 0x3C00 0x3C00 3 3 "CmdTries" .u8 .rwc .operator .s false (.num 4) (.nat 1 15),
  row 0x3C00 0x3C00 4 4 "ActivateTimeout" .u16 .rwc .operator .s false (.num 900) (.nat 60 7200),
  row 0x3C00 0x3C00 5 5 "BlockQuiet" .u16 .rwc .operator .s false (.num 60) (.nat 10 3600),
  row 0x3C00 0x3C00 6 6 "BlockSpread" .u16 .rwc .operator .s false (.num 120) (.nat 0 3600),
  row 0x3C00 0x3C00 7 7 "MaxRounds" .u8 .rwc .operator .s false (.num 8) (.nat 1 32),
  row 0x3C00 0x3C00 8 8 "SilentRounds" .u8 .rwc .operator .s false (.num 2) (.nat 1 8),
  row 0x3C10 0x3C10 0 0 "CommandRequest" .u8 .ro .observer .none false (.num 4) (.any),
  row 0x3C10 0x3C10 1 1 "CmdId" .u8 .rw .operator .v false (.num 16) (.any),
  row 0x3C10 0x3C10 2 2 "CmdArgs" .blob .rw .operator .v false (.empty) (.blob 196 1),
  row 0x3C10 0x3C10 3 3 "CommandRequest" .u8 .cmd .operator .none false (.num 0) (.any),
  row 0x3C10 0x3C10 4 4 "CommandRequest" .u16 .ro .observer .v false (.num 0) (.any),
  row 0x3C11 0x3C11 0 0 "CommandLookup" .u8 .ro .observer .none false (.num 6) (.any),
  row 0x3C11 0x3C11 1 1 "CommandLookup" .u16 .rw .observer .v false (.num 0) (.any),
  row 0x3C11 0x3C11 2 2 "CommandLookup" .u8 .ro .observer .v false (.num 0) (.any),
  row 0x3C11 0x3C11 3 3 "CommandLookup" .u8 .ro .observer .v false (.num 0) (.any),
  row 0x3C11 0x3C11 4 4 "CommandLookup" .u8 .ro .observer .v false (.num 0) (.any),
  row 0x3C11 0x3C11 5 5 "CommandLookup" .blob .ro .observer .v false (.empty) (.any),
  row 0x3C11 0x3C11 6 6 "CommandLookup" .u8 .cmd .operator .none false (.num 0) (.any),
  row 0x3C20 0x3C20 0 0 "TariffLoad" .blob .cmd .operator .none false (.empty) (.any),
  row 0x3C21 0x3C21 0 0 "TariffSelect" .u8 .rw .observer .v false (.num 0) (.any),
  row 0x3C22 0x3C22 0 0 "TariffStatus" .u8 .ro .observer .none false (.num 7) (.any),
  row 0x3C22 0x3C22 1 2 "TariffStatus" .u16 .ro .observer .v false (.num 0) (.any),
  row 0x3C22 0x3C22 3 3 "TariffStatus" .time80 .ro .observer .v false (.num 0) (.any),
  row 0x3C22 0x3C22 4 5 "TariffStatus" .u32 .ro .observer .v false (.num 0) (.any),
  row 0x3C22 0x3C22 6 6 "TariffStatus" .u8 .ro .observer .v false (.num 0) (.any),
  row 0x3C22 0x3C22 7 7 "TariffStatus" .blob .ro .observer .v false (.empty) (.any),
  row 0x3C23 0x3C23 0 0 "TariffAssign" .u16 .cmd .operator .none false (.num 0) (.any),
  row 0x3C30 0x3C30 0 0 "ImageBegin" (.octets 28) .cmd .operator .none false (.num 0) (.any),
  row 0x3C31 0x3C31 0 0 "ImageChunk" .blob .cmd .operator .none false (.empty) (.any),
  row 0x3C32 0x3C32 0 0 "ImageEnd" .u8 .cmd .operator .none false (.num 0) (.any),
  row 0x3C33 0x3C33 0 0 "ImageTargets" .blob .cmd .operator .none false (.empty) (.any),
  row 0x3C34 0x3C34 0 0 "ImageActivate" (.octets 16) .cmd .operator .none false (.num 0) (.any),
  row 0x3C35 0x3C35 0 0 "ImageRemove" .u8 .cmd .operator .none false (.num 0) (.any),
  row 0x3C40 0x3C43 0 0 "ImageStatus" .u8 .ro .observer .none false (.num 8) (.any),
  row 0x3C40 0x3C43 1 1 "ImageStatus" .u8 .ro .observer .v false (.num 0) (.any),
  row 0x3C40 0x3C43 2 3 "ImageStatus" .u32 .ro .observer .v false (.num 0) (.any),
  row 0x3C40 0x3C43 4 7 "ImageStatus" .u32 .ro .observer .v false (.num 0) (.any)]

/-- Objects of chapter 12 of the manual, part 2. -/
def objRows12b : List ObjRow := [
  row 0x3C40 0x3C43 8 8 "ImageStatus" .u8 .ro .observer .v false (.num 0) (.any),
  row 0x3C50 0x3C50 0 0 "DistCounters" .u8 .ro .observer .none false (.num 8) (.any),
  row 0x3C50 0x3C50 1 8 "DistCounters" .u64 .ro .observer .v true (.num 0) (.any)]

/-- Objects of chapter 13 of the manual, part 1. -/
def objRows13a : List ObjRow := [
  row 0x4800 0x4800 0 0 "QueueControl" .u8 .ro .observer .none false (.num 2) (.any),
  row 0x4800 0x4800 1 1 "SkeinPool" .u16 .rw .operator .s false (.num 512) (.nat 64 1024),
  row 0x4800 0x4800 2 2 "SkeinPool" .u16 .ro .observer .none true (.num 0) (.any),
  row 0x4810 0x484F 0 0 "QueueConfig" .u8 .ro .observer .none false (.num 3) (.any),
  row 0x4810 0x484F 1 1 "SkeinLimit" .u16 .rwc .operator .s false (.num 0) (.nat 0 16384),
  row 0x4810 0x484F 2 2 "HighMark" .u32 .rwc .operator .s false (.num 0) (.any),
  row 0x4810 0x484F 3 3 "LowMark" .u32 .rwc .operator .s false (.num 4294967295) (.any),
  row 0x4850 0x488F 0 0 "QueueStatus" .u8 .ro .observer .none false (.num 8) (.any),
  row 0x4850 0x488F 1 1 "QueueStatus" .u32 .ro .observer .v true (.num 0) (.any),
  row 0x4850 0x488F 2 2 "QueueStatus" .u32 .ro .observer .v true (.num 0) (.any),
  row 0x4850 0x488F 3 3 "QueueStatus" .u32 .ro .observer .v true (.num 0) (.any),
  row 0x4850 0x488F 4 4 "QueueStatus" .u32 .ro .observer .v true (.num 0) (.any),
  row 0x4850 0x488F 5 5 "QueueStatus" .u64 .ro .observer .v true (.num 0) (.any),
  row 0x4850 0x488F 6 6 "QueueStatus" .u64 .ro .observer .v true (.num 0) (.any),
  row 0x4850 0x488F 7 7 "QueueStatus" .u64 .ro .observer .v true (.num 0) (.any),
  row 0x4850 0x488F 8 8 "QueueStatus" .u16 .ro .observer .v true (.num 0) (.any),
  row 0x48C0 0x48C0 0 0 "HostQueue" .u8 .ro .observer .none false (.num 5) (.any),
  row 0x48C0 0x48C0 1 1 "HostQueue" .u8 .rw .operator .v false (.num 56) (.oneOf [7, 15, 56, 57, 58, 59, 60, 61, 62, 63]),
  row 0x48C0 0x48C0 2 2 "HostQueue" .u8 .cmd .operator .none false (.num 0) (.any),
  row 0x48C0 0x48C0 3 3 "HostQueue" (.octets 66) .ro .observer .v false (.num 0) (.any),
  row 0x48C0 0x48C0 4 4 "HostQueue" (.octets 66) .cmd .operator .none false (.num 0) (.any),
  row 0x48C0 0x48C0 5 5 "HostQueue" .u8 .cmd .operator .none false (.num 0) (.any),
  row 0x48D0 0x48D0 0 0 "QueueTotals" .u8 .ro .observer .none false (.num 5) (.any),
  row 0x48D0 0x48D0 1 5 "QueueTotals" .u64 .ro .observer .v true (.num 0) (.any)]

/-- Objects of chapter 14 of the manual, part 1. -/
def objRows14a : List ObjRow := [
  row 0x4C00 0x4C00 0 0 "StoreState" .u8 .ro .observer .none true (.num 0) (.any),
  row 0x4C01 0x4C01 0 0 "StoreConfig" .u8 .ro .observer .none false (.num 10) (.any),
  row 0x4C01 0x4C01 1 1 "RingEnabled" .bool .rwc .operator .s false (.num 1) (.nat 0 1),
  row 0x4C01 0x4C01 2 2 "ReclaimMinAge" .u8 .rwc .operator .s false (.num 2) (.nat 2 255),
  row 0x4C01 0x4C01 3 3 "FreeLow" .u8 .rwc .operator .s false (.num 6) (.nat 3 64),
  row 0x4C01 0x4C01 4 4 "BatchAge" .u16 .rwc .operator .s false (.num 0) (.nat 0 3600),
  row 0x4C01 0x4C01 5 5 "CheckpointRecords" .u32 .rwc .operator .s false (.num 8388608) (.nat 1048576 67108864),
  row 0x4C01 0x4C01 6 6 "WearSpread" .u16 .rwc .operator .s false (.num 500) (.nat 50 5000),
  row 0x4C01 0x4C01 7 7 "DieRetireLimit" .u8 .rwc .operator .s false (.num 8) (.nat 1 64),
  row 0x4C01 0x4C01 8 8 "DieRetireWindow" .u32 .rwc .operator .s false (.num 86400) (.nat 3600 2592000),
  row 0x4C01 0x4C01 9 9 "RelocateBits" .u8 .rwc .operator .s false (.num 64) (.nat 16 200),
  row 0x4C01 0x4C01 10 10 "PatrolDays" .u8 .rwc .operator .s false (.num 30) (.nat 0 180),
  row 0x4C02 0x4C02 0 0 "NandGeometry" .u8 .ro .observer .none false (.num 8) (.any),
  row 0x4C02 0x4C02 1 3 "NandGeometry" .u8 .ro .observer .none false (.num 0) (.any),
  row 0x4C02 0x4C02 4 5 "NandGeometry" .u16 .ro .observer .none false (.num 0) (.any),
  row 0x4C02 0x4C02 6 6 "NandGeometry" .u16 .ro .observer .none false (.num 0) (.any),
  row 0x4C02 0x4C02 7 7 "NandGeometry" .u8 .ro .observer .none false (.num 0) (.any),
  row 0x4C02 0x4C02 8 8 "NandGeometry" .u64 .ro .observer .none false (.num 0) (.any),
  row 0x4C03 0x4C03 0 0 "NandRetryTable" (.octets 64) .rwc .operator .s false (.num 0) (.any),
  row 0x4C04 0x4C04 0 0 "StoreCapacity" .u8 .ro .observer .none false (.num 9) (.any),
  row 0x4C04 0x4C04 1 2 "StoreCapacity" .u64 .ro .observer .v true (.num 0) (.any),
  row 0x4C04 0x4C04 3 3 "StoreCapacity" .u32 .ro .observer .v true (.num 0) (.any),
  row 0x4C04 0x4C04 4 5 "StoreCapacity" .u32 .ro .observer .v true (.num 0) (.any),
  row 0x4C04 0x4C04 6 6 "StoreCapacity" .u16 .ro .observer .v true (.num 0) (.any),
  row 0x4C04 0x4C04 7 7 "StoreCapacity" .u64 .ro .observer .v true (.num 0) (.any),
  row 0x4C04 0x4C04 8 8 "StoreCapacity" .u64 .ro .observer .v true (.num 0) (.any),
  row 0x4C04 0x4C04 9 9 "StoreCapacity" .u8 .ro .observer .v true (.num 0) (.any),
  row 0x4C10 0x4C1F 0 0 "DieStatus" .u8 .ro .observer .none false (.num 6) (.any),
  row 0x4C10 0x4C1F 1 1 "DieStatus" .u8 .ro .observer .v false (.num 0) (.any),
  row 0x4C10 0x4C1F 2 3 "DieStatus" .u16 .ro .observer .v false (.num 0) (.any),
  row 0x4C10 0x4C1F 4 4 "DieStatus" .u8 .ro .observer .v false (.num 0) (.any),
  row 0x4C10 0x4C1F 5 6 "DieStatus" .u32 .ro .observer .v false (.num 0) (.any),
  row 0x4C20 0x4C20 0 0 "RecordQuery" .u8 .ro .observer .none false (.num 6) (.any),
  row 0x4C20 0x4C20 1 1 "RecordQuery" .u32 .rw .observer .v false (.num 0) (.nat 0 1048575),
  row 0x4C20 0x4C20 2 2 "RecordQuery" .u32 .rw .observer .v false (.num 0) (.any),
  row 0x4C20 0x4C20 3 3 "RecordQuery" .u32 .rw .observer .v false (.num 0) (.any),
  row 0x4C20 0x4C20 4 4 "RecordQuery" .u32 .ro .observer .v false (.num 0) (.any),
  row 0x4C20 0x4C20 5 5 "RecordQuery" .u8 .ro .observer .v false (.num 0) (.any),
  row 0x4C20 0x4C20 6 6 "RecordQuery" .blob .ro .observer .none false (.empty) (.any),
  row 0x4C21 0x4C21 0 0 "DayDirectory" .blob .ro .observer .none false (.empty) (.any)]

/-- Objects of chapter 14 of the manual, part 2. -/
def objRows14b : List ObjRow := [
  row 0x4C30 0x4C30 0 0 "StoreCommand" .u8 .ro .observer .none false (.num 4) (.any),
  row 0x4C30 0x4C30 1 1 "Format" .u8 .cmd .keyholder .none false (.num 0) (.any),
  row 0x4C30 0x4C30 2 2 "—" .u8 .ro .observer .none false (.num 0) (.any),
  row 0x4C30 0x4C30 3 3 "ReclaimThrough" .u32 .cmd .operator .none false (.num 0) (.any),
  row 0x4C30 0x4C30 4 4 "StoreCommand" .u32 .ro .observer .v false (.num 0) (.any),
  row 0x4C40 0x4C40 0 0 "StoreCounters" .u8 .ro .observer .none false (.num 16) (.any),
  row 0x4C40 0x4C40 1 16 "StoreCounters" .u64 .ro .observer .v true (.num 0) (.any)]

/-- Objects of chapter 15 of the manual, part 1. -/
def objRows15a : List ObjRow := [
  row 0x5000 0x5001 0 0 "EthPort" .u8 .ro .observer .none false (.num 12) (.any),
  row 0x5000 0x5001 1 1 "Enable" .bool .rwc .operator .s false (.num 1) (.nat 0 1),
  row 0x5000 0x5001 2 2 "Speed" .u8 .rwc .operator .s false (.num 0) (.nat 0 2),
  row 0x5000 0x5001 3 3 "Autoneg" .bool .rwc .operator .s false (.num 1) (.nat 0 1),
  row 0x5000 0x5001 4 4 "MacAddress" (.octets 6) .rwc .operator .s false (.num 0) (.any),
  row 0x5000 0x5001 5 5 "VlanId" .u16 .rwc .operator .s false (.num 0) (.nat 0 4094),
  row 0x5000 0x5001 6 6 "VlanPcp" .u8 .rwc .operator .s false (.num 0) (.nat 0 7),
  row 0x5000 0x5001 7 7 "Ipv4Address" (.octets 4) .rwc .operator .s false (.num 0) (.any),
  row 0x5000 0x5001 8 8 "Ipv4Prefix" .u8 .rwc .operator .s false (.num 24) (.nat 1 32),
  row 0x5000 0x5001 9 9 "Ipv4Gateway" (.octets 4) .rwc .operator .s false (.num 0) (.any),
  row 0x5000 0x5001 10 10 "Ipv6Address" (.octets 16) .rwc .operator .s false (.num 0) (.any),
  row 0x5000 0x5001 11 11 "Ipv6Prefix" .u8 .rwc .operator .s false (.num 64) (.nat 1 128),
  row 0x5000 0x5001 12 12 "Ipv6Gateway" (.octets 16) .rwc .operator .s false (.num 0) (.any),
  row 0x5002 0x5002 0 0 "ServicePorts" .u8 .ro .observer .none false (.num 3) (.any),
  row 0x5002 0x5002 1 1 "ServicePorts" .u16 .rwc .operator .s false (.num 4701) (.any),
  row 0x5002 0x5002 2 2 "ServicePorts" .u16 .rwc .operator .s false (.num 4702) (.any),
  row 0x5002 0x5002 3 3 "ServicePorts" .u16 .rwc .operator .s false (.num 4703) (.any),
  row 0x5003 0x5003 0 0 "AccessList" .blob .rwc .operator .s false (.empty) (.blob 320 20),
  row 0x5010 0x5010 0 0 "ExportControl" .u8 .ro .observer .none false (.num 11) (.any),
  row 0x5010 0x5010 1 1 "ExportKeySlot" .u8 .rwc .keyholder .s false (.num 255) (.orVal 255 0 31),
  row 0x5010 0x5010 2 2 "Window" .u16 .rwc .operator .s false (.num 256) (.nat 1 4096),
  row 0x5010 0x5010 3 3 "Holdoff" .u16 .rwc .operator .s false (.num 200) (.nat 10 100000),
  row 0x5010 0x5010 4 4 "RtoMin" .u16 .rwc .operator .s false (.num 200) (.nat 10 10000),
  row 0x5010 0x5010 5 5 "RtoMax" .u16 .rwc .operator .s false (.num 3200) (.nat 0 60000),
  row 0x5010 0x5010 6 6 "KeepAlive" .u16 .rwc .operator .s false (.num 1) (.nat 1 600),
  row 0x5010 0x5010 7 7 "DeadTime" .u16 .rwc .operator .s false (.num 10) (.nat 2 3600),
  row 0x5010 0x5010 8 8 "ExportWeight" (.octets 4) .rwc .operator .s false (.hex [0x08, 0x04, 0x02, 0x01]) (.each 1 255),
  row 0x5010 0x5010 9 9 "ExportKinds" .u8 .rwc .operator .s false (.num 15) (.any),
  row 0x5010 0x5010 10 10 "Shed" .bool .rwc .operator .s false (.num 0) (.nat 0 1),
  row 0x5010 0x5010 11 11 "ShedDelay" .u32 .rwc .operator .s false (.num 3600) (.nat 60 604800),
  row 0x5011 0x5011 0 0 "ExportTarget" .u8 .ro .observer .none false (.num 3) (.any),
  row 0x5011 0x5011 1 2 "ExportTarget" (.octets 20) .rwc .operator .s false (.num 0) (.any),
  row 0x5011 0x5011 3 3 "ExportTarget" .u8 .cmd .operator .none false (.num 0) (.any),
  row 0x5012 0x5012 0 0 "ExportStatus" .u8 .ro .observer .none false (.num 5) (.any),
  row 0x5012 0x5012 1 1 "ExportStatus" .u8 .ro .observer .v true (.num 0) (.any),
  row 0x5012 0x5012 2 4 "ExportStatus" .u64 .ro .observer .v true (.num 0) (.any),
  row 0x5012 0x5012 5 5 "ExportStatus" .u16 .ro .observer .v true (.num 0) (.any),
  row 0x5013 0x5013 0 0 "ExportCounters" .u8 .ro .observer .none false (.num 6) (.any),
  row 0x5013 0x5013 1 6 "ExportCounters" .u64 .ro .observer .v true (.num 0) (.any),
  row 0x5020 0x5020 0 0 "ImportControl" .u8 .ro .observer .none false (.num 5) (.any)]

/-- Objects of chapter 15 of the manual, part 2. -/
def objRows15b : List ObjRow := [
  row 0x5020 0x5020 1 1 "ImportEnable" .bool .rwc .operator .s false (.num 0) (.nat 0 1),
  row 0x5020 0x5020 2 2 "ImportAuth" .bool .rwc .operator .s false (.num 1) (.nat 0 1),
  row 0x5020 0x5020 3 3 "ImportKeySlot" .u8 .rwc .keyholder .s false (.num 255) (.orVal 255 0 31),
  row 0x5020 0x5020 4 4 "GatewayPolicy" .u8 .rwc .operator .s false (.num 0) (.nat 0 1),
  row 0x5020 0x5020 5 5 "ReturnWindow" .u16 .rwc .operator .s false (.num 2000) (.nat 100 60000),
  row 0x5021 0x5021 0 0 "GatewayTable" .blob .rwc .operator .s false (.empty) (.blob 2048 8),
  row 0x5022 0x5022 0 0 "GatewayLearned" .blob .ro .observer .v false (.empty) (.any),
  row 0x5023 0x5023 0 0 "ImportCounters" .u8 .ro .observer .none false (.num 6) (.any),
  row 0x5023 0x5023 1 6 "ImportCounters" .u64 .ro .observer .v true (.num 0) (.any),
  row 0x5030 0x5031 0 0 "EthCounters" .u8 .ro .observer .none false (.num 9) (.any),
  row 0x5030 0x5031 1 9 "EthCounters" .u64 .ro .observer .v true (.num 0) (.any),
  row 0x5040 0x5040 0 0 "EthStatus" .u8 .ro .observer .none false (.num 2) (.any),
  row 0x5040 0x5040 1 2 "EthStatus" .u8 .ro .observer .v true (.num 0) (.any)]

/-- Objects of chapter 16 of the manual, part 1. -/
def objRows16a : List ObjRow := [
  row 0x5400 0x5400 0 0 "TimeDomainTable" .u8 .ro .observer .none false (.num 8) (.any),
  row 0x5400 0x5400 1 8 "TimeDomainTable" .time80 .ro .observer .v true (.num 0) (.any),
  row 0x5401 0x5408 0 0 "DomainConfig" .u8 .ro .observer .none false (.num 13) (.any),
  row 0x5401 0x5408 1 1 "Source" .u8 .rwc .operator .s false (.num 0) (.nat 0 6),
  row 0x5401 0x5408 2 2 "SourceParam" .u8 .rwc .operator .s false (.num 0) (.nat 0 15),
  row 0x5401 0x5408 3 3 "ServoMode" .u8 .rwc .operator .s false (.num 3) (.nat 0 3),
  row 0x5401 0x5408 4 4 "Kp" .fix32 .rwc .operator .s false (.num 45875) (.int 0 6553600),
  row 0x5401 0x5408 5 5 "Ki" .fix32 .rwc .operator .s false (.num 19661) (.int 0 6553600),
  row 0x5401 0x5408 6 6 "MaxFreq" .u32 .rwc .operator .s false (.num 100000) (.nat 1000 500000),
  row 0x5401 0x5408 7 7 "StepThreshold" .u32 .rwc .operator .s false (.num 100000) (.nat 100 4294967295),
  row 0x5401 0x5408 8 8 "JumpThreshold" .u32 .rwc .operator .s false (.num 1000000) (.any),
  row 0x5401 0x5408 9 9 "SourceTimeout" .u32 .rwc .operator .s false (.num 3000) (.nat 100 3600000),
  row 0x5401 0x5408 10 10 "HoldoverLimit" .u32 .rwc .operator .s false (.num 86400) (.nat 60 2592000),
  row 0x5401 0x5408 11 11 "QualityLimit" .u32 .rwc .operator .s false (.num 1000) (.nat 10 10000000),
  row 0x5401 0x5408 12 12 "QualityHold" .u16 .rwc .operator .s false (.num 10) (.nat 1 3600),
  row 0x5401 0x5408 13 13 "LockCount" .u8 .rwc .operator .s false (.num 8) (.nat 1 64),
  row 0x5411 0x5418 0 0 "DomainStatus" .u8 .ro .observer .none false (.num 8) (.any),
  row 0x5411 0x5418 1 1 "State" .u8 .ro .observer .v true (.num 0) (.any),
  row 0x5411 0x5418 2 2 "Flags" .u16 .ro .observer .v true (.num 0) (.any),
  row 0x5411 0x5418 3 3 "LastOffset" .i64 .ro .observer .v true (.num 0) (.any),
  row 0x5411 0x5418 4 4 "FreqAdj" .i32 .ro .observer .v true (.num 0) (.any),
  row 0x5411 0x5418 5 5 "Period" .u64 .ro .observer .v true (.num 2199023255552) (.any),
  row 0x5411 0x5418 6 6 "PathDelay" .i64 .ro .observer .v true (.num 0) (.any),
  row 0x5411 0x5418 7 8 "DomainStatus" .u32 .ro .observer .v true (.num 0) (.any),
  row 0x5421 0x5428 0 0 "DomainCommand" .u8 .ro .observer .none false (.num 5) (.any),
  row 0x5421 0x5428 1 1 "PeriodWrite" .u64 .rw .operator .v false (.num 0) (.nat 2197923999744 2200123023104),
  row 0x5421 0x5428 2 2 "StepRequest" .i64 .cmd .operator .none false (.num 0) (.any),
  row 0x5421 0x5428 3 3 "ForcedStep" .i64 .cmd .operator .none false (.num 0) (.any),
  row 0x5421 0x5428 4 4 "SetTime" .time80 .cmd .operator .none false (.num 0) (.any),
  row 0x5421 0x5428 5 5 "ClearSticky" .u8 .cmd .operator .none false (.num 0) (.any),
  row 0x5430 0x5430 0 0 "PairControl" .u8 .ro .observer .none false (.num 4) (.any),
  row 0x5430 0x5430 1 1 "PairEnable" .u8 .rwc .operator .s false (.num 0) (.any),
  row 0x5430 0x5430 2 2 "PairSlew" .u8 .rwc .operator .s false (.num 100) (.nat 1 100),
  row 0x5430 0x5430 3 3 "Revert" .bool .rwc .operator .s false (.num 0) (.nat 0 1),
  row 0x5430 0x5430 4 4 "RevertHold" .u16 .rwc .operator .s false (.num 60) (.nat 10 3600),
  row 0x5431 0x5431 0 0 "PairStatus" .u8 .ro .observer .none false (.num 4) (.any),
  row 0x5431 0x5431 1 2 "PairStatus" .u8 .ro .observer .v true (.num 0) (.any),
  row 0x5431 0x5431 3 4 "PairStatus" .i64 .ro .observer .v true (.num 0) (.any),
  row 0x5440 0x5440 0 0 "UtcOffset" .u8 .ro .observer .none false (.num 4) (.any),
  row 0x5440 0x5440 1 1 "UtcOffset" .i16 .rw .operator .s false (.num 37) (.any)]

/-- Objects of chapter 16 of the manual, part 2. -/
def objRows16b : List ObjRow := [
  row 0x5440 0x5440 2 2 "UtcOffset" .i8 .rw .operator .s false (.num 0) (.int (-1) 1),
  row 0x5440 0x5440 3 3 "UtcOffset" .u64 .rw .operator .s false (.num 0) (.any),
  row 0x5440 0x5440 4 4 "UtcOffset" .bool .ro .observer .v false (.num 0) (.any),
  row 0x5450 0x5451 0 0 "PtpPort" .u8 .ro .observer .none false (.num 12) (.any),
  row 0x5450 0x5451 1 1 "Enable" .bool .rwc .operator .s false (.num 0) (.nat 0 1),
  row 0x5450 0x5451 2 2 "DomainNumber" .u8 .rwc .operator .s false (.num 0) (.nat 0 239),
  row 0x5450 0x5451 3 3 "Role" .u8 .rwc .operator .s false (.num 0) (.nat 0 2),
  row 0x5450 0x5451 4 4 "DelayMechanism" .u8 .rwc .operator .s false (.num 0) (.nat 0 1),
  row 0x5450 0x5451 5 5 "Transport" .u8 .rwc .operator .s false (.num 0) (.nat 0 2),
  row 0x5450 0x5451 6 6 "TwoStep" .bool .rwc .operator .s false (.num 0) (.nat 0 1),
  row 0x5450 0x5451 7 7 "LogSyncInterval" .i8 .rwc .operator .s false (.num 0) (.int (-7) 4),
  row 0x5450 0x5451 8 8 "LogAnnounceInterval" .i8 .rwc .operator .s false (.num 1) (.int (-3) 4),
  row 0x5450 0x5451 9 9 "LogMinDelayReqInterval" .i8 .rwc .operator .s false (.num 0) (.int (-7) 5),
  row 0x5450 0x5451 10 11 "Priority1, Priority2" .u8 .rwc .operator .s false (.num 128) (.any),
  row 0x5450 0x5451 12 12 "DistDomain" .u8 .rwc .operator .s false (.num 0) (.nat 0 7),
  row 0x5452 0x5452 0 0 "PtpState" .u8 .ro .observer .none false (.num 2) (.any),
  row 0x5452 0x5452 1 2 "PtpState" .u8 .ro .observer .v true (.num 3) (.any),
  row 0x5460 0x5460 0 0 "LinkCorrection" .u8 .ro .observer .none false (.num 12) (.any),
  row 0x5460 0x5460 1 2 "EthTxDelay" .i32 .rwc .operator .s false (.num 0) (.int (-100000) 100000),
  row 0x5460 0x5460 3 4 "EthRxDelay" .i32 .rwc .operator .s false (.num 0) (.int (-100000) 100000),
  row 0x5460 0x5460 5 6 "IhlostAsymmetry" .i32 .rwc .operator .s false (.num 0) (.int (-100000) 100000),
  row 0x5460 0x5460 7 9 "PlcRxDelay" .u32 .rwc .operator .s false (.num 0) (.nat 0 100000),
  row 0x5460 0x5460 10 12 "PlcTxDelay" .u32 .rwc .operator .s false (.num 0) (.nat 0 100000),
  row 0x5470 0x5470 0 0 "BackupTime" .u8 .ro .observer .none false (.num 4) (.any),
  row 0x5470 0x5470 1 1 "BackupTime" .u64 .ro .observer .v true (.num 0) (.any),
  row 0x5470 0x5470 2 2 "BackupTime" .time80 .ro .observer .v false (.num 0) (.any),
  row 0x5470 0x5470 3 3 "BackupTime" .u64 .ro .observer .v false (.num 0) (.any),
  row 0x5470 0x5470 4 4 "BackupTime" .u8 .ro .observer .v false (.num 0) (.any),
  row 0x5480 0x5480 0 0 "FreeCounter" .u8 .ro .observer .none false (.num 2) (.any),
  row 0x5480 0x5480 1 1 "FreeCounter" .u64 .ro .observer .v true (.num 0) (.any),
  row 0x5480 0x5480 2 2 "FreeCounter" .u64 .ro .observer .v true (.num 0) (.any),
  row 0x5490 0x5490 0 0 "TimeCounters" .u8 .ro .observer .none false (.num 8) (.any),
  row 0x5490 0x5490 1 8 "TimeCounters" .u64 .ro .observer .v true (.num 0) (.any)]

/-- Objects of chapter 17 of the manual, part 1. -/
def objRows17a : List ObjRow := [
  row 0x5800 0x5800 0 0 "SlotTable" .u8 .ro .observer .none false (.num 32) (.any),
  row 0x5800 0x5800 1 32 "SlotTable" (.octets 16) .ro .observer .v false (.num 0) (.any),
  row 0x5801 0x5801 0 0 "VaultStatus" .u8 .ro .observer .none false (.num 4) (.any),
  row 0x5801 0x5801 1 1 "VaultStatus" .u8 .ro .observer .v true (.num 0) (.any),
  row 0x5801 0x5801 2 2 "VaultStatus" .u8 .ro .observer .v false (.num 0) (.any),
  row 0x5801 0x5801 3 3 "VaultStatus" .u32 .ro .observer .v false (.num 0) (.any),
  row 0x5801 0x5801 4 4 "VaultStatus" .u32 .ro .observer .v false (.num 0) (.any),
  row 0x5810 0x5810 0 0 "IdentityPublicKey" (.octets 97) .ro .observer .none false (.num 0) (.any),
  row 0x5811 0x5811 0 0 "Attest" .u8 .ro .observer .none false (.num 3) (.any),
  row 0x5811 0x5811 1 1 "Attest" (.octets 32) .cmd .operator .none false (.num 0) (.any),
  row 0x5811 0x5811 2 2 "Attest" (.octets 96) .ro .observer .v false (.num 0) (.any),
  row 0x5811 0x5811 3 3 "Attest" (.octets 48) .ro .observer .v false (.num 0) (.any),
  row 0x5820 0x5820 0 0 "KeyImport" .blob .cmd .keyholder .none false (.empty) (.any),
  row 0x5821 0x5821 0 0 "ImportStatus" .u8 .ro .observer .none false (.num 3) (.any),
  row 0x5821 0x5821 1 1 "ImportStatus" .u8 .ro .observer .v false (.num 0) (.any),
  row 0x5821 0x5821 2 2 "ImportStatus" .u8 .ro .observer .v false (.num 0) (.any),
  row 0x5821 0x5821 3 3 "ImportStatus" .u32 .ro .observer .v false (.num 0) (.any),
  row 0x5822 0x5822 0 0 "KeyRevoke" .u8 .cmd .keyholder .none false (.num 0) (.any),
  row 0x5823 0x5823 0 0 "KeyErase" .u8 .cmd .keyholder .none false (.num 0) (.any),
  row 0x5830 0x5830 0 0 "TamperResponse" .u8 .ro .observer .none false (.num 12) (.any),
  row 0x5830 0x5830 1 12 "TamperResponse" .u8 .rwc .keyholder .s false (.num 0) (.nat 0 3),
  row 0x5831 0x5831 0 0 "TamperParams" .u8 .ro .observer .none false (.num 6) (.any),
  row 0x5831 0x5831 1 1 "MeshPeriod" .u16 .rwc .keyholder .s false (.num 125) (.nat 31 1000),
  row 0x5831 0x5831 2 2 "Debounce" .u16 .rwc .keyholder .s false (.num 20) (.nat 1 1000),
  row 0x5831 0x5831 3 3 "ActiveLevel" .u8 .rwc .keyholder .s false (.num 0) (.any),
  row 0x5831 0x5831 4 4 "TempLow" .i8 .rwc .keyholder .s false (.int (-50)) (.int (-60) 0),
  row 0x5831 0x5831 5 5 "TempHigh" .i8 .rwc .keyholder .s false (.num 115) (.int 85 150),
  row 0x5831 0x5831 6 6 "RearmTime" .u16 .rwc .keyholder .s false (.num 10) (.nat 1 3600),
  row 0x5832 0x5832 0 0 "TamperStatus" .u8 .ro .observer .none false (.num 4) (.any),
  row 0x5832 0x5832 1 1 "TamperStatus" .u16 .ro .observer .v true (.num 0) (.any),
  row 0x5832 0x5832 2 2 "TamperStatus" .u16 .ro .observer .v true (.num 0) (.any),
  row 0x5832 0x5832 3 3 "TamperStatus" .u8 .cmd .keyholder .none false (.num 0) (.any),
  row 0x5832 0x5832 4 4 "TamperStatus" .u8 .ro .observer .v true (.num 0) (.any),
  row 0x5833 0x5833 0 0 "LockdownRelease" .u8 .cmd .keyholder .none false (.num 0) (.any),
  row 0x5840 0x5840 0 0 "LifeCycleCommand" .u8 .ro .observer .none false (.num 6) (.any),
  row 0x5840 0x5840 1 1 "Provision" .blob .cmd .vendor .none false (.empty) (.any),
  row 0x5840 0x5840 2 4 "Deploy, Return, Lock" .eui64 .cmd .keyholder .none false (.num 0) (.any),
  row 0x5840 0x5840 5 5 "LifeCycleCommand" .u8 .ro .observer .v false (.num 0) (.any),
  row 0x5840 0x5840 6 6 "LifeCycleCommand" .u32 .ro .observer .v false (.num 0) (.any),
  row 0x5841 0x5841 0 0 "LifeCycleInfo" .u8 .ro .observer .none false (.num 5) (.any)]

/-- Objects of chapter 17 of the manual, part 2. -/
def objRows17b : List ObjRow := [
  row 0x5841 0x5841 1 3 "LifeCycleInfo" .u8 .ro .observer .none true (.num 0) (.any),
  row 0x5841 0x5841 4 4 "LifeCycleInfo" .u8 .ro .observer .none false (.num 0) (.any),
  row 0x5841 0x5841 5 5 "LifeCycleInfo" (.octets 48) .ro .observer .none false (.num 0) (.any),
  row 0x5850 0x5850 0 0 "DebugControl" .u8 .ro .observer .none false (.num 3) (.any),
  row 0x5850 0x5850 1 1 "VendorDebug" .bool .rwc .keyholder .s false (.num 1) (.nat 0 1),
  row 0x5850 0x5850 2 2 "DebugControl" .u8 .ro .observer .v true (.num 0) (.any),
  row 0x5850 0x5850 3 3 "DebugControl" .u8 .ro .observer .v true (.num 0) (.any),
  row 0x5860 0x5860 0 0 "VaultLog" .blob .ro .observer .none false (.empty) (.any),
  row 0x5861 0x5861 0 0 "VaultCounters" .u8 .ro .observer .none false (.num 7) (.any),
  row 0x5861 0x5861 1 7 "VaultCounters" .u64 .ro .observer .v true (.num 0) (.any)]

/-- Objects of chapter 18 of the manual, part 1. -/
def objRows18a : List ObjRow := [
  row 0x5C00 0x5C00 0 0 "UpdatePolicy" .u8 .ro .observer .none false (.num 3) (.any),
  row 0x5C00 0x5C00 1 1 "RequireOwner" .bool .rwc .keyholder .s false (.num 0) (.nat 0 1),
  row 0x5C00 0x5C00 2 2 "ProbationTime" .u16 .rwc .operator .s false (.num 300) (.nat 30 3600),
  row 0x5C00 0x5C00 3 3 "HeartbeatTimeout" .u16 .rwc .operator .s false (.num 1000) (.nat 200 10000),
  row 0x5C01 0x5C01 0 0 "UpdateState" .u8 .ro .observer .none false (.num 10) (.any),
  row 0x5C01 0x5C01 1 1 "UpdateState" .u8 .ro .observer .v true (.num 0) (.any),
  row 0x5C01 0x5C01 2 2 "UpdateState" .u8 .ro .observer .v true (.num 0) (.any),
  row 0x5C01 0x5C01 3 5 "UpdateState" .u32 .ro .observer .v true (.num 0) (.any),
  row 0x5C01 0x5C01 6 6 "UpdateState" .u32 .ro .observer .none true (.num 0) (.any),
  row 0x5C01 0x5C01 7 7 "UpdateState" .u16 .ro .observer .v true (.num 0) (.any),
  row 0x5C01 0x5C01 8 8 "UpdateState" .u32 .ro .observer .v true (.num 0) (.any),
  row 0x5C01 0x5C01 9 9 "UpdateState" .u16 .ro .observer .v false (.num 0) (.any),
  row 0x5C01 0x5C01 10 10 "UpdateState" .u8 .ro .observer .v false (.num 0) (.any),
  row 0x5C10 0x5C10 0 0 "UpdateCommand" .u8 .ro .observer .none false (.num 1) (.any),
  row 0x5C10 0x5C10 1 1 "UpdateCommand" .u8 .cmd .operator .none false (.num 0) (.any),
  row 0x5C20 0x5C20 0 0 "StagedHeader" .blob .ro .observer .none false (.empty) (.any),
  row 0x5C21 0x5C21 0 0 "SchemaChanges" .blob .ro .observer .none false (.empty) (.any),
  row 0x5C30 0x5C30 0 0 "UpdateCounters" .u8 .ro .observer .none false (.num 9) (.any),
  row 0x5C30 0x5C30 1 9 "UpdateCounters" .u64 .ro .observer .v true (.num 0) (.any)]

/-- Objects of chapter 19 of the manual, part 1. -/
def objRows19a : List ObjRow := [
  row 0x5E00 0x5E00 0 0 "CascadeControl" .u8 .ro .observer .none false (.num 4) (.any),
  row 0x5E00 0x5E00 1 1 "PortEnable" .u8 .rwc .operator .s false (.num 3) (.any),
  row 0x5E00 0x5E00 2 2 "SyncLead" .u16 .rwc .operator .s false (.num 1000) (.step 125 10000 125),
  row 0x5E00 0x5E00 3 3 "MasterTimeout" .u16 .rwc .operator .s false (.num 20) (.nat 5 1000),
  row 0x5E00 0x5E00 4 4 "ForwardUnknown" .bool .rwc .operator .s false (.num 1) (.nat 0 1),
  row 0x5E01 0x5E01 0 0 "CascadeStatus" .u8 .ro .observer .none false (.num 7) (.any),
  row 0x5E01 0x5E01 1 1 "CascadeStatus" .u8 .ro .observer .v true (.num 0) (.any),
  row 0x5E01 0x5E01 2 2 "CascadeStatus" .u8 .ro .observer .v true (.num 0) (.any),
  row 0x5E01 0x5E01 3 3 "CascadeStatus" .u8 .ro .observer .v true (.num 0) (.any),
  row 0x5E01 0x5E01 4 4 "CascadeStatus" .u8 .ro .observer .v true (.num 0) (.any),
  row 0x5E01 0x5E01 5 5 "CascadeStatus" .u8 .ro .observer .v true (.num 255) (.any),
  row 0x5E01 0x5E01 6 6 "CascadeStatus" .eui64 .ro .observer .v false (.num 0) (.any),
  row 0x5E01 0x5E01 7 7 "CascadeStatus" .u8 .ro .observer .v false (.num 0) (.any),
  row 0x5E02 0x5E02 0 0 "NodeTable" .blob .ro .observer .v false (.empty) (.any),
  row 0x5E03 0x5E03 0 0 "DirectoryLookup" .u8 .ro .observer .none false (.num 3) (.any),
  row 0x5E03 0x5E03 1 1 "DirectoryLookup" .eui64 .rw .observer .v false (.num 0) (.any),
  row 0x5E03 0x5E03 2 2 "DirectoryLookup" .u8 .ro .observer .v false (.num 255) (.any),
  row 0x5E03 0x5E03 3 3 "DirectoryLookup" .u32 .ro .observer .v true (.num 0) (.any),
  row 0x5E10 0x5E11 0 0 "IhlostPort" .u8 .ro .observer .none false (.num 3) (.any),
  row 0x5E10 0x5E11 1 1 "IhlostPort" .u8 .ro .observer .v true (.num 0) (.any),
  row 0x5E10 0x5E11 2 2 "IhlostPort" .u8 .ro .observer .v true (.num 255) (.any),
  row 0x5E10 0x5E11 3 3 "IhlostPort" .eui64 .ro .observer .v false (.num 0) (.any),
  row 0x5E20 0x5E20 0 0 "CascadeCounters" .u8 .ro .observer .none false (.num 10) (.any),
  row 0x5E20 0x5E20 1 10 "CascadeCounters" .u64 .ro .observer .v true (.num 0) (.any)]

/-- Objects of chapter 20 of the manual, part 1. -/
def objRows20a : List ObjRow := [
  row 0x6000 0x6000 0 0 "IslandStatus" .u8 .ro .observer .none false (.num 25) (.any),
  row 0x6000 0x6000 1 25 "IslandStatus" .u32 .ro .observer .v true (.num 0) (.any),
  row 0x6001 0x6001 0 0 "IslandFrequency" .u8 .ro .observer .none false (.num 25) (.any),
  row 0x6001 0x6001 1 25 "IslandFrequency" .u32 .ro .observer .v true (.num 0) (.any),
  row 0x6020 0x6020 0 0 "CrossingStatus" .blob .ro .observer .v false (.empty) (.any),
  row 0x6021 0x6021 0 0 "CrossingClear" .u8 .cmd .operator .none false (.num 0) (.any),
  row 0x6040 0x6058 0 0 "InputFilter" .u8 .ro .observer .none false (.num 6) (.any),
  row 0x6040 0x6058 1 1 "GlitchWidth" .u16 .rwc .operator .s false (.num 20) (.step 4 10000 2),
  row 0x6040 0x6058 2 2 "ActiveLevel" .bool .rwc .operator .s false (.num 1) (.nat 0 1),
  row 0x6040 0x6058 3 3 "StuckTimeout" .u32 .rwc .operator .s false (.num 0) (.nat 0 3600000),
  row 0x6040 0x6058 4 4 "ChatterCount" .u8 .rwc .operator .s false (.num 0) (.any),
  row 0x6040 0x6058 5 5 "ChatterWindow" .u32 .rwc .operator .s false (.num 1000) (.nat 1 3600000),
  row 0x6040 0x6058 6 6 "HoldOff" .u32 .rwc .operator .s false (.num 10000) (.nat 1 3600000),
  row 0x6060 0x6078 0 0 "InputState" .u8 .ro .observer .none false (.num 6) (.any),
  row 0x6060 0x6078 1 1 "InputState" .u8 .ro .observer .v true (.num 0) (.any),
  row 0x6060 0x6078 2 2 "InputState" .bool .ro .observer .v true (.num 0) (.any),
  row 0x6060 0x6078 3 3 "InputState" .u64 .ro .observer .v true (.num 0) (.any),
  row 0x6060 0x6078 4 4 "InputState" .u64 .ro .observer .v true (.num 0) (.any),
  row 0x6060 0x6078 5 5 "InputState" .u32 .ro .observer .v true (.num 0) (.any),
  row 0x6060 0x6078 6 6 "InputState" .u32 .ro .observer .v true (.num 0) (.any)]

/-- Objects of chapter 21 of the manual, part 1. -/
def objRows21a : List ObjRow := [
  row 0x6400 0x6400 0 0 "HealthSummary" .u8 .ro .observer .none false (.num 9) (.any),
  row 0x6400 0x6400 1 1 "HealthSummary" .u8 .ro .observer .v true (.num 0) (.any),
  row 0x6400 0x6400 2 2 "HealthSummary" .u8 .ro .observer .v true (.num 0) (.any),
  row 0x6400 0x6400 3 4 "HealthSummary" .u16 .ro .observer .v true (.num 0) (.any),
  row 0x6400 0x6400 5 7 "HealthSummary" .u64 .ro .observer .v true (.num 0) (.any),
  row 0x6400 0x6400 8 8 "HealthSummary" .u32 .ro .observer .v true (.num 0) (.any),
  row 0x6400 0x6400 9 9 "HealthSummary" .u64 .ro .observer .v true (.num 0) (.any),
  row 0x6401 0x6401 0 0 "HealthControl" .u8 .ro .observer .none false (.num 2) (.any),
  row 0x6401 0x6401 1 1 "AutoRestart" .bool .rwc .operator .s false (.num 1) (.nat 0 1),
  row 0x6401 0x6401 2 2 "CoreWatchdog" .u16 .rwc .operator .s false (.num 100) (.nat 10 10000),
  row 0x6410 0x641A 0 0 "KindPolicy" .u8 .ro .observer .none false (.num 5) (.any),
  row 0x6410 0x641A 1 1 "TransientLimit" .u8 .rwc .operator .s false (.num 16) (.nat 1 255),
  row 0x6410 0x641A 2 2 "TransientWindow" .u16 .rwc .operator .s false (.num 60) (.nat 1 3600),
  row 0x6410 0x641A 3 3 "RetryBase" .u16 .rwc .operator .s false (.num 1) (.nat 1 10000),
  row 0x6410 0x641A 4 4 "AutoReturn" .bool .rwc .operator .s false (.num 1) (.nat 0 1),
  row 0x6410 0x641A 5 5 "SelfTestPeriod" .u16 .rwc .operator .s false (.num 60) (.nat 10 3600),
  row 0x6420 0x6420 0 0 "CellSelect" .u16 .rw .observer .v false (.num 57600) (.any),
  row 0x6421 0x6421 0 0 "CellView" .u8 .ro .observer .none false (.num 7) (.any),
  row 0x6421 0x6421 1 1 "CellView" .u8 .ro .observer .v false (.num 0) (.any),
  row 0x6421 0x6421 2 4 "CellView" .u16 .ro .observer .v false (.num 0) (.any),
  row 0x6421 0x6421 5 5 "CellView" .u16 .ro .observer .v false (.num 0) (.any),
  row 0x6421 0x6421 6 6 "CellView" (.octets 20) .ro .observer .v false (.num 0) (.any),
  row 0x6421 0x6421 7 7 "CellView" .u8 .ro .observer .v false (.num 0) (.any),
  row 0x6422 0x6422 0 0 "CellCommand" .u8 .ro .observer .none false (.num 3) (.any),
  row 0x6422 0x6422 1 1 "RetireCell" .u16 .cmd .operator .none false (.num 0) (.any),
  row 0x6422 0x6422 2 2 "ReturnCell" .u16 .cmd .operator .none false (.num 0) (.any),
  row 0x6422 0x6422 3 3 "ClearCollector" .u8 .cmd .operator .none false (.num 0) (.any),
  row 0x6430 0x6430 0 0 "RetiredList" .blob .ro .observer .v false (.empty) (.any),
  row 0x6440 0x6440 0 0 "FreezeInfo" .u8 .ro .observer .none false (.num 3) (.any),
  row 0x6440 0x6440 1 1 "FreezeInfo" .u32 .ro .observer .v false (.num 0) (.any),
  row 0x6440 0x6440 2 2 "FreezeInfo" .u64 .ro .observer .v false (.num 0) (.any),
  row 0x6440 0x6440 3 3 "FreezeInfo" .u8 .ro .observer .v false (.num 0) (.any),
  row 0x6441 0x6441 0 0 "FreezeControl" .u8 .ro .observer .none false (.num 1) (.any),
  row 0x6441 0x6441 1 1 "FreezePinEnable" .bool .rwc .keyholder .s false (.num 1) (.nat 0 1)]

/-- Objects of chapter 22 of the manual, part 1. -/
def objRows22a : List ObjRow := [
  row 0x6800 0x6800 0 0 "PowerStatus" .u8 .ro .observer .none false (.num 6) (.any),
  row 0x6800 0x6800 1 1 "PowerState" .u8 .ro .observer .v true (.num 0) (.any),
  row 0x6800 0x6800 2 2 "ResetCause" .u8 .ro .observer .s true (.num 0) (.any),
  row 0x6800 0x6800 3 3 "CastOnCount" .u32 .ro .observer .s false (.num 0) (.any),
  row 0x6800 0x6800 4 4 "RefSource" .u8 .ro .observer .v true (.num 0) (.any),
  row 0x6800 0x6800 5 5 "LastGaspResult" .u8 .ro .observer .s false (.num 0) (.any),
  row 0x6800 0x6800 6 6 "RailStatus" .u8 .ro .observer .v true (.num 0) (.any),
  row 0x6801 0x6801 0 0 "CastOnTimes" .u8 .ro .observer .none false (.num 10) (.any),
  row 0x6801 0x6801 1 10 "CastOnTimes" .u32 .ro .observer .v false (.num 0) (.any),
  row 0x6802 0x6802 0 0 "LastGaspControl" .u8 .ro .observer .none false (.num 2) (.any),
  row 0x6802 0x6802 1 1 "RadioEvents" .bool .rwc .operator .s false (.num 1) (.nat 0 1),
  row 0x6802 0x6802 2 2 "ExportAll" .bool .rwc .operator .s false (.num 1) (.nat 0 1),
  row 0x6810 0x6810 0 0 "DeviceRestart" .u8 .cmd .operator .none false (.num 0) (.any),
  row 0x6812 0x6812 0 0 "SupplyMeasure" .u8 .ro .observer .none false (.num 7) (.any),
  row 0x6812 0x6812 1 6 "SupplyMeasure" .u16 .ro .observer .v true (.num 0) (.any),
  row 0x6812 0x6812 7 7 "SupplyMeasure" .i16 .ro .observer .v true (.num 0) (.any)]

/-- The object tables with the range of indices of each. -/
def objChunks : List (Nat × Nat × List ObjRow) :=
  [(0x6010, 0x6013, objRows01a),
   (0x1001, 0x1035, objRows02a),
   (0x3800, 0x3830, objRows03a),
   (0x4000, 0x4020, objRows04a),
   (0x4410, 0x4420, objRows05a),
   (0x4420, 0x4421, objRows05b),
   (0x4400, 0x443F, objRows05c),
   (0x2000, 0x2102, objRows06a),
   (0x2100, 0x2111, objRows06b),
   (0x2400, 0x2491, objRows07a),
   (0x2491, 0x24A0, objRows07b),
   (0x2800, 0x2840, objRows08a),
   (0x2850, 0x2862, objRows09a),
   (0x3000, 0x3031, objRows10a),
   (0x3040, 0x3040, objRows10b),
   (0x3100, 0x3150, objRows11a),
   (0x3C00, 0x3C43, objRows12a),
   (0x3C40, 0x3C50, objRows12b),
   (0x4800, 0x48D0, objRows13a),
   (0x4C00, 0x4C21, objRows14a),
   (0x4C30, 0x4C40, objRows14b),
   (0x5000, 0x5020, objRows15a),
   (0x5020, 0x5040, objRows15b),
   (0x5400, 0x5440, objRows16a),
   (0x5440, 0x5490, objRows16b),
   (0x5800, 0x5841, objRows17a),
   (0x5841, 0x5861, objRows17b),
   (0x5C00, 0x5C30, objRows18a),
   (0x5E00, 0x5E20, objRows19a),
   (0x6000, 0x6078, objRows20a),
   (0x6400, 0x6441, objRows21a),
   (0x6800, 0x6812, objRows22a)]

/-- Every object of the dictionary (R46). -/
def objRows : List ObjRow := objChunks.flatMap (fun c => c.2.2)

end Sys2Proof.Machine
end

