-- ==== Sys2Proof/Config.lean ====
section
/-!
DEFINITION. What the manual leaves open, or what differs from device to device: constants with no body. Nothing in Lean
can evaluate them, so a statement about them holds whatever they are.
-/
namespace Sys2Proof.Config

/-- A free value: what the manual leaves undefined or does not state, one number for each use (log entry 2). The
argument is the state's own counter of uses. -/
opaque freeNat : Nat → Nat

/-- A free byte string for each use (log entry 2). -/
opaque freeBytes : Nat → Bytes

/-- The hardware unique key of the device, 32 bytes, from its physical unclonable function (R551). -/
opaque huk : Bytes

/-- The device identity burnt at manufacture, an EUI-64 (0x1001.0). -/
opaque euiWord : BitVec 64

/-- The device identity as a number. -/
def deviceEui : Nat := euiWord.toNat

/-- The two Ethernet addresses burnt at manufacture, the defaults of 0x5000.4 and 0x5001.4. -/
opaque macAddress : Nat → Bytes

/-- The grade of the device: true for OT1048-X. -/
opaque gradeX : Bool

/-- The version of the image loaded at manufacture, which the manual does not fix (0x100A.0). -/
opaque factoryVersion : Nat

/-- The SHA-384 H of the signed body of the image loaded at manufacture (R552, R597). -/
opaque factoryH : Bytes

/-- R605: the lowest (argument 0) and highest (argument 1) handover version of the image loaded at manufacture. -/
opaque factoryHandover : Nat → Nat

/-- R610: the schema entries of the image loaded at manufacture, group and version. -/
opaque factorySchemas : List (Nat × Nat)

/-- The SHA-384 of the vendor's public key in the boot ROM (R586). -/
opaque vendorKeyHash : Bytes

/-- The vendor's public key that checks image signatures (R598). -/
opaque vendorKey : Bytes

/-- R244: the factory gain G_f of a sensing channel, Q2.30, from OTP. -/
opaque factoryGain : Nat → Nat

/-- R244: the factory offset O_f of a sensing channel, in codes, from OTP. -/
opaque factoryOffset : Nat → Int

/-- R244: the temperature coefficients α1 (argument 1) and α2 (argument 2) of a sensing channel, from OTP. -/
opaque factoryTemp : Nat → Nat → Int

/-- R244: the factory phase of a sensing channel, held as a delay, in units of 2^-16 ns, from OTP. -/
opaque factoryDelay : Nat → Int

/-- R221: coefficient `k` of factory set 0 (255 taps, symmetric) and 1 (96 taps), which the manual does not list. -/
opaque factoryFir : Nat → Nat → Int

/-- R301: the level of a tone without any power, of which the manual states none, in units of 0.25 dB / 65,536. -/
opaque zeroLevel : Int

/-- R282: coefficient `k` of the factory set of a power-line receiver, A band (argument 0) or W band (1), which the manual does not
list. -/
opaque plcFir : Nat → Nat → Int

/-- R346: coefficient `k` of the channelizer's prototype, which the manual does not list. -/
opaque channelFir : Nat → Int

/-- R347: coefficient `k` of the 11-tap filter that interpolates the two bins of a merged channel, in units of 2^-17, which the manual does not
list. -/
opaque mergeFir : Nat → Int

/-- R356: the weight, in units of 2^-16, with which a symbol shapes the frequency `n` samples after its first one: TxShaping 1 or 2, samples per
symbol, `n`. The manual gives the shape's name and BT only. -/
opaque txPulse : Nat → Nat → Int → Int

/-- R353: what the decoder makes of received bits that are no code word, which the manual leaves open. -/
opaque rscCorrect : List Bool → List Bool

/-- R236: the 8-tap fractional-delay interpolator: delay τ in units of 2^-16 ns and the newest samples, newest first. The
manual does not list its coefficients. -/
opaque compensator : Int → List Int → Int

/-- R238: the 65-tap Hilbert transformer over the newest samples, newest first. The manual does not list its
coefficients. -/
opaque hilbert : List Int → Int

/-- R239: whether the angle of (y, x) as FIX32 is rounded up: its rounding is not stated. -/
opaque angleUp : Int → Int → Bool

end Sys2Proof.Config
end

