-- ==== Sys2Proof/Machine/Abort.lean ====
section
/-!
DEFINITION. The abort codes of R86, the whole set.
-/
namespace Sys2Proof.Machine.Abort

def ok : Nat := 0x00000000
def badOperation : Nat := 0x01000001
def badPayload : Nat := 0x01000002
def roleNotAllowed : Nat := 0x01000003
def notMaster : Nat := 0x01000004
def nodeUnknown : Nat := 0x01000005
def nodeTimeout : Nat := 0x01000006
def noObject : Nat := 0x02000001
def noSubindex : Nat := 0x02000002
def writeRo : Nat := 0x02000003
def readWo : Nat := 0x02000004
def roleDenied : Nat := 0x02000005
def notInState : Nat := 0x02000006
def typeLength : Nat := 0x03000001
def valueRange : Nat := 0x03000002
def valueInconsistent : Nat := 0x03000003
def textEncoding : Nat := 0x03000004
def busy : Nat := 0x04000001
def stagedLimit : Nat := 0x04000002
def fenced : Nat := 0x04000003
def lockdown : Nat := 0x04000004
def blockSession : Nat := 0x05000001
def blockSequence : Nat := 0x05000002
def blockTooLarge : Nat := 0x05000003
def blockCrc : Nat := 0x05000004
def blockRequired : Nat := 0x05000005
def noResource : Nat := 0x06000001
def noFreeSlot : Nat := 0x06000002
def unknownMeter : Nat := 0x06000003
def keySlotBad : Nat := 0x07000001
def tamper : Nat := 0x07000002
def keyPolicy : Nat := 0x07000003
def unwrapFail : Nat := 0x07000004
def rootRevoked : Nat := 0x07000005
def storeFull : Nat := 0x07000006
def imageAuth : Nat := 0x07000007
def rollback : Nat := 0x07000008
def handoverRefused : Nat := 0x07000009

end Sys2Proof.Machine.Abort
end

