-- ==== Sys2Proof/Machine/StateMeters.lean ====
section
/-!
DEFINITION. State of the meter table (chapters 3, 5, 7 and 12: the 256-byte record), of joins and rekeys (chapter 3),
of the distribution engine (chapter 12), of the VEE engine (chapter 5) and of the balance engine (chapter 7).
-/
namespace Sys2Proof.Machine

/-- R113: a channel value that is absent. -/
def absentVal : Nat := 0xFFFFFFFFFF

/-- R104: an entry of BASE: interval ID (0 for an empty entry) and four values. -/
structure BaseEntry where
  id : Nat
  vals : List Nat
deriving DecidableEq, Repr, Inhabited

/-- The 256-byte meter record (R104, R186, R256, R399). -/
structure Meter where
  eui : Nat
  short : Nat
  family : Nat
  cls : Nat
  state : Nat
  link : Nat
  gen : Nat
  fcHigh : Nat
  fcBitmap : Nat
  prevHigh : Nat
  prevBitmap : Nat
  switchTime : Nat
  joinFcHigh : Nat
  dlFc : Nat
  pendingGen : Nat
  rflags : Nat
  base : List BaseEntry
  lgId : Nat
  lgVal : List Nat
  lgOutcome : Nat
  badrun : Nat
  groups : List Nat
  detFlags : Nat
  neutRun : Nat
  revDay : Nat
  tariff : Nat
  tState : Nat
  tVer : Nat
  image : Nat
  iState : Nat
  tSilent : Nat
  iSilent : Nat
  meterFw : Nat
  nextTag : Nat
  cmdQueued : Nat
deriving DecidableEq, Repr, Inhabited

/-- R107, R108: the sends of a rekey. `dueAt` is the counter value from which the next send is due, `lseq` the LSEQ of the last REKEY sent; `asked` says that its
control item is on its way. -/
structure Rekey where
  meter : Nat
  sends : Nat
  dueAt : Nat
  stalled : Bool
  lseq : Nat
  asked : Bool
deriving DecidableEq, Repr, Inhabited

/-- R148: a control item: what it does, for which meter, with two numbers and a byte string. -/
structure Ctl where
  code : Nat
  meter : Nat
  eui : Nat
  a : Nat
  b : Nat
  data : Bytes
deriving DecidableEq, Repr, Inhabited

/-- R124: a JOIN_ACCEPT owed: the JOIN's FC, its SRC, the route by which it came, whether it carried FP, the generation offered, and the reverse
of its route header. -/
structure JoinAnswer where
  meter : Nat
  fc : Nat
  dest : Nat
  route : Nat
  flood : Bool
  newGen : Nat
  hops : List Nat
deriving DecidableEq, Repr, Inhabited

/-- Chapter 3, volatile. `joins` holds the start of each provisional record's join timeout; `offers` the generation that the latest accepted JOIN of a
meter was offered, which a repeated answer repeats (R124); `raised` the meters whose
DL_FC has been raised since cast-on (R102); `prevSlot`, `prevGen`, `prevUntil` the previous network key (R103);
`unconfirmed` the joined meters that have not yet confirmed NETWORK_KEY. -/
structure MeterState where
  table : List (Nat × Meter)
  rekeys : List Rekey
  joins : List (Nat × Nat)
  offers : List (Nat × Nat)
  raised : List Nat
  prevSlot : Nat
  prevGen : Nat
  prevUntil : Option Nat
  unconfirmed : List Nat
  refusedAt : Option Nat
  refusedSince : Nat
  counters : List Nat
deriving DecidableEq, Repr, Inhabited

/-- R102, R130: the network key's generation, counters and their persisted floors. -/
structure NetNv where
  gen : Nat
  mc : Nat
  mcFloor : Nat
  join : Nat
  joinFloor : Nat
deriving DecidableEq, Repr, Inhabited

/-! ### Distribution (chapter 12) -/

/-- R400 to R404: a command of a meter. State as in 0x3C11.2: 1 queued, 2 sent, 3 held. `tag` is assigned at
submission. `rebuild` says that RESULT 3 came, so that the next try is built anew (R404); `resends` counts the sends of the frame as it stands
after its first (R319); `asked` says that the control item of R401 is on its way. -/
structure MCmd where
  ident : Nat
  cmdId : Nat
  args : Bytes
  tag : Nat
  state : Nat
  tries : Nat
  frame : Bytes
  sentAt : Nat
  rebuild : Bool
  resends : Nat
  asked : Bool
  heldFor : Nat
  heldAt : Option Nat
  origin : Nat
deriving DecidableEq, Repr, Inhabited

/-- R410: the outcome of a past command. -/
structure CmdOutcome where
  meter : Nat
  tag : Nat
  state : Nat
  result : Nat
  tries : Nat
  data : Bytes
deriving DecidableEq, Repr, Inhabited

/-- R413 to R415: a target of a campaign. State as in T_STATE and I_STATE; `lacks` are the blocks it is taken to lack;
`requested` that it has sent a BLOCK_REQUEST in this round; `failures` counts STATE 2; `medium` 0 power-line, 1 radio;
`offers` tells that its OFFER is unanswered. -/
structure Target where
  meter : Nat
  state : Nat
  lacks : List Nat
  silent : Nat
  requested : Bool
  failures : Nat
  medium : Nat
deriving DecidableEq, Repr, Inhabited

/-- One block list of a round: `port` 0 to 2 for the engines, 3 and 4 for the radio ports. -/
structure BlockList where
  port : Nat
  blocks : List Nat
  routes : List (List Nat)
deriving DecidableEq, Repr, Inhabited

/-- R414: phases of a campaign. -/
inductive CampPhase where
  | idle | offering | round | ended
deriving DecidableEq, Repr, Inhabited

/-- R414: a campaign of a tariff table (kind 0) or an image slot (kind 1). -/
structure Campaign where
  kind : Nat
  slot : Nat
  phase : CampPhase
  rounds : Nat
  targets : List Target
  lists : List BlockList
  lastBlockAt : Nat
deriving DecidableEq, Repr, Inhabited

/-- R411: a tariff table held. -/
structure TariffTable where
  version : Nat
  activation : Bytes
  data : Bytes
deriving DecidableEq, Repr, Inhabited

/-- R411: an image slot. State 0 empty, 1 loading, 2 stored. -/
structure ImageSlot where
  state : Nat
  object : Nat
  size : Nat
  digest : Bytes
  data : Bytes
deriving DecidableEq, Repr, Inhabited

/-- Chapter 12, volatile. `owed` are commands of the engine's own for which their meter's queue has no room yet (meter, CMD_ID,
arguments); `owedCtl` the control items that wait for room in Q37, each with its producer; `turns` per port the campaign that sent the last block (R419). -/
structure DistState where
  queues : List (Nat × List MCmd)
  nextIdent : Nat
  owed : List (Nat × (Nat × Bytes))
  owedCtl : List (Nat × Ctl)
  outcomes : List CmdOutcome
  lastTag : Nat
  campaigns : List Campaign
  turns : List Nat
  counters : List Nat
deriving DecidableEq, Repr, Inhabited

/-- R411: what the reserved area of the NAND array holds. -/
structure DistNv where
  tariffs : List (Nat × TariffTable)
  images : List ImageSlot
deriving DecidableEq, Repr, Inhabited

/-! ### VEE (chapter 5) -/

/-- R194: the state of an interval in the history. -/
inductive HistState where
  | missing | real | estimated | edited
deriving DecidableEq, Repr, Inhabited

/-- R194, R200 to R203: the history of a meter. `high` is none before its first record; `states` lists the intervals
that are not missing; `firstReal` is the interval of its first real reading; `silentFor` the r for which MeterSilent has been
raised; `profDay` the UTC day of the last ProfileUnavailable; `noRef` the intervals counted as left unestimated. -/
structure Hist where
  high : Option Nat
  states : List (Nat × HistState)
  firstReal : Option Nat
  silentFor : Option Nat
  profDay : Option Nat
  noRef : List Nat
deriving DecidableEq, Repr, Inhabited

/-- R206: a manual edit on its way. -/
structure Edit where
  meter : Nat
  interval : Nat
  mask : Nat
  vals : Bytes
  outcome : Nat
  editId : Nat
deriving DecidableEq, Repr, Inhabited

/-- Chapter 5, volatile. `toRebuild` are the meters whose history is still to rebuild (R200); `bypassed` counts the
records that have passed a fenced engine (R199). -/
structure VeeState where
  hist : List (Nat × Hist)
  toRebuild : List Nat
  edit : Option Edit
  editState : Nat
  editAbort : Nat
  counters : List Nat
  bypassed : Nat
deriving DecidableEq, Repr, Inhabited

/-! ### Balance (chapter 7) -/

/-- R258: a balance delta of a shadow record, or a correction brought to the same shape (R259). `cause` is none for a
stage-10 delta. -/
structure Delta where
  meter : Nat
  groups : List Nat
  interval : Nat
  len : Nat
  x : Int
  real : Int
  count : Int
  volt : Option Nat
  cause : Option Nat
deriving DecidableEq, Repr, Inhabited

/-- R274: a phase report on its way. -/
structure PhaseRep where
  meter : Nat
  group : Nat
  tm : Int
deriving DecidableEq, Repr, Inhabited

/-- R269: a voltage value of a member in an interval. -/
structure VoltVal where
  meter : Nat
  mv : Nat
deriving DecidableEq, Repr, Inhabited

/-- R254 to R265: the accumulators of a group interval. Supply and I²t are per phase; `poor` per phase counts blocks
missing, HELD or FENCED; `members` and `real` hold the whole sum, then L1 to L3; `xs` the members' consumption of the interval
with the number of its defined member intervals and their length in minutes; `checkLen` is the length of the check meter's intervals.
What follows `revised` is the result as it stood at the close, whole first. -/
structure GInt where
  id : Nat
  supply : List Int
  i2t : List Nat
  blocks : Nat
  badBlocks : Nat
  checkSum : Int
  checkCount : Int
  checkLen : Nat
  members : List Int
  real : List Int
  volts : List VoltVal
  xs : List (Nat × (Int × (Int × Nat)))
  revised : Bool
  losses : List Int
  expected : List Nat
  decided : Bool
  revision : List Nat
  runs : List Nat
  alerts : List Bool
  residual : Int
deriving DecidableEq, Repr, Inhabited

/-- R250 to R264: a balance group at work. `entry` is the entry in force (R252); results whole, then L1 to L3. -/
structure Group where
  entry : Bytes
  opens : List GInt
  ring : List GInt
  carry : List Int
  runs : List Nat
  alerts : List Bool
  lastClosed : Nat
  results : List Bytes
  suspects : Bytes
deriving DecidableEq, Repr, Inhabited

/-- R267 to R275: what the balance engine keeps of a meter outside its record. `days` are the daily energies of the last
29 UTC days, newest first: day, energy, real intervals. `voltDay` counts outlier intervals of a UTC day. -/
structure MeterBal where
  config : Nat
  decided : Nat
  cand : Nat
  run : Nat
  theta : Nat
  mask : Nat
  days : List (Nat × (Int × Nat))
  lowDays : Nat
  voltDay : Nat
  voltCount : Nat
  lastTm : Option Int
deriving DecidableEq, Repr, Inhabited

/-- R233: a zero crossing as the phase identification cell holds it: stamp in units of 2^-16 ns of TD0, period in ns,
whether the voltage of the phase is lost. -/
structure Crossing51 where
  phase : Nat
  stamp : Int
  period : Nat
  lost : Bool
deriving DecidableEq, Repr, Inhabited

/-- Chapter 7, volatile. `series` lists the memberships (group, meter) that hold a series of the pool, in the order of
their assignment; `mismatch` those for which 0x2408 has been raised (R253). `bulk` is the outcome of the last MemberBulk.
 -/
structure BalState where
  groups : List (Nat × Group)
  meters : List (Nat × MeterBal)
  inbox : List Delta
  reports : List PhaseRep
  series : List (Nat × Nat)
  mismatch : List (Nat × Nat)
  crossings : List Crossing51
  cmdState : Nat
  cmdAbort : Nat
  bulk : List Nat
  lateAt : Option Nat
  lateCount : Nat
  dayClosed : Nat
  counters : List Nat
deriving DecidableEq, Repr, Inhabited

end Sys2Proof.Machine
end

