-- ==== Sys2Proof/Machine/StateCascade.lean ====
section
/-!
DEFINITION. State of the cascade and its Ihlost ports (chapter 19), and of the control cores (R685).
-/
namespace Sys2Proof.Machine

/-- R627: a message sent on a hop and not acknowledged there. -/
structure HopMsg where
  hseq : Nat
  bytes : Bytes
  sentAt : Nat
  madeAt : Nat
  resends : Nat
deriving DecidableEq, Repr, Inhabited

/-- R622, R645: an Ihlost port. `rx` is the HSEQ of the last message taken. -/
structure IhPort where
  up : Bool
  neighbour : Nat
  neighbourEui : Nat
  txSeq : Nat
  rx : Option Nat
  unacked : List HopMsg
deriving DecidableEq, Repr, Inhabited

/-- R623, R645: an entry of the master's node table. `side` and `pos` are the port of the master and the hops by which enumeration found the
leaf; `port` and `hops` those by which it is reached now (R629). `taken` is the highest RSEQ taken from the leaf (R636), `acked` the
last that was acknowledged. -/
structure CascNode where
  node : Nat
  side : Nat
  pos : Nat
  port : Nat
  hops : Nat
  lost : Bool
  lostAt : Nat
  eui : Nat
  taken : Option Nat
  acked : Option Nat
deriving DecidableEq, Repr, Inhabited

/-- R633: the kept deadline of a forwarded frame with AR set, with what its ACK needs. -/
structure Kept where
  eui : Nat
  fc : Nat
  deadline : Nat
  route : Nat
  info : Bytes
  frame : Bytes
deriving DecidableEq, Repr, Inhabited

/-- R638: a leaf's member count of a CASCADE group and interval length. -/
structure LeafCount where
  node : Nat
  group : Nat
  len : Nat
  count : Nat
deriving DecidableEq, Repr, Inhabited

/-- R631: a registration or removal that the master still has to enter in its directory, or that a leaf keeps for its master. -/
structure DirUpdate where
  node : Nat
  eui : Nat
  meter : Nat
  add : Bool
deriving DecidableEq, Repr, Inhabited

/-- Chapter 19, volatile. `own` is the node number (0 master, 0xFF unnumbered). `heard` lists the masters heard, with the port;
`conflict` says that the device is refused (R625), `formed` that it takes part in a cascade. `enumPort` is the port that a master enumerates now (2
none), at a leaf the port by which it was enumerated; `hops` is the leaf's place seen from there and `leaves` the leaves of the cascade.
`topology` is as in 0x5E01.4, `breakIdx` the place of a ring's break: it lies between the leaves of places `breakIdx` and
`breakIdx` + 1. `updates` are the registrations and removals that wait at the master, `reports` those kept by a leaf while its
master is lost. `rseq` and `records` belong to R636; `counted` are the member counts last reported. `noted` holds the ingest
metadata of the frames whose copies wait in Q33 (R633), `forwards` the FORWARD messages that the master still has to route (origin and
payload). `requests` are proxied requests that wait at a leaf, `results` those that wait at the master (R76). `epochs` are the
sample epochs that are still to come (R640). -/
structure CascState where
  own : Nat
  masterEui : Nat
  heard : List (Nat × Nat)
  conflict : Bool
  formed : Bool
  enumPort : Nat
  hops : Nat
  leaves : Nat
  upstream : Nat
  ports : List IhPort
  nodes : List CascNode
  topology : Nat
  brokenAt : Nat
  breakIdx : Option Nat
  dir : List (Nat × Nat)
  kept : List Kept
  noted : List (Bytes × Bytes)
  forwards : List (Nat × Bytes)
  returns : List (Nat × (Nat × Nat))
  updates : List DirUpdate
  reports : List DirUpdate
  rseq : Nat
  records : List (Nat × Bytes)
  resent : Nat
  seenAt : Nat
  masterLost : Bool
  lostAt : Nat
  leafCounts : List LeafCount
  counted : List LeafCount
  requests : List Bytes
  results : List (Nat × Bytes)
  epochs : List Int
  dropAt : Option Nat
  drops : Nat
  counters : List Nat
deriving DecidableEq, Repr, Inhabited

end Sys2Proof.Machine
end

