-- ==== Sys2Proof/Machine/StateLanes.lean ====
section
/-!
DEFINITION. State of the dispatcher and the four lanes of the reading pipeline (chapter 4).
-/
namespace Sys2Proof.Machine

/-- R110: a decoded READING. -/
structure Reading where
  interval : Nat
  mask : Nat
  status : Nat
  zco : Nat
  clockofs : Int
  vals : List Nat
deriving DecidableEq, Repr, Inhabited

/-- R135: an item in flight in a lane, from fetch to the end of stage 12. `next` is the stage it runs next; `held` that
it stands in the hold list at stage 2; `shadow` its shadow record, as its stages have left it; `mark` the outcome that stage
3 gave it, if any. `rewinding` says that it stands at the rewind port (R144), `overtaken` that it has been in the hold list, rewound or
restarted, so that items of other meters may have passed it (R133); `otherGen` that its generation is none of those that R105 accepts. -/
structure Item where
  ident : Nat
  isCtl : Bool
  ctl : Ctl
  frame : Bytes
  info : Bytes
  ingestAt : Nat
  epoch : Nat
  cfg : Settings
  plain : Bool
  next : Nat
  held : Bool
  meter : Option Nat
  unknown : Bool
  producer : Option Nat
  slot : Nat
  slotGen : Nat
  mark : Option Nat
  text : Bytes
  tag : Bytes
  shadow : Meter
  badBody : Bool
  undecodable : Bool
  reading : Reading
  outcome : Nat
  reasons : Nat
  advances : Bool
  oldLg : Nat
  oldVals : List Nat
  ests : List Bytes
  deltas : List Delta
  alerts : List (Nat × Bool × Nat)
  verdict : Nat
  judged : Nat
  otherGen : Bool
  rewinding : Bool
  overtaken : Bool
  stalled : Bool
  records : List Bytes
  ackReq : Bytes
  commitAt : Int
  commitNo : Nat
  deadline : Nat
deriving DecidableEq, Repr, Inhabited

/-- R174: the modes of LaneState. -/
inductive LaneMode where
  | runAhead | plainCommand | plainFence | retired | fenced
deriving DecidableEq, Repr, Inhabited

/-- R140: an item in a lane's input buffer. `entered` is the counter value at which the last cell of its packet entered its queue (R40). -/
structure Input4 where
  isCtl : Bool
  ctl : Ctl
  frame : Bytes
  info : Bytes
  entered : Nat
deriving DecidableEq, Repr, Inhabited

/-- One lane. `done` are items past stage 10 that have stages 11 and 12 before them. `gens` is its copy of the slot
generations (R159). `peak` is the highest number in flight since the last read; `restarting` the items that wait to restart
after a fence (R168). -/
structure Lane where
  mode : LaneMode
  input : List Input4
  items : List Item
  done : List Item
  gens : List Nat
  commits : Nat
  squashes : Nat
  rewound : Nat
  peak : Nat
  plainItems : Nat
  commitNo : Nat
  restarting : List Nat
deriving DecidableEq, Repr, Inhabited

/-- R141: a bucket on its way from one lane to another; `switched` says that its entry has switched and that held items are still to be released. -/
structure Moving where
  bucket : Nat
  old : Nat
  new : Nat
  switched : Bool
  held : List Input4
deriving DecidableEq, Repr, Inhabited

/-- Chapter 4. `turn` is the next link-timed queue of the round robin; `wrrTurn` and `credits` belong to Q5 to Q7; `map`
is the effective map as the buckets have followed it; `second` holds the counts of R155, `drops` those of R154. -/
structure LaneState where
  lanes : List Lane
  nextIdent : Nat
  turn : Nat
  wrrTurn : Nat
  credits : List Nat
  map : List Nat
  moving : List Moving
  counters : List Nat
  second : List Nat
  summaryAt : Nat
  dropsByQueue : List Nat
  dropEventAt : Option Nat
  latencyMax : Nat
  latencyCount : Nat
  lateSecond : Nat
  lateEventAt : Option Nat
deriving DecidableEq, Repr, Inhabited

end Sys2Proof.Machine
end

