-- ==== Sys2Proof/Machine/StatePlc.lean ====
section
/-!
DEFINITION. State of the link MACs' downlink (R161, R401) and of the power-line engines and their MACs (chapters 8, 9).
-/
namespace Sys2Proof.Machine

/-- R161: an acknowledgement request on its way to a link MAC. `deadline` is the counter value of R162, `gen` the
generation of the acknowledged frame, `abs` FLAGS[0]. `flood` says that the frame carried FP. -/
structure AckReq where
  src : Nat
  lseq : Nat
  route : Nat
  gen : Nat
  eui : Nat
  meter : Nat
  fc : Nat
  tag : Bytes
  deadline : Nat
  family : Nat
  abs : Bool
  pend : Bool
  reack : Bool
  flood : Bool
deriving DecidableEq, Repr, Inhabited

/-- A downlink frame that a link MAC holds. `prio` is that of R316; `ident` names the command it carries, 0 for none;
`kind` 0 unicast, 1 flood, 2 access-cell answer. -/
structure MacFrame where
  frame : Bytes
  meter : Nat
  dest : Nat
  prio : Nat
  ident : Nat
  kind : Nat
  backoff : Nat
  cw : Nat
  tries : Nat
deriving DecidableEq, Repr, Inhabited

/-- R303: what an engine keeps of a transmitter: levels L(TX, t) in units of 0.25 dB / 65,536, the map in use and the
proposal with their IDs, the margin, and the last ID assigned. -/
structure ToneMaps where
  tx : Nat
  levels : List Int
  inId : Nat
  inMap : Bytes
  propId : Nat
  propMap : Bytes
  margin : Int
  lastId : Nat
deriving DecidableEq, Repr, Inhabited

/-- R309: what an engine is receiving: nothing, a preamble since a counter value, a sync word with its stamp (2^-16 ns of
TD0), or a frame whose header has been decoded. -/
inductive PlcRx where
  | search
  | preamble (since : Nat)
  | synced (stamp : Int)
  | payload (stamp : Int) (header : Bytes)
deriving DecidableEq, Repr, Inhabited

/-- One engine with its MAC. Grid: `cycles` the cycles predicted, the present one and those to come: the start of segment 0 in units of 2^-16 ns
of TD0, and T_c in ns; `period` the newest T_c, or the nominal period; `free` since when it runs free; `doneB` the boundary that the MAC has
acted on. Reception: `blanked` the TD0 times of the samples blanked of late, newest first; `firIn` the FIR cell's inputs, newest first, and
`firPhase` its decimation count; `band` the samples of the present symbol at the band rate, newest first, `symClear` whether no frame was
received or sent in it; `lastSym` the tone levels of the last symbol and `quiet` how many of the
last symbols in a row had no energy; `syms` the tone powers of the symbols since the sync word, newest
first. Medium: `openA` the opening of the last frame's ACK window, `ackMine` whether it
belongs to the concentrator, `lastTx` and `lastHops` the transmitter of the last frame addressed to it and the reverse of its
route header, `deadline` that window's deadline, `unknownEnd` a medium busy with unknown end, `listenTo`
the end of the listening of R318. `txReq` is a transmission asked for (frame and map), `sendUntil` the end of one in
progress. `noise` holds N(s, t) at 32s + t. -/
structure Engine where
  rx : PlcRx
  cycles : List (Int × Nat)
  period : Nat
  free : Bool
  freeSince : Int
  reanchor : Bool
  usedSeq : Option Nat
  gain : Nat
  gainAt : Nat
  ms : Nat
  tracked : Nat
  hold : Nat
  blanked : List Int
  firIn : List Int
  firPhase : Nat
  band : List Int
  symClear : Bool
  lastSym : List Int
  quiet : Nat
  syms : List (List Nat)
  noise : List Int
  maps : List ToneMaps
  counters : List Nat
  overrunAt : Option Nat
  overruns : Nat
  limitAt : Option Nat
  limited : Nat
  openA : Option Int
  ackMine : Bool
  lastTx : Nat
  lastHops : List Nat
  deadline : Nat
  unknownEnd : Bool
  listenTo : Nat
  doneB : Option Int
  txReq : Option (Bytes × Nat)
  sendUntil : Nat
  acks : List AckReq
  ready : List MacFrame
  access : List Nat
deriving DecidableEq, Repr, Inhabited

/-- R329: a link between two stations; `a` < `b`, 0 for an engine, which `engine` (1 to 3) then names. SNR from a to b and
from b to a in units of 0.25 dB / 256, penalty in 0.25 dB. -/
structure Link where
  a : Nat
  b : Nat
  engine : Nat
  snrAB : Option Int
  snrBA : Option Int
  penalty : Int
  fails : Nat
  lastAt : Nat
deriving DecidableEq, Repr, Inhabited

/-- R330 to R332: the route of a meter, by its short address, in downlink order. `last` is the reverse of the route header
of its last frame. -/
structure Route where
  short : Nat
  engine : Nat
  hops : List Nat
  bottleneck : Int
  pinned : Bool
  changes : Nat
  noRoute : Bool
deriving DecidableEq, Repr, Inhabited

/-- Chapters 8 and 9. `v1` is the latest V1 record taken from Q50; `reports` the neighbour reports passed to the MACs
(meter, data); `heard` the forwards overheard (repeater, DEST, LSEQ); `lastRoute` per meter (by short) the repeaters
of its last frame; `lseq` the concentrator's link sequence (R96). -/
structure PlcState where
  engines : List Engine
  v1 : Option Bytes
  links : List Link
  routes : List Route
  lastRoute : List (Nat × List Nat)
  reports : List (Nat × Bytes)
  heard : List (Nat × (Nat × Nat))
  queryAt : List Nat
  freeRaised : Bool
  lseq : Nat
deriving DecidableEq, Repr, Inhabited

end Sys2Proof.Machine
end

