-- ==== Sys2Proof/Machine/StateRadio.lean ====
section
/-!
DEFINITION. State of the radio ports (chapter 10) and their MACs (chapter 11).
-/
namespace Sys2Proof.Machine

/-- R372: a cell of a schedule; kind 5 is an access cell (R374). -/
structure CellDef where
  slot : Nat
  choff : Nat
  kind : Nat
  mode : Nat
  gmod : Nat
  gres : Nat
deriving DecidableEq, Repr, Inhabited

/-- R350: a demodulator: 0 idle, 1 searching, 2 receiving, 3 held. `assigned` says that it has an entry, for `channel` and `cell`. `stamp` is the
counter value of R358 of the frame being received, `slot` the ASN of the slot in which its SFD was detected (R366), `slotAt` that slot's start in
ns of TD2, `gainDb` the gain in force and `gains` the gain changes counted when its SFD was found. `moved` says that a boundary has passed since,
and `next` is the entry it takes after its frame. `powers` are the powers of its channel for the RSSI, newest first, `due` how many are still to
come (R354), and `pairs` the newest outputs of the two bins of a merged channel, newest first (R347). -/
structure Demod where
  channel : Nat
  mode : Nat
  state : Nat
  assigned : Bool
  cell : CellDef
  stamp : Nat
  gainDb : Int
  slot : Nat
  slotAt : Int
  coded : Bool
  gains : Nat
  moved : Bool
  next : Option (Nat × CellDef)
  powers : List Nat
  due : Nat
  pairs : List ((Int × Int) × (Int × Int))
deriving DecidableEq, Repr, Inhabited

/-- R357: how far a transmission has come. -/
inductive TxPhase where
  | asked | accepted | onRaised | onDone | onFailed | sending
deriving DecidableEq, Repr, Inhabited

/-- R355: a transmission: link frame, channel, mode, start instant as a counter value; `origin` 0 beacon, 1 ACK,
2 downlink, 3 flood; the frame it came from, to be given back if it is not sent. -/
structure TxJob where
  frame : Bytes
  channel : Nat
  mode : Nat
  startAt : Nat
  origin : Nat
  phase : TxPhase
  from' : Option MacFrame
deriving DecidableEq, Repr, Inhabited

/-- R339, R356: a transmission on the air: the number of its first sample at 12.8 MS/s, samples per symbol, TxShaping, TxScale, the channel's
offset from the centre frequency in Hz, and the deviation of each symbol in Hz. -/
structure Air where
  first : Nat
  sps : Nat
  shaping : Nat
  scale : Nat
  offset : Int
  symbols : List Int
deriving DecidableEq, Repr, Inhabited

/-- Chapter 10: one radio port. `triggers` are the pending triggers with their parameters, `ctl` the levels driven on the
control lines, `iq` the newest 384 corrected receive samples, newest first, and `iqNo` the number of the next one since the channelizer's history
was reset (R345), `air` the transmission on the air. -/
structure RadioPort where
  inUse : Bool
  initFailed : Bool
  iqCause : Nat
  iqSince : Nat
  triggers : List (Nat × Nat)
  lastScript : Nat
  capture : List Nat
  ctl : Nat
  gainEntry : Nat
  gainWanted : Nat
  demods : List Demod
  tx : List TxJob
  counters : List Nat
  overrunAt : Option Nat
  overruns : Nat
  abandonAt : Option Nat
  abandoned : Nat
  clipSecond : Nat
  clipAt : Option Nat
  power : Int
  powerSum : Nat
  powerBlocks : Nat
  dcI : Int
  dcQ : Int
  iq : List (Int × Int)
  iqNo : Nat
  air : Option Air
deriving DecidableEq, Repr, Inhabited

/-- R381, R382: what a radio MAC keeps of a meter. State as in 0x3150.1; `sync` in units of 2^-16 ns of TD2; `fp` whether
its last frame carried FP; `ttl` the highest TTL of that frame's copies and `key` its (LSEQ, EUI low). -/
structure Child where
  meter : Nat
  port : Nat
  state : Nat
  sync : Int
  hops : Nat
  ttl : Nat
  lseq : Nat
deriving DecidableEq, Repr, Inhabited

/-- A frame received in a slot, for the choice of its ACK (R369). -/
structure SlotFrame where
  src : Nat
  lseq : Nat
  channel : Nat
  mode : Nat
  start : Int
  stamp : Nat
  deadline : Nat
deriving DecidableEq, Repr, Inhabited

/-- R386: air time in ns of a bucket of a channel. -/
structure DwellCell where
  channel : Nat
  bucket : Nat
  air : Nat
deriving DecidableEq, Repr, Inhabited

/-- Chapter 11: the MAC of one port. `sched` is the schedule in force, `pending` one on its way; `lastAsn` the slot whose boundary was last taken
(2^40 before the first), `beaconAsn` the slot of the last beacon built; `slotFrames` the direct frames of the present slot; `wait` the FLOOD cells that a block must still let pass (R421). -/
structure RadioMac where
  sched : Bytes
  pending : Option Bytes
  beacons : Nat
  children : List Child
  slotFrames : List SlotFrame
  acks : List AckReq
  floodAcks : List AckReq
  ready : List MacFrame
  blocks : List MacFrame
  dwell : List DwellCell
  counters : List Nat
  dwellAt : Option Nat
  deferrals : Nat
  wait : Nat
  lastAsn : Nat
  beaconAsn : Nat
deriving DecidableEq, Repr, Inhabited

/-- R389: an entry of the seen cache, with the counter value at which it expires. -/
structure Seen where
  origin : Nat
  fseq : Nat
  until' : Nat
deriving DecidableEq, Repr, Inhabited

/-- Chapters 10 and 11. `stepped` says for each port that a forced step of TD2 is to reach it at its next
slot boundary (R365). -/
structure RadioState where
  ports : List RadioPort
  macs : List RadioMac
  seen : List Seen
  fseq : Nat
  stepped : List Bool
deriving DecidableEq, Repr, Inhabited

end Sys2Proof.Machine
end

