-- ==== Sys2Proof/Machine/StateSense.lean ====
section
/-!
DEFINITION. State of the sensing front-end (chapter 6) and the operands of its steps.
-/
namespace Sys2Proof.Machine

/-- One chain (R213, R230): the integrators and combs of the CIC, the half-band's, the FIR cell's, the compensator's and the Hilbert filter's
histories, newest first, and the coarse path's history of 31 modulator samples, oldest first. `cicSettle`, `hbSettle`, `settle` and
`coarseSettle` count the outputs of the CIC, of the half-band, of the measurement samples and of the coarse path that still carry SETTLING
(R228); `overs` the saturated samples of this second by stage (R214); `overHist` says of the newest samples, newest first, which are flagged. -/
structure Chain where
  integ : List Int
  comb : List Int
  cicOut : List Int
  hbOut : List Int
  firOut : List Int
  comp : List Int
  coarse : List Int
  cicSettle : Nat
  hbSettle : Nat
  settle : Nat
  coarseSettle : Nat
  overs : List Nat
  overHist : List Bool
  overBlock : Bool
  overAt : Option Nat
  pendingReset : Bool
  fenced : Bool
deriving DecidableEq, Repr, Inhabited

/-- R218: a FIR cell: the status word's bank in use, outputs that still carry SETTLING, and sticky ACC_SAT, and of each bank the set, its
decimation, POLYPHASE and shift; `kinds` and `delays` are the set's KIND and GROUP_DELAY (R219). -/
structure FirCell where
  bank : Nat
  settle : Nat
  accSat : Bool
  poly : List Bool
  coefs : List (List Int)
  decim : List Nat
  shifts : List Nat
  kinds : List Nat
  delays : List Nat
deriving DecidableEq, Repr, Inhabited

/-- R231 to R235: one phase voltage. `armed` and `armedDown` say that a rising and a falling crossing may follow; `ys` are the newest eight
coarse samples, newest first, each with whether it carries SETTLING; `half` the sum of squares and the count of the coarse samples of the
half cycle in progress. `good` counts consecutive crossings of normal period since a loss; `sag` and `swell`
hold the start (2^-16 ns of TD0) and the extreme RMS (FIX32) of an event in progress. `periods` and `span` gather the
periods that end in the block (R242). -/
structure PhaseV where
  armed : Bool
  armedDown : Bool
  ys : List (Int × Bool)
  half : Option (Int × Nat)
  last : Option Int
  period : Nat
  seq : Nat
  lost : Bool
  lostInBlock : Bool
  good : Nat
  since : Nat
  sag : Option (Int × Nat)
  swell : Option (Int × Nat)
  periods : Nat
  span : Nat
deriving DecidableEq, Repr, Inhabited

/-- R239 to R241: the measures of one phase: RMS as FIX32, powers as FIX64 (two's complement integers), the angle. -/
structure PhaseM where
  vrms : Nat
  irms : Nat
  p : Int
  q : Int
  s : Int
  angle : Int
  fracs : List Nat
deriving DecidableEq, Repr, Inhabited

/-- R239: sums over the samples of a block: v², i², v·i, vH·i, count, and whether samples were left out for settling. -/
structure PhaseSums where
  vv : Int
  ii : Int
  vi : Int
  hi : Int
  n : Nat
  settling : Bool
deriving DecidableEq, Repr, Inhabited

/-- What a block gathers: a sum per phase, of IN (square, count), of i1 + i2 + i3 (square, count), and of AUX (square, sum, count). Every
sample is multiplied by the gain numerator in force at its instant (R240, R246). -/
structure BlockSums where
  ph : List PhaseSums
  inSq : Int
  inN : Nat
  vecSq : Int
  vecN : Nat
  auxSq : Int
  auxSum : Int
  auxN : Nat
deriving DecidableEq, Repr, Inhabited

/-- Chapter 6, volatile. `fir` are the 13 FIR cells. `gridOfs` is the TD0 time of a grid instant at the counter value `gridRef`, in units of
2^-16 ns; `gridDrift` the steering beyond the PLL's range that it lacks, in 0.01 ppm (R212). `sums` gathers the block in progress; `overLast` says which channels had a saturated sample in the last one. `needAlign` the cause of an aligning reset that
is due at the next sync event (R224), as 0x2001 codes it; `resetMask` the phases of a pending EnergyReset; `energy` the energy registers, seven per phase. -/
structure SenseState where
  chains : List Chain
  fir : List FirCell
  phases : List PhaseV
  meas : List PhaseM
  grid : List Int
  overLast : List Bool
  freq : Nat
  freqOut : Bool
  gridOfs : Int
  gridDrift : Int
  gridRef : Nat
  sums : BlockSums
  gridError : Int
  resets : Nat
  locked : Bool
  needAlign : Option Nat
  syncNow : Bool
  resetMask : Nat
  energy : List (List Nat)
  calChanged : Bool
  counters : List Nat
  overrunAt : Option Nat
  overruns : Nat
  dieTemp : Int
deriving DecidableEq, Repr, Inhabited

/-- R241, R709: the energy registers as MRAM holds them, seven per phase. -/
structure SenseNv where
  saved : List (List Nat)
deriving DecidableEq, Repr, Inhabited

end Sys2Proof.Machine
end

