-- ==== Sys2Proof/Machine/StateStore.lean ====
section
/-!
DEFINITION. State of the record store, its NAND array and its MRAM journal (chapter 14).
-/
namespace Sys2Proof.Machine

/-- 0x4C00.0 StoreState; `offline` with the cause of 0x4C0B. -/
inductive StoreMode where
  | unformatted | mounting | ready | readOnly | offline (cause : Nat) | formatting
deriving DecidableEq, Repr, Inhabited

/-- R467: a place in the array. -/
structure Loc where
  sb : Nat
  page : Nat
  die : Nat
  plane : Nat
deriving DecidableEq, Repr, Inhabited

/-- R461: a plane page as programmed: its header fields and its data as it stands in the array (R464). -/
structure NandPage where
  at' : Loc
  mun : Nat
  pseq : Nat
  kind : Nat
  origin : Nat
  width : Nat
  slot : Nat
  aseq : Nat
  day : Nat
  keyId : Nat
  data : Bytes
deriving DecidableEq, Repr, Inhabited

/-- R470, R471: states of a superblock. -/
inductive SbState where
  | free | opened | closed | erasing
deriving DecidableEq, Repr, Inhabited

/-- R461, R475: a superblock: erase count, its dies in slot order, blocks (die, plane) that wait for a replacement. -/
structure Superblock where
  state : SbState
  erases : Nat
  dies : List Nat
  bad : List (Nat × Nat)
deriving DecidableEq, Repr, Inhabited

/-- R475 to R477: a die. State as in 0x4C10.1; `spares` per plane; `rebuilds` the times of its rebuilds. -/
structure DieRec where
  state : Nat
  spares : List Nat
  retired : Nat
  rebuilds : List Nat
  retiringAt : Nat
  relocated : Nat
deriving DecidableEq, Repr, Inhabited

/-- R454: an entry of the day directory. -/
structure DayDir where
  day : Nat
  firstAseq : Nat
  records : Nat
  units : List Nat
  segments : List Nat
deriving DecidableEq, Repr, Inhabited

/-- R469: the root. `units` is the size of the logical space (R466). -/
structure StoreRoot where
  geom : List (Nat × DieParam)
  keyId : Nat
  clean : Bool
  lastDurable : Option Nat
  floor : Nat
  units : Nat
  checkpoint : List Loc
deriving DecidableEq, Repr, Inhabited

/-- A unit on its way to the array: its header fields, its content, the place it is copied from if it is a copy, the
number of records it holds, the page number of a checkpoint page, and since when its first record waits. -/
structure UnitBuf where
  mun : Nat
  kind : Nat
  origin : Nat
  aseq : Nat
  day : Nat
  data : Bytes
  source : Option Loc
  records : Nat
  page : Nat
  since : Nat
deriving DecidableEq, Repr, Inhabited

/-- R470: an open stream: append, image, cold, and the destination of a wear move. `flying` are the units of the stripe
being programmed; `force` that the next stripe is to be filled with pad pages. -/
structure Stream where
  sb : Option Nat
  page : Nat
  units : List UnitBuf
  flying : List UnitBuf
  flyingPseq : Nat
  force : Bool
deriving DecidableEq, Repr, Inhabited

/-- R480: a snapshot of an image unit that waits for its marker. -/
structure Snap where
  unit : Nat
  data : Bytes
deriving DecidableEq, Repr, Inhabited

/-- Chapter 14, held over a cold reset. `map` names a place, or none for a lost unit; what is not listed is unmapped. `journal`
are the entries of the half in use, `otherHalf` whether the other half is still taken; `jpseq` is the highest PSEQ
journaled and `durable` the highest durable ASEQ (R453). -/
structure StoreNv where
  root : Option StoreRoot
  map : List (Nat × Option Loc)
  journal : List Bytes
  otherHalf : Bool
  jseq : Nat
  sbs : List Superblock
  dies : List DieRec
  days : List DayDir
  pages : List NandPage
  pseq : Nat
  jpseq : Nat
  ringNext : Nat
  durable : Option Nat
deriving DecidableEq, Repr, Inhabited

/-- Chapter 14, volatile. `openRecs` are the records of the open unit with their ASEQs; `index` the batches of each meter on
the open day; `copies` the copy (0 A, 1 B) last written of each image unit; `imagesOwed` what a Format of a READY store must
still write; `dueUnits` the image units of which a record has changed (R479); `weak` the units that R462 is to rewrite. -/
structure StoreState where
  mode : StoreMode
  nextAseq : Nat
  openDay : Nat
  openMun : Nat
  openRecs : List (Nat × Bytes)
  openSince : Nat
  streams : List Stream
  index : List (Nat × List Nat)
  indexCount : Nat
  snaps : List Snap
  copies : List (Nat × Nat)
  imagesOwed : List Nat
  dueUnits : List Nat
  weak : List Nat
  ckpting : Bool
  ckptLocs : List Loc
  formatReady : Bool
  fullAt : Nat
  discarded : Nat
  abort : Nat
  counters : List Nat
  rebuildAt : Option Nat
  rebuildSecond : Nat
  queryTotal : Nat
  queryState : Nat
  timing : Nat
deriving DecidableEq, Repr, Inhabited

end Sys2Proof.Machine
end

