-- ==== Sys2Proof/Machine/StateUpdate.lean ====
section
/-!
DEFINITION. State of the service port and of firmware update (chapter 18).
-/
namespace Sys2Proof.Machine

/-- R594, R595: the service port: frames in the input buffers, frames to be read, sticky flags, and the errors since the last
0x5C08. -/
structure ServicePort where
  inputs : List Bytes
  outputs : List Bytes
  crcErr : Bool
  overflow : Bool
  errors : List Nat
  errorAt : Option Nat
deriving DecidableEq, Repr, Inhabited

/-- R597, R603: an image slot: the image as staged, whether it passed its checks, and its descriptor: VERSION, FLOOR, H, the
wrap under the boot key, the handover range and the schema entries. -/
structure FwSlot where
  image : Bytes
  valid : Bool
  version : Nat
  floor : Nat
  h : Bytes
  wrap : Bytes
  hoMin : Nat
  hoMax : Nat
  schemas : List (Nat × Nat)
deriving DecidableEq, Repr, Inhabited

/-- R603, R616: what the vault region of MRAM holds: slots A and B, the boot record, the rollback floor. `schemaDue` are the groups
that the first cast-on of a new image resets (R615); `staged` tells that the slot not in use holds a STAGED image. -/
structure UpdateNv where
  slots : List FwSlot
  active : Nat
  previous : Nat
  probation : Bool
  boots : Nat
  floor : Nat
  schemaDue : List Nat
  staged : Bool
deriving DecidableEq, Repr, Inhabited

/-- R601 to R614. `state` as in 0x5C01.1; `step` the last step of R606 done and `startedAt`, `stepAt` and `pauseAt` the counter
values of the handover's start, of step 3, and of bind-off. -/
structure UpdateState where
  port : ServicePort
  state : Nat
  total : Nat
  next : Nat
  opened : Bool
  lastType : Nat
  result : Nat
  abort : Nat
  hoVersion : Nat
  step : Nat
  startedAt : Nat
  stepAt : Nat
  pauseAt : Option Nat
  probationEnd : Nat
  recovery : Option (Nat × Nat)
  activeSet : Nat
  counters : List Nat
deriving DecidableEq, Repr, Inhabited

end Sys2Proof.Machine
end

