-- ==== Sys2Proof/Machine/StateUplink.lean ====
section
/-!
DEFINITION. State of Ethernet, the export stream and frame import (chapter 15).
-/
namespace Sys2Proof.Machine

/-- R490: an Ethernet port. `speed` is that of its last link-up, as in 0x5000.2. Counters as in 0x5030. -/
structure EthPort where
  up : Bool
  speed : Nat
  counters : List Nat
deriving DecidableEq, Repr, Inhabited

/-- R502: a datagram sent and not acknowledged: its sequence, its record area in clear, the bytes sent, when it was last sent, its
timer in counter counts. The model keeps them here, in place of the cells of Q21 to Q23 (log entry 24). -/
structure Datagram where
  seq : Nat
  area : Bytes
  count : Nat
  bytes : Bytes
  sentAt : Nat
  rto : Nat
deriving DecidableEq, Repr, Inhabited

/-- R494 to R507: the export engine. `state` as in 0x5012.1: 0 RUNNING, 1 STALLED, 2 SHEDDING, 3 no key. `building` is the
record area of the datagram in the making, begun at `buildAt`; `session` a session record still to come first, with its
REASON; `slot` and `gen` the key in use; `keyWaitAt` since when a key change waits for the outstanding datagrams. -/
structure ExportState where
  state : Nat
  secondary : Bool
  next : Nat
  cum : Nat
  outstanding : List Datagram
  window : Nat
  ackHigh : Option Nat
  building : Bytes
  buildCount : Nat
  buildAt : Nat
  turn : Nat
  credits : List Nat
  session : Option Nat
  prevCum : Nat
  slot : Nat
  gen : Nat
  keyWaitAt : Option Nat
  keyRaised : Bool
  lastSentAt : Nat
  lastAckAt : Nat
  probeAt : Nat
  stalledAt : Nat
  shedAt : Option Nat
  shedSince : Nat
  persistAt : Nat
  counters : List Nat
deriving DecidableEq, Repr, Inhabited

/-- R497, R507, R513: what MRAM holds. `unclean` tells that the last gasp before this cast-on did not complete. -/
structure UplinkNv where
  floor : Nat
  cum : Nat
  importFloor : Nat
deriving DecidableEq, Repr, Inhabited

/-- R511, R513: a gateway that has sent a datagram: EUI, address, UDP port, family (4 or 6), Ethernet port, VLAN, and when. -/
structure Gateway where
  eui : Nat
  address : Bytes
  udpPort : Nat
  family : Nat
  ethPort : Nat
  vlan : Nat
  lastAt : Nat
deriving DecidableEq, Repr, Inhabited

/-- R513: an entry of the return table. -/
structure ReturnEntry where
  eui : Nat
  gateway : Nat
  linkType : Nat
  linkq : Int
  at' : Nat
deriving DecidableEq, Repr, Inhabited

/-- R509 to R513: frame import. -/
structure ImportState where
  gateways : List Gateway
  returns : List ReturnEntry
  seq : Nat
  rejectAt : Option Nat
  counters : List Nat
deriving DecidableEq, Repr, Inhabited

/-- Chapter 15, volatile. -/
structure UplinkState where
  eth : List EthPort
  exp : ExportState
  imp : ImportState
deriving DecidableEq, Repr, Inhabited

end Sys2Proof.Machine
end

