-- ==== Sys2Proof/Machine/StateVault.lean ====
section
/-!
DEFINITION. State of the vault, tamper monitors, life cycle and debug mailbox (chapter 17).
-/
namespace Sys2Proof.Machine

/-- R554, R555: a live key slot. `policy` is the 64-bit POLICY word. -/
structure KeySlot where
  policy : Nat
  key : Bytes
  tag : Bytes
deriving DecidableEq, Repr, Inhabited

/-- R559: one record of a backing-store bank. -/
structure BankRecord where
  slot : Nat
  policy : Nat
  tag : Bytes
  wrapped : Bytes
  crcOk : Bool
deriving DecidableEq, Repr, Inhabited

/-- R559: a bank. `written` says that its header CRC is correct. -/
structure Bank where
  written : Bool
  labelM : Bytes
  labelLcs : Nat
  seq : Nat
  records : List BankRecord
  keyId : Nat
  storeKey : Bytes
deriving DecidableEq, Repr, Inhabited

/-- R562, R563: a working key register: the slot it came from, that slot's GEN, the key; an empty key is a cleared
register. -/
structure WorkReg where
  slot : Nat
  gen : Nat
  key : Bytes
deriving DecidableEq, Repr, Inhabited

/-- R558: a generation notice on its way to a lane. -/
structure Notice where
  lane : Nat
  slot : Nat
  gen : Nat
deriving DecidableEq, Repr, Inhabited

/-- R568: a revocation whose notices are not all applied. -/
structure Revoking where
  slot : Nat
  count : Nat
  gen : Nat
  since : Nat
  slots : List Nat
deriving DecidableEq, Repr, Inhabited

/-- R571: one tamper source. `mesh` counts consecutive disagreeing samples, `out` consecutive samples outside the
temperature range. -/
structure TamperSource where
  active : Bool
  armed : Bool
  misses : Nat
deriving DecidableEq, Repr, Inhabited

/-- R579: an entry of the Hold log. -/
structure HoldEntry where
  source : Nat
  count : Nat
deriving DecidableEq, Repr, Inhabited

/-- R550: the battery register. -/
structure BatteryReg where
  valid : Bool
  zeroiseOwed : Bool
  eraseOwed : Bool
  log : List HoldEntry
  overflow : Nat
deriving DecidableEq, Repr, Inhabited

/-- R580: the OTP fuses of the life cycle. -/
structure Fuses where
  stage : Nat
  lock : Nat
  unlock : Nat
  owners : List Bytes
deriving DecidableEq, Repr, Inhabited

/-- R580: the life-cycle states, in the order of 0x1018.0. -/
inductive LifeCycle where
  | blank | provisioned | deployed | returned | locked
deriving DecidableEq, Repr, Inhabited

/-- R583: the intent record of a transition: the states it leads from and to, its cause as 0x5808 codes it, when it was accepted, and
whether its spare bank is written and its fuses are blown. -/
structure Intent where
  source : Nat
  target : Nat
  cause : Nat
  startedAt : Nat
  bankDone : Bool
  fusesDone : Bool
deriving DecidableEq, Repr, Inhabited

/-- Chapter 17, held over a cold reset: banks, fuses, battery register, tamper sources, vault log, intent record,
stored bundle, debug counter, last KEY_ID, the vault region's settings, and the values carried over a transition. -/
structure VaultNv where
  banks : List Bank
  fuses : Fuses
  battery : BatteryReg
  sources : List TamperSource
  log : List Bytes
  intent : Option Intent
  bundle : Bytes
  debugCounter : Nat
  lastKeyId : Nat
  settings : Settings
  lockdownSince : Int
  wasLockdown : Bool
deriving DecidableEq, Repr, Inhabited

/-- R567: an import whose key is on its way. -/
structure PendingImport where
  blob : Bytes
  slot : Nat
  startedAt : Nat
deriving DecidableEq, Repr, Inhabited

/-- R587: the debug mailbox. `state` as in VDM_STATUS. -/
structure DebugBox where
  state : Nat
  busy : Bool
  scope : Nat
  failures : Nat
  challenge : Bytes
  issuedAt : Nat
  answered : Bool
  response : Bytes
deriving DecidableEq, Repr, Inhabited

/-- Chapter 17, volatile: live slots, the bank in use, the unsealed data key, working registers, lockdown. -/
structure VaultState where
  slots : List KeySlot
  regs : List WorkReg
  lockdown : Bool
  unsealFail : Nat
  bankInUse : Nat
  bothBanks : Bool
  dataKey : Bytes
  keyId : Nat
  measurement : Bytes
  hukOk : Bool
  notices : List Notice
  revoking : List Revoking
  pending : Option PendingImport
  importState : Nat
  importSlot : Nat
  importAbort : Nat
  sticky : Nat
  attestAsked : Option Bytes
  attestSig : Bytes
  lifeStatus : Nat
  lifeAbort : Nat
  dbg : DebugBox
  counters : List Nat
deriving DecidableEq, Repr, Inhabited

end Sys2Proof.Machine
end

