-- ==== Sys2Proof/Machine/Init.lean ====
section
/-!
DEFINITION. The value of every part of the state after a cold reset, before cast-on has run (R705), and of what is held over
cold resets as the device is delivered (log entries 5 and 6).
-/
namespace Sys2Proof.Machine

/-- A list of counts at 0. -/
def noCounts (n : Nat) : List Nat := List.replicate n 0

/-! ### Services -/

/-- The configuration before the settings are loaded. -/
def initCfg : CfgState := { active := [], staged := [], sets := [], applied := 0, copies := [⟨0, [], true⟩, ⟨0, [], true⟩] }

/-- R60, R61: a role whose window has been set to its floor. -/
def initRole (floor notifyFloor : Nat) : RoleState :=
  { high := floor, bitmap := 2 ^ 64 - 1, floor := floor, cache := [], notifySeq := notifyFloor, notifyFloor := notifyFloor
    readS := none, writeS := none }

/-- The dictionary engine; what is kept over a cold reset are the floors of its roles (R61, R84). -/
def initDict (floors : List (Nat × Nat)) : DictState :=
  { roles := floors.map (fun f => initRole f.1 f.2), counters := noCounts 6, subs := List.replicate 8 none, held := [], proxied := []
    nextProxy := 1, lostEvents := [], authEventAt := none, authSince := 0, replayEventAt := none, windowAt := 0, windowCount := 0 }

/-- A queue that holds nothing, served by its own cell. -/
def initQueue (i : Nat) : Queue :=
  { head := [], skein := [], tail := [], reserved := 0, owner := none, openCells := 0, cutting := false
    lastPop := { data := zeros 64, first := false, last := false, abort := false, valid := 0, pushedAt := 0 }, popped := false
    dropPending := false, dropDone := false, losing := false, highLive := false, lowLive := false, highCrossed := false
    lowCrossed := false, highCount := 0, lowCount := 0, underrun := false, overrun := false, backpressured := false, overruns := 0
    underruns := 0, discarded := 0, overrunEventAt := none, droppedSince := 0, aboveLimit := false, servedBy := 0x4000 + i, fenced := false }

/-- The queue manager. -/
def initQueues : QueueState :=
  { queues := (List.range 64).map initQueue, spares := (List.range 8).map (fun k => 0x4040 + k), poolMiB := 0, exhausted := false
    totals := noCounts 5, waiting := [], hostPop := zeros 66 }

/-- R520: 2 ns in units of 2^-40 ns. -/
def twoNs : Nat := 2 * 2 ^ 40

/-- A domain before it is seeded. -/
def initDomain : Domain :=
  { offset := 0, period := twoNs, anchor := 0, state := .unsync, sync := false, jumpRefused := false, timeUnknown := false
    freezeGap := false, lastOffset := 0, pathDelay := 0, steps := 0, refused := 0, integ := 0, good := 0, badSince := none
    lastSampleAt := 0, holdoverAt := 0, lockedAt := 0 }

/-- A pair output that is not enabled. -/
def initPair : PairOut :=
  { enabled := false, partner := false, offset := 0, period := twoNs, anchor := 0, slewing := false, slewD := 0, slewFrom := 0
    refusedNow := false }

/-- R548: a PTP instance that is disabled. -/
def initPtp : PtpPort :=
  { state := 3, parent := [], best := [], announceAt := 0, syncSeq := 0, t1 := none, t2 := [], cf := 0, t3 := [], delay := none, reqSeq := 0
    reqAt := 0, peerOf := [], peerSeq := 0, peerT2 := 0, peerT4 := 0, peerCf := 0, annSeq := 0, annAt := 0, synSeq := 0, synAt := 0 }

/-- The time unit; the backup counter, its anchor and the saved times are held over a cold reset (R536, R709). -/
def initTime (backup backupPart : Nat) (anchorTime : Int) (anchorCount : Nat) (anchorValid : Bool) (savedTd0 : Int)
    (savedDiffs : List (Option Int)) : TimeState :=
  { counter := 0, frozenNs := 0, domains := List.replicate 8 initDomain, pairs := List.replicate 2 initPair, backup := backup
    backupPart := backupPart, anchorTime := anchorTime, anchorCount := anchorCount, anchorValid := anchorValid, lastAnchorAt := 0
    savedTd0 := savedTd0, savedDiffs := savedDiffs, utcLearned := false, counters := noCounts 8, ptp := List.replicate 2 initPtp }

/-- Health and containment: no cell has erred. -/
def initHealth : HealthState :=
  { failover := none, collectors := [], cells := [], raised := [], deviceFault := false, regionFaults := 0, lostReports := 0, drained := 0
    restarts := [], pageErrs := [], pagesRetired := [], frozen := false, freezePin := false, freezeDebug := false
    frozenBackup := 0, freezes := 0, lastGap := 0, lastRequester := 0
    swatch := { cell := 0, space := 0, addr := 0, error := false, masked := false, denied := false } }

/-- R16 to R20: no transaction waits. -/
def initFabric : FabricState :=
  { waiting := [], deficits := [], visits := List.replicate 6 (0, false), turns := [], lendAt := 5, granted := noCounts 6 }

/-! ### Islands and power -/

/-- R670: an island in reset, its PLL not locked. -/
def initIsland : Island :=
  { locked := false, gated := false, inReset := true, fault := false, faults := 0, faultAt := 0, faultTimes := [], kHz := 0 }

/-- A filtered input, inactive. -/
def initInput : Input :=
  { raw := false, active := false, mask := .none, activeSince := 0, maskedAt := 0, windowAt := none
    inWindow := 0, delivered := 0, glitches := 0, stuckCount := 0, chatterCount := 0 }

def initIslands : IslandState :=
  { islands := List.replicate 25 initIsland, crossings := [], inputs := List.replicate 25 initInput }

/-- R706: the device in cast-on, for the cause given. -/
def initPower (cause : Nat) : PowerState :=
  { phase := .castOn, refSource := 0, refLostAt := none, railWarn := 0, warnEventAt := List.replicate 7 none, warnLowest := noCounts 7
    castOnTimes := noCounts 10, castStep := 0, gaspAt := 0, gaspStep := 0, pfailLow := false, supply := noCounts 6
    lastSaveAt := 0, pendingCause := cause }

/-- R715: no cold reset has happened before. -/
def initPowerNv : PowerNv := { resetCause := 0, castOnCount := 0, lastGaspResult := 0, gaspCut := none }

/-- A board on which nothing has been found yet. -/
def initBoard : Board := { dramMiB := 0, cascMaster := true, refclk := false, banks33 := [], nand := [] }

/-! ### Vault -/

/-- R555: an EMPTY slot. -/
def emptySlot : KeySlot := { policy := 0, key := [], tag := [] }

/-- The vault before a bank is unsealed. -/
def initVault : VaultState :=
  { slots := List.replicate 32 emptySlot, regs := List.replicate 9 ⟨0, 0, []⟩, lockdown := false, unsealFail := 0, bankInUse := 0
    bothBanks := false, dataKey := [], keyId := 0, measurement := [], hukOk := false, notices := [], revoking := [], pending := none
    importState := 0, importSlot := 0, importAbort := 0, sticky := 0, attestAsked := none, attestSig := zeros 96, lifeStatus := 0
    lifeAbort := 0
    dbg := { state := 0, busy := false, scope := 0, failures := 0, challenge := [], issuedAt := 0, answered := false, response := [] }
    counters := noCounts 7 }

/-- R559: a bank that has not been written. -/
def initBank : Bank := { written := false, labelM := [], labelLcs := 0, seq := 0, records := [], keyId := 0, storeKey := [] }

/-- The vault region, OTP and battery register of a device that has not been cast on. -/
def initVaultNv : VaultNv :=
  { banks := [initBank, initBank], fuses := { stage := 0, lock := 0, unlock := 0, owners := List.replicate 4 (zeros 48) }
    battery := { valid := true, zeroiseOwed := false, eraseOwed := false, log := [], overflow := 0 }
    sources := List.replicate 12 { active := false, armed := true, misses := 0 }
    log := [], intent := none, bundle := [], debugCounter := 0, lastKeyId := 0, settings := [], lockdownSince := 0, wasLockdown := false }

/-! ### Meters and the reading pipeline -/

def initMeters : MeterState :=
  { table := [], rekeys := [], joins := [], offers := [], raised := [], prevSlot := 0xFF, prevGen := 0, prevUntil := none, unconfirmed := []
    refusedAt := none, refusedSince := 0, counters := noCounts 7 }

def initNet : NetNv := { gen := 0, mc := 0, mcFloor := 0, join := 0, joinFloor := 0 }

/-- A campaign that is not under way. -/
def initDist : DistState :=
  { queues := [], nextIdent := 1, owed := [], owedCtl := [], outcomes := [], lastTag := 0, campaigns := [], turns := noCounts 5, counters := noCounts 8 }

/-- R411: no tariff table and no image held. -/
def initDistNv : DistNv :=
  { tariffs := [], images := List.replicate 4 { state := 0, object := 0, size := 0, digest := zeros 48, data := [] } }

/-- A lane in service, empty. -/
def initLane : Lane :=
  { mode := .runAhead, input := [], items := [], done := [], gens := noCounts 32, commits := 0, squashes := 0, rewound := 0
    peak := 0, plainItems := 0, commitNo := 0, restarting := [] }

def initLanes : LaneState :=
  { lanes := List.replicate 4 initLane, nextIdent := 1, turn := 0, wrrTurn := 0, credits := noCounts 3
    map := (List.range 64).map (· % 4), moving := [], counters := noCounts 19, second := noCounts 6, summaryAt := 0
    dropsByQueue := noCounts 8, dropEventAt := none, latencyMax := 0, latencyCount := 0, lateSecond := 0, lateEventAt := none }

def initVee : VeeState :=
  { hist := [], toRebuild := [], edit := none, editState := 0, editAbort := 0, counters := noCounts 12, bypassed := 0 }

def initBal : BalState :=
  { groups := [], meters := [], inbox := [], reports := [], series := [], mismatch := [], crossings := [], cmdState := 0
    cmdAbort := 0, bulk := [0, 0, 0], lateAt := none, lateCount := 0, dayClosed := 0, counters := noCounts 9 }

/-! ### Sensing -/

def initChain : Chain :=
  { integ := [0, 0, 0, 0], comb := [0, 0, 0, 0], cicOut := [], hbOut := [], firOut := [], comp := []
    coarse := List.replicate 31 0, cicSettle := 3, hbSettle := 12, settle := 0, coarseSettle := 1, overs := noCounts 4
    overHist := List.replicate 37 false, overBlock := false, overAt := none, pendingReset := false, fenced := false }

def initFir : FirCell :=
  { bank := 0, settle := 1, accSat := false, poly := [false, false], coefs := [[], []], decim := [0, 0], shifts := [17, 17], kinds := [0, 0]
    delays := [0, 0] }

def initPhaseV : PhaseV :=
  { armed := false, armedDown := false, ys := [], half := none, last := none, period := 0, seq := 0, lost := false, lostInBlock := false, good := 0
    since := 0, sag := none, swell := none, periods := 0, span := 0 }

def initPhaseM : PhaseM := { vrms := 0, irms := 0, p := 0, q := 0, s := 0, angle := 0, fracs := noCounts 7 }

def initSums : BlockSums :=
  { ph := List.replicate 3 default, inSq := 0, inN := 0, vecSq := 0, vecN := 0, auxSq := 0, auxSum := 0, auxN := 0 }

/-- R224: the first sync event after cast-on makes an aligning reset. -/
def initSense (energy : List (List Nat)) : SenseState :=
  { chains := List.replicate 8 initChain, fir := List.replicate 13 initFir, phases := List.replicate 3 initPhaseV
    meas := List.replicate 3 initPhaseM, grid := List.replicate 7 0, freq := 0, freqOut := false, gridOfs := 0
    gridDrift := 0, gridRef := 0, sums := initSums, overLast := List.replicate 8 false, gridError := 0, resets := 0, locked := false, needAlign := some 0, syncNow := false, resetMask := 0, energy := energy
    calChanged := false, counters := noCounts 5, overrunAt := none, overruns := 0, dieTemp := 250 }

def initSenseNv : SenseNv := { saved := List.replicate 3 (noCounts 7) }

/-! ### Links -/

/-- R291: a power-line engine with its grid in free run. The noise of a tone is not known before its first measure (R301). -/
def initEngine : Engine :=
  { rx := .search, cycles := [(0, 20000000)], period := 20000000, free := true, freeSince := 0, reanchor := false, usedSeq := none, gain := 0
    gainAt := 0, ms := 0, tracked := 0, hold := 0, blanked := [], firIn := [], firPhase := 0, band := [], symClear := true
    lastSym := [], quiet := 0, syms := [], noise := List.replicate 256 (-32768 * 65536), maps := [], counters := noCounts 13
    overrunAt := none, overruns := 0, limitAt := none, limited := 0, openA := none, ackMine := false, lastTx := 0, lastHops := []
    deadline := 0, unknownEnd := false, listenTo := 0, doneB := none, txReq := none, sendUntil := 0, acks := [], ready := [], access := noCounts 8 }

def initPlc : PlcState :=
  { engines := List.replicate 3 initEngine, v1 := none, links := [], routes := [], lastRoute := [], reports := [], heard := []
    queryAt := [], freeRaised := false, lseq := 0 }

def initDemod : Demod :=
  { channel := 0, mode := 0, state := 0, assigned := false, cell := ⟨0, 0, 0, 0, 0, 0⟩, stamp := 0, gainDb := 0, slot := 0, slotAt := 0, coded := false
    gains := 0, moved := false, next := none, powers := [], due := 0, pairs := [] }

def initPort : RadioPort :=
  { inUse := false, initFailed := false, iqCause := 0, iqSince := 0, triggers := [], lastScript := 0, capture := noCounts 4, ctl := 0
    gainEntry := 0, gainWanted := 0, demods := List.replicate 16 initDemod, tx := [], counters := noCounts 13, overrunAt := none
    overruns := 0, abandonAt := none, abandoned := 0, clipSecond := 0, clipAt := none, power := 0, powerSum := 0, powerBlocks := 0
    dcI := 0, dcQ := 0, iq := List.replicate 384 (0, 0), iqNo := 0, air := none }

def initMac : RadioMac :=
  { sched := [], pending := none, beacons := 0, children := [], slotFrames := [], acks := [], floodAcks := [], ready := []
    blocks := [], dwell := [], counters := noCounts 13, dwellAt := none, deferrals := 0, wait := 0, lastAsn := 2 ^ 40, beaconAsn := 2 ^ 40 }

def initRadio : RadioState :=
  { ports := List.replicate 2 initPort, macs := List.replicate 2 initMac, seen := [], fseq := 0, stepped := [false, false] }

/-! ### Store, uplink, update, cascade -/

def initStore : StoreState :=
  { mode := .mounting, nextAseq := 0, openDay := 0, openMun := 0, openRecs := [], openSince := 0
    streams := List.replicate 4 ⟨none, 0, [], [], 0, false⟩, index := [], indexCount := 0, snaps := [], copies := [], imagesOwed := [], dueUnits := []
    weak := [], ckpting := false, ckptLocs := [], formatReady := false, fullAt := 0, discarded := 0, abort := 0
    counters := noCounts 16, rebuildAt := none, rebuildSecond := 0, queryTotal := 0, queryState := 0, timing := 0 }

/-- An array that was never formatted. -/
def initStoreNv : StoreNv :=
  { root := none, map := [], journal := [], otherHalf := false, jseq := 0, sbs := [], dies := [], days := [], pages := [], pseq := 0
    jpseq := 0, ringNext := 0, durable := none }

def initExport (next cum : Nat) : ExportState :=
  { state := 0, secondary := false, next := next, cum := cum, outstanding := [], window := 0, ackHigh := none, building := []
    buildCount := 0, buildAt := 0, turn := 0, credits := [], session := none, prevCum := cum, slot := 0xFF, gen := 0, keyWaitAt := none
    keyRaised := false, lastSentAt := 0, lastAckAt := 0, probeAt := 0, stalledAt := 0, shedAt := none, shedSince := 0, persistAt := 0
    counters := noCounts 6 }

def initUplink (nv : UplinkNv) : UplinkState :=
  { eth := List.replicate 2 { up := false, speed := 0, counters := noCounts 9 }, exp := initExport nv.floor nv.cum
    imp := { gateways := [], returns := [], seq := nv.importFloor, rejectAt := none, counters := noCounts 6 } }

/-- Sequences of export and import start at 1 (log entry 6). -/
def initUplinkNv : UplinkNv := { floor := 1, cum := 0, importFloor := 1 }

def initUpdate : UpdateState :=
  { port := { inputs := [], outputs := [], crcErr := false, overflow := false, errors := noCounts 4, errorAt := none }, state := 0
    total := 0, next := 0, opened := false, lastType := 0, result := 0, abort := 0, hoVersion := 0, step := 0, startedAt := 0
    stepAt := 0, pauseAt := none, probationEnd := 0, recovery := none
    activeSet := 0, counters := noCounts 9 }

/-- An image slot that holds nothing. -/
def emptyFw : FwSlot :=
  { image := [], valid := false, version := 0, floor := 0, h := [], wrap := [], hoMin := 0, hoMax := 0, schemas := [] }

/-- R603: slot A holds the image loaded at manufacture; its image bytes and wrap are not part of the model. -/
def initUpdateNv : UpdateNv :=
  { slots := [{ image := [], valid := true, version := Config.factoryVersion, floor := 0, h := Config.factoryH, wrap := []
                hoMin := Config.factoryHandover 0, hoMax := Config.factoryHandover 1, schemas := Config.factorySchemas }, emptyFw]
    active := 0, previous := 1, probation := false, boots := 0, floor := 0, schemaDue := [], staged := false }

def initIhPort : IhPort :=
  { up := false, neighbour := 0xFF, neighbourEui := 0, txSeq := 0, rx := none, unacked := [] }

def initCasc : CascState :=
  { own := 0xFF, masterEui := 0, heard := [], conflict := false, formed := false, enumPort := 2, hops := 0, leaves := 0
    upstream := 0xFF, ports := List.replicate 2 initIhPort, nodes := [], topology := 0, brokenAt := 0, breakIdx := none, dir := []
    kept := [], noted := [], forwards := [], returns := [], updates := [], reports := [], rseq := 0, records := [], resent := 0
    seenAt := 0, masterLost := false, lostAt := 0, leafCounts := [], counted := [], requests := [], results := [], epochs := []
    dropAt := none, drops := 0, counters := noCounts 10 }

end Sys2Proof.Machine
end

