-- ==== Sys2Proof/Machine/State.lean ====
section
/-!
DEFINITION. The state of the OT1048, its reset value, and the reasons for which a step can stop.
-/
namespace Sys2Proof.Machine

/-- Raised by nobody: every command of the table has an effect in every state. Safe. -/
inductive Fault where
  /-- No command raises it: the manual gives each of its steps an effect, or none, in every state. Safe. -/
  | none
deriving DecidableEq, Repr

/-- Why a command has no meaning in this model. -/
inductive Refusal where
  /-- Raised by an arm of exec whose command is not modelled yet, with its mnemonic. Safe. -/
  | notModelled (mnemonic : String)
deriving DecidableEq, Repr

/-- What leaves the device, in the order in which it leaves: the model's own record of outputs (log entry 4). -/
inductive Out where
  /-- The answer to a command row written through the dictionary: object and abort code. -/
  | answer (idx sub code : Nat)
  /-- The value that a read row returns: object and bytes. -/
  | value (idx sub : Nat) (bytes : Bytes)
  /-- The vault's answer to a key request: consumer, slot, reason (0 delivered). -/
  | keyReply (consumer slot code : Nat)
  /-- A Beyqua frame on phase `engine` (0 to 2): its header, the tones of every symbol, and the DAC samples (R287, R292). -/
  | plc (engine : Nat) (header : Bytes) (tones : List (List Nat)) (samples : List Int)
  /-- A PPDU of a radio port: start instant as a counter value, channel, mode, coded, PHR and PSDU, and the transmission whose samples the pins
  carry (R339, R353, R356). -/
  | radio (port startAt channel mode : Nat) (coded : Bool) (phr : Nat) (psdu : Bytes) (air : Air)
  /-- The bytes of one operation of a port's SPI master, its SpiMode and its clock in MHz (R341). -/
  | spi (port mode mhz : Nat) (bytes : Bytes)
  /-- A UDP datagram of the device's own: the priority of its VLAN tag, where to, from which port, payload (R491, R494, R513). -/
  | udp (pcp : Nat) (via : Via) (source : Nat) (payload : Bytes)
  /-- An Ethernet frame of the firmware as it left a port (R514). -/
  | eth (port : Nat) (frame : Bytes)
  /-- A message on an Ihlost port (R626). -/
  | ihlost (port : Nat) (message : Bytes)
  /-- A time-control block on an Ihlost port: kind 1 a heartbeat, 2 a SAMPLE_SYNC epoch with its instant (R628, R640). -/
  | beat (port kind : Nat) (instant : Int)
  /-- Bytes clocked out of the service port (R592). -/
  | svc (bytes : Bytes)
deriving DecidableEq, Repr

/-- The state of the device. -/
structure State where
  pending : List Instr
  out : List Out
  fresh : Nat
  cfg : CfgState
  dict : DictState
  queue : QueueState
  time : TimeState
  health : HealthState
  fabric : FabricState
  isl : IslandState
  power : PowerState
  powerNv : PowerNv
  board : Board
  vault : VaultState
  vaultNv : VaultNv
  mtr : MeterState
  net : NetNv
  dist : DistState
  distNv : DistNv
  lane : LaneState
  vee : VeeState
  bal : BalState
  sense : SenseState
  senseNv : SenseNv
  plc : PlcState
  radio : RadioState
  store : StoreState
  storeNv : StoreNv
  up : UplinkState
  upNv : UplinkNv
  fw : UpdateState
  fwNv : UpdateNv
  casc : CascState
deriving DecidableEq, Repr

/-- The device as delivered, at its first reset: no command waits, memory holds nothing of its owner's, and cast-on (CAST_ON)
has not run. What is held over cold resets has the values of log entry 6. -/
def State.reset : State :=
  { pending := [], out := [], fresh := 0, cfg := initCfg, dict := initDict (List.replicate 5 (0, 0)), queue := initQueues
    time := initTime 0 0 0 0 false 0 (List.replicate 8 none), health := initHealth, fabric := initFabric, isl := initIslands, power := initPower 0
    powerNv := initPowerNv, board := initBoard, vault := initVault, vaultNv := initVaultNv, mtr := initMeters, net := initNet
    dist := initDist, distNv := initDistNv, lane := initLanes, vee := initVee, bal := initBal
    sense := initSense (List.replicate 3 (noCounts 7)), senseNv := initSenseNv, plc := initPlc, radio := initRadio
    store := initStore, storeNv := initStoreNv, up := initUplink initUplinkNv, upNv := initUplinkNv, fw := initUpdate
    fwNv := initUpdateNv, casc := initCasc }

end Sys2Proof.Machine
end

