-- ==== Sys2Proof/Machine/Ops.lean ====
section
/-!
DEFINITION. The named operations that every family uses: the configuration a block sees (R34, R49), time in a domain
(R521), hardware queues (R425 to R439), events (R79 to R85), error reports (R672), outputs and free values.
-/
namespace Sys2Proof.Machine

/-! ### Objects and their values -/

/-- The row of the dictionary that describes an object, if one does (R46). -/
def rowOf (idx sub : Nat) : Option ObjRow :=
  objChunks.findSome? (fun c => if c.1 ≤ idx ∧ idx ≤ c.2.1 then c.2.2.find? (fun r => r.covers idx sub) else none)

/-- R208: the objects whose indices lie in the range of the class records and that are not settings of a class (log entry 72). -/
def namedInClasses (idx sub : Nat) : Bool :=
  decide ((idx = 0x4410 ∧ sub = 0) ∨ (idx = 0x4411 ∧ sub = 0) ∨ (idx = 0x4412 ∧ sub ≤ 12) ∨ (idx = 0x4420 ∧ sub ≤ 9) ∨ (idx = 0x4421 ∧ sub = 0))

/-- R208: whether an object is one of the class records 0x4400 to 0x443F. -/
def isClassObj (idx sub : Nat) : Bool := decide (0x4400 ≤ idx ∧ idx ≤ 0x443F) && !namedInClasses idx sub

/-- The key under which a value is kept. -/
def objKey (idx sub : Nat) : Nat := idx * 256 + sub

/-- R440: SkeinLimit defaults, in KiB, Q0 to Q63. -/
def skeinDefault (q : Nat) : Nat :=
  if q ≤ 6 then 16384 else if q = 7 then 1024 else if q ≤ 15 then 4096
  else if q = 18 then 4096 else if q ≤ 20 then 16384 else if q ≤ 23 then 4096
  else if q ≤ 31 then 1024 else if q ≤ 33 then 2048 else if q ≤ 36 then 1024
  else if q = 37 then 2048 else if q = 38 then 256 else if q = 39 then 4096
  else if q ≤ 41 then 16384 else if q ≤ 43 then 1024 else if q = 44 then 256
  else if q ≤ 47 then 1024 else if q = 48 then 2048 else if q = 49 then 256
  else if q = 50 then 64 else if q = 51 then 256 else if q = 52 then 1024
  else if q = 53 then 256 else 1024

/-- Defaults that differ within one row: by queue (R440), channel, domain, input, kind, tamper source (R570), strap,
grade or fuse. -/
def specialDefault (master : Bool) (idx sub : Nat) : Option Bytes :=
  if 0x4810 ≤ idx ∧ idx ≤ 0x484F ∧ sub = 1 then some (leBytes 2 (skeinDefault (idx - 0x4810)))
  else if 0x2001 ≤ idx ∧ idx ≤ 0x2008 ∧ sub = 6 then
    some (leBytes 8 ((if idx ≤ 0x2003 then 500 else if idx ≤ 0x2007 then 100 else 1) * 2 ^ 32))
  else if idx = 0x5401 ∧ sub = 1 then some (leBytes 1 (if master then 1 else 3))
  else if idx = 0x5403 ∧ sub = 1 then some (leBytes 1 5)
  else if idx = 0x6040 ∧ sub = 3 then some (leBytes 4 1000)
  else if idx = 0x6040 ∧ sub = 4 then some (leBytes 1 16)
  else if (idx = 0x6414 ∨ idx = 0x6419) ∧ sub = 4 then some (leBytes 1 0)
  else if idx = 0x5830 ∧ 1 ≤ sub ∧ sub ≤ 12 then some (leBytes 1 (if sub ≤ 8 then 0 else 1))
  else if idx = 0x5831 ∧ sub = 5 then some (leBytes 1 (if Config.gradeX then 135 else 115))
  else if (idx = 0x5000 ∨ idx = 0x5001) ∧ sub = 4 then some (padTo 6 (Config.macAddress (idx - 0x5000)))
  else if idx = 0x1001 ∧ sub = 0 then some (leBytes 8 Config.deviceEui)
  else none

/-- The default value of an object, as its object table gives it. -/
def defaultOf (master : Bool) (idx sub : Nat) : Bytes :=
  match specialDefault master idx sub with
  | some b => b
  | none =>
    match rowOf idx sub with
    | some r => r.dflt.bytes r.ty.size
    | none => []

/-- The block of a power-line engine. -/
def plcBlk (e : Nat) : Blk := if e = 0 then .plc0 else if e = 1 then .plc1 else .plc2

/-- R34: the block whose boundary an object's value waits for. -/
def homeBlk (idx : Nat) : Blk :=
  if idx < 0x2000 then .control
  else if idx < 0x2400 then .sensing
  else if idx < 0x2800 then .balance
  else if idx < 0x3000 then
    (if idx = 0x2802 then .plc1 else if idx = 0x2803 then .plc2 else .plc0)
  else if idx < 0x3800 then
    (if idx = 0x3002 ∨ idx = 0x3004 ∨ idx = 0x3101 then .radio1 else .radio0)
  else if idx < 0x3C00 then .lanes
  else if idx < 0x4000 then .distribution
  else if idx < 0x4400 then .lanes
  else if idx < 0x4800 then (if idx < 0x4440 then .lanes else .vee)
  else if idx < 0x4C00 then .queues
  else if idx < 0x5000 then .store
  else if idx < 0x5400 then .ethernet
  else if idx < 0x5800 then .time
  else if idx < 0x5C00 then .vault
  else if idx < 0x5E00 then .control
  else if idx < 0x6000 then .cascade
  else if idx ≤ 0x6013 then .fabric
  else .control

/-- R32 step 4: every block that a value affects. -/
def blocksOf (idx : Nat) : List Blk :=
  if 0x4400 ≤ idx ∧ idx ≤ 0x443F then [.lanes, .vee, .balance]
  else if idx = 0x2800 ∨ idx = 0x2850 then [.plc0, .plc1, .plc2]
  else if idx = 0x3000 ∨ idx = 0x3005 ∨ idx = 0x3010 ∨ idx = 0x3102 then [.radio0, .radio1]
  else if 0x2430 ≤ idx ∧ idx ≤ 0x246F then [.lanes, .balance]
  else if idx = 0x2400 ∨ idx = 0x2410 ∨ idx = 0x2411 then [.lanes, .balance]
  else [homeBlk idx]

/-- The set that has been published and not yet applied (R32, steps 5 and 6). -/
def CfgState.publishing (c : CfgState) : Option Sealed :=
  match c.sets with
  | p :: _ => if p.published then some p else none
  | [] => none

/-- Values laid over others. -/
def overlay (new old : Settings) : Settings := new.foldl (fun acc p => insertKey p.1 p.2 acc) old

/-- The settings in force in a block: those of the applied epoch, with those of the published epoch once the block has
switched (R34). -/
def State.settingsFor (s : State) (b : Blk) : Settings :=
  match s.cfg.publishing with
  | some p => if p.switched.contains b then overlay p.values s.cfg.active else s.cfg.active
  | none => s.cfg.active

/-- The value of an object in given settings, or its default. -/
def State.valIn (s : State) (st : Settings) (idx sub : Nat) : Bytes :=
  match lookupKey (objKey idx sub) st with
  | some v => v
  | none => defaultOf s.board.cascMaster idx sub

/-- The value of an object as a block sees it. -/
def State.valB (s : State) (b : Blk) (idx sub : Nat) : Bytes := s.valIn (s.settingsFor b) idx sub

/-- The value of an object as its own block sees it. -/
def State.val (s : State) (idx sub : Nat) : Bytes := s.valB (homeBlk idx) idx sub

/-- The same, as a number. -/
def State.cfgN (s : State) (idx sub : Nat) : Nat := leNat (s.val idx sub)

/-- The same, as a signed number. -/
def State.cfgI (s : State) (idx sub : Nat) : Int :=
  let b := s.val idx sub
  untwos b.length (leNat b)

/-- A number as a given block sees it. -/
def State.cfgB (s : State) (b : Blk) (idx sub : Nat) : Nat := leNat (s.valB b idx sub)

/-- A number in given settings. -/
def State.cfgIn (s : State) (st : Settings) (idx sub : Nat) : Nat := leNat (s.valIn st idx sub)

/-- A signed number in given settings. -/
def State.cfgIntIn (s : State) (st : Settings) (idx sub : Nat) : Int :=
  let b := s.valIn st idx sub
  untwos b.length (leNat b)

/-- R50: whether an object is of persistence S. -/
def persists (idx sub : Nat) : Bool :=
  match rowOf idx sub with
  | some r => r.save == .s
  | none => false

/-- The value in force of an RW object, written at once (R48); one of persistence S is written into both settings copies
(R50). -/
def State.setRw (s : State) (idx sub : Nat) (v : Bytes) : State :=
  let put := insertKey (objKey idx sub) v
  { s with cfg := { s.cfg with
      active := put s.cfg.active
      copies := if persists idx sub then s.cfg.copies.map (fun c => { c with values := put c.values }) else s.cfg.copies } }

/-! ### Time -/

/-- The free-running counter (R517). -/
def State.now (s : State) : Nat := s.time.counter

/-- R521: a domain's time at a counter value, in units of 2^-16 ns: O + (C − C0) × P, the product truncated. -/
def timeAt (offset : Int) (period anchor c : Nat) : Int := offset + ((c : Int) - (anchor : Int)) * (period : Int) / 2 ^ 24

/-- The time of a member domain at a counter value. -/
def Domain.at (d : Domain) (c : Nat) : Int := timeAt d.offset d.period d.anchor c

/-- R533: the output of pair `k` at a counter value: that of the selected member while tied, its own while slewing. -/
def State.pairAt (s : State) (k c : Nat) : Int :=
  let p := at' s.time.pairs k
  if p.slewing then timeAt p.offset p.period p.anchor c
  else (at' s.time.domains (2 * k + if p.partner then 1 else 0)).at c

/-- R532: domain `k` as its consumers read it: the pair output for TD0 and TD2 while their pair is enabled. -/
def State.tdAt (s : State) (k c : Nat) : Int :=
  if k = 0 ∧ (at' s.time.pairs 0).enabled then s.pairAt 0 c
  else if k = 2 ∧ (at' s.time.pairs 1).enabled then s.pairAt 1 c
  else (at' s.time.domains k).at c

/-- Domain `k` now, in units of 2^-16 ns. -/
def State.td (s : State) (k : Nat) : Int := s.tdAt k s.now

/-- TD0 now, in units of 2^-16 ns. -/
def State.td0 (s : State) : Int := s.td 0

/-- R532: SYNC of domain `k` as its consumers read it. -/
def State.syncOf (s : State) (k : Nat) : Bool :=
  if k = 0 ∧ (at' s.time.pairs 0).enabled then
    (at' s.time.domains (if (at' s.time.pairs 0).partner then 1 else 0)).sync
  else if k = 2 ∧ (at' s.time.pairs 1).enabled then
    (at' s.time.domains (if (at' s.time.pairs 1).partner then 3 else 2)).sync
  else (at' s.time.domains k).sync

/-- Nanoseconds of a time in units of 2^-16 ns; the fraction is truncated (R521). -/
def nsOf (t : Int) : Int := t / 65536

/-- Whole seconds of a time in units of 2^-16 ns. -/
def secOf (t : Int) : Int := nsOf t / 1000000000

/-- R47: TIME80 of a time in units of 2^-16 ns. -/
def time80 (t : Int) : Bytes :=
  leInt 8 (secOf t) ++ leBytes 4 (nsOf t % 1000000000).toNat

/-- The time in units of 2^-16 ns that a TIME80 holds. -/
def ofTime80 (b : Bytes) : Int := ((fieldLE b 0 8 * 1000000000 + fieldLE b 8 4) * 65536 : Nat)

/-- R539: TAI − UTC in seconds. -/
def State.utcOffset (s : State) : Int := s.cfgI 0x5440 1

/-- R539: UTC seconds of a TD0 time. -/
def State.utcOf (s : State) (t : Int) : Int := secOf t - s.utcOffset

/-- UTC seconds now. -/
def State.utcNow (s : State) : Int := s.utcOf s.td0

/-- The UTC day now, numbered from 1970-01-01. -/
def State.utcDay (s : State) : Nat := (s.utcNow / 86400).toNat

/-- R10: the interval ID of a UTC second for an interval of `len` minutes. -/
def intervalOf (utc : Int) (len : Nat) : Nat := (utc / 60 / len).toNat

/-- One more on count `i` (from 1) of 0x5490. -/
def State.timeCount (s : State) (i : Nat) : State :=
  { s with time := { s.time with counters := upd s.time.counters (i - 1) (· + 1) } }

/-! ### Hardware queues -/

/-- The tag of a cell, laid out as R425 gives it. -/
def QCell.tag (c : QCell) : Nat :=
  b2n c.first + 2 * b2n c.last + 4 * b2n c.abort + 8 * c.valid

/-- R425: the cell that a tag and 64 data bytes spell; data beyond VALID reads as 0x00. -/
def cellOf (tag : Nat) (data : Bytes) : QCell :=
  let v := bits tag 3 6
  { data := padTo 64 (data.take (v + 1)), first := bit tag 0, last := bit tag 1, abort := bit tag 2, valid := v, pushedAt := 0 }

/-- The cells of a packet of bytes (R425). -/
def packetCells (fuel : Nat) (b : Bytes) (isFirst : Bool) : List QCell :=
  match fuel with
  | 0 => []
  | fuel + 1 =>
    if b.length ≤ 64 then
      [{ data := padTo 64 b, first := isFirst, last := true, abort := false, valid := b.length - 1, pushedAt := 0 }]
    else
      { data := b.take 64, first := isFirst, last := false, abort := false, valid := 63, pushedAt := 0 } ::
        packetCells fuel (b.drop 64) false

/-- The cells of a packet, at most 32 (R425). -/
def cellsOf (b : Bytes) : List QCell := packetCells 32 b true

/-- The valid bytes of a cell. -/
def QCell.bytes (c : QCell) : Bytes := c.data.take (c.valid + 1)

/-- R435: the level of a queue in cells. -/
def Queue.level (q : Queue) : Nat := q.head.length + 8 * q.skein.length + q.tail.length

/-- R429: blocks of the pool in use. -/
def QueueState.poolUsed (q : QueueState) : Nat := q.queues.foldl (fun n x => n + x.skein.length) 0

/-- R429: whether the pool has a free block. -/
def QueueState.poolFree (q : QueueState) : Bool := decide (q.poolUsed < q.poolMiB * 2048)

/-- R428: cells that the skein of queue `i` may hold. -/
def State.skeinLimit (s : State) (i : Nat) : Nat := 16 * s.cfgN (0x4810 + i) 1

/-- R430: a queue whose skein holds more than a lowered limit is full until its skein is below the limit. -/
def Queue.aboveFor (q : Queue) (limit : Nat) : Bool :=
  decide (limit < 8 * q.skein.length) || (q.aboveLimit && q.skein != [] && decide (limit ≤ 8 * q.skein.length))

/-- R428: the capacity of queue `i` in cells; while the pool is exhausted the queue counts as being at its skein limit
(R429), and a queue above a lowered limit takes nothing (R430). -/
def State.queueCap (s : State) (i : Nat) : Nat :=
  let q := at' s.queue.queues i
  if q.aboveFor (s.skeinLimit i) then 0
  else if s.queue.poolFree then 32 + s.skeinLimit i else 32 + min (8 * q.skein.length) (s.skeinLimit i)

/-- R428: whether the oldest 8 tail cells may move to the skein. -/
def Queue.canSpill (q : Queue) (limit : Nat) (poolFree : Bool) : Bool :=
  decide (8 ≤ q.tail.length ∧ (q.skein ≠ [] ∨ 16 ≤ q.head.length) ∧ 8 * q.skein.length < limit) && poolFree

/-- R428: the oldest 8 tail cells become the youngest skein block. -/
def Queue.spill (q : Queue) : Queue :=
  { q with skein := q.skein ++ [q.tail.take 8], tail := q.tail.drop 8 }

/-- R428: whether the oldest skein block may move to the head. -/
def Queue.canRefill (q : Queue) : Bool := decide (q.skein ≠ [] ∧ q.head.length + 8 ≤ 16)

/-- R428: the oldest skein block moves to the head. -/
def Queue.refill (q : Queue) : Queue :=
  match q.skein with
  | b :: r => { q with head := q.head ++ b, skein := r }
  | [] => q

/-- R428: with the skein empty, tail cells move to the head while it has room. -/
def Queue.tailToHead (q : Queue) : Queue :=
  if q.skein = [] then
    { q with head := q.head ++ q.tail.take (16 - q.head.length), tail := q.tail.drop (16 - q.head.length) }
  else q

/-- R428: a cell goes to the head when skein and tail are empty and the head has room, otherwise to the tail when it
has room. -/
def Queue.place (q : Queue) (c : QCell) : Option Queue :=
  if q.skein = [] ∧ q.tail = [] ∧ q.head.length < 16 then some { q with head := q.head ++ [c] }
  else if q.tail.length < 16 then some { q with tail := q.tail ++ [c] }
  else none

/-- R431: moves between SRAM and DRAM run alongside the pushes: a cell finds its place after a spill, or after a refill
and the tail's moves, when it finds none at once. -/
def Queue.placeMoving (q : Queue) (limit : Nat) (poolFree : Bool) (c : QCell) : Option Queue :=
  match q.place c with
  | some q' => some q'
  | none =>
    if q.canSpill limit poolFree then q.spill.place c
    else (if q.canRefill then q.refill else q).tailToHead.place c

/-- R435, R436: the marks after an operation. The two results after the queue say whether 0x4801 and 0x4802 are due. -/
def Queue.mark (q : Queue) (h l : Nat) : Queue × Bool × Bool :=
  let hl := decide (h ≠ 0 ∧ h ≤ q.level)
  let ll := decide (l ≠ 0xFFFFFFFF ∧ q.level ≤ l)
  let hc := hl && !q.highLive
  let lc := ll && !q.lowLive
  ({ q with
      highLive := hl, lowLive := ll
      highCrossed := decide (h ≠ 0) && (q.highCrossed || hc)
      lowCrossed := decide (l ≠ 0xFFFFFFFF) && (q.lowCrossed || lc)
      highCount := if h = 0 then 0 else if hc then satAdd maxU8 q.highCount 1 else q.highCount
      lowCount := if l = 0xFFFFFFFF then 0 else if lc then satAdd maxU8 q.lowCount 1 else q.lowCount },
   hc && !q.highCrossed, lc && !q.lowCrossed)

/-- An event before its time stamp: code, cell, meter, data. -/
structure RawEvent where
  code : Nat
  cell : Nat
  meter : Nat
  data : Bytes
deriving DecidableEq, Repr

/-- R12: "no meter" in an event. -/
def noMeter : Nat := 0xFFFFFFFF

/-- A queue of the state replaced, its marks taken again, and the events of its crossings. -/
def State.putQueue (s : State) (i : Nat) (q : Queue) : State × List RawEvent :=
  let h := s.cfgN (0x4810 + i) 2
  let l := s.cfgN (0x4810 + i) 3
  let m := q.mark h l
  let ev := fun code mk => RawEvent.mk code m.1.servedBy noMeter (leBytes 4 i ++ leBytes 4 m.1.level ++ leBytes 4 mk)
  ({ s with queue := { s.queue with queues := s.queue.queues.set i { m.1 with aboveLimit := q.aboveFor (s.skeinLimit i) } } },
   (if m.2.1 then [ev 0x4801 h] else []) ++ (if m.2.2 then [ev 0x4802 l] else []))

/-- One more on count `i` (from 1) of 0x48D0 QueueTotals. -/
def State.queueTotal (s : State) (i n : Nat) : State :=
  { s with queue := { s.queue with totals := upd s.queue.totals (i - 1) (· + n) } }

/-- R429, R431: blocks that a push moved between SRAM and DRAM are counted; a block read back ends an exhaustion of the pool. -/
def State.countMoves (s : State) (before after : Queue) : State :=
  if before.skein.length < after.skein.length then s.queueTotal 2 1
  else if after.skein.length < before.skein.length then
    ({ s with queue := { s.queue with exhausted := false } }).queueTotal 3 1
  else s

/-- R425, R426, R428, R434, R437: one cell pushed by a producer. None: the queue is full, fenced or owned by another
producer, and the producer waits. `reserved` says that the cell goes into the producer's reservation (R438). -/
def State.pushRaw (s : State) (i producer : Nat) (reserved : Bool) (c : QCell) : Option (State × List RawEvent) :=
  let q0 := at' s.queue.queues i
  let q := { q0 with reserved := if reserved then q0.reserved - 1 else q0.reserved }
  if q.fenced then none
  else if q.owner ≠ none ∧ q.owner ≠ some producer then none
  else if q.cutting then
    some ({ s with queue := { s.queue with
              queues := s.queue.queues.set i (if c.last then { q with cutting := false, owner := none, openCells := 0 } else q) } }.queueTotal 4 1, [])
  else if q.losing then
    some ({ s with queue := { s.queue with
              queues := s.queue.queues.set i (if c.last then { q with losing := false, owner := none, openCells := 0 } else q) } }, [])
  else
    let n := if c.first then 1 else q.openCells + 1
    let c0 := { c with pushedAt := s.now }
    let c' := if n = 32 ∧ !c.last then { c0 with last := true, abort := true } else c0
    let q1 := { q with owner := if c.last then none else some producer, openCells := if c.last then 0 else n,
                       cutting := decide (n = 32) && !c.last }
    if q.dropPending then
      some ({ s with queue := { s.queue with
                queues := s.queue.queues.set i
                  { q1 with dropPending := !c'.last, dropDone := c'.last, discarded := q1.discarded + 1 } } }.queueTotal 1 1, [])
    else if !reserved && decide (s.queueCap i ≤ q.level + q.reserved) then none
    else
      match q1.placeMoving (s.skeinLimit i) s.queue.poolFree c' with
      | none => none
      | some q2 => some (((s.countMoves q q2).queueTotal 1 1).putQueue i q2)

/-- R437: a producer that waits: the sticky BACKPRESSURED bit. -/
def State.backpressure (s : State) (i : Nat) : State :=
  { s with queue := { s.queue with queues := upd s.queue.queues i (fun q => { q with backpressured := true }) } }

/-- Cells pushed one after another; none when one of them does not enter. -/
def State.pushAllRaw (s : State) (i producer : Nat) (reserved : Bool) : List QCell → Option (State × List RawEvent)
  | [] => some (s, [])
  | c :: r =>
    match s.pushRaw i producer reserved c with
    | none => none
    | some (s1, e1) =>
      match s1.pushAllRaw i producer reserved r with
      | none => none
      | some (s2, e2) => some (s2, e1 ++ e2)

/-- R79: an event record as 32 bytes. -/
def EventRec.bytes (e : EventRec) : Bytes :=
  time80 e.time ++ leBytes 2 e.code ++ leBytes 2 e.cell ++ leBytes 4 e.meter ++ padTo 12 e.data

/-- R81, R440: the event queue of a source: by region, the chip level in Q30, MeterEvent in Q31. -/
def eventQueue (code cell : Nat) : Nat :=
  if code = 0x3806 then 31 else
  let r := cell / 8192
  if r ≤ 5 then 24 + r else 30

/-- R82: whether a subscription selects an event. -/
def Subscription.matches (u : Subscription) (e : EventRec) : Bool :=
  decide (u.node = 0) && (decide (u.cellFilter = 0xFFFF) || decide (u.cellFilter = e.cell)) &&
    u.ranges.any (fun p => decide (p.1 ≤ e.code ∧ e.code ≤ p.2))

/-- R84, R85: an event is buffered for a subscription, or dropped at 256; it takes an ordinal either way. -/
def Subscription.take (u : Subscription) (now : Nat) (rec : Bytes) : Subscription :=
  if u.buffered.length < 256 then
    { u with buffered := u.buffered ++ [⟨u.ordinal, now, rec⟩], ordinal := u.ordinal + 1 }
  else { u with ordinal := u.ordinal + 1, dropped := sat32 u.dropped }

/-- R84: when the first of the pending events came. -/
def Subscription.firstAt (u : Subscription) : Nat := (u.buffered.head?.map (·.since)).getD 0

/-- R81: the dictionary engine delivers an event to the subscriptions that select it. -/
def State.deliver (s : State) (e : EventRec) : State :=
  { s with dict := { s.dict with
      subs := s.dict.subs.map (Option.map (fun u => if u.matches e then u.take s.now e.bytes else u)) } }

/-- R579: the vault log takes every event of 0x5801 to 0x580D, the last 256 of them. -/
def State.vaultLogTake (s : State) (e : EventRec) : State :=
  if 0x5801 ≤ e.code ∧ e.code ≤ 0x580D then
    let l := s.vaultNv.log ++ [e.bytes]
    { s with vaultNv := { s.vaultNv with log := l.drop (l.length - 256) } }
  else s

/-- R81: an event enters its queue, or waits at its source. Crossings that its own push causes are raised in turn;
the first argument bounds how many follow one another. -/
def State.emitRec : Nat → State → EventRec → State
  | 0, s, e =>
    { s with queue := { s.queue with waiting := s.queue.waiting ++ [WaitingEvent.mk (eventQueue e.code e.cell) e s.now] } }
  | n + 1, s, e =>
    let i := eventQueue e.code e.cell
    if s.queue.waiting.any (fun w => w.queue == i) then
      ({ s with queue := { s.queue with waiting := s.queue.waiting ++ [WaitingEvent.mk i e s.now] } }).backpressure i
    else
      match s.pushAllRaw i e.cell false (cellsOf e.bytes) with
      | none => ({ s with queue := { s.queue with waiting := s.queue.waiting ++ [WaitingEvent.mk i e s.now] } }).backpressure i
      | some (s1, evs) =>
        evs.foldl (fun st r => State.emitRec n st ⟨st.td0, r.code, r.cell, r.meter, r.data⟩) (s1.deliver e)

/-- R79, R81: an event is raised now. -/
def State.emit (s : State) (code cell meter : Nat) (data : Bytes) : State :=
  let e : EventRec := ⟨s.td0, code, cell, meter, data⟩
  (s.vaultLogTake e).emitRec 4 e

/-- An event about no meter. -/
def State.event (s : State) (code cell : Nat) (data : Bytes) : State := s.emit code cell noMeter data

/-- Events of queue crossings are raised. -/
def State.emitAll (s : State) (evs : List RawEvent) : State :=
  evs.foldl (fun st r => st.emit r.code r.cell r.meter r.data) s

/-- Events waiting for a queue are placed in order while there is room (R81). -/
def State.placeWaiting (s : State) (i : Nat) : State :=
  let mine := s.queue.waiting.filter (fun w => w.queue == i)
  let rest := s.queue.waiting.filter (fun w => w.queue != i)
  mine.foldl (fun st w => st.emitRec 4 w.record) { s with queue := { s.queue with waiting := rest } }

/-- Whether an event of a code may be raised again: at most one per second (R59, R437 and others). -/
def State.perSecond (s : State) (last : Option Nat) : Bool :=
  match last with
  | none => true
  | some t => decide (t + cSec 1 ≤ s.now)

/-- A cell pushed, with the events of its crossings. -/
def State.pushCell (s : State) (i producer : Nat) (reserved : Bool) (c : QCell) : Option State :=
  match s.pushRaw i producer reserved c with
  | none => none
  | some (s1, evs) => some (s1.emitAll evs)

/-- A whole packet of an internal producer; none when it must wait (R437). -/
def State.pushPacket (s : State) (i producer : Nat) (b : Bytes) : Option State :=
  match s.pushAllRaw i producer false (cellsOf b) with
  | none => none
  | some (s1, evs) => some (s1.emitAll evs)

/-- R437: a packet of an internal producer, which waits with the BACKPRESSURED bit set when the queue is full. The
second result says whether the packet entered. -/
def State.sendPacket (s : State) (i producer : Nat) (b : Bytes) : State × Bool :=
  match s.pushPacket i producer b with
  | some s1 => (s1, true)
  | none => (s.backpressure i, false)

/-- R437: a packet of a non-stalling producer is dropped whole where it does not fit at once, and counted; OVERRUN is
set and 0x4803 raised at most once per second per queue, with the packets dropped since the last (log entry 76). -/
def State.overrun (s : State) (i : Nat) : State :=
  let q := at' s.queue.queues i
  let q1 := { q with overruns := q.overruns + 1, overrun := true, droppedSince := q.droppedSince + 1 }
  if s.perSecond q.overrunEventAt then
    ({ s with queue := { s.queue with queues := s.queue.queues.set i { q1 with overrunEventAt := some s.now, droppedSince := 0 } } }).event
      0x4803 q.servedBy (leBytes 4 i ++ leBytes 4 q1.droppedSince)
  else { s with queue := { s.queue with queues := s.queue.queues.set i q1 } }

/-- R437: a packet of a non-stalling producer. The second result says whether it entered. -/
def State.pushOrDrop (s : State) (i producer : Nat) (b : Bytes) : State × Bool :=
  match s.pushPacket i producer b with
  | some s1 => (s1, true)
  | none => (s.overrun i, false)

/-- R438: a reservation of `n` cells; none when the producer must wait. -/
def State.reserve (s : State) (i n : Nat) : Option State :=
  let q := at' s.queue.queues i
  if q.fenced ∨ s.queueCap i < q.level + q.reserved + n then none
  else some { s with queue := { s.queue with queues := s.queue.queues.set i { q with reserved := q.reserved + n } } }

/-- R438: what is left of a reservation is released. -/
def State.release (s : State) (i n : Nat) : State :=
  { s with queue := { s.queue with queues := upd s.queue.queues i (fun q => { q with reserved := q.reserved - n }) } }

/-- R433: a pop by the queue's consumer: the oldest cell in the head, or an underrun that returns the last cell. -/
def State.popCell (s : State) (i : Nat) : State × QCell × Bool :=
  let q := (at' s.queue.queues i).tailToHead
  match q.head with
  | [] =>
    ({ s with queue := { s.queue with
        queues := s.queue.queues.set i { q with underrun := true, underruns := q.underruns + 1 } } }, q.lastPop, false)
  | c :: r =>
    if q.dropPending ∨ q.fenced then
      ({ s with queue := { s.queue with
          queues := s.queue.queues.set i { q with underrun := true, underruns := q.underruns + 1 } } }, q.lastPop, false)
    else
      let q1 := ({ q with head := r, lastPop := c, popped := true, dropDone := false }).tailToHead
      let s1 := s.putQueue i q1
      ((s1.1.emitAll s1.2).placeWaiting i, c, true)

/-- R431: a block is read back for an internal consumer whose head is empty. -/
def State.refillHead (s : State) (i : Nat) : State :=
  let q := at' s.queue.queues i
  if q.head = [] ∧ q.canRefill then
    let q1 := { q.refill.tailToHead with aboveLimit := q.refill.aboveFor (s.skeinLimit i) }
    ({ s with queue := { s.queue with queues := s.queue.queues.set i q1, exhausted := false } }).queueTotal 3 1
  else s

/-- Cells popped through a packet's LAST cell, at most `n`. -/
def State.popCells : Nat → State → Nat → List QCell → State × List QCell
  | 0, s, _, acc => (s, acc)
  | n + 1, s, i, acc =>
    let r := (s.refillHead i).popCell i
    if r.2.2 then (if r.2.1.last then (r.1, acc ++ [r.2.1]) else State.popCells n r.1 i (acc ++ [r.2.1]))
    else (s, acc)

/-- The cells a queue holds, in the order in which they leave. -/
def Queue.cells (q : Queue) : List QCell := q.head ++ q.skein.flatten ++ q.tail

/-- Whether a whole packet waits in a queue. -/
def State.hasPacket (s : State) (i : Nat) : Bool :=
  let q := at' s.queue.queues i
  !q.fenced && !q.dropPending && (q.cells.any (·.last))

/-- A whole packet taken by an internal consumer: its bytes, and whether it carries ABORT (the consumer then discards
it, R427). None when no whole packet waits. -/
def State.popPacket (s : State) (i : Nat) : Option (State × Bytes × Bool) :=
  if s.hasPacket i then
    let r := State.popCells 32 s i []
    some (r.1, (r.2.map QCell.bytes).flatten, r.2.any (·.abort))
  else none

/-- The bytes of the packet at the front of a queue, without taking it. -/
def State.peekPacket (s : State) (i : Nat) : Option Bytes :=
  if s.hasPacket i then
    let cs := (at' s.queue.queues i).cells
    let n := cs.findIdx (·.last)
    some ((cs.take (n + 1)).map QCell.bytes).flatten
  else none

/-! ### Cell addresses, errors, outputs, free values -/

/-- R12: a cell address from region, block and cell. -/
def cellAddr (region block cell : Nat) : Nat := region * 8192 + block * 256 + cell

/-- R14: whether a cell address is assigned. -/
def cellDefined (a : Nat) : Bool :=
  let r := a / 8192; let b := a / 256 % 32; let c := a % 256
  match r, b with
  | 0, 0 => decide (c ≤ 2) | 0, 1 => decide (c ≤ 7) | 0, 2 => decide (c ≤ 12) | 0, 3 => decide (c ≤ 2)
  | 0, 4 => decide (c ≤ 15) | 0, 5 => decide (c ≤ 2) | 0, 6 => decide (c ≤ 15) | 0, 7 => decide (c ≤ 4)
  | 1, 0 => decide (c = 0) | 1, 1 => decide (c ≤ 3) | 1, 2 => decide (c ≤ 1) | 1, 3 => decide (c = 0)
  | 1, 4 => decide (c ≤ 2) | 1, 5 => decide (c = 0)
  | 2, 0 => decide (c ≤ 71) | 2, 1 => decide (c = 0) | 2, 2 => decide (c = 0) | 2, 3 => decide (c ≤ 15)
  | 2, 4 => decide (c = 0)
  | 3, 0 => decide (c ≤ 1) | 3, 1 => decide (c = 0) | 3, 2 => decide (c = 0) | 3, 3 => decide (c ≤ 1)
  | 3, 4 => decide (c ≤ 8)
  | 4, 0 => decide (c ≤ 3) | 4, 1 => decide (c ≤ 1) | 4, 2 => decide (c = 0) | 4, 3 => decide (c = 0)
  | 5, 0 => decide (c ≤ 31) | 5, 1 => decide (c ≤ 10) | 5, 2 => decide (c = 0) | 5, 3 => decide (c = 0)
  | 7, 0 => decide (c = 0) | 7, 1 => decide (c = 0) | 7, 2 => decide (c = 0)
  | _, _ => false

/-- R672: the class of an error code. -/
def errClass (code : Nat) : Nat :=
  if code ∈ [0x0001, 0x0002, 0x0003, 0x0004] then 0
  else if code ∈ [0x0012, 0x0020, 0x0030, 0x0031, 0x0032, 0x0034, 0x0035, 0x0036] then 2
  else 1

/-- R22: a collector that has met nothing. -/
def emptyCollector : Collector := { counts := [0, 0, 0], first := none, lost := 0, lostToSend := 0, waiting := [] }

/-- The health collector. -/
def healthCell : Nat := 0xE100

/-- R23: the collector above one: cell, block, region, health collector. Chip-level units stand below the health collector. -/
def collectorAbove (a : Nat) : Nat :=
  if a / 8192 = 7 ∨ a / 256 % 32 = 31 then healthCell
  else if a % 256 = 0xFF then a / 8192 * 8192 + 0x1F00
  else a / 256 * 256 + 0xFF

/-- R22, R24: an error counted at a collector, whose counts are held at `top`; its first-error record takes the lower cell of two in the same
cycle. -/
def Collector.take (top : Nat) (c : Collector) (e : ErrReport) : Collector :=
  { c with counts := upd c.counts e.cls (fun n => satAdd top n 1)
           first := match c.first with
             | none => some e
             | some f => if f.time = e.time ∧ e.cell < f.cell then some e else some f }

/-- A collector changed. -/
def State.updCollector (s : State) (a : Nat) (f : Collector → Collector) : State :=
  { s with health := { s.health with collectors := insertKey a (f ((lookupKey a s.health.collectors).getD emptyCollector)) s.health.collectors } }

/-- R22, R25: a report reaches a collector, with the lost reports that it carries: it is counted there and waits to go upward, or, with 8 waiting,
is counted lost. The health collector, whose counts have 64 bits, takes what it is given. -/
def State.reportTo (s : State) (a : Nat) (e : ErrReport) (carried : Nat) : State :=
  if a = healthCell then
    let s1 := s.updCollector a (fun c => c.take maxU64 e)
    { s1 with health := { s1.health with lostReports := satAdd maxU32 s1.health.lostReports carried } }
  else
    s.updCollector a (fun c =>
      let c1 := c.take maxU16 e
      if 8 ≤ c.waiting.length then { c1 with lost := sat16 c.lost, lostToSend := satAdd maxU16 (satAdd maxU16 c.lostToSend 1) carried }
      else { c1 with waiting := c.waiting ++ [(e, carried)] })

/-- R23, R25: a collector passes its oldest waiting report on, with the lost reports that none has carried yet. -/
def State.forwardFrom (s : State) (a : Nat) : State :=
  let c := (lookupKey a s.health.collectors).getD emptyCollector
  match c.waiting with
  | [] => s
  | w :: r => (s.updCollector a (fun x => { x with waiting := r, lostToSend := 0 })).reportTo (collectorAbove a) w.1 (satAdd maxU16 w.2 c.lostToSend)

/-- The level of a collector: 0 cell or chip-level unit, 1 block, 2 region. -/
def collectorLevel (a : Nat) : Nat := if a / 8192 = 7 then 0 else if a / 256 % 32 = 31 then 2 else if a % 256 = 0xFF then 1 else 0

/-- R23, R25: every collector of a level passes one report on. -/
def State.forwardLevel (s : State) (n : Nat) : State :=
  ((s.health.collectors.map (·.1)).filter (fun a => collectorLevel a == n)).foldl State.forwardFrom s

/-- R23: reports move up: each collector passes one on, those of cells first, so that a lone report reaches the health collector. -/
def State.forwardReports (s : State) : State := ((s.forwardLevel 0).forwardLevel 1).forwardLevel 2

/-- A unit detects an error: its report reaches the collector given at once, and waits to be handled by its class (ERROR_REPORT). -/
def State.raiseErrorAt (s : State) (entry cell code : Nat) : State :=
  let e := ErrReport.mk cell code (errClass code) s.td0 entry
  let s1 := s.reportTo entry e 0
  { s1 with health := { s1.health with raised := s1.health.raised ++ [e] } }

/-- A cell detects an error, which its own collector takes. -/
def State.raiseError (s : State) (cell code : Nat) : State := s.raiseErrorAt cell cell code

/-- What is kept of a cell, if anything is. -/
def State.cellRec (s : State) (a : Nat) : CellRec := (lookupKey a s.health.cells).getD default

/-- R686: the state of a cell. -/
def State.cellStatus (s : State) (a : Nat) : CellStatus := (s.cellRec a).status

/-- Whether a cell is in service: neither fenced nor retired. -/
def State.inService (s : State) (a : Nat) : Bool := s.cellStatus a == .inService

/-- An output. -/
def State.put (s : State) (o : Out) : State := { s with out := s.out ++ [o] }

/-- A fresh free value: the state's counter of uses is read and advanced, and the value is the opaque constant applied
to it (log entry 2). -/
def State.freeNat (s : State) : State × Nat := ({ s with fresh := s.fresh + 1 }, Config.freeNat s.fresh)

/-- A fresh free string of `n` bytes (log entry 2). -/
def State.freeBytes (s : State) (n : Nat) : State × Bytes :=
  ({ s with fresh := s.fresh + 1 }, padTo n (Config.freeBytes s.fresh))

/-- Whether the device runs: cast on, and neither frozen nor held. -/
def State.live (s : State) : Bool :=
  !s.health.frozen && (s.power.phase == .run || s.power.phase == .lastGasp)

/-- Whether the device runs and is not in its last gasp. -/
def State.running (s : State) : Bool := !s.health.frozen && s.power.phase == .run

/-- The outcome of a step of the machine. -/
abbrev Res := Host.Outcome State Fault Refusal

/-- A step that comes about only while the device runs or is in its last gasp (R690, R707, R710). -/
def State.whenLive (s : State) (f : State → State) : Res := .next (if s.live then f s else s)

/-- A step that comes about only while the device runs and is not in its last gasp. -/
def State.whenRunning (s : State) (f : State → State) : Res := .next (if s.running then f s else s)

/-- R710 step 2: whether the radio ports run: as the device does, and in a last gasp only with 0x6802.1 RadioEvents at 1. -/
def State.radioRuns (s : State) : Bool := s.live && (s.power.phase == .run || s.cfgN 0x6802 1 == 1)

/-- A step of a radio port's reception or sending. -/
def State.whenRadio (s : State) (f : State → State) : Res := .next (if s.radioRuns then f s else s)

/-- A step of the dispatcher or a lane: the lanes stop in DEVICE_FAULT (R680). -/
def State.whenLanes (s : State) (f : State → State) : Res := .next (if s.live && !s.health.deviceFault then f s else s)

/-! ### Commands that arrive through the dictionary -/

/-- R53: whether a role (0 OBSERVER, 1 OPERATOR, 2 KEYHOLDER, 3 SERVICE, 4 VENDOR) may write an object of a Role column. -/
def roleMay (role : Nat) (col : RoleCol) : Bool :=
  match col with
  | .observer => true
  | .operator => decide (role = 1 ∨ role = 3 ∨ role = 4)
  | .keyholder => decide (role = 2 ∨ role = 4)
  | .service => decide (role = 3 ∨ role = 4)
  | .vendor => decide (role = 4)

/-- A write of a CMD object by a role: ROLE_DENIED where R53 forbids it, otherwise what the command does; the answer
leaves with its abort code (R48, R86). In DEVICE_FAULT no write is taken (R680; log entry 40), and during the pause of a bind-off none is
executed (R65; log entry 43). -/
def State.command (s : State) (idx sub role : Nat) (col : RoleCol) (f : State → State × Nat) : Res :=
  .next (if s.live && !s.health.deviceFault && s.fw.pauseAt.isNone then
      (let r := if roleMay role col then f s else (s, Abort.roleDenied)
       r.1.put (.answer idx sub r.2))
    else s)

/-- R744: a command that takes the single value 1. -/
def one (v : Nat) (f : State → State × Nat) (s : State) : State × Nat :=
  if v = 1 then f s else (s, Abort.valueRange)

end Sys2Proof.Machine
end

