-- ==== Sys2Proof/Machine/CascPort.lean ====
section
/-!
DEFINITION. The Ihlost ports as every chapter uses them (R621, R626 to R629, R643): roles, ways through the cascade, and messages.
The codes of KIND and the payloads are the model's own, the manual giving none (log entry 25).
-/
namespace Sys2Proof.Machine

/-- The cell of an Ihlost port. -/
def ihCell (p : Nat) : Nat := 0x6300 + p

/-- One more on count `i` (from 1) of 0x5E20. -/
def State.cascCount (s : State) (i : Nat) : State :=
  { s with casc := { s.casc with counters := upd s.casc.counters (i - 1) (· + 1) } }

/-- R621, R643: a numbered leaf whose master is present. -/
def State.leafPresent (s : State) : Bool := !s.board.cascMaster && s.casc.formed && s.casc.own != 0xFF && !s.casc.masterLost

/-- R621: a master with at least one leaf numbered. -/
def State.masterFormed (s : State) : Bool := s.board.cascMaster && s.casc.formed && s.casc.nodes != []

/-- R633: a node whose master is present; the master is present to itself. -/
def State.inCascade (s : State) : Bool := s.leafPresent || s.masterFormed

/-- R629, R643: the port by which a message to a node leaves; none when the node cannot be reached. A leaf knows the way to its master
alone, and reaches the other leaves over it (log entry 25). -/
def State.portTo (s : State) (dst : Nat) : Option Nat :=
  if s.board.cascMaster then (s.casc.nodes.find? (fun n => n.node == dst && !n.lost)).map (·.port)
  else if s.casc.upstream < 2 then some s.casc.upstream else none

/-- R626: a message. -/
def ihMessage (cls kind src dst hseq : Nat) (payload : Bytes) : Bytes :=
  let b := [byte cls, byte kind, byte src, byte dst] ++ leBytes 2 payload.length ++ leBytes 2 hseq ++ payload
  b ++ leBytes 4 (crc32 b)

/-- R627: a message sent on a hop, and kept until it is acknowledged there. -/
def State.hopSend (s : State) (p cls kind src dst : Nat) (payload : Bytes) (madeAt : Nat) : State :=
  let port := at' s.casc.ports p
  let b := ihMessage cls kind src dst port.txSeq payload
  (({ s with casc := { s.casc with ports := upd s.casc.ports p (fun x => { x with
      txSeq := (x.txSeq + 1) % 65536, unacked := x.unacked ++ [HopMsg.mk x.txSeq b s.now madeAt 0] }) } }).put (.ihlost p b)).cascCount 1

/-- A message of this node; none where no way leads to its destination. -/
def State.cascSend (s : State) (cls kind dst : Nat) (payload : Bytes) : Option State :=
  (s.portTo dst).bind (fun p => if (at' s.casc.ports p).up then some (s.hopSend p cls kind s.casc.own dst payload s.now) else none)

/-- A message to the master; unchanged where there is none. -/
def State.toMaster (s : State) (cls kind : Nat) (payload : Bytes) : State := (s.cascSend cls kind 0 payload).getD s

/-- R631: the payload of a registration or removal. -/
def DirUpdate.bytes (u : DirUpdate) : Bytes := leBytes 8 u.eui ++ leBytes 4 u.meter

/-- R631, R643: a record created or removed is reported to the master; kept for it while it is lost. -/
def State.reportDir (s : State) (eui meter : Nat) (add : Bool) : State :=
  let u := DirUpdate.mk s.casc.own eui meter add
  if s.board.cascMaster then
    (if s.masterFormed then { s with casc := { s.casc with updates := s.casc.updates ++ [{ u with node := 0 }] } } else s)
  else if s.leafPresent then s.toMaster 1 (if add then 4 else 5) u.bytes
  else if s.casc.formed then { s with casc := { s.casc with reports := s.casc.reports ++ [u] } } else s

/-- R633: the frames that R633 forwards, known by the metadata that their ingest carried. -/
def State.noteUnknown (s : State) (eui fc deadline route : Nat) (ar : Bool) (info frame : Bytes) : State :=
  if s.cfgN 0x5E00 4 = 0 ∨ !s.inCascade ∨ 4 < route then s
  else
    let s1 := { s with casc := { s.casc with noted := s.casc.noted ++ [(frame, info)] } }
    if ar ∧ s.casc.kept.length < 4096 ∧ deadline ≠ 0 then
      { s1 with casc := { s1.casc with kept := s1.casc.kept ++ [⟨eui, fc, deadline, route, info, frame⟩] } }
    else s1

end Sys2Proof.Machine
end

