-- ==== Sys2Proof/Machine/Dsp.lean ====
section
/-!
DEFINITION. The arithmetic of the sensing filter chains (R213 to R217, R230, R231): the CICs, the half-band filter, the
FIR cell, the programmable shift, and the line fitted through eight coarse samples.
-/
namespace Sys2Proof.Machine

/-- R221, R282, R346: a coefficient of 18 bits. -/
def coef18 (v : Int) : Int := clampInt v (-131072) 131071

/-- R221, R282, R346: a coefficient set of which a rule gives the length and that it is symmetric. -/
def symmetric (n : Nat) (f : Nat → Int) : List Int := (List.range n).map (fun k => coef18 (f (min k (n - 1 - k))))

/-- arctan(2^-k) in degrees, in units of 2^-48, for the 40 turns of `turn`. -/
def arctans : List Int :=
  [12666373951979520, 7477397161385412, 3950851303239703, 2005513810870177, 1006648634911898, 503815046770218, 251968999233654, 125992188318334,
   62997055378835, 31498647846001, 15749338942702, 7874671348818, 3937335909092, 1968667983882, 984333995608, 492166998262,
   246083499188, 123041749601, 61520874802, 30760437401, 15380218700, 7690109350, 3845054675, 1922527338,
   961263669, 480631834, 240315917, 120157959, 60078979, 30039490, 15019745, 7509872,
   3754936, 1877468, 938734, 469367, 234684, 117342, 58671, 29335]

/-- Turns of a vector towards the positive x axis by arctan(2^-k): the angle turned, exact but for the units of 2^-48 degrees. -/
def turn : List Int → Nat → Int → Int → Int → Int
  | [], _, _, _, acc => acc
  | a :: r, k, x, y, acc =>
    if 0 ≤ y then turn r (k + 1) (x + y / 2 ^ k) (y - x / 2 ^ k) (acc + a)
    else turn r (k + 1) (x - y / 2 ^ k) (y + x / 2 ^ k) (acc - a)

/-- R239: atan2(y, x) in degrees, in units of 2^-48, from −180 to 180. -/
def atan2Fine (y x : Int) : Int :=
  let big := (2 : Int) ^ 64
  if x = 0 ∧ y = 0 then 0
  else if 0 ≤ x then turn arctans 0 (x * big) (y * big) 0
  else if 0 ≤ y then 180 * 2 ^ 48 - turn arctans 0 (-x * big) (y * big) 0
  else -180 * 2 ^ 48 - turn arctans 0 (-x * big) (y * big) 0

/-- The gain of 40 turns, in units of 2^-48: what makes a turned vector of length 1. -/
def turnGain : Int := 170926505739102

/-- A vector turned by an angle of at most 90°, in units of 2^-48 degrees, in the turns of arctan(2^-k). -/
def turnBy : List Int → Nat → Int → Int → Int → Int × Int
  | [], _, x, y, _ => (x, y)
  | a :: r, k, x, y, left =>
    if 0 ≤ left then turnBy r (k + 1) (x - y / 2 ^ k) (y + x / 2 ^ k) (left - a)
    else turnBy r (k + 1) (x + y / 2 ^ k) (y - x / 2 ^ k) (left + a)

/-- Cosine and sine of `num / den` of a full turn, in units of 2^-48. -/
def cosSin (num den : Nat) : Int × Int :=
  let d : Int := (360 * 2 ^ 48 * (num % den) / den : Nat)
  let q := d / (90 * 2 ^ 48)
  let v := turnBy arctans 0 turnGain 0 (d % (90 * 2 ^ 48))
  if q = 0 then v else if q = 1 then (-v.2, v.1) else if q = 2 then (-v.1, -v.2) else (v.2, -v.1)

/-- Binary digits of a logarithm: `m` in [2^60, 2^61) stands for [1, 2). -/
def logBits : Nat → Nat → Nat → Nat
  | 0, _, acc => acc
  | n + 1, m, acc =>
    let q := m * m / 2 ^ 60
    if 2 ^ 61 ≤ q then logBits n (q / 2) (2 * acc + 1) else logBits n q (2 * acc)

/-- log2 of a number above 0, in units of 2^-32. -/
def log2Fine (v : Nat) : Int :=
  let e := Nat.log2 v
  ((e * 2 ^ 32 + logBits 32 (if e ≤ 60 then v * 2 ^ (60 - e) else v / 2 ^ (e - 60)) 0 : Nat) : Int)

/-- R301: a mean bin power of 96 points as a level in units of 0.25 dB / 65,536, against a full-scale tone of the 14-bit ADC (log entry 80).
The level of no power at all is left open. -/
def levelOf (power : Nat) : Int :=
  if power = 0 then Config.zeroLevel else (log2Fine power - log2Fine (393216 * 393216)) * 3156528 / 2 ^ 34

/-- R283: the 96-point DFT at one bin, oldest sample first: real and imaginary parts, in units of 2^-48. -/
def dftBin (samples : List Int) (bin : Nat) : Int × Int :=
  (samples.zipIdx).foldl (fun a p => let w := cosSin (bin * p.2) 96; (a.1 + p.1 * w.1, a.2 - p.1 * w.2)) (0, 0)

/-- The power of a bin. -/
def dftPower (samples : List Int) (bin : Nat) : Nat :=
  let v := dftBin samples bin
  ((v.1 * v.1 + v.2 * v.2) / 2 ^ 96).toNat

/-- R214: right shift with rounding half up and saturation to 24 bits; the second result says that it saturated. -/
def shiftSat (acc : Int) (s : Nat) : Int × Bool :=
  let y := if s = 0 then acc else (acc + 2 ^ (s - 1)) / 2 ^ s
  if 8388607 < y then (8388607, true) else if y < -8388608 then (-8388608, true) else (y, false)

/-- Wrapping to a signed number of 32 bits, in which the integrators of a CIC run. -/
def wrap32 (v : Int) : Int := untwos 4 (twos 4 v)

/-- R213: four integrators take one modulator sample. -/
def integrate (x : Int) : List Int → List Int
  | [] => []
  | i :: r => let y := wrap32 (i + x); y :: integrate y r

/-- R210: a modulator bit: 1 stands for +1, 0 for −1. -/
def modBit (b : Bool) : Int := if b then 1 else -1

/-- `n` modulator bits, the lowest first, run through the integrators. -/
def integrateBits : Nat → Nat → List Int → List Int
  | 0, _, st => st
  | n + 1, w, st => integrateBits n (w / 2) (integrate (modBit (w % 2 == 1)) st)

/-- R213: the combs: each stage subtracts its previous input. The results: the output, and the inputs kept. -/
def combs (x : Int) : List Int → Int × List Int
  | [] => (x, [])
  | d :: r => let o := combs (wrap32 (x - d)) r; (o.1, x :: o.2)

/-- R213: one output of the order-4 CIC from 128 modulator bits. -/
def cicStep (bits : Nat) (integ comb : List Int) : Int × (List Int × List Int) :=
  let i := integrateBits 128 bits integ
  let c := combs (i.getLastD 0) comb
  (c.1, (i, c.2))

/-- R215: the half-band coefficients by tap. -/
def halfBandTaps : List Int :=
  [-708, 0, 1835, 0, -3657, 0, 6737, 0, -13186, 0, 41747, 65536, 41747, 0, -13186, 0, 6737, 0, -3657, 0, 1835, 0, -708]

/-- A sum of products of coefficients and samples, newest sample first. -/
def dot (c x : List Int) : Int := (List.zipWith (· * ·) c x).foldl (· + ·) 0

/-- R216: the accumulator of a FIR cell: 48 bits with saturation at each product; the second result is ACC_SAT. -/
def firAcc : List Int → List Int → Int → Bool → Int × Bool
  | c :: cs, x :: xs, acc, sat =>
    let a := acc + c * x
    if 140737488355327 < a then firAcc cs xs 140737488355327 true
    else if a < -140737488355328 then firAcc cs xs (-140737488355328) true
    else firAcc cs xs a sat
  | _, _, acc, sat => (acc, sat)

/-- `n` modulator samples from a word, the oldest in bit 0, oldest first. -/
def modSamples (n w : Nat) : List Int := (List.range n).map (fun k => modBit (bit w k))

/-- R230: the triangle of the coarse CIC: order 2, decimation 32. -/
def triangle : List Int := (List.range 63).map (fun k => if k < 32 then (k + 1 : Int) else 63 - k)

/-- R230: one output of the coarse CIC from 63 modulator samples, times 2^13. -/
def coarseOut (samples : List Int) : Int := dot triangle samples * 8192

/-- R231: the zero of the line fitted through y[k − 4] to y[k + 3], relative to t[k], in units of 2^-16 ns:
7.8125 µs × (−0.5 − ym / b), where ym / b = 10.5 × Σ y / Σ (2j + 1) y. None where the line does not rise or fall. -/
def fitZero (ys : List Int) : Option Int :=
  let s := ys.foldl (· + ·) 0
  let w := (ys.mapIdx (fun i y => ((2 * (i : Int) - 7)) * y)).foldl (· + ·) 0
  if w = 0 then none
  else some (-256000000 - 5376000000 * s / w)

end Sys2Proof.Machine
end

