-- ==== Sys2Proof/Machine/Beyqua.lean ====
section
/-!
DEFINITION. The Beyqua waveform (R286 to R300): header, coding, interleaving, segments, tone maps and the tones of every
symbol of a frame.
-/
namespace Sys2Proof.Machine

/-- R293: one bit of the CRC-8 with polynomial 0x07. -/
def crc8Step (c : BitVec 8) : BitVec 8 := if c.getLsbD 7 then (c <<< 1) ^^^ 0x07#8 else c <<< 1

/-- `n` bits. -/
def crc8Steps : Nat → BitVec 8 → BitVec 8
  | 0, c => c
  | n + 1, c => crc8Steps n (crc8Step c)

/-- R293: HCRC over bytes: initial value 0xFF, not reflected. -/
def crc8 (b : Bytes) : Nat := (b.foldl (fun c x => crc8Steps 8 (c ^^^ x)) 0xFF#8).toNat

/-- R293: a header. -/
def plcHeader (tx len seg mapId engine dur period : Nat) : Bytes :=
  let h := leBytes 2 tx ++ [byte len, byte (seg + 8 * mapId + 64 * engine)] ++ leBytes 2 dur ++ leBytes 2 period
  h ++ [byte (crc8 h)]

/-- R294: whether a header is used. -/
def plcHeaderOk (h : Bytes) : Bool :=
  decide (h.length = 9) && decide (crc8 (h.take 8) = fieldLE h 8 1) && decide (fieldLE h 2 1 ≠ 0) &&
    decide (14000 ≤ fieldLE h 6 2 ∧ fieldLE h 6 2 ≤ 25000) && decide (1 ≤ fieldLE h 4 2 ∧ fieldLE h 4 2 ≤ 16383)

def hdrTx (h : Bytes) : Nat := fieldLE h 0 2
def hdrLen (h : Bytes) : Nat := fieldLE h 2 1
def hdrSeg (h : Bytes) : Nat := fieldLE h 3 1 % 8
def hdrMap (h : Bytes) : Nat := fieldLE h 3 1 / 8 % 8
def hdrEngine (h : Bytes) : Nat := fieldLE h 3 1 / 64
def hdrDur (h : Bytes) : Nat := fieldLE h 4 2
def hdrPeriod (h : Bytes) : Nat := fieldLE h 6 2

/-- Tones of a band (0 A, 1 W). -/
def bandTones (band : Nat) : Nat := if band = 0 then 20 else 32

/-- Pairs of a band. -/
def bandPairs (band : Nat) : Nat := bandTones band / 2

/-- DAC samples per symbol of a band. -/
def bandM (band : Nat) : Nat := if band = 0 then 768 else 192

/-- Symbol time in units of 2^-16 ns: M / 1.8432 MHz. -/
def symTime (band n : Nat) : Int := ((n * bandM band * 65536 * 1000000000 / 1843200 : Nat) : Int)

/-- Symbols before the payload: 68 in A band, 50 in W band. -/
def preSymbols (band : Nat) : Nat := if band = 0 then 68 else 50

/-- R289: the segment of symbol n. -/
def segOf (seg band period n : Nat) : Nat := (seg + (2 * n + 1) * 625 * bandM band / (288 * period)) % 8

/-! ### Tone maps (R297 to R300) -/

/-- R299: the mode of segment s. -/
def mapMode (m : Bytes) (s : Nat) : Nat := bits (fieldLE m 0 2) (2 * s) 2

/-- R299: the pair mask of segment s. -/
def mapMask (m : Bytes) (s : Nat) : Nat := fieldLE m (2 + 2 * s) 2

/-- R297: the robustness of a mode. -/
def rho (mode : Nat) : Nat := if mode = 1 then 4 else if mode = 2 then 2 else 1

/-- Active pairs of a mask, ascending. -/
def pairsOf (mask n : Nat) : List Nat := (List.range n).filter (bit mask)

/-- R298: slots per symbol of segment s. -/
def mapB (m : Bytes) (band s : Nat) : Nat :=
  if mapMode m s = 0 then 0 else (pairsOf (mapMask m s) (bandPairs band)).length / rho (mapMode m s)

/-- R299: a map of 18 bytes from modes and masks. -/
def mkMap (modes masks : List Nat) : Bytes :=
  leBytes 2 ((modes.mapIdx (fun i v => v * 4 ^ i)).foldl (· + ·) 0) ++ (masks.map (leBytes 2)).flatten

/-- R300: map 0 (robust ×2 on all pairs) and map 7 (robust ×4 on all pairs). -/
def fixedMap (id band : Nat) : Bytes :=
  mkMap (List.replicate 8 (if id = 7 then 1 else 2)) (List.replicate 8 (2 ^ bandPairs band - 1))

/-- R299: whether a map is valid. -/
def mapValid (m : Bytes) (band : Nat) : Bool :=
  (List.range 8).all (fun s => (mapMode m s == 0) || decide (1 ≤ mapB m band s)) &&
    (List.range 8).any (fun s => mapMode m s != 0) &&
    (List.range 8).all (fun s => decide (mapMask m s < 2 ^ bandPairs band) || band == 1)

/-- R302: the capacity of a map: B times the nominal symbols per segment (6 or 24 at 50 Hz, 5 or 20 at 60 Hz). -/
def mapCapacity (m : Bytes) (band nomHz : Nat) : Nat :=
  let per := (if nomHz = 60 then 5 else 6) * (if band = 0 then 1 else 4)
  ((List.range 8).map (fun s => mapB m band s * per)).foldl (· + ·) 0

/-! ### Payload (R295, R296) -/

/-- Bits of a byte string, least significant first. -/
def bitsOfBytes (b : Bytes) : List Bool := (b.map (fun x => (List.range 8).map (fun i => x.getLsbD i))).flatten

/-- R295: whitening by PN9 (x⁹ + x⁵ + 1), register all ones at the first bit. As in IEEE 802.15.4g, the bit fed back is
the bit of the sequence, so that it begins 0, 0, 0, 0, 1, 1, 1, 1, 0 (log entry 12). -/
def whiten : List Bool → BitVec 9 → List Bool
  | [], _ => []
  | b :: r, st =>
    let f := st.getLsbD 0 ^^ st.getLsbD 5
    (b ^^ f) :: whiten r ((st >>> 1) ||| (if f then 0x100#9 else 0#9))

/-- The parity of a masked word. -/
def parity (v mask n : Nat) : Bool := popcount n (andBits n v mask) % 2 == 1

/-- R295: the K = 7 code, generators 133 then 171 octal; the state holds the last six bits, newest in bit 5. -/
def convEncode : List Bool → Nat → List Bool
  | [], _ => []
  | b :: r, st =>
    let v := b2n b * 64 + st
    parity v 0o133 7 :: parity v 0o171 7 :: convEncode r (v / 2)

/-- R295: the P = 16 × (LEN + 5) coded bits of a link frame. -/
def payloadBits (frame : Bytes) : List Bool :=
  let w := whiten (bitsOfBytes (frame ++ leBytes 4 (crc32 frame))) 0x1FF#9
  convEncode (w ++ List.replicate 6 false) 0 ++ List.replicate 4 false

/-- R296: the coded bits in slot order. -/
def payloadSlots (frame : Bytes) : List Bool :=
  let c := payloadBits frame
  let r := frame.length + 5
  (List.range (16 * r)).map (fun j => c.getD ((j % r) * 16 + j / r) false)

/-- R298: the payload symbols that a frame takes under a map, at most `fuel`; none when it takes more than 16,383. -/
def payloadDur (m : Bytes) (band seg period : Nat) : Nat → Nat → Nat → Nat → Option Nat
  | 0, _, _, _ => none
  | fuel + 1, n, sent, p =>
    let b := mapB m band (segOf seg band period (preSymbols band + n))
    if p ≤ sent + b then some (n + 1) else payloadDur m band seg period fuel (n + 1) (sent + b) p

/-- R286, R298: the tones of a payload symbol: slot `base + j mod B` on the j-th active pair, the mark tone for a 1. -/
def slotTones (m : Bytes) (band s base : Nat) (slots : List Bool) : List Nat :=
  let b := mapB m band s
  let n := bandPairs band
  if b = 0 then []
  else (pairsOf (mapMask m s) n).mapIdx (fun j k => if slots.getD (base + j % b) false then k + n else k)

/-- R298: the tones of the payload symbols. -/
def payloadTones (m : Bytes) (band seg period : Nat) (slots : List Bool) : Nat → Nat → Nat → List (List Nat)
  | 0, _, _ => []
  | k + 1, n, base =>
    let s := segOf seg band period (preSymbols band + n)
    slotTones m band s base slots :: payloadTones m band seg period slots k (n + 1) (base + mapB m band s)

/-- A bit on every pair. -/
def allPairs (band : Nat) (b : Bool) : List Nat :=
  (List.range (bandPairs band)).map (fun k => if b then k + bandPairs band else k)

/-- R292, R294: the tones of preamble, sync word (0x2D7C, bit 15 first) and header. -/
def headTones (band : Nat) (header : Bytes) : List (List Nat) :=
  let hb := bitsOfBytes header
  let b := if band = 0 then 2 else 4
  (List.range 16).map (fun i => allPairs band ((i + 1) % 2 == 1)) ++
  (List.range 16).map (fun i => allPairs band (bit 0x2D7C (15 - i))) ++
  (List.range (72 / b)).map (fun h => (List.range (bandPairs band)).map (fun j =>
    if hb.getD (b * h + j % b) false then j + bandPairs band else j))

/-- The largest x with x^20 ≤ v, found by bits from 2^k down. -/
def root20 (v : Nat) : Nat → Nat → Nat
  | 0, r => r
  | k + 1, r => let t := r + 2 ^ k; root20 v k (if t ^ 20 ≤ v then t else r)

/-- R287: 10^(−u / 20) in units of 2^-64: a power at `u` half-decibels of attenuation. -/
def powerAt (u : Nat) : Nat := root20 (2 ^ 1280 / 10 ^ u) 65 0

/-- R308: whether the RMS of a symbol's tones exceeds the cap: Σ a_t² / 2 against 2047² × 10^(−L / 20), attenuations in
0.5 dB. -/
def overLimit (band limit : Nat) (atts tones : List Nat) : Bool :=
  let n := bandPairs band
  decide (powerAt limit * 2 * n * n < (tones.map (fun t => powerAt (at' atts t))).foldl (· + ·) 0)

/-- R308: the powers of a symbol's tones, in units of 2^-64: those of R287, scaled down to the cap where their sum exceeds it. -/
def symbolPowers (band limit : Nat) (atts tones : List Nat) : List Nat :=
  let n := bandPairs band
  let p := tones.map (fun t => powerAt (at' atts t))
  let sum := p.foldl (· + ·) 0
  let cap := powerAt limit * 2 * n * n
  if cap < sum then p.map (fun x => x * cap / sum) else p

/-- R286: the first DFT bin of a band. -/
def firstBin (band : Nat) : Nat := if band = 0 then 17 else 16

/-- R286: the frequency of tone `t` in Hz. -/
def toneHz (band t : Nat) : Nat := (firstBin band + t) * (if band = 0 then 2400 else 9600)

/-- A number of units of 2^-`k` rounded to the nearest integer, half up. -/
def nearestInt (k : Nat) (v : Int) : Int := (2 * v + 2 ^ k) / 2 ^ (k + 1)

/-- R287: DAC sample m of a symbol whose tones have the given powers. The phase of tone t is (b0 + t) m / M + t² / 2N of a turn. -/
def dacSample (band : Nat) (tones powers : List Nat) (m : Nat) : Int :=
  let mm := bandM band
  let n2 := 2 * bandTones band
  nearestInt 80 ((tones.zip powers).foldl (fun a p =>
    a + (2047 * isqrt p.2 / bandPairs band : Nat) * (cosSin ((firstBin band + p.1) * m * n2 + p.1 * p.1 * mm) (mm * n2)).1) 0)

/-- R287: the ramps over the first and the last 32 samples of a frame of `n` samples. -/
def ramp (n i : Nat) (v : Int) : Int :=
  let w := min 32 (min (i + 1) (n - i))
  if w = 32 then v else nearestInt 5 (v * w)

/-- R287: the DAC samples of a frame. -/
def dacFrame (band limit : Nat) (atts : List Nat) (symbols : List (List Nat)) : List Int :=
  let l := (symbols.map (fun tones =>
    let p := symbolPowers band limit atts tones
    (List.range (bandM band)).map (dacSample band tones p))).flatten
  l.mapIdx (ramp l.length)

/-! ### Demodulation and decoding (R294 to R298, R306) -/

/-- R306: the soft value of a pair in units of 2^-16; that of a pair without any power is 0 (log entry 80). -/
def softPair (mark space : Nat) : Int :=
  if mark + space = 0 then 0 else ((mark : Int) - space) * 65536 / ((mark : Int) + space)

/-- R298: the soft values of the `b` slots of a symbol, the copies added; all 0 in an erased one. -/
def softSlots (pairs : List Nat) (n b : Nat) (powers : List Nat) (erased : Bool) : List Int :=
  let l := pairs.map (fun k => if erased then 0 else softPair (at' powers (k + n)) (at' powers k))
  (List.range b).map (fun r => (l.zipIdx).foldl (fun a p => if p.2 % b = r then a + p.1 else a) 0)

/-- R294: the bits of a header from its symbols. A sum of 0 is taken as a 0 (log entry 80). -/
def headerBits (band : Nat) (symbols : List (List Nat × Bool)) : List Bool :=
  let n := bandPairs band
  (symbols.flatMap (fun y => softSlots (List.range n) n (if band = 0 then 2 else 4) y.1 y.2)).map (fun v => decide (0 < v))

/-- The bytes of a string of bits, least significant first. -/
def bytesOfBits : Nat → List Bool → Bytes
  | 0, _ => []
  | k + 1, l => byte (ofBits (l.take 8)) :: bytesOfBits k (l.drop 8)

/-- R298: the soft values of the slots of a payload, symbol by symbol. -/
def payloadSofts (m : Bytes) (band seg period : Nat) : List (List Nat × Bool) → Nat → List Int
  | [], _ => []
  | y :: r, k =>
    let g := segOf seg band period (preSymbols band + k)
    softSlots (pairsOf (mapMask m g) (bandPairs band)) (bandPairs band) (mapB m band g) y.1 y.2 ++ payloadSofts m band seg period r (k + 1)

/-- R296: soft values of slots in the order of the coded bits. -/
def deinterleave (r : Nat) (slots : List Int) : List Int := (List.range (16 * r)).map (fun c => slots.getD (c % 16 * r + c / 16) 0)

/-- A way through the trellis of the K = 7 code that survives: what it has gathered, with 2^30 added for each bit, and its input bits,
newest first. -/
structure Survivor where
  gathered : Nat
  path : List Bool
deriving DecidableEq, Repr, Inhabited

/-- The two output bits of the code for a state with its input bit. -/
def codeOut (v : Nat) : Bool × Bool := (parity v 0o133 7, parity v 0o171 7)

/-- The outputs of the code by state, for the input bits 0 and 1. -/
def codeOuts0 : List (Bool × Bool) := (List.range 64).map codeOut
def codeOuts1 : List (Bool × Bool) := (List.range 64).map (fun v => codeOut (64 + v))

/-- What an output adds for two soft values, each with 2^30 added. -/
def branch (p q : Nat) (o : Bool × Bool) : Nat := (if o.1 then p else 2147483648 - p) + (if o.2 then q else 2147483648 - q)

/-- The ways into 32 states with one input bit: of two that meet, the one that has gathered more, the first of equals (log entry 80). -/
def meetings (p q : Nat) (b : Bool) : List (Bool × Bool) → List Survivor → List Survivor
  | o :: o' :: os, x :: y :: r =>
    let u := x.gathered + branch p q o
    let v := y.gathered + branch p q o'
    (if v ≤ u then ⟨u, b :: x.path⟩ else ⟨v, b :: y.path⟩) :: meetings p q b os r
  | _, _ => []

/-- The Viterbi decoder over pairs of soft values. -/
def trellis : List Nat → List Survivor → List Survivor
  | p :: q :: r, s => trellis r (meetings p q false codeOuts0 s ++ meetings p q true codeOuts1 s)
  | _, s => s

/-- R295: `n` input bits of the code from soft values; the encoder begins and ends in state 0. -/
def viterbi (n : Nat) (softs : List Int) : List Bool :=
  ((trellis ((softs.take (2 * n)).map (fun v => (v + 1073741824).toNat)) (⟨2 ^ 60, []⟩ :: List.replicate 63 ⟨0, []⟩)).headD default).path.reverse

/-- R295: the link frame of `len` bytes with its CRC-32, from the soft values of its slots. -/
def decodePayload (len : Nat) (slots : List Int) : Bytes :=
  let n := 8 * (len + 4)
  bytesOfBits (len + 4) (whiten ((viterbi (n + 6) (deinterleave (len + 5) slots)).take n) 0x1FF#9)

end Sys2Proof.Machine
end

