-- ==== Sys2Proof/Machine/Aes.lean ====
section
/-!
DEFINITION. FIPS 197, the AES block cipher with 128-bit and 256-bit keys, which R5 names.
-/
namespace Sys2Proof.Machine

def aesSbox0 : List Nat := [0x63, 0x7C, 0x77, 0x7B, 0xF2, 0x6B, 0x6F, 0xC5, 0x30, 0x01, 0x67, 0x2B, 0xFE, 0xD7, 0xAB, 0x76, 0xCA, 0x82, 0xC9, 0x7D, 0xFA, 0x59, 0x47, 0xF0, 0xAD, 0xD4, 0xA2, 0xAF, 0x9C, 0xA4, 0x72, 0xC0]
def aesSbox1 : List Nat := [0xB7, 0xFD, 0x93, 0x26, 0x36, 0x3F, 0xF7, 0xCC, 0x34, 0xA5, 0xE5, 0xF1, 0x71, 0xD8, 0x31, 0x15, 0x04, 0xC7, 0x23, 0xC3, 0x18, 0x96, 0x05, 0x9A, 0x07, 0x12, 0x80, 0xE2, 0xEB, 0x27, 0xB2, 0x75]
def aesSbox2 : List Nat := [0x09, 0x83, 0x2C, 0x1A, 0x1B, 0x6E, 0x5A, 0xA0, 0x52, 0x3B, 0xD6, 0xB3, 0x29, 0xE3, 0x2F, 0x84, 0x53, 0xD1, 0x00, 0xED, 0x20, 0xFC, 0xB1, 0x5B, 0x6A, 0xCB, 0xBE, 0x39, 0x4A, 0x4C, 0x58, 0xCF]
def aesSbox3 : List Nat := [0xD0, 0xEF, 0xAA, 0xFB, 0x43, 0x4D, 0x33, 0x85, 0x45, 0xF9, 0x02, 0x7F, 0x50, 0x3C, 0x9F, 0xA8, 0x51, 0xA3, 0x40, 0x8F, 0x92, 0x9D, 0x38, 0xF5, 0xBC, 0xB6, 0xDA, 0x21, 0x10, 0xFF, 0xF3, 0xD2]
def aesSbox4 : List Nat := [0xCD, 0x0C, 0x13, 0xEC, 0x5F, 0x97, 0x44, 0x17, 0xC4, 0xA7, 0x7E, 0x3D, 0x64, 0x5D, 0x19, 0x73, 0x60, 0x81, 0x4F, 0xDC, 0x22, 0x2A, 0x90, 0x88, 0x46, 0xEE, 0xB8, 0x14, 0xDE, 0x5E, 0x0B, 0xDB]
def aesSbox5 : List Nat := [0xE0, 0x32, 0x3A, 0x0A, 0x49, 0x06, 0x24, 0x5C, 0xC2, 0xD3, 0xAC, 0x62, 0x91, 0x95, 0xE4, 0x79, 0xE7, 0xC8, 0x37, 0x6D, 0x8D, 0xD5, 0x4E, 0xA9, 0x6C, 0x56, 0xF4, 0xEA, 0x65, 0x7A, 0xAE, 0x08]
def aesSbox6 : List Nat := [0xBA, 0x78, 0x25, 0x2E, 0x1C, 0xA6, 0xB4, 0xC6, 0xE8, 0xDD, 0x74, 0x1F, 0x4B, 0xBD, 0x8B, 0x8A, 0x70, 0x3E, 0xB5, 0x66, 0x48, 0x03, 0xF6, 0x0E, 0x61, 0x35, 0x57, 0xB9, 0x86, 0xC1, 0x1D, 0x9E]
def aesSbox7 : List Nat := [0xE1, 0xF8, 0x98, 0x11, 0x69, 0xD9, 0x8E, 0x94, 0x9B, 0x1E, 0x87, 0xE9, 0xCE, 0x55, 0x28, 0xDF, 0x8C, 0xA1, 0x89, 0x0D, 0xBF, 0xE6, 0x42, 0x68, 0x41, 0x99, 0x2D, 0x0F, 0xB0, 0x54, 0xBB, 0x16]
/-- FIPS 197: the substitution table. -/
def aesSbox : List Nat :=
  aesSbox0 ++ aesSbox1 ++ aesSbox2 ++ aesSbox3 ++ aesSbox4 ++ aesSbox5 ++ aesSbox6 ++ aesSbox7

def aesInvSbox0 : List Nat := [0x52, 0x09, 0x6A, 0xD5, 0x30, 0x36, 0xA5, 0x38, 0xBF, 0x40, 0xA3, 0x9E, 0x81, 0xF3, 0xD7, 0xFB, 0x7C, 0xE3, 0x39, 0x82, 0x9B, 0x2F, 0xFF, 0x87, 0x34, 0x8E, 0x43, 0x44, 0xC4, 0xDE, 0xE9, 0xCB]
def aesInvSbox1 : List Nat := [0x54, 0x7B, 0x94, 0x32, 0xA6, 0xC2, 0x23, 0x3D, 0xEE, 0x4C, 0x95, 0x0B, 0x42, 0xFA, 0xC3, 0x4E, 0x08, 0x2E, 0xA1, 0x66, 0x28, 0xD9, 0x24, 0xB2, 0x76, 0x5B, 0xA2, 0x49, 0x6D, 0x8B, 0xD1, 0x25]
def aesInvSbox2 : List Nat := [0x72, 0xF8, 0xF6, 0x64, 0x86, 0x68, 0x98, 0x16, 0xD4, 0xA4, 0x5C, 0xCC, 0x5D, 0x65, 0xB6, 0x92, 0x6C, 0x70, 0x48, 0x50, 0xFD, 0xED, 0xB9, 0xDA, 0x5E, 0x15, 0x46, 0x57, 0xA7, 0x8D, 0x9D, 0x84]
def aesInvSbox3 : List Nat := [0x90, 0xD8, 0xAB, 0x00, 0x8C, 0xBC, 0xD3, 0x0A, 0xF7, 0xE4, 0x58, 0x05, 0xB8, 0xB3, 0x45, 0x06, 0xD0, 0x2C, 0x1E, 0x8F, 0xCA, 0x3F, 0x0F, 0x02, 0xC1, 0xAF, 0xBD, 0x03, 0x01, 0x13, 0x8A, 0x6B]
def aesInvSbox4 : List Nat := [0x3A, 0x91, 0x11, 0x41, 0x4F, 0x67, 0xDC, 0xEA, 0x97, 0xF2, 0xCF, 0xCE, 0xF0, 0xB4, 0xE6, 0x73, 0x96, 0xAC, 0x74, 0x22, 0xE7, 0xAD, 0x35, 0x85, 0xE2, 0xF9, 0x37, 0xE8, 0x1C, 0x75, 0xDF, 0x6E]
def aesInvSbox5 : List Nat := [0x47, 0xF1, 0x1A, 0x71, 0x1D, 0x29, 0xC5, 0x89, 0x6F, 0xB7, 0x62, 0x0E, 0xAA, 0x18, 0xBE, 0x1B, 0xFC, 0x56, 0x3E, 0x4B, 0xC6, 0xD2, 0x79, 0x20, 0x9A, 0xDB, 0xC0, 0xFE, 0x78, 0xCD, 0x5A, 0xF4]
def aesInvSbox6 : List Nat := [0x1F, 0xDD, 0xA8, 0x33, 0x88, 0x07, 0xC7, 0x31, 0xB1, 0x12, 0x10, 0x59, 0x27, 0x80, 0xEC, 0x5F, 0x60, 0x51, 0x7F, 0xA9, 0x19, 0xB5, 0x4A, 0x0D, 0x2D, 0xE5, 0x7A, 0x9F, 0x93, 0xC9, 0x9C, 0xEF]
def aesInvSbox7 : List Nat := [0xA0, 0xE0, 0x3B, 0x4D, 0xAE, 0x2A, 0xF5, 0xB0, 0xC8, 0xEB, 0xBB, 0x3C, 0x83, 0x53, 0x99, 0x61, 0x17, 0x2B, 0x04, 0x7E, 0xBA, 0x77, 0xD6, 0x26, 0xE1, 0x69, 0x14, 0x63, 0x55, 0x21, 0x0C, 0x7D]
/-- FIPS 197: the inverse substitution table. -/
def aesInvSbox : List Nat :=
  aesInvSbox0 ++ aesInvSbox1 ++ aesInvSbox2 ++ aesInvSbox3 ++ aesInvSbox4 ++ aesInvSbox5 ++ aesInvSbox6 ++ aesInvSbox7

/-- A byte substituted by a table. -/
def subByte (t : List Nat) (b : Byte) : Byte := byte (t.getD b.toNat 0)

/-- FIPS 197: multiplication by x in GF(2^8). -/
def xtime (b : Byte) : Byte := if b.getLsbD 7 then (b <<< 1) ^^^ 0x1B#8 else b <<< 1

/-- FIPS 197: multiplication in GF(2^8) by the lowest `n` bits of `k`. -/
def gf8 : Nat → Nat → Byte → Byte
  | 0, _, _ => 0#8
  | n + 1, k, b => (if k % 2 = 1 then b else 0#8) ^^^ gf8 n (k / 2) (xtime b)

/-- FIPS 197: ShiftRows, the source position of each byte of the state, column by column. -/
def shiftRows (s : Bytes) : Bytes := (List.range 16).map (fun i => s.getD ((i + 4 * (i % 4)) % 16) 0)

/-- FIPS 197: InvShiftRows. -/
def invShiftRows (s : Bytes) : Bytes := (List.range 16).map (fun i => s.getD ((i + 16 - 4 * (i % 4)) % 16) 0)

/-- One byte of a mixed column: row `i` of the matrix whose first row is `m`. -/
def mixByte (m : List Nat) (s : Bytes) (pos : Nat) : Byte :=
  let c := 4 * (pos / 4); let r := pos % 4
  (List.range 4).foldl (fun acc j => acc ^^^ gf8 4 (m.getD ((j + 4 - r) % 4) 0) (s.getD (c + j) 0)) 0#8

/-- FIPS 197: MixColumns and its inverse, by the first row of the matrix. -/
def mixColumns (m : List Nat) (s : Bytes) : Bytes := (List.range 16).map (mixByte m s)

/-- FIPS 197: Rcon. -/
def aesRcon : List Nat := [0x01, 0x02, 0x04, 0x08, 0x10, 0x20, 0x40, 0x80, 0x1B, 0x36]

/-- FIPS 197: the next `n` words of the key schedule, the words so far youngest first. -/
def aesExpand (nk : Nat) : Nat → Nat → List Bytes → List Bytes
  | 0, _, ws => ws
  | n + 1, i, ws =>
    let t := ws.headD []
    let t' :=
      if i % nk = 0 then
        xorBytes (((t.drop 1) ++ t.take 1).map (subByte aesSbox)) [byte (aesRcon.getD (i / nk - 1) 0), 0, 0, 0]
      else if nk = 8 ∧ i % 8 = 4 then t.map (subByte aesSbox) else t
    aesExpand nk n (i + 1) (xorBytes (ws.getD (nk - 1) []) t' :: ws)

/-- FIPS 197: the words of a key, 4 bytes each. -/
def keyWords (nk : Nat) (key : Bytes) : List Bytes := (List.range nk).map (fun i => slice key (4 * i) 4)

/-- FIPS 197: the round keys of a key of 16 or 32 bytes. -/
def aesRoundKeys (key : Bytes) : List Bytes :=
  let nk := if key.length ≤ 16 then 4 else 8
  let nr := nk + 6
  let ws := (aesExpand nk (4 * (nr + 1) - nk) nk (keyWords nk (padTo (4 * nk) key)).reverse).reverse
  (List.range (nr + 1)).map (fun r => ((ws.drop (4 * r)).take 4).flatten)

/-- FIPS 197: the rounds between the first key addition and the last round. -/
def aesRounds : List Bytes → Bytes → Bytes
  | [], s => s
  | [k], s => xorBytes (shiftRows (s.map (subByte aesSbox))) k
  | k :: r, s => aesRounds r (xorBytes (mixColumns [2, 3, 1, 1] (shiftRows (s.map (subByte aesSbox)))) k)

/-- FIPS 197: the cipher of one block. -/
def aesEncrypt (key block : Bytes) : Bytes :=
  match aesRoundKeys key with
  | [] => block
  | k :: r => aesRounds r (xorBytes (padTo 16 block) k)

/-- FIPS 197: the rounds of the inverse cipher, round keys in reverse order. -/
def aesInvRounds : List Bytes → Bytes → Bytes
  | [], s => s
  | [k], s => xorBytes ((invShiftRows s).map (subByte aesInvSbox)) k
  | k :: r, s => aesInvRounds r (mixColumns [14, 11, 13, 9] (xorBytes ((invShiftRows s).map (subByte aesInvSbox)) k))

/-- FIPS 197: the inverse cipher of one block. -/
def aesDecrypt (key block : Bytes) : Bytes :=
  match (aesRoundKeys key).reverse with
  | [] => block
  | k :: r => aesInvRounds r (xorBytes (padTo 16 block) k)

end Sys2Proof.Machine
end

