-- ==== Sys2Proof/Machine/Crypto.lean ====
section
/-!
DEFINITION. The modes of the published standards that R5 names, built on the block cipher: CMAC (SP 800-38B), the
counter-mode KDF (SP 800-108), GCM and GMAC (SP 800-38D), key wrap (SP 800-38F), and the uses of them that the chapters
fix: meter keys (R99), the GCM of a frame (R100), the GMAC of a dictionary message (R57, R58).
-/
namespace Sys2Proof.Machine

/-- A 16-byte block as a number, first byte most significant. -/
def blockBits (b : Bytes) : BitVec 128 := BitVec.ofNat 128 (beNat (padTo 16 b))

/-- A number as a 16-byte block. -/
def bitsBlock (v : BitVec 128) : Bytes := beBytes 16 v.toNat

/-- SP 800-38B: doubling of a subkey. -/
def cmacDouble (b : Bytes) : Bytes :=
  let v := blockBits b
  bitsBlock (if v.getLsbD 127 then (v <<< 1) ^^^ 0x87#128 else v <<< 1)

/-- SP 800-38B: the chain over blocks; `n` bounds their number. -/
def cmacChain (key k1 k2 : Bytes) : Nat → Bytes → Bytes → Bytes
  | 0, c, _ => c
  | n + 1, c, m =>
    if 16 < m.length then cmacChain key k1 k2 n (aesEncrypt key (xorBytes c (m.take 16))) (m.drop 16)
    else if m.length = 16 then aesEncrypt key (xorBytes c (xorBytes m k1))
    else aesEncrypt key (xorBytes c (xorBytes (padTo 16 (m ++ [0x80])) k2))

/-- AES-CMAC of a message. -/
def cmac (key m : Bytes) : Bytes :=
  let k1 := cmacDouble (aesEncrypt key (zeros 16))
  cmacChain key k1 (cmacDouble k1) (m.length / 16 + 1) (zeros 16) m

/-- SP 800-108, R99: one output block of the counter-mode KDF, i and L as big-endian U32. -/
def kdfBlock (key label context : Bytes) (i lBits : Nat) : Bytes :=
  cmac key (beBytes 4 i ++ label ++ [0x00] ++ context ++ beBytes 4 lBits)

/-- SP 800-108: `lBits` of output. -/
def kdf (key label context : Bytes) (lBits : Nat) : Bytes :=
  (((List.range ((lBits + 127) / 128)).map (fun i => kdfBlock key label context (i + 1) lBits)).flatten).take (lBits / 8)

/-- R99 step 1: label "OCTMK". -/
def labelMk : Bytes := [0x4F, 0x43, 0x54, 0x4D, 0x4B]
/-- R99 step 2: label "OCTGK". -/
def labelGk : Bytes := [0x4F, 0x43, 0x54, 0x47, 0x4B]

/-- R99: the meter master key. -/
def meterMaster (root : Bytes) (eui : Nat) : Bytes := kdfBlock root labelMk (leBytes 8 eui) 1 128

/-- R99: K_up of a generation. -/
def keyUp (root : Bytes) (eui gen : Nat) : Bytes := kdfBlock (meterMaster root eui) labelGk (leBytes 2 gen) 1 256

/-- R99: K_dn of a generation. -/
def keyDn (root : Bytes) (eui gen : Nat) : Bytes := kdfBlock (meterMaster root eui) labelGk (leBytes 2 gen) 2 256

/-- SP 800-38D: one step of the multiplication in GF(2^128). -/
def gfSteps (x : BitVec 128) : Nat → BitVec 128 → BitVec 128 → BitVec 128
  | 0, z, _ => z
  | n + 1, z, v =>
    gfSteps x n (if x.getLsbD n then z ^^^ v else z)
      (if v.getLsbD 0 then (v >>> 1) ^^^ (0xE1#128 <<< 120) else v >>> 1)

/-- SP 800-38D: multiplication of blocks. -/
def gfMul (x y : BitVec 128) : BitVec 128 := gfSteps x 128 0#128 y

/-- SP 800-38D: GHASH over a byte string, block by block; `n` bounds their number. -/
def ghash (h : BitVec 128) : Nat → BitVec 128 → Bytes → BitVec 128
  | 0, y, _ => y
  | n + 1, y, m =>
    if m = [] then y else ghash h n (gfMul (y ^^^ blockBits (m.take 16)) h) (m.drop 16)

/-- A byte string filled with zero bytes to whole blocks. -/
def padBlocks (b : Bytes) : Bytes := b ++ zeros ((16 - b.length % 16) % 16)

/-- SP 800-38D: inc32. -/
def inc32 (b : Bytes) : Bytes := b.take 12 ++ beBytes 4 ((beNat (b.drop 12) + 1) % 2 ^ 32)

/-- SP 800-38D: GCTR from a counter block; `n` bounds the blocks. -/
def gctr (key : Bytes) : Nat → Bytes → Bytes → Bytes
  | 0, _, _ => []
  | n + 1, cb, m =>
    if m = [] then [] else
      xorBytes (m.take 16) (aesEncrypt key cb) ++ gctr key n (inc32 cb) (m.drop 16)

/-- SP 800-38D: J0 of a 96-bit IV. -/
def gcmJ0 (iv : Bytes) : Bytes := padTo 12 iv ++ [0, 0, 0, 1]

/-- SP 800-38D: encryption and decryption of a text are the same stream. -/
def gcmCrypt (key iv text : Bytes) : Bytes := gctr key (text.length / 16 + 1) (inc32 (gcmJ0 iv)) text

/-- SP 800-38D: the tag, 16 bytes, over additional data and ciphertext. -/
def gcmTag (key iv aad cipher : Bytes) : Bytes :=
  let h := blockBits (aesEncrypt key (zeros 16))
  let m := padBlocks aad ++ padBlocks cipher ++ beBytes 8 (8 * aad.length) ++ beBytes 8 (8 * cipher.length)
  xorBytes (bitsBlock (ghash h (m.length / 16 + 1) 0#128 m)) (aesEncrypt key (gcmJ0 iv))

/-- R57: AES-GMAC, the tag of an empty text. -/
def gmac (key iv aad : Bytes) : Bytes := gcmTag key iv aad []

/-- SP 800-38F: one step of the wrap: the running value and the registers, with step number `t`. -/
def kwStep (key : Bytes) (t : Nat) (a r : Bytes) : Bytes × Bytes :=
  let b := aesEncrypt key (a ++ r)
  (xorBytes (b.take 8) (beBytes 8 t), b.drop 8)

/-- SP 800-38F: `n` steps from step `t`; the registers turn one place at each step. -/
def kwSteps (key : Bytes) : Nat → Nat → Bytes → List Bytes → Bytes × List Bytes
  | 0, _, a, rs => (a, rs)
  | n + 1, t, a, rs =>
    match rs with
    | [] => (a, [])
    | r :: rest => let x := kwStep key t a r; kwSteps key n (t + 1) x.1 (rest ++ [x.2])

/-- A byte string in pieces of 8 bytes. -/
def semiblocks (n : Nat) (b : Bytes) : List Bytes := (List.range n).map (fun i => slice b (8 * i) 8)

/-- SP 800-38F KW: a text of whole 8-byte pieces wrapped under a key. -/
def keyWrap (key text : Bytes) : Bytes :=
  let n := text.length / 8
  let x := kwSteps key (6 * n) 1 (List.replicate 8 0xA6) (semiblocks n text)
  x.1 ++ x.2.flatten

/-- SP 800-38F: `n` steps of the unwrap, from step `t` down; the registers turn one place back at each step. -/
def kwUnsteps (key : Bytes) : Nat → Bytes → List Bytes → Bytes × List Bytes
  | 0, a, rs => (a, rs)
  | t + 1, a, rs =>
    let r := rs.getLastD []
    let b := aesDecrypt key (xorBytes a (beBytes 8 (t + 1)) ++ r)
    kwUnsteps key t (b.take 8) (b.drop 8 :: rs.dropLast)

/-- SP 800-38F KW: the unwrapped text, or none when the integrity check fails. -/
def keyUnwrap (key wrapped : Bytes) : Option Bytes :=
  if wrapped.length < 24 ∨ wrapped.length % 8 ≠ 0 then none
  else
    let n := wrapped.length / 8 - 1
    let x := kwUnsteps key (6 * n) (wrapped.take 8) (semiblocks n (wrapped.drop 8))
    if x.1 = List.replicate 8 0xA6 then some x.2.flatten else none

/-- R58: the GMAC IV of a dictionary message. -/
def dictIv (kind role seq : Nat) : Bytes := [byte kind, byte role, 0, 0] ++ leBytes 8 seq

/-- R57: the tag of a dictionary message. -/
def dictTag (key : Bytes) (kind role seq : Nat) (headerAndPayload : Bytes) : Bytes :=
  gmac key (dictIv kind role seq) headerAndPayload

/-- R100: the nonce of a frame. -/
def frameNonce (eui fc : Nat) : Bytes := leBytes 8 eui ++ leBytes 4 fc

/-- R100: the 96-bit tag of a frame. -/
def frameTag (key : Bytes) (eui fc : Nat) (aad cipher : Bytes) : Bytes := (gcmTag key (frameNonce eui fc) aad cipher).take 12

end Sys2Proof.Machine
end

