-- ==== Sys2Proof/Machine/Frame.lean ====
section
/-!
DEFINITION. The link frame of chapter 3 (R91 to R100): its fields as they stand in its bytes, and its headers as the
concentrator writes them.
-/
namespace Sys2Proof.Machine

/-! ### Reading a frame -/

/-- R92, R93: TYPE. -/
def fType (f : Bytes) : Nat := fieldLE f 0 1 / 16
/-- R92: MF. -/
def fMf (f : Bytes) : Bool := bit (fieldLE f 0 1) 3
/-- R92: FP. -/
def fFp (f : Bytes) : Bool := bit (fieldLE f 0 1) 2
/-- R92: RP. -/
def fRp (f : Bytes) : Bool := bit (fieldLE f 0 1) 1
/-- R92: AR. -/
def fAr (f : Bytes) : Bool := bit (fieldLE f 0 1) 0
def fDest (f : Bytes) : Nat := fieldLE f 1 2
def fSrc (f : Bytes) : Nat := fieldLE f 3 2
def fLseq (f : Bytes) : Nat := fieldLE f 5 1

/-- R94: HOPS of the route header, 0 when there is none. -/
def fHops (f : Bytes) : Nat := if fRp f then bits (fieldLE f 6 1) 4 3 else 0
/-- R94: NEXT. -/
def fNext (f : Bytes) : Nat := if fRp f then bits (fieldLE f 6 1) 0 3 else 0
/-- R94: the repeaters, in the order in which they forward. -/
def fRoute (f : Bytes) : List Nat := (List.range (fHops f)).map (fun i => fieldLE f (7 + 2 * i) 2)

/-- R91: the offset of the flood header. -/
def fFloodOff (f : Bytes) : Nat := 6 + if fRp f then 1 + 2 * fHops f else 0
/-- R95: ORIGIN, FSEQ and TTL. -/
def fOrigin (f : Bytes) : Nat := fieldLE f (fFloodOff f) 2
def fFseq (f : Bytes) : Nat := fieldLE f (fFloodOff f + 2) 2
def fTtl (f : Bytes) : Nat := fieldLE f (fFloodOff f + 4) 1 % 16

/-- R91: the offset of the envelope header. -/
def fEnvOff (f : Bytes) : Nat := fFloodOff f + if fFp f then 5 else 0
/-- R98: the envelope header. -/
def fEui (f : Bytes) : Nat := fieldLE f (fEnvOff f) 8
def fGen (f : Bytes) : Nat := fieldLE f (fEnvOff f + 8) 2
def fFc (f : Bytes) : Nat := fieldLE f (fEnvOff f + 10) 4
/-- R91, R115: FAMILY of a JOIN. -/
def fFamily (f : Bytes) : Nat := fieldLE f (fEnvOff f + 14) 1
/-- R91: the offset of the body. -/
def fBodyOff (f : Bytes) : Nat := fEnvOff f + 14 + if fType f = 3 then 1 else 0
/-- R91: the ciphertext of the body. -/
def fCipher (f : Bytes) : Bytes := slice f (fBodyOff f) (f.length - fBodyOff f - 12)
/-- R91: the GCM tag. -/
def fTag (f : Bytes) : Bytes := f.drop (f.length - 12)

/-- R100: bytes with those at which NEXT and the TTL stand counted as 0. -/
def clearMoving (f : Bytes) : Bytes :=
  let f1 := if fRp f then f.modify 6 (fun b => byte (b.toNat / 8 * 8)) else f
  if fFp f then f1.modify (fFloodOff f + 4) (fun b => byte (b.toNat / 16 * 16)) else f1

/-- R100: the additional authenticated data: every byte before the body. -/
def fAad (f : Bytes) : Bytes := (clearMoving f).take (fBodyOff f)

/-- R93: whether a TYPE is an uplink type. -/
def isUplink (t : Nat) : Bool := decide (1 ≤ t ∧ t ≤ 7)

/-- R97: the minimum body of a type, and of its authentication field. -/
def minBody (t : Nat) : Nat :=
  match t with
  | 1 => 15 | 2 => 8 | 3 => 13 | 4 => 7 | 5 => 16 | 6 => 4 | _ => 3

/-- R97: whether an ingested frame is malformed. -/
def malformed (f : Bytes) : Bool :=
  !isUplink (fType f) || (fRp f && fFp f) || (fRp f && (decide (fHops f = 0) || decide (fHops f < fNext f))) ||
    decide (f.length < fBodyOff f + minBody (fType f) + 12) ||
    (decide (fType f = 3) && (decide (fGen f ≠ 0) || decide (15 < fFamily f)))

/-! ### Writing a frame -/

/-- Where a downlink frame goes: power-line through repeaters, radio direct, or a flood with FSEQ and TTL. -/
inductive Path where
  | route (hops : List Nat)
  | flood (fseq ttl : Nat)
deriving DecidableEq, Repr, Inhabited

/-- R92, R94, R95: link header with the route or flood header; SRC 0x0000, NEXT 0, ORIGIN 0x0000. -/
def downHead (typ dest lseq : Nat) (p : Path) : Bytes :=
  match p with
  | .route hops =>
    let fl := if hops = [] then 0 else 2
    [byte (typ * 16 + fl)] ++ leBytes 2 dest ++ leBytes 2 0 ++ [byte lseq] ++
      (if hops = [] then [] else byte (hops.length * 16) :: (hops.map (leBytes 2)).flatten)
  | .flood fseq ttl =>
    [byte (typ * 16 + 4)] ++ leBytes 2 dest ++ leBytes 2 0 ++ [byte lseq] ++ leBytes 2 0 ++ leBytes 2 fseq ++ [byte ttl]

/-- R98: the envelope header. -/
def envelope (eui gen fc : Nat) : Bytes := leBytes 8 eui ++ leBytes 2 gen ++ leBytes 4 fc

/-- R100: a downlink frame sealed under a key: head, envelope, ciphertext, tag. -/
def sealFrame (key head : Bytes) (eui gen fc : Nat) (body : Bytes) : Bytes :=
  let h := head ++ envelope eui gen fc
  let c := gcmCrypt key (frameNonce eui fc) body
  h ++ c ++ frameTag key eui fc (clearMoving h) c

/-- R100: a BEACON: empty plaintext, the body authenticated. -/
def sealBeacon (key head : Bytes) (eui gen fc : Nat) (body : Bytes) : Bytes :=
  let h := head ++ envelope eui gen fc ++ body
  h ++ frameTag key eui fc (clearMoving h) []

/-- R118: the message of ACK_TAG. -/
def ackMessage (fc : Nat) (tag : Bytes) (flags : Nat) (report : Bytes) : Bytes :=
  byte 0xAC :: leBytes 4 fc ++ padTo 12 tag ++ [byte flags] ++ report

/-- R118: an ACK. -/
def ackFrame (key head : Bytes) (fc : Nat) (tag : Bytes) (flags : Nat) (report : Bytes) : Bytes :=
  head ++ [byte flags] ++ report ++ (cmac key (ackMessage fc tag flags report)).take 8

end Sys2Proof.Machine
end

