-- ==== Sys2Proof/Machine/P384.lean ====
section
/-!
DEFINITION. The curve P-384 of FIPS 186-5 and SP 800-56A, which R5 names: points, ECDH, ECDSA.
-/
namespace Sys2Proof.Machine

/-- The field prime of P-384. -/
def pP : Nat := 2 ^ 384 - 2 ^ 128 - 2 ^ 96 + 2 ^ 32 - 1
/-- The coefficient b of P-384. -/
def pB : Nat := 0xB3312FA7E23EE7E4988E056BE3F82D19181D9C6EFE8141120314088F5013875AC656398D8A2ED19D2A85C8EDD3EC2AEF
/-- The order n of P-384. -/
def pN : Nat := 0xFFFFFFFFFFFFFFFFFFFFFFFFFFFFFFFFFFFFFFFFFFFFFFFFC7634D81F4372DDF581A0DB248B0A77AECEC196ACCC52973
/-- The base point of P-384. -/
def pGx : Nat := 0xAA87CA22BE8B05378EB1C71EF320AD746E1D3B628BA79B9859F741E082542A385502F25DBF55296C3A545E3872760AB7
def pGy : Nat := 0x3617DE4A96262C6F5D9E98BF9292DC29F8F41DBD289A147CE9DA3113B5F0B8C00A60B1CE1D7E819D7A431D7C90EA0E5F

/-- `b ^ e mod m`, by the lowest `n` bits of `e`. -/
def powMod (m : Nat) : Nat → Nat → Nat → Nat
  | 0, _, _ => 1 % m
  | n + 1, b, e =>
    let r := powMod m n (b * b % m) (e / 2)
    if e % 2 = 1 then b * r % m else r

/-- The inverse modulo a prime. -/
def invMod (m b : Nat) : Nat := powMod m 384 (b % m) (m - 2)

/-- A point of the curve; none is the point at infinity. -/
abbrev Point := Option (Nat × Nat)

/-- Difference modulo the field prime. -/
def subP (a b : Nat) : Nat := (a + pP - b % pP) % pP

/-- Whether a point lies on P-384. -/
def onCurve (x y : Nat) : Bool :=
  decide (x < pP ∧ y < pP ∧ y * y % pP = (x * x * x + 3 * (pP - x) + pB) % pP)

/-- The sum of two points. -/
def ptAdd (a b : Point) : Point :=
  match a, b with
  | none, q => q
  | p, none => p
  | some (x1, y1), some (x2, y2) =>
    if x1 = x2 ∧ (y1 + y2) % pP = 0 then none
    else
      let l := if x1 = x2 then (3 * x1 * x1 + pP - 3) % pP * invMod pP (2 * y1) % pP
               else subP y2 y1 * invMod pP (subP x2 x1) % pP
      let x3 := subP (subP (l * l % pP) x1) x2
      some (x3, subP (l * subP x1 x3 % pP) y1)

/-- A multiple of a point, by the lowest `n` bits of the factor. -/
def ptMul : Nat → Nat → Point → Point
  | 0, _, _ => none
  | n + 1, k, p =>
    let r := ptMul n (k / 2) (ptAdd p p)
    if k % 2 = 1 then ptAdd p r else r

/-- The base point. -/
def ptG : Point := some (pGx, pGy)

/-- An uncompressed public key of 97 bytes as a point on the curve, or none. -/
def decodePoint (b : Bytes) : Option (Nat × Nat) :=
  let x := beNat (slice b 1 48)
  let y := beNat (slice b 49 48)
  if b.length = 97 ∧ b.head? = some 0x04 ∧ onCurve x y then some (x, y) else none

/-- A point as an uncompressed public key. -/
def encodePoint (p : Point) : Bytes :=
  match p with
  | some (x, y) => [0x04] ++ beBytes 48 x ++ beBytes 48 y
  | none => zeros 97

/-- The public key of a private key. -/
def ecPublic (d : Nat) : Bytes := encodePoint (ptMul 384 d ptG)

/-- SP 800-56A: the ECC CDH primitive, the x-coordinate of `d` times a point, 48 bytes. -/
def ecdh (d : Nat) (q : Nat × Nat) : Bytes :=
  match ptMul 384 d (some q) with
  | some (x, _) => beBytes 48 x
  | none => zeros 48

/-- FIPS 186-5: ECDSA verification of a signature r ‖ s of 96 bytes over a message. -/
def ecdsaVerify (pub msg sig : Bytes) : Bool :=
  let r := beNat (slice sig 0 48)
  let t := beNat (slice sig 48 48)
  match decodePoint pub with
  | none => false
  | some q =>
    if sig.length ≠ 96 ∨ r = 0 ∨ t = 0 ∨ pN ≤ r ∨ pN ≤ t then false
    else
      let w := invMod pN t
      let e := beNat (sha384 msg)
      match ptAdd (ptMul 384 (e * w % pN) ptG) (ptMul 384 (r * w % pN) (some q)) with
      | some (x, _) => decide (x % pN = r)
      | none => false

/-- FIPS 186-5: an ECDSA signature r ‖ s with the per-message number `k`. -/
def ecdsaSign (d k : Nat) (msg : Bytes) : Bytes :=
  match ptMul 384 k ptG with
  | some (x, _) =>
    let r := x % pN
    beBytes 48 r ++ beBytes 48 (invMod pN k * (beNat (sha384 msg) + r * d) % pN)
  | none => zeros 96

end Sys2Proof.Machine
end

