-- ==== Sys2Proof/Machine/Vault.lean ====
section
/-!
DEFINITION. The vault (chapter 17): the POLICY word, integrity tags, deliveries of working keys, import, revocation and
erasure, the backing store, attestation and the debug challenge.
-/
namespace Sys2Proof.Machine

/-! ### The POLICY word (R555) -/

def polKind (p : Nat) : Nat := bits p 0 3
def polState (p : Nat) : Nat := bits p 3 2
def polSize (p : Nat) : Nat := bits p 5 2
def polParent (p : Nat) : Nat := bits p 8 5
def polHasParent (p : Nat) : Bool := bit p 13
def polSurvive (p : Nat) : Bool := bit p 14
def polUsage (p : Nat) : Nat := bits p 16 7
def polConsumers (p : Nat) : Nat := bits p 24 5
def polGen (p : Nat) : Nat := bits p 32 16

/-- The field of `w` bits at bit `lo` of a word replaced. -/
def setField (p lo w v : Nat) : Nat := p - bits p lo w * 2 ^ lo + v % 2 ^ w * 2 ^ lo

/-- R558: GEN after a rise; after 0xFFFF it is 0. -/
def genUp (p : Nat) : Nat := setField p 32 16 ((polGen p + 1) % 65536)

/-- R555: bytes of key material for a SIZE. -/
def sizeBytes (size : Nat) : Nat := 16 * (size + 1)

/-! ### Values derived from HUK (R553) -/

def labelInt : Bytes := [0x4F, 0x43, 0x54, 0x49, 0x4E, 0x54]
def labelSeal : Bytes := [0x4F, 0x43, 0x54, 0x53, 0x45, 0x41, 0x4C]
def labelId : Bytes := [0x4F, 0x43, 0x54, 0x49, 0x44]
def labelImp : Bytes := [0x4F, 0x43, 0x54, 0x49, 0x4D, 0x50]
def labelAtt : Bytes := [0x4F, 0x43, 0x54, 0x41, 0x54, 0x54]
def labelDbg : Bytes := [0x4F, 0x43, 0x54, 0x44, 0x42, 0x47]

/-- The device identity as 8 bytes. -/
def euiBytes : Bytes := leBytes 8 Config.deviceEui

/-- R553: the integrity key. -/
def integrityKey : Bytes := kdf (padTo 32 Config.huk) labelInt euiBytes 256

/-- R553: the sealing key of a measurement and a life-cycle state. -/
def sealingKey (m : Bytes) (lcs : Nat) : Bytes := kdf (padTo 32 Config.huk) labelSeal (padTo 48 m ++ [byte lcs]) 256

/-- R553: the identity private key, d = (v mod (n − 1)) + 1. -/
def identityKey : Nat := beNat (kdf (padTo 32 Config.huk) labelId euiBytes 448) % (pN - 1) + 1

/-- R557: the integrity tag of a slot. -/
def slotTag (slot policy : Nat) (key : Bytes) : Bytes :=
  (cmac integrityKey ([byte slot] ++ leBytes 8 policy ++ padTo 64 key)).take 4

/-! ### Life cycle (R580) -/

/-- R580: the life-cycle state that the fuses decode to. -/
def Fuses.state (f : Fuses) : LifeCycle :=
  if f.unlock < f.lock then .locked
  else if f.stage = 0 then .blank
  else if (f.stage - 1) % 3 = 0 then .provisioned
  else if (f.stage - 1) % 3 = 1 then .deployed
  else .returned

/-- The code of 0x1018.0 for a life-cycle state. -/
def LifeCycle.code : LifeCycle → Nat
  | .blank => 0 | .provisioned => 1 | .deployed => 2 | .returned => 3 | .locked => 4

/-- The life-cycle state of the device. -/
def State.lcs (s : State) : LifeCycle := s.vaultNv.fuses.state

/-- R580: the owner field in force, for s ≥ 1. -/
def Fuses.ownerField (f : Fuses) : Option Nat := if f.stage = 0 then none else some ((f.stage - 1) / 3)

/-! ### Slots -/

/-- Slot `i` of the key engine. -/
def State.slot (s : State) (i : Nat) : KeySlot := at' s.vault.slots i

/-- Slot `i` replaced. -/
def State.setSlot (s : State) (i : Nat) (k : KeySlot) : State :=
  { s with vault := { s.vault with slots := s.vault.slots.set i k } }

/-- A slot with a policy and key, its tag made anew. -/
def mkSlot (i policy : Nat) (key : Bytes) : KeySlot := { policy := policy, key := key, tag := slotTag i policy key }

/-- One more on count `i` (from 1) of 0x5861. -/
def State.vaultCount (s : State) (i n : Nat) : State :=
  { s with vault := { s.vault with counters := upd s.vault.counters (i - 1) (· + n) } }

/-- R555: whether slot `c` names slot `p` as its parent. -/
def State.isChild (s : State) (p c : Nat) : Bool :=
  let q := (s.slot c).policy
  polKind q != 0 && polHasParent q && polParent q == p

/-- R568: the slots below one in the parent tree, to a given depth. -/
def State.below : Nat → State → Nat → List Nat
  | 0, _, _ => []
  | n + 1, s, p =>
    let cs := (List.range 32).filter (fun c => s.isChild p c)
    cs ++ (cs.map (State.below n s)).flatten

/-- R568: a slot and every slot below it. -/
def State.family (s : State) (p : Nat) : List Nat := (p :: s.below 32 p).eraseDups

/-- R564: the working registers that hold a key from any of the slots are cleared. -/
def State.clearRegs (s : State) (slots : List Nat) : State :=
  { s with vault := { s.vault with
      regs := s.vault.regs.map (fun r => if r.key ≠ [] ∧ slots.contains r.slot then { r with key := [] } else r) } }

/-- R558: a generation notice to every lane in service. The downlink encryptor and the export engine apply theirs at
once (log entry 9). -/
def State.notify (s : State) (slot : Nat) : State :=
  let g := polGen (s.slot slot).policy
  let ls := (List.range 4).filter (fun l => s.inService (cellAddr 1 1 l))
  { s with vault := { s.vault with notices := s.vault.notices ++ ls.map (fun l => Notice.mk l slot g) } }

/-- R559, R561: the record of a slot is written into the bank in use, and into both banks while both are in use, each
under its own sealing key. An EMPTY slot has no record. -/
def bankPut (slot : Nat) (k : KeySlot) (b : Bank) : Bank :=
  let rest := b.records.filter (fun r => r.slot ≠ slot)
  if polKind k.policy = 0 then { b with records := rest }
  else { b with records := rest ++
    [{ slot := slot, policy := k.policy, tag := k.tag,
       wrapped := keyWrap (sealingKey b.labelM b.labelLcs) k.key, crcOk := true }] }

/-- R559: the backing-store record of a slot follows the live slot. -/
def State.saveSlot (s : State) (slot : Nat) : State :=
  let k := s.slot slot
  { s with vaultNv := { s.vaultNv with
      banks := s.vaultNv.banks.mapIdx (fun i b =>
        if b.written && (s.vault.bothBanks || i == s.vault.bankInUse) then bankPut slot k b else b) } }

/-- R557: a slot whose tag fails becomes BAD, its GEN rises, its registers are cleared, and 0x5807 is raised. -/
def State.slotBad (s : State) (slot consumer : Nat) : State :=
  let k := s.slot slot
  let p := genUp (setField k.policy 3 2 2)
  let s1 := ((s.setSlot slot { k with policy := p }).clearRegs (s.family slot)).notify slot
  (((s1.vaultCount 3 1).raiseError (0xA000 + slot) 0x0033).event 0x5807 (0xA000 + slot)
    ([byte slot, byte consumer] ++ leBytes 2 (polGen p)))

/-- The number of a consumer in 0x5807 (R591). -/
def Consumer.code : Consumer → Nat
  | .lane0 | .lane1 | .lane2 | .lane3 => 1
  | .downlink => 2 | .exporter => 3 | .dictAuth => 4 | .image => 5 | .nandXts => 0

/-- The place of a consumer's register. -/
def Consumer.index : Consumer → Nat
  | .lane0 => 0 | .lane1 => 1 | .lane2 => 2 | .lane3 => 3 | .downlink => 4 | .exporter => 5 | .dictAuth => 6
  | .nandXts => 7 | .image => 8

/-- R555: the bit of CONSUMERS for a consumer. -/
def Consumer.bitNo : Consumer → Nat
  | .lane0 | .lane1 | .lane2 | .lane3 => 0
  | .downlink => 1 | .exporter => 2 | .dictAuth => 3 | .image => 4 | .nandXts => 7

/-- R555: the lane register of lane `l`. -/
def laneConsumer (l : Nat) : Consumer :=
  match l with | 0 => .lane0 | 1 => .lane1 | 2 => .lane2 | _ => .lane3

/-- R555: the bit of USAGE that a use needs; `raw` names it itself. -/
def KeyUse.usage : KeyUse → Nat
  | .up _ _ => 0 | .down _ _ => 0 | .raw u => u

/-- R562, R99: the working key that a use takes from the key of its slot. -/
def KeyUse.key (u : KeyUse) (root : Bytes) : Bytes :=
  match u with
  | .up eui gen => keyUp root eui gen
  | .down eui gen => keyDn root eui gen
  | .raw _ => root

/-- R563, R575: why a slot cannot serve a use, or 0 when it can. In lockdown only the dictionary authenticator is
served, from the slots that are left (R575). -/
def State.slotRefusal (s : State) (slot : Nat) (c : Consumer) (u : KeyUse) : Nat :=
  let p := (s.slot slot).policy
  if s.vault.lockdown && c != .dictAuth then Abort.lockdown
  else if 32 ≤ slot ∨ polKind p = 0 then Abort.keyPolicy
  else if polState p = 2 then Abort.keySlotBad
  else if polState p = 1 then Abort.rootRevoked
  else if !bit (polConsumers p) c.bitNo || !bit (polUsage p) u.usage then Abort.keyPolicy
  else 0

/-- R557: whether a slot's integrity tag is right. -/
def State.tagOk (s : State) (slot : Nat) : Bool :=
  let k := s.slot slot
  decide (k.tag = slotTag slot k.policy k.key)

/-- R563: a delivery: the slot is checked, its tag compared, and the working key with the slot's GEN loaded into the
consumer's register. The second result is the reason, 0 when the key was delivered. -/
def State.deliverKey (s : State) (c : Consumer) (slot : Nat) (u : KeyUse) : State × Nat :=
  let r := s.slotRefusal slot c u
  if r ≠ 0 then (s, r)
  else if !s.tagOk slot then (s.slotBad slot c.code, Abort.keySlotBad)
  else
    let k := s.slot slot
    let reg : WorkReg := { slot := slot, gen := polGen k.policy, key := u.key k.key }
    let s1 := { s with vault := { s.vault with regs := s.vault.regs.set c.index reg } }
    ((match u with | .raw _ => s1 | _ => s1.vaultCount 1 1).vaultCount 2 1, 0)

/-- The working register of a consumer. -/
def State.reg (s : State) (c : Consumer) : WorkReg := at' s.vault.regs c.index

/-- R556: whether a slot fits a use that an object binds it to: its kind, its size in bytes, and its consumer bit.
0xFF binds no slot; slots 0 and 1 may not be named (R554). -/
def State.slotFits (s : State) (slot kind : Nat) (sizes : List Nat) (consumer : Nat) : Bool :=
  let p := (s.slot slot).policy
  slot == 0xFF ||
    (decide (2 ≤ slot ∧ slot ≤ 31) && polKind p == kind && sizes.contains (polSize p) && bit (polConsumers p) consumer)

/-- KEY_REQUEST (R563): the vault checks a slot and delivers a key to a consumer's working register. -/
def execKeyRequest (c : Consumer) (slot : Nat) (u : KeyUse) (s : State) : Res :=
  s.whenLive (fun s =>
    let r := s.deliverKey c slot u
    r.1.put (.keyReply c.index slot r.2))

/-! ### Import (R565 to R567) -/

/-- R556: whether a kind allows a size, usages and consumers. -/
def kindAllows (kind size usage consumers : Nat) : Bool :=
  let inMask := fun v m w => andNotBits w v m == 0
  match kind with
  | 1 => size == 1 && usage == 16 && consumers == 0
  | 4 => size == 1 && usage == 16 && consumers == 0
  | 2 => size == 0 && usage == 1 && inMask consumers 3 5
  | 3 => decide (size ≤ 1) && usage != 0 && inMask usage 14 7 && inMask consumers 14 5
  | 6 => size == 1 && usage == 16 && inMask consumers 16 5
  | _ => false

/-- R565, R556: whether a blob's POLICY sets only what an import may set, and only what its kind allows. -/
def importPolicyOk (p : Nat) : Bool :=
  let allowed := polKind p + 2 ^ 5 * polSize p + 2 ^ 14 * b2n (polSurvive p) + 2 ^ 16 * polUsage p + 2 ^ 24 * polConsumers p
  p == allowed && kindAllows (polKind p) (polSize p) (polUsage p) (polConsumers p)

/-- The lowest empty slot from 2, if there is one. -/
def State.lowestEmpty (s : State) : Option Nat :=
  ((List.range 30).map (· + 2)).find? (fun i => polKind (s.slot i).policy == 0)

/-- R565: the slot a blob names, 0xFE standing for the lowest empty one. -/
def State.importSlot (s : State) (blob : Bytes) : Nat :=
  let n := fieldLE blob 1 1
  if n = 0xFE then s.lowestEmpty.getD 0xFE else n

/-- R567: checks 1 to 8 in order; 0 when all pass. -/
def State.importCheck (s : State) (blob : Bytes) : Nat :=
  let field := fieldLE blob 1 1
  let method := fieldLE blob 2 1
  let kek := fieldLE blob 3 1
  let flags := fieldLE blob 4 1
  let policy := fieldLE blob 8 8
  let slot := s.importSlot blob
  let old := (s.slot slot).policy
  let kp := (s.slot kek).policy
  if s.vault.lockdown || s.lcs == .locked then Abort.lockdown
  else if fieldLE blob 0 1 ≠ 1 ∨ 1 < method ∨ 1 < flags ∨ fieldLE blob 5 3 ≠ 0 ∨ fieldLE blob 129 3 ≠ 0
      ∨ (method = 0 ∧ kek ≠ 0) ∨ (method = 1 ∧ (slice blob 32 97).any (· != 0))
      ∨ field < 2 ∨ (31 < field ∧ field ≠ 0xFE) ∨ blob.length ≠ 148 + sizeBytes (polSize policy) then Abort.valueRange
  else if field = 0xFE ∧ s.lowestEmpty = none then Abort.noFreeSlot
  else if (polKind old ≠ 0 ∧ polState old ≠ 1 ∧ flags = 0) ∨ (List.range 32).any (fun c => s.isChild slot c) then
    Abort.valueInconsistent
  else if !importPolicyOk policy || (polKind policy == 1 && method == 1)
      || (polKind policy == 2 && decide (16 ≤ (((List.range 32).filter
            (fun i => i != slot && polKind (s.slot i).policy == 2)).length))) then Abort.keyPolicy
  else if method = 1 ∧ polState kp = 2 then Abort.keySlotBad
  else if method = 1 ∧ polState kp = 1 then Abort.rootRevoked
  else if (method = 1 ∧ (31 < kek ∨ (polKind kp ≠ 1 ∧ polKind kp ≠ 4)))
      ∨ (method = 0 ∧ decodePoint (slice blob 32 97) = none) then Abort.keyPolicy
  else 0

/-- R566: the key-encryption key of a blob. -/
def State.importKek (s : State) (blob : Bytes) : Bytes :=
  if fieldLE blob 2 1 = 1 then (s.slot (fieldLE blob 3 1)).key
  else
    match decodePoint (slice blob 32 97) with
    | none => []
    | some q =>
      kdf ((sha384 (ecdh identityKey q)).take 32) labelImp (euiBytes ++ slice blob 1 1 ++ slice blob 16 16) 256

/-- R566, R567 check 9: the key of a blob, if the unwrap succeeds and the POLICY inside equals the blob's. -/
def State.importKey (s : State) (blob : Bytes) : Option Bytes :=
  if (s.slot (if fieldLE blob 2 1 = 1 then fieldLE blob 3 1 else 0)).key = [] then none else
  match keyUnwrap (s.importKek blob) (blob.drop 132) with
  | none => none
  | some t => if t.take 8 = slice blob 8 8 then some (t.drop 8) else none

/-- 0x5821 ImportStatus. -/
def State.importResult (s : State) (state slot abort : Nat) : State :=
  { s with vault := { s.vault with importState := state, importSlot := slot, importAbort := abort, pending := none } }

/-- KEY_IMPORT (R567): the checks in their order; an import that passes them starts. A refusal is reported in
ImportStatus and raises no event (log entry 10). -/
def keyImport (blob : Bytes) (s : State) : State × Nat :=
  if s.vault.pending ≠ none then (s, Abort.busy)
  else if fieldLE blob 1 1 ≤ 31 ∧ !s.inService (0xA000 + fieldLE blob 1 1) then (s, Abort.fenced)
  else
    let r := s.importCheck blob
    if r ≠ 0 then (s.importResult 3 0 r, Abort.ok)
    else
      ({ s with vault := { s.vault with
          importState := 1, importSlot := 0, importAbort := 0
          pending := some { blob := blob, slot := s.importSlot blob, startedAt := s.now } } }, Abort.ok)

/-- KEY_IMPORT as a command. -/
def execKeyImport (role : Nat) (blob : Bytes) (s : State) : Res := s.command 0x5820 0 role .keyholder (keyImport blob)

/-- The policy that an imported slot takes: the blob's, its parent, and the slot's GEN raised (R555, R558, R566). -/
def importedPolicy (old policy method kek : Nat) : Nat :=
  let p := if method = 1 then setField (setField policy 8 5 kek) 13 1 1 else policy
  genUp (setField p 32 16 (polGen old))

/-- A key put into a live slot with its record, registers left as they are (R564, R567). -/
def State.fillSlot (s : State) (slot policy : Nat) (key : Bytes) : State :=
  ((s.setSlot slot (mkSlot slot policy key)).saveSlot slot).notify slot

/-- R557: whether the tag of a slot that holds a key fails at a use. -/
def State.tagBroken (s : State) (slot : Nat) : Bool := (s.slot slot).key != [] && !s.tagOk slot

/-- KEY_IMPORTED (R567): the pending import completes; nothing comes about with none pending. The tag of the slot that unwraps it is checked
(R557). -/
def keyImported (s : State) : State :=
  match s.vault.pending with
  | none => s
  | some i =>
    let by' := if fieldLE i.blob 2 1 = 1 then fieldLE i.blob 3 1 else 0
    if s.tagBroken by' then (s.slotBad by' 0).importResult 3 0 Abort.keySlotBad else
    match s.importKey i.blob with
    | none => s.importResult 3 0 Abort.unwrapFail
    | some key =>
      let method := fieldLE i.blob 2 1
      let kek := fieldLE i.blob 3 1
      let p := importedPolicy (s.slot i.slot).policy (fieldLE i.blob 8 8) method kek
      (((s.fillSlot i.slot p key).importResult 2 i.slot 0).vaultCount 4 1).event 0x5804 (0xA000 + i.slot)
        ([byte i.slot, byte (polKind p)] ++ leBytes 2 (polGen p) ++
          [byte method, if method = 1 then byte kek else 0xFF])

/-- KEY_IMPORTED as a command. -/
def execKeyImported (s : State) : Res := s.whenLive keyImported

/-! ### Revocation and erasure -/

/-- R568: a revocation whose last notice has been applied raises 0x5805. -/
def State.finishRevokes (s : State) : State :=
  let done := fun r : Revoking => !(s.vault.notices.any (fun n => r.slots.contains n.slot))
  let ready := s.vault.revoking.filter done
  ready.foldl (fun st r => st.event 0x5805 (0xA000 + r.slot)
      ([byte r.slot, byte r.count] ++ leBytes 2 r.gen ++ leBytes 4 (min maxU32 (2 * (st.now - r.since)))))
    { s with vault := { s.vault with revoking := s.vault.revoking.filter (fun r => !done r) } }

/-- One slot becomes REVOKED, its GEN rises, its record follows. -/
def State.revokeOne (s : State) (slot : Nat) : State :=
  let k := s.slot slot
  ((s.setSlot slot (mkSlot slot (genUp (setField k.policy 3 2 1)) k.key)).saveSlot slot).notify slot

/-- KEY_REVOKE (R568): the slot and every slot below it that is not REVOKED yet becomes REVOKED. -/
def keyRevoke (slot : Nat) (s : State) : State × Nat :=
  if slot < 2 ∨ 31 < slot then (s, Abort.valueRange)
  else if polKind (s.slot slot).policy = 0 then (s, Abort.valueInconsistent)
  else
    let targets := (s.family slot).filter (fun i => polState (s.slot i).policy ≠ 1)
    let s1 := (targets.foldl State.revokeOne s).clearRegs (s.family slot)
    let s2 := s1.vaultCount 5 targets.length
    let r : Revoking := { slot := slot, count := targets.length, gen := polGen (s2.slot slot).policy, since := s.now,
                          slots := targets }
    (({ s2 with vault := { s2.vault with revoking := s2.vault.revoking ++ [r] } }).finishRevokes, Abort.ok)

/-- KEY_REVOKE as a command. -/
def execKeyRevoke (role slot : Nat) (s : State) : Res := s.command 0x5822 0 role .keyholder (keyRevoke slot)

/-- KEY_ERASE (R569). -/
def keyErase (slot : Nat) (s : State) : State × Nat :=
  if slot < 2 ∨ 31 < slot then (s, Abort.valueRange)
  else if (List.range 32).any (fun c => s.isChild slot c) then (s, Abort.valueInconsistent)
  else
    let k := s.slot slot
    if polKind k.policy = 0 then
      (s.event 0x5806 (0xA000 + slot) ([byte slot, 0] ++ leBytes 2 (polGen k.policy)), Abort.ok)
    else
      let p := genUp (setField 0 32 16 (polGen k.policy))
      let s1 := (((s.setSlot slot (mkSlot slot p [])).saveSlot slot).clearRegs [slot]).notify slot
      (s1.event 0x5806 (0xA000 + slot) ([byte slot, 0] ++ leBytes 2 (polGen p)), Abort.ok)

/-- KEY_ERASE as a command. -/
def execKeyErase (role slot : Nat) (s : State) : Res := s.command 0x5823 0 role .keyholder (keyErase slot)

/-- R590: the key check value of a slot, the leftmost 3 bytes of AES-CMAC of 16 zero bytes under its key; zero for a
slot that holds none. A key longer than 256 bits is checked under its first 256 (log entry 11). -/
def keyCheck (k : KeySlot) : Bytes :=
  if k.key = [] then zeros 3 else (cmac (k.key.take 32) (zeros 16)).take 3

/-- 0x5800: the entry of a slot. -/
def State.slotEntry (s : State) (i : Nat) : Bytes :=
  leBytes 8 (s.slot i).policy ++ keyCheck (s.slot i) ++ zeros 5

/-! ### Attestation (R589) -/

/-- R589: what is signed for a challenge. -/
def State.attestMessage (s : State) (challenge : Bytes) : Bytes :=
  labelAtt ++ euiBytes ++ padTo 48 s.vault.measurement ++ [byte s.lcs.code, byte s.vaultNv.fuses.stage] ++ challenge

/-- ATTEST (R589): a challenge for slot 0 is taken; the tag of the slot is checked (R557). -/
def attest (challenge : Bytes) (s : State) : State × Nat :=
  if challenge.length ≠ 32 then (s, Abort.typeLength)
  else if s.vault.attestAsked ≠ none then (s, Abort.busy)
  else if s.vault.lockdown ∨ (s.slot 0).key = [] then (s, Abort.lockdown)
  else if polState (s.slot 0).policy = 2 then (s, Abort.keySlotBad)
  else if !s.tagOk 0 then (s.slotBad 0 0, Abort.keySlotBad)
  else ({ s with vault := { s.vault with attestAsked := some challenge } }, Abort.ok)

/-- R589: the signature of a challenge that waits, made with slot 0 at the next tick, well within the 5 ms (log entry 86). -/
def State.attestTick (s : State) : State :=
  match s.vault.attestAsked with
  | none => s
  | some c =>
    let f := s.freeNat
    { f.1 with vault := { f.1.vault with
        attestAsked := none, attestSig := ecdsaSign (beNat (s.slot 0).key) (f.2 % (pN - 1) + 1) (s.attestMessage c) } }

/-- ATTEST as a command. -/
def execAttest (role : Nat) (challenge : Bytes) (s : State) : Res := s.command 0x5811 1 role .operator (attest challenge)

/-! ### Debug mailbox (R586 to R588) -/

/-- R587: what the challenge registers read: EUI, LCS, STAGE count, reserved, COUNTER, RANDOM. -/
def challengeBytes (lcs stage counter : Nat) (random : Bytes) : Bytes :=
  euiBytes ++ [byte lcs, byte stage, 0, 0] ++ leBytes 4 counter ++ padTo 32 random

/-- ISSUE_CHALLENGE (R587, R588): COUNTER rises and RANDOM is drawn; after 3 failed responses the challenge is refused. A granted session lasts
until it is closed, so a challenge asked for within one is not issued (log entry 86). -/
def issueChallenge (s : State) : State :=
  if s.vault.dbg.busy ∨ s.vault.dbg.state = 2 then s
  else if 3 ≤ s.vault.dbg.failures then { s with vault := { s.vault with dbg := { s.vault.dbg with state := 3 } } }
  else
    let f := s.freeBytes 32
    let c := (s.vaultNv.debugCounter + 1) % 2 ^ 32
    { f.1 with
      vaultNv := { f.1.vaultNv with debugCounter := c }
      vault := { f.1.vault with dbg := { f.1.vault.dbg with
        state := 1, scope := 0, issuedAt := s.now, answered := false
        challenge := challengeBytes s.lcs.code s.vaultNv.fuses.stage c f.2 } } }

/-- Commands of the debug access port come about in a frozen device too: the vault is not frozen (R573, R690). -/
def State.whenPowered (s : State) (f : State → State) : Res :=
  .next (if s.power.phase == .held then s else f s)

/-- ISSUE_CHALLENGE as a command. -/
def execIssueChallenge (s : State) : Res := s.whenPowered issueChallenge

/-- SUBMIT_RESPONSE (R587, R588): a challenge answers one response; the check of its signature starts. -/
def submitResponse (response : Bytes) (s : State) : State :=
  let d := s.vault.dbg
  if d.state = 1 ∧ !d.answered ∧ !d.busy ∧ s.now < d.issuedAt + cSec 60 then
    { s with vault := { s.vault with dbg := { d with busy := true, answered := true, response := padTo 200 response } } }
  else s

/-- SUBMIT_RESPONSE as a command. -/
def execSubmitResponse (response : Bytes) (s : State) : Res := s.whenPowered (submitResponse response)

/-- CLOSE_SESSION (R587): the session closes. -/
def closeSession (s : State) : State :=
  { s with vault := { s.vault with dbg := { s.vault.dbg with state := 0, scope := 0, busy := false, challenge := [] } } }

/-- CLOSE_SESSION as a command. -/
def execCloseSession (s : State) : Res := s.whenPowered closeSession

/-- CHALLENGE_LAPSE (R588): a challenge lapses 60 s after it is issued, unless it has been answered. -/
def challengeLapse (s : State) : State :=
  let d := s.vault.dbg
  if d.state = 1 ∧ !d.answered ∧ d.issuedAt + cSec 60 ≤ s.now then
    { s with vault := { s.vault with dbg := { d with state := 0, challenge := [] } } }
  else s

/-- CHALLENGE_LAPSE as a command. -/
def execChallengeLapse (s : State) : Res := s.whenPowered challengeLapse

/-- R588: whether the response in the mailbox is authentic: the key hashes to the owner field in force or to the vendor
hash, and the signature covers the challenge, KEYSEL and SCOPE. -/
def State.responseAuthentic (s : State) : Bool :=
  let r := s.vault.dbg.response
  let sel := fieldLE r 0 1
  let pub := slice r 4 97
  let hashOk :=
    if sel = 0 then
      (match s.vaultNv.fuses.ownerField with
       | some f => sha384 pub == at' s.vaultNv.fuses.owners f
       | none => false)
    else sel == 1 && sha384 pub == Config.vendorKeyHash
  hashOk && ecdsaVerify pub (labelDbg ++ s.vault.dbg.challenge ++ slice r 0 2) (slice r 104 96)

/-- R586, R588: whether the life-cycle state lets a key grant a scope. -/
def State.debugAllowed (s : State) (keysel scope : Nat) : Bool :=
  if keysel = 0 ∧ bit scope 3 then false
  else
    match s.lcs with
    | .blank | .returned => true
    | .provisioned | .deployed => keysel == 0 || (keysel == 1 && s.cfgN 0x5850 1 == 1)
    | .locked => keysel == 1 && scope == 8

/-- R586: whether debug access with a scope bit is open now. -/
def State.debugGrants (s : State) (scopeBit : Nat) : Bool :=
  match s.lcs with
  | .blank | .returned => true
  | _ => s.vault.dbg.state == 2 && bit s.vault.dbg.scope scopeBit

/-! ### Tamper qualification -/

/-- The cell of a tamper source (R570). -/
def tamperCell (source : Nat) : Nat := if source = 11 then 0xA200 else 0xA100 + source

/-- The response set for a tamper source (R570, R572). -/
def State.tamperResponse (s : State) (source : Nat) : Nat := s.cfgN 0x5830 (source + 1)

/-- TAMPER_STATUS_CLEAR (R590). -/
def tamperStatusClear (v : Nat) : State → State × Nat :=
  one v (fun s => ({ s with vault := { s.vault with sticky := 0 } }, Abort.ok))

/-- TAMPER_STATUS_CLEAR as a command. -/
def execTamperStatusClear (role v : Nat) (s : State) : Res :=
  s.command 0x5832 3 role .keyholder (tamperStatusClear v)

/-- TAMPER_REARM (R571): a source that has been inactive for RearmTime rearms; the operand says for how many seconds it
has been inactive. -/
def tamperRearm (source inactiveFor : Nat) (s : State) : State :=
  if s.cfgN 0x5831 6 ≤ inactiveFor then
    { s with vaultNv := { s.vaultNv with
        sources := upd s.vaultNv.sources source (fun t => { t with active := false, armed := true, misses := 0 }) } }
  else s

/-- TAMPER_REARM as a command: the battery island runs in every state. -/
def execTamperRearm (source : Fin 12) (inactiveFor : Nat) (s : State) : Res := .next (tamperRearm source inactiveFor s)

end Sys2Proof.Machine
end

