-- ==== Sys2Proof/Machine/Down.lean ====
section
/-!
DEFINITION. What every downlink shares: the meter table's lookups (R104), the downlink encryptor (R100, R118, R564), the
counters it takes (R102), and the requests that travel through Q8 to Q15 (R161, R440).
-/
namespace Sys2Proof.Machine

/-! ### The meter table -/

/-- The cells of the dispatcher, the lanes, the meter table, the VEE engine and the distribution engine. -/
def dispatcherCell : Nat := 0x2000
def laneCell (l : Nat) : Nat := 0x2100 + l
def meterTableCell : Nat := 0x2200
def veeCell : Nat := 0x2300
def distCell : Nat := 0x2500

/-- The record of a meter index, if there is one. -/
def State.meter (s : State) (i : Nat) : Option Meter := lookupKey i s.mtr.table

/-- A record put in its place. -/
def State.setMeter (s : State) (i : Nat) (m : Meter) : State :=
  { s with mtr := { s.mtr with table := insertKey i m s.mtr.table } }

/-- A record changed, if there is one. -/
def State.updMeter (s : State) (i : Nat) (f : Meter → Meter) : State :=
  match s.meter i with
  | some m => s.setMeter i (f m)
  | none => s

/-- The index of the record of an EUI. -/
def State.indexOf (s : State) (eui : Nat) : Option Nat :=
  (s.mtr.table.find? (fun p => p.2.eui == eui)).map (·.1)

/-- The index of the record with a short address; 0xFFFD and 0xFFFE name no meter. -/
def State.indexOfShort (s : State) (short : Nat) : Option Nat :=
  if short = 0 ∨ 0xFFFD ≤ short then none
  else (s.mtr.table.find? (fun p => p.2.short == short)).map (·.1)

/-- The meter index of a short address in an event, or "no meter". -/
def State.meterNo (s : State) (short : Nat) : Nat := (s.indexOfShort short).getD noMeter

/-- R122: whether a meter is direct. -/
def Meter.direct (m : Meter) : Bool := m.short != 0xFFFD

/-- One more on count `i` (from 1) of 0x3830. -/
def State.frameCount (s : State) (i : Nat) : State :=
  { s with mtr := { s.mtr with counters := upd s.mtr.counters (i - 1) (· + 1) } }

/-- One more on count `i` (from 1) of 0x4010. -/
def State.laneCount (s : State) (i : Nat) : State :=
  { s with lane := { s.lane with counters := upd s.lane.counters (i - 1) (· + 1) } }

/-! ### Keys and counters of the downlink encryptor -/

/-- R99: the root slot of a family. -/
def State.familySlot (s : State) (fam : Nat) : Nat := s.cfgN (0x3800 + fam) 1

/-- R563, R564: a key for the downlink encryptor; what cannot be delivered is counted in 0x5861.7. -/
def State.downKey (s : State) (slot : Nat) (u : KeyUse) : State × Option Bytes :=
  let r := s.deliverKey .downlink slot u
  if r.2 = 0 then (r.1, some (r.1.reg .downlink).key) else (r.1.vaultCount 7 1, none)

/-- R103: the slot of the network key. -/
def State.networkSlot (s : State) : Nat := s.cfgN 0x3811 1

/-- R101, R102: the next multicast counter; its floor is written first. -/
def State.takeMc (s : State) : State × Nat :=
  let n := s.net.mc
  ({ s with net := { s.net with mc := n + 1, mcFloor := if s.net.mcFloor < n + 1 then n + 1 + 65536 else s.net.mcFloor } }, n)

/-- R101, R102: the next join-answer counter; its floor is written first. -/
def State.takeJoin (s : State) : State × Nat :=
  let n := s.net.join
  ({ s with net := { s.net with join := n + 1, joinFloor := if s.net.joinFloor < n + 1 then n + 1 + 65536 else s.net.joinFloor } }, n)

/-- R96: the concentrator's next link sequence. -/
def State.takeLseq (s : State) : State × Nat :=
  let n := s.plc.lseq
  ({ s with plc := { s.plc with lseq := (n + 1) % 256 } }, n)

/-- R388: the next flood sequence. -/
def State.takeFseq (s : State) : State × Nat :=
  let n := s.radio.fseq
  ({ s with radio := { s.radio with fseq := (n + 1) % 65536 } }, n)

/-! ### Control items (R30, R148)

Every change of a meter record is a commit in the meter's lane: units outside it send control items through Q37. -/

/-- A control item as a packet of Q37: the layout is the model's (log entry 21). -/
def Ctl.bytes (c : Ctl) : Bytes := leBytes 8 c.eui ++ leBytes 4 c.meter ++ [byte c.code] ++ leBytes 4 c.a ++ leBytes 4 c.b ++ c.data

/-- The control item that a packet holds. -/
def ctlOf (b : Bytes) : Ctl :=
  { eui := fieldLE b 0 8, meter := fieldLE b 8 4, code := fieldLE b 12 1, a := fieldLE b 13 4, b := fieldLE b 17 4, data := b.drop 21 }

/-- A control item for a meter on its way through Q37; none when the queue is full, or there is no such meter. -/
def State.sendCtl (s : State) (producer i code a b : Nat) (data : Bytes) : Option State :=
  (s.meter i).bind (fun m => s.pushPacket 37 producer (Ctl.bytes ⟨code, i, m.eui, a, b, data⟩))

/-- Control items that found Q37 full enter it in their order while it has room. -/
def State.sendOwedCtl : Nat → State → State
  | 0, s => s
  | n + 1, s =>
    match s.dist.owedCtl with
    | [] => s
    | (producer, c) :: r =>
      let s1 : State := { s with dist := { s.dist with owedCtl := r } }
      if s.meter c.meter = none then State.sendOwedCtl n s1
      else match s1.sendCtl producer c.meter c.code c.a c.b c.data with
        | none => s
        | some t => State.sendOwedCtl n t

/-- A control item for a meter, sent now or when those before it have gone and Q37 has room. -/
def State.oweCtl (s : State) (producer i code a b : Nat) (data : Bytes) : State :=
  match s.meter i with
  | none => s
  | some m =>
    let s1 : State := { s with dist := { s.dist with owedCtl := s.dist.owedCtl ++ [(producer, ⟨code, i, m.eui, a, b, data⟩)] } }
    State.sendOwedCtl s1.dist.owedCtl.length s1

/-- R102: before the first downlink under any K_dn(g) after cast-on, DL_FC is to rise by 65,536: in the meter's lane, unless its generation has
changed by then. -/
def State.raiseDlFc (s : State) (i : Nat) : State :=
  match s.meter i with
  | none => s
  | some m =>
    if s.mtr.raised.contains i then s
    else ({ s with mtr := { s.mtr with raised := s.mtr.raised ++ [i] } }).oweCtl meterTableCell i 13 m.gen 0 []

/-- R99, R100: a frame of a type under K_dn(gen) of a meter, its envelope carrying `envEui` and `fc`. -/
def State.buildUnder (s : State) (m : Meter) (gen envEui fc typ dest : Nat) (p : Path) (body : Bytes) :
    State × Option Bytes :=
  let r := s.downKey (s.familySlot m.family) (.down m.eui gen)
  match r.2 with
  | none => (r.1, none)
  | some k =>
    let q := r.1.takeLseq
    (q.1, some (sealFrame k (downHead typ dest q.2 p) envEui gen fc body))

/-- R121: a frame under a network key: `slot` and `gen` of that key. -/
def State.buildNetwork (s : State) (slot gen typ : Nat) (p : Path) (body : Bytes) : State × Option Bytes :=
  let r := s.downKey slot (.raw 1)
  match r.2 with
  | none => (r.1, none)
  | some k =>
    let c := r.1.takeMc
    let q := c.1.takeLseq
    (q.1, some ((if typ = 0xC then sealBeacon else sealFrame) k (downHead typ 0xFFFF q.2 p) Config.deviceEui gen c.2 body))

/-- R102, R118, R161: the ACK of a request. `pend` says that downlink waits for the meter; `report` is the map report. -/
def State.buildAck (s : State) (a : AckReq) (p : Path) (pend : Bool) (report : Bytes) : State × Option Bytes :=
  let s0 := s.raiseDlFc a.meter
  let r := s0.downKey (s0.familySlot a.family) (.down a.eui a.gen)
  match r.2 with
  | none => (r.1, none)
  | some k =>
    let fl := b2n a.abs + 2 * b2n (a.pend || pend) + 4 * b2n (report != [])
    (r.1, some (ackFrame k (downHead 8 a.src a.lseq p) a.fc a.tag fl report))

/-! ### Requests in Q8 to Q15

A packet begins with a cell that names the meter's EUI and index (R443); the rest of the cell, and the codes 0xA1 for an
acknowledgement request and 0xD1 for a frame, are the model's (log entry 13). A frame follows in the next cells. -/

/-- The first cell of an acknowledgement request. -/
def AckReq.bytes (a : AckReq) : Bytes :=
  padTo 64 (leBytes 8 a.eui ++ leBytes 4 a.meter ++ [byte 0xA1, byte a.route, byte a.lseq, byte a.family] ++ leBytes 2 a.src ++
    leBytes 2 a.gen ++ leBytes 4 a.fc ++ padTo 12 a.tag ++ leBytes 8 a.deadline ++
    [byte (b2n a.abs + 2 * b2n a.pend + 4 * b2n a.reack + 8 * b2n a.flood)])

/-- The request that a first cell holds. -/
def ackOf (b : Bytes) : AckReq :=
  let fl := fieldLE b 44 1
  { eui := fieldLE b 0 8, meter := fieldLE b 8 4, route := fieldLE b 13 1, lseq := fieldLE b 14 1, family := fieldLE b 15 1
    src := fieldLE b 16 2, gen := fieldLE b 18 2, fc := fieldLE b 20 4, tag := slice b 24 12, deadline := fieldLE b 36 8
    abs := bit fl 0, pend := bit fl 1, reack := bit fl 2, flood := bit fl 3 }

/-- A frame for a link MAC. -/
def MacFrame.bytes (eui : Nat) (f : MacFrame) : Bytes :=
  padTo 64 (leBytes 8 eui ++ leBytes 4 f.meter ++ [byte 0xD1, byte f.prio, byte f.kind, byte f.tries] ++ leBytes 4 f.dest ++
    leBytes 4 f.ident) ++ f.frame

/-- The frame that a packet holds. -/
def macFrameOf (b : Bytes) : MacFrame :=
  { frame := b.drop 64, meter := fieldLE b 8 4, prio := fieldLE b 13 1, kind := fieldLE b 14 1, tries := fieldLE b 15 1
    dest := fieldLE b 16 4, ident := fieldLE b 20 4, backoff := 0, cw := 0 }

/-- R164: a re-acknowledgement joins a request already waiting on its route for the same window: one of the same deadline, or of the same flood. -/
def mergeAck (l : List AckReq) (a : AckReq) : List AckReq × Bool :=
  if a.reack && l.any (fun x => x.meter == a.meter && x.fc == a.fc && (x.deadline == a.deadline || (x.flood && a.flood))) then (l, true) else (l ++ [a], false)

/-- R164: whether an acknowledgement of the same meter and counter already waits in a return queue, Q14 or Q15. -/
def State.ackWaits (s : State) (a : AckReq) : Bool :=
  (at' s.queue.queues (8 + a.route)).cells.any (fun c => c.first && fieldLE c.data 12 1 == 0xA1 && (ackOf c.data).meter == a.meter && (ackOf c.data).fc == a.fc)

/-- R161, R164, R165: a re-acknowledgement goes on from Q35 to the downlink queue of its route, for frame import and loopback as the encryptor's
frame. None: nothing waits in Q35, or that queue has no room. -/
def State.passReack (s : State) : Option State :=
  match s.peekPacket 35 with
  | none => none
  | some b =>
    let a := ackOf b
    let popped := fun (t : State) => match t.popPacket 35 with | some (t1, _, _) => t1 | none => t
    if a.route = 6 ∨ a.route = 7 then
      if s.ackWaits a then some ((popped s).laneCount 16)
      else
        let r := s.buildAck a (.route []) false []
        match r.2 with
        | none => some (popped r.1)
        | some f => (r.1.pushPacket (8 + a.route) 0x2000 (padTo 64 b ++ f)).map popped
    else (s.pushPacket (8 + a.route) 0x2000 b).map popped

/-- As many as there is room for, at most `n`. -/
def State.passSome : Nat → State → State
  | 0, s => s
  | n + 1, s => match s.passReack with | some t => State.passSome n t | none => s

/-- R161: all re-acknowledgements that can go on. -/
def State.passReacks (s : State) : State := s.passSome (at' s.queue.queues 35).level

/-- R319: the window that a frame of a priority starts with, after `tries` retries. -/
def startCw (prio tries : Nat) : Nat := min 64 (2 ^ (prio + 1 + tries))

/-- R382: whether a MAC holds unicast downlink to a meter: it is not IN_SYNC. A meter of which the MAC keeps nothing counts as
held (log entry 17). -/
def RadioMac.holds (m : RadioMac) (meter : Nat) : Bool :=
  match m.children.find? (fun c => c.meter == meter) with
  | some c => c.state != 1 && c.state != 4
  | none => true

/-- One packet of Q8 + r is taken by the MAC of route r, 0 to 4. -/
def State.macTake (s : State) (r : Nat) (b : Bytes) : State :=
  if fieldLE b 12 1 = 0xA1 then
    let a := ackOf b
    if r ≤ 2 then
      let m := mergeAck (at' s.plc.engines r).acks a
      let s1 := { s with plc := { s.plc with engines := upd s.plc.engines r (fun e => { e with acks := m.1 }) } }
      if m.2 then s1.laneCount 16 else s1
    else
      let mac := at' s.radio.macs (r - 3)
      let m := mergeAck (if a.flood then mac.floodAcks else mac.acks) a
      let s1 := { s with radio := { s.radio with macs := upd s.radio.macs (r - 3) (fun x =>
        if a.flood then { x with floodAcks := m.1 } else { x with acks := m.1 }) } }
      if m.2 then s1.laneCount 16 else s1
  else
    let f := macFrameOf b
    if r ≤ 2 then
      let cw := startCw f.prio f.tries
      let fr := s.freeNat
      let f' := { f with cw := cw, backoff := fr.2 % cw }
      { fr.1 with plc := { s.plc with engines := upd s.plc.engines r (fun e => { e with ready := e.ready ++ [f'] }) } }
    else
      { s with radio := { s.radio with macs := upd s.radio.macs (r - 3) (fun x =>
        if f.prio = 3 then { x with blocks := x.blocks ++ [f] }
        else { x with ready := x.ready ++ [f]
                      counters := if f.kind = 0 ∧ x.holds f.meter then upd x.counters 11 (· + 1) else x.counters }) } }

/-- The MAC of route r takes what waits in Q8 + r, at most `n` packets. -/
def State.macDrain : Nat → State → Nat → State
  | 0, s, _ => s
  | n + 1, s, r =>
    match s.popPacket (8 + r) with
    | none => s
    | some (s1, b, abort) => State.macDrain n (if abort then s1 else s1.macTake r b) r

/-- The same for all that waits. -/
def State.macFetch (s : State) (r : Nat) : State :=
  let s1 := (s.macDrain (at' s.queue.queues (8 + r)).level r).passReacks
  s1.macDrain (at' s1.queue.queues (8 + r)).level r

/-- A frame for the MAC of a route, from a producer; false when its queue is full. -/
def State.macSend (s : State) (route producer eui : Nat) (f : MacFrame) : State × Bool :=
  s.sendPacket (8 + route) producer (f.bytes eui)

end Sys2Proof.Machine
end

