-- ==== Sys2Proof/Machine/Routes.lean ====
section
/-!
DEFINITION. The power-line link table and routes (R327 to R333).
-/
namespace Sys2Proof.Machine

/-- The state of engine `e`. -/
def State.eng (s : State) (e : Nat) : Engine := at' s.plc.engines e

/-- Engine `e` changed. -/
def State.updEng (s : State) (e : Nat) (f : Engine → Engine) : State :=
  { s with plc := { s.plc with engines := upd s.plc.engines e f } }

/-- R282: whether an engine is enabled and in service. -/
def State.engineOn (s : State) (e : Nat) : Bool := bit (s.cfgB (plcBlk e) 0x2800 1) e && s.inService e

/-- One more on count `i` (from 1) of 0x2830 of engine `e`. -/
def State.plcCount (s : State) (e i n : Nat) : State :=
  s.updEng e (fun x => { x with counters := upd x.counters (i - 1) (· + n) })

/-- One more on count `i` (from 1) of 0x2860 of engine `e`. -/
def State.accessCount (s : State) (e i : Nat) : State :=
  s.updEng e (fun x => { x with access := upd x.access (i - 1) (· + 1) })

/-- The cell of the MAC of engine `e`. -/
def plcMac (e : Nat) : Nat := 0x0700 + e

/-! ### Links -/

/-- R329: whether a link joins two stations; the engine counts for a link of the concentrator. -/
def Link.joins (l : Link) (x y engine : Nat) : Bool :=
  ((l.a == x && l.b == y) || (l.a == y && l.b == x)) && (decide (x ≠ 0 ∧ y ≠ 0) || l.engine == engine)

/-- R329: the usable SNR of a link, in units of 0.25 dB / 256. -/
def Link.usable (l : Link) : Option Int :=
  match l.snrAB, l.snrBA with
  | some p, some q => some (min p q - l.penalty * 256)
  | some p, none => some (p - l.penalty * 256)
  | none, some q => some (q - l.penalty * 256)
  | none, none => none

/-- R330: RouteMinSnr in the units of the table. -/
def State.routeMin (s : State) : Int := (let b := s.valB .plc0 0x2850 1; untwos 2 (leNat b)) * 256

/-- The links of a path from the engine to a meter. -/
def pathLinks (hops : List Nat) (short : Nat) : List (Nat × Nat) := (0 :: hops).zip (hops ++ [short])

/-- Whether a link lies on a route. -/
def Route.crosses (r : Route) (l : Link) : Bool :=
  decide (r.engine ≠ 0) && (pathLinks r.hops r.short).any (fun p => l.joins p.1 p.2 r.engine)

/-- R333: the counts of the links that a frame crossed become 0. -/
def State.clearFails (s : State) (path : List (Nat × Nat)) (engine : Nat) : State :=
  { s with plc := { s.plc with links := s.plc.links.map (fun l =>
      if path.any (fun p => l.joins p.1 p.2 engine) then { l with fails := 0 } else l) } }

/-! ### The widest path (R330) -/

/-- A station as the search has it: w (of no account for the engine), hops, and the station before it on the way (0 the engine). -/
structure Reach where
  w : Int
  hops : Nat
  via : Nat
deriving DecidableEq, Repr, Inhabited

/-- Whether one list of addresses comes before another, in order. -/
def lexLt : List Nat → List Nat → Bool
  | [], [] => false
  | [], _ => true
  | _, [] => false
  | a :: r, b :: q => decide (a < b) || (decide (a = b) && lexLt r q)

/-- R330: the repeaters on the way from the engine to a station, read back through `via`, at most `n`. -/
def repeatersTo (t : List (Nat × Reach)) : Nat → Nat → List Nat
  | 0, _ => []
  | n + 1, x => match lookupKey x t with
    | none => []
    | some r => if r.via = 0 then [] else repeatersTo t n r.via ++ [r.via]

/-- R330: whether a new way to a station is better than the one known: wider, or as wide in fewer hops, or, of equals, with the lower
repeater addresses in order. -/
def betterReach (before : List (Nat × Reach)) (old : Option Reach) (new : Reach) : Bool :=
  match old with
  | none => true
  | some o =>
    decide (o.w < new.w) || (decide (o.w = new.w) && (decide (new.hops < o.hops) || (decide (new.hops = o.hops) && o.via != new.via &&
      lexLt (repeatersTo before 7 new.via ++ [new.via]) (repeatersTo before 7 o.via ++ [o.via]))))

/-- One link in one direction in one round: from the stations before the round into those after it. -/
def relaxLink (canRepeat : Nat → Bool) (before after : List (Nat × Reach)) (a b : Nat) (snr : Int) : List (Nat × Reach) :=
  match lookupKey a before with
  | none => after
  | some r =>
    if b = 0 ∨ (a ≠ 0 ∧ !canRepeat a) then after
    else
      let new : Reach := ⟨if a = 0 then snr else min r.w snr, r.hops + 1, a⟩
      if betterReach before (lookupKey b after) new then insertKey b new after else after

/-- One round over all links. -/
def relaxRound (canRepeat : Nat → Bool) (links : List (Nat × Nat × Int)) (before : List (Nat × Reach)) : List (Nat × Reach) :=
  links.foldl (fun acc l =>
    relaxLink canRepeat before (relaxLink canRepeat before acc l.1 l.2.1 l.2.2) l.2.1 l.1 l.2.2) before

/-- R330: the rounds. -/
def relaxRounds (canRepeat : Nat → Bool) (links : List (Nat × Nat × Int)) : Nat → List (Nat × Reach) → List (Nat × Reach)
  | 0, w => w
  | n + 1, w => relaxRounds canRepeat links n (relaxRound canRepeat links w)

/-- A path found: its bottleneck and its repeaters in downlink order. -/
structure Found where
  w : Int
  hops : List Nat
deriving DecidableEq, Repr, Inhabited

/-- R330: the path to a meter from engine `e` (1 to 3), with only links of at least `least`, if there is one. -/
def State.widest (s : State) (e short : Nat) (least : Option Int) : Option Found :=
  let links := s.plc.links.filterMap (fun l =>
    match l.usable with
    | some u =>
      if (match least with | some m => decide (m ≤ u) | none => true) && (decide (l.a ≠ 0) || l.engine == e) then
        some (l.a, l.b, u) else none
    | none => none)
  let can := fun x => match (s.indexOfShort x).bind s.meter with
    | some m => m.state == 2 && decide (m.link ≤ 2)
    | none => false
  let t := relaxRounds can links 8 [(0, ⟨0, 0, 0⟩)]
  (lookupKey short t).map (fun r => ⟨r.w, repeatersTo t 7 short⟩)

/-- R330: the better of two routes found: bottleneck, hops, engine, repeaters; the first comes from a lower engine. -/
def betterRoute (x y : Option (Nat × Found)) : Option (Nat × Found) :=
  match x, y with
  | none, y => y
  | x, none => x
  | some p, some q =>
    if p.2.w < q.2.w then some q
    else if p.2.w = q.2.w ∧ q.2.hops.length < p.2.hops.length then some q
    else some p

/-- R330: the best route to a meter best the enabled engines, and whether it meets RouteMinSnr. -/
def State.findRoute (s : State) (short : Nat) : Option (Nat × Found) × Bool :=
  let best := fun least => (((List.range 3).filter s.engineOn).map (fun e =>
    (s.widest (e + 1) short least).map (fun r => (e + 1, r)))).foldl betterRoute none
  match best (some s.routeMin) with
  | some r => (some r, true)
  | none => (best none, false)

/-- The route kept of a meter. -/
def State.routeOf (s : State) (short : Nat) : Option Route := s.plc.routes.find? (fun r => r.short == short)

/-- A route put in its place. -/
def State.putRoute (s : State) (r : Route) : State :=
  { s with plc := { s.plc with routes := s.plc.routes.filter (fun x => x.short != r.short) ++ [r] } }

/-- R331: whether the links of a route are all there and usable. -/
def State.routeUsable (s : State) (r : Route) : Bool :=
  decide (r.engine ≠ 0) && s.engineOn (r.engine - 1) &&
    (pathLinks r.hops r.short).all (fun p => s.plc.links.any (fun l =>
      l.joins p.1 p.2 r.engine && (match l.usable with | some u => decide (s.routeMin ≤ u) | none => false)))

/-- The lowest usable SNR on a route as the table now has it. -/
def State.bottleneckOf (s : State) (r : Route) : Int :=
  ((pathLinks r.hops r.short).filterMap (fun p =>
    (s.plc.links.find? (fun l => l.joins p.1 p.2 r.engine)).bind Link.usable)).foldl min (32767 * 256)

/-- R331: an SNR of the table as I16 in 0.25 dB. -/
def snr16 (v : Int) : Bytes := leInt 2 (clampInt (v / 256) (-32768) 32767)

/-- R331: a route adopted. -/
def State.adoptRoute (s : State) (old : Option Route) (short engine : Nat) (hops : List Nat) (bottleneck : Int)
    (pinned : Bool) (cause : Nat) : State :=
  let r : Route := { short := short, engine := engine, hops := hops, bottleneck := bottleneck, pinned := pinned,
                     changes := sat32 ((old.map (·.changes)).getD 0), noRoute := (old.map (·.noRoute)).getD false }
  ((s.putRoute r).accessCount (engine - 1) 8).emit 0x2806 (plcMac (engine - 1)) (s.meterNo short)
    ([byte engine, byte ((old.map (·.hops.length)).getD 0), byte hops.length, byte cause] ++ snr16 bottleneck)

/-- R330, R331: the route of a meter is computed again. Cause as in 0x2806. -/
def State.recompute (s : State) (short cause : Nat) : State :=
  let old := s.routeOf short
  if (old.map (·.pinned)).getD false then s
  else
    let f := s.findRoute short
    let eng := match f.1 with | some p => p.1 | none => max 1 ((old.map (·.engine)).getD 1)
    let s1 := s.accessCount (eng - 1) 7
    -- R330: NoRoute once for each time the meter loses its route.
    let lost := !f.2
    let had := (old.map (·.noRoute)).getD false
    let s2 := if lost && !had then
        s1.emit 0x2807 (plcMac (eng - 1)) (s.meterNo short)
          ([byte (f.1.map (·.1) |>.getD 0), byte (f.1.map (·.2.hops.length) |>.getD 0)] ++ snr16 ((f.1.map (·.2.w)).getD (-32768 * 256)))
      else s1
    let mark := fun (st : State) => match st.routeOf short with
      | some r => st.putRoute { r with noRoute := lost }
      | none => if lost then st.putRoute ⟨short, 0, [], 0, false, 0, true⟩ else st
    match f.1 with
    | none => mark s2
    | some (e, r) =>
      let gone := match old with | none => true | some o => !s.routeUsable o
      let cur := match old with | none => 0 | some o => s.bottleneckOf o
      let same := match old with | some o => o.engine == e && o.hops == r.hops | none => false
      let better := decide (cur + (s.cfgB .plc0 0x2850 2 : Nat) * 256 < r.w)
      if !same && (gone || better) then mark (s2.adoptRoute old short e r.hops r.w false (if !gone && cause = 2 then 3 else cause))
      else mark s2

/-- R331: the routes that cross a link are computed again. -/
def State.recomputeOver (s : State) (a b engine cause : Nat) : State :=
  let hit := s.plc.routes.filter (fun r => decide (r.engine ≠ 0) &&
    (pathLinks r.hops r.short).any (fun p => ((p.1 == a && p.2 == b) || (p.1 == b && p.2 == a)) &&
      (decide (a ≠ 0 ∧ b ≠ 0) || r.engine == engine)))
  hit.foldl (fun st r => st.recompute r.short cause) s

/-- R329: at most 24 entries of a station: the one with the lowest usable SNR goes, but never a link of its route;
routes of others that crossed it are computed again (R331). -/
def State.trimLinks (s : State) (x : Nat) : State :=
  let mine := s.plc.links.filter (fun l => l.a == x || l.b == x)
  if x = 0 ∨ mine.length ≤ 24 then s
  else
    let cands := mine.filter (fun l => !(s.plc.routes.any (fun r => r.short == x && r.crosses l)))
    match cands with
    | [] => s
    | c :: cs =>
      let worst := cs.foldl (fun w l => if (l.usable.getD (-32768 * 256)) < (w.usable.getD (-32768 * 256)) then l else w) c
      ({ s with plc := { s.plc with links := s.plc.links.filter (fun l => !(l.a == worst.a && l.b == worst.b && l.engine == worst.engine)) } }).recomputeOver
        worst.a worst.b worst.engine 2

/-- R331: whether a link can serve a route. -/
def State.servesRoute (s : State) (a b engine : Nat) : Bool :=
  s.plc.links.any (fun l => l.joins a b engine && (match l.usable with | some u => decide (s.routeMin ≤ u) | none => false))

/-- R327, R328: a measure of the SNR from one station to another; `smooth` weighs it with 1/4. A new measure takes the
place of a penalised value. -/
def State.putMeasure (s : State) (src dst engine : Nat) (snr : Int) (smooth : Bool) : State :=
  let a := min src dst
  let b := max src dst
  let fwd := decide (src = a)
  let mix := fun (old : Option Int) => match old with
    | some o => if smooth then o + (snr - o) / 4 else snr
    | none => snr
  if s.plc.links.any (fun l => l.joins a b engine) then
    { s with plc := { s.plc with links := s.plc.links.map (fun l =>
        if l.joins a b engine then
          { l with snrAB := if fwd then some (mix l.snrAB) else l.snrAB
                   snrBA := if fwd then l.snrBA else some (mix l.snrBA)
                   penalty := 0, lastAt := s.now }
        else l) } }
  else
    let l : Link := { a := a, b := b, engine := if a = 0 then engine else 0,
                      snrAB := if fwd then some snr else none, snrBA := if fwd then none else some snr,
                      penalty := 0, fails := 0, lastAt := s.now }
    (({ s with plc := { s.plc with links := s.plc.links ++ [l] } }).trimLinks a).trimLinks b

/-- R327, R328, R331: the same; where the link falls below RouteMinSnr, the routes over it are computed again. -/
def State.measureLink (s : State) (src dst engine : Nat) (snr : Int) (smooth : Bool) : State :=
  let s1 := s.putMeasure src dst engine snr smooth
  if s.servesRoute src dst engine && !s1.servesRoute src dst engine then s1.recomputeOver src dst engine 2 else s1

/-- R333: a failure charged to a link from one station to another; HOP_FAILED at the limit. `e` is the engine (1 to 3)
whose MAC counts. -/
def State.chargeLink (s : State) (src dst engine e : Nat) : State :=
  match s.plc.links.find? (fun l => l.joins src dst engine) with
  | none => s.accessCount (e - 1) 6
  | some l =>
    let s0 := s.accessCount (e - 1) 6
    let put := fun (st : State) (x : Link) => { st with plc := { st.plc with links := st.plc.links.map (fun y =>
      if y.joins src dst engine then x else y) } }
    if s.cfgB (plcBlk (e - 1)) 0x2850 3 ≤ l.fails + 1 then
      let l' := { l with fails := 0, penalty := l.penalty + (s.cfgB (plcBlk (e - 1)) 0x2850 4 : Nat) }
      ((put s0 l').event 0x2808 (plcMac (e - 1))
        (leBytes 2 src ++ leBytes 2 dst ++ [byte engine] ++ snr16 (l'.usable.getD (-32768 * 256)))).recomputeOver src dst engine 1
    else put s0 { l with fails := l.fails + 1 }

/-- R324: whether a list of repeaters is valid. -/
def hopsValid (hops : List Nat) : Bool :=
  hops.all (fun h => decide (h ≠ 0 ∧ h ≠ 0xFFFD ∧ h ≠ 0xFFFE ∧ h ≠ 0xFFFF)) && decide hops.Nodup

/-- R331: the repeaters of an answer to a meter with no route: the reverse of its last frame's; none where that is no valid route (R324, log
entry 80). -/
def validReverse (hops : List Nat) : List Nat := if hopsValid hops then hops else []

/-- R331, R332, R402: the engine (0 to 2) and repeaters of a meter's downlink: its route; with none, the reverse of the
route header of its last frame on the engine of its LINK. -/
def State.plcTarget (s : State) (m : Meter) : Nat × List Nat :=
  let back := (m.link % 3, validReverse ((lookupKey m.short s.plc.lastRoute).getD []))
  match s.routeOf m.short with
  | some r => if r.engine ≠ 0 then (r.engine - 1, r.hops) else back
  | none => back

/-- R331, R332: the repeaters of an ACK that engine `e` sends to a meter: its route where that starts from this engine, or else the reverse
of the frame's (log entry 80). -/
def State.ackHops (s : State) (e : Nat) (m : Option Meter) (back : List Nat) : List Nat :=
  match m.bind (fun x => s.routeOf x.short) with
  | some r => if r.engine = e + 1 then r.hops else validReverse back
  | none => validReverse back

/-- R333: a downlink to a meter goes unanswered: the failure is charged to the first link of its route, or, when the engine
has heard the first repeater forward it, to the weakest link on the rest of the route. -/
def State.chargeTimeout (s : State) (m : Meter) (lseq : Nat) : State :=
  let t := s.plcTarget m
  let links := pathLinks t.2 m.short
  let heard := match t.2 with
    | [] => false
    | r :: _ => s.plc.heard.any (fun h => h.1 == r && h.2.1 == m.short && h.2.2 == lseq)
  let snr := fun (p : Nat × Nat) =>
    ((s.plc.links.find? (fun l => l.joins p.1 p.2 (t.1 + 1))).bind Link.usable).getD (-32768 * 256)
  match links with
  | [] => s
  | first :: rest =>
    if heard then
      match rest with
      | [] => s.chargeLink first.1 first.2 (t.1 + 1) (t.1 + 1)
      | c :: cs =>
        let w := cs.foldl (fun b p => if snr p < snr b then p else b) c
        s.chargeLink w.1 w.2 (t.1 + 1) (t.1 + 1)
    else s.chargeLink first.1 first.2 (t.1 + 1) (t.1 + 1)

/-- R333: a downlink along a power-line meter's route is answered: the counts of the links it crossed become 0. -/
def State.downAnswered (s : State) (i : Nat) : State :=
  match s.meter i with
  | some m => if m.link ≤ 2 ∧ m.direct then (let t := s.plcTarget m; s.clearFails (pathLinks t.2 m.short) (t.1 + 1)) else s
  | none => s

/-- R333: a downlink to a power-line meter has had no answer in time. -/
def State.downUnanswered (s : State) (i lseq : Nat) : State :=
  match s.meter i with
  | some m => if m.link ≤ 2 ∧ m.direct then s.chargeTimeout m lseq else s
  | none => s

/-- NEIGHBOUR_REPORT (R328, R329): the report at the head of those passed to the MACs updates the link table and the
meter's route is computed again. -/
def neighbourReport (s : State) : State :=
  match s.plc.reports with
  | [] => s
  | (idx, d) :: rest =>
    let s1 := { s with plc := { s.plc with reports := rest } }
    match s1.meter idx with
    | none => s1
    | some m =>
      let eng := (s1.plcTarget m).1 + 1
      let n := min 16 (fieldLE d 0 1)
      let s2 := (List.range n).foldl (fun st k =>
        let o := 1 + 5 * k
        let short := fieldLE d o 2
        if short = 0xFFFE ∨ short = m.short then st
        else st.measureLink short m.short eng (fieldInt d (o + 2) 2 * 256) false) s1
      s2.recompute m.short 6

def execNeighbourReport (s : State) : Res := s.whenLive neighbourReport

/-- LINK_AGE_EXPIRE (R329, R331): an entry unrefreshed for LinkAge is removed, and the routes over it computed again. -/
def linkAgeExpire (s : State) : State :=
  let old := s.plc.links.filter (fun l => decide (l.lastAt + cSec (s.cfgB (plcBlk (l.engine - 1)) 0x2850 5) ≤ s.now))
  let s1 := { s with plc := { s.plc with links := s.plc.links.filter (fun l => !decide (l.lastAt + cSec (s.cfgB (plcBlk (l.engine - 1)) 0x2850 5) ≤ s.now)) } }
  old.foldl (fun st l => st.recomputeOver l.a l.b l.engine 2) s1

def execLinkAgeExpire (s : State) : Res := s.whenLive linkAgeExpire

/-- The meter index of 0x3820, if it has a record. -/
def State.selected (s : State) : Option (Nat × Meter) :=
  let i := leNat (s.val 0x3820 1)
  (s.meter i).map (fun m => (i, m))

/-- ROUTE_PIN (R332): the selected meter's route is pinned. -/
def routePin (v : Bytes) (s : State) : State × Nat :=
  let e := fieldLE v 0 1
  let n := fieldLE v 1 1
  let hops := (List.range n).map (fun k => fieldLE v (2 + 2 * k) 2)
  let joined := hops.all (fun h => match (s.indexOfShort h).bind s.meter with
    | some x => x.state == 2 && decide (x.link ≤ 2)
    | none => false)
  if v.length ≠ 16 then (s, Abort.typeLength)
  else if e = 0 ∨ 3 < e then (s, Abort.valueRange)
  else
    match s.selected with
    | none => (s, Abort.unknownMeter)
    | some (_, m) =>
      if 7 < n ∨ !hopsValid hops ∨ !joined then (s, Abort.valueInconsistent)
      else
        let r : Route := ⟨m.short, e, hops, 0, true, 0, false⟩
        (s.adoptRoute (s.routeOf m.short) m.short e hops (s.bottleneckOf r) true 4, Abort.ok)

def execRoutePin (role : Nat) (v : Bytes) (s : State) : Res := s.command 0x2853 1 role .operator (routePin v)

/-- ROUTE_UNPIN (R332): the pin is taken back, and the route computed again. -/
def routeUnpin (v : Nat) : State → State × Nat := one v (fun s =>
  match s.selected with
  | none => (s, Abort.unknownMeter)
  | some (_, m) =>
    match s.routeOf m.short with
    | some r => if r.pinned then ((s.putRoute { r with pinned := false }).recompute m.short 5, Abort.ok) else (s, Abort.ok)
    | none => (s, Abort.ok))

def execRouteUnpin (role v : Nat) (s : State) : Res := s.command 0x2853 2 role .operator (routeUnpin v)

end Sys2Proof.Machine
end

