-- ==== Sys2Proof/Machine/Plc.lean ====
section
/-!
DEFINITION. The power-line engines and their MACs (chapters 8 and 9): the segment grid, reception, tone maps, gain,
transmission, and access to the medium.
-/
namespace Sys2Proof.Machine

/-- 0x2801.1 of engine `e`: 0 A band, 1 W band. -/
def State.band (s : State) (e : Nat) : Nat := s.cfgN (0x2801 + e) 1

/-- R291: the nominal period in ns. -/
def State.nominalPeriod (s : State) : Nat := if s.cfgN 0x2000 2 = 60 then 16666667 else 20000000

/-! ### The segment grid (R288 to R291) -/

/-- R288: the cycle in force at a time: the last one that has begun, or else the first. -/
def Engine.cycleAt (x : Engine) (t : Int) : Int × Nat :=
  ((x.cycles.filter (fun c => decide (c.1 ≤ t))).getLast?).getD (x.cycles.headD (0, 20000000))

/-- R288: the first cycle that begins after a time, if one is predicted. -/
def Engine.nextCycle (x : Engine) (t : Int) : Option (Int × Nat) := x.cycles.find? (fun c => decide (t < c.1))

/-- One segment of a cycle in units of 2^-16 ns. -/
def segOfCycle (c : Int × Nat) : Int := (c.2 : Int) * 8192

/-- One segment of the cycle in force. -/
def Engine.segTime (x : Engine) (t : Int) : Int := segOfCycle (x.cycleAt t)

/-- R288: the last segment boundary at or before a time, and the number of the segment that begins there. -/
def Engine.boundaryBefore (x : Engine) (t : Int) : Int × Nat :=
  let c := x.cycleAt t
  let k := (t - c.1) / segOfCycle c
  let k' := if (x.nextCycle t).isSome then min 7 k else k
  (c.1 + k' * segOfCycle c, (k' % 8).toNat)

/-- R288: the first segment boundary at or after a time, and the number of the segment that begins there. -/
def Engine.boundaryAfter (x : Engine) (t : Int) : Int × Nat :=
  let c := x.cycleAt t
  let k := -((c.1 - t) / segOfCycle c)
  match x.nextCycle t with
  | some n => if 8 ≤ k then (n.1, 0) else (c.1 + k * segOfCycle c, (k % 8).toNat)
  | none => (c.1 + k * segOfCycle c, (k % 8).toNat)

/-- R313: the first boundary at least 300 µs after the end of a frame. -/
def Engine.windowAfter (x : Engine) (endT : Int) : Int := (x.boundaryAfter (endT + 300 * 65536000)).1

/-- The distance of a time from the nearest boundary. -/
def Engine.offBoundary (x : Engine) (t : Int) : Int :=
  let a := t - (x.boundaryBefore t).1
  let b := (x.boundaryAfter t).1 - t
  if a ≤ b then a else -b

/-- R289, R319: the boundary at which an engine stands: the one that has come since the last count. -/
def State.boundaryNow (s : State) (e : Nat) : Option (Int × Nat) :=
  let b := (s.eng e).boundaryBefore s.td0
  if s.td0 - b.1 < 131200 then some b else none

/-- The counter value at which a time of TD0 comes, by the period of its domain. -/
def State.counterOf (s : State) (t : Int) : Nat := (s.now + (t - s.td0) / 131072).toNat

/-- R288: the next cycle of engine `e` (0 to 2) from a record: its segment 0 on the engine's phase, and T_c. -/
def cycleOf (e : Nat) (rec : Bytes) (nominal : Nat) : Int × Nat :=
  let t := fieldLE rec 16 4
  let p := if t = 0 then nominal else t
  (ofTime80 (slice rec 0 12) + ((p * 65536 * (3 + e) / 3 : Nat) : Int), p)

/-- R288: the cycle from a record follows those in progress: one predicted for about the same time gives way to it. -/
def Engine.predict (x : Engine) (now : Int) (c : Int × Nat) : Engine :=
  { x with cycles := (x.cycleAt now :: x.cycles.filter (fun d => decide (now < d.1 ∧ d.1 + (c.2 : Int) * 32768 < c.1))) ++ [c], period := c.2 }

/-- R291: the grid is anchored to a record anew. -/
def Engine.anchor (x : Engine) (c : Int × Nat) : Engine := { x with cycles := [c], period := c.2, free := false, reanchor := false }

/-- R291: an engine keeps its grid and runs it free at the nominal period from the next cycle on. -/
def Engine.runFree (x : Engine) (now : Int) (nominal : Nat) : Engine :=
  let c := x.cycleAt now
  { x with free := true, freeSince := now, period := nominal, reanchor := false, cycles := [c, (c.1 + (c.2 : Int) * 65536, nominal)] }

/-- R291: the grid runs free at the nominal period. -/
def State.gridFree (s : State) (e last : Nat) : State :=
  let nom := s.nominalPeriod
  let s1 := s.updEng e (fun x => if x.free then x else x.runFree s.td0 nom)
  if s.plc.freeRaised then s1
  else ({ s1 with plc := { s1.plc with freeRaised := true } }).event 0x2801 0 (leBytes 4 last ++ leBytes 4 nom)

/-- R288, R291: what engine `e` does with a V1 record that carries a crossing: it predicts, or, while its grid runs free,
it is to re-anchor. -/
def State.useCrossing (s : State) (e : Nat) (r : Bytes) : State :=
  s.updEng e (fun x =>
    let y := { x with usedSeq := some (fieldLE r 20 4) }
    if x.free then { y with reanchor := true } else y.predict s.td0 (cycleOf e r s.nominalPeriod))

/-- SEGMENT_GRID_PREDICT (R288, R291): engine `e` takes a V1 record, the one that another engine has taken from Q50 or the
next in Q50; a record of loss lets every engine's grid run free. -/
def segmentGridPredict (e : Nat) (s : State) : State :=
  let x := s.eng e
  match s.plc.v1.filter (fun r => !bit (fieldLE r 13 1) 0 && x.usedSeq != some (fieldLE r 20 4)) with
  | some r => s.useCrossing e r
  | none =>
    match s.popPacket 50 with
    | none => s
    | some (s1, r, abort) =>
      if abort then s1
      else
        let s2 := { s1 with plc := { s1.plc with v1 := some r } }
        if bit (fieldLE r 13 1) 0 then ((s2.gridFree 0 x.period).gridFree 1 x.period).gridFree 2 x.period
        else s2.useCrossing e r

def execSegmentGridPredict (e : Fin 3) (s : State) : Res := s.whenLive (segmentGridPredict e)

/-- SEGMENT_TIMER_LOCKED (R291): after V1 returns, engine `e` re-anchors at a segment boundary at which it neither sends nor receives; 0x2802
reports the step once for the three engines. -/
def segmentTimerLocked (e : Nat) (s : State) : State :=
  let x := s.eng e
  match s.plc.v1, s.boundaryNow e with
  | some r, some _ =>
    if x.free && x.reanchor && x.rx == .search && decide (x.sendUntil ≤ s.now) && !bit (fieldLE r 13 1) 0 then
      let c := cycleOf e r s.nominalPeriod
      let p := (c.2 : Int) * 65536
      let d := (c.1 - (x.cycleAt s.td0).1 + p / 2) % p - p / 2
      let s1 := s.updEng e (fun y => y.anchor (c.1 - p, c.2))
      if s.plc.freeRaised then
        ({ s1 with plc := { s1.plc with freeRaised := false } }).event 0x2802 0
          (leInt 4 (d / 65536) ++ leBytes 4 (min maxU32 (nsOf (s.td0 - x.freeSince) / 1000000).toNat))
      else s1
    else s
  | _, _ => s

def execSegmentTimerLocked (e : Fin 3) (s : State) : Res := s.whenLive (segmentTimerLocked e)

/-- GRID_EXTEND (R288): with no record for a cycle, the grid goes on by one more period of the same length. -/
def gridExtend (e : Nat) (s : State) : State :=
  let c := (s.eng e).cycleAt s.td0
  let next : Int × Nat := (c.1 + (c.2 : Int) * 65536, c.2)
  if ((s.eng e).nextCycle s.td0).isNone ∧ next.1 ≤ s.td0 then s.updEng e (fun y => { y with cycles := [next] }) else s

def execGridExtend (e : Fin 3) (s : State) : Res := s.whenLive (gridExtend e)

/-! ### Tone maps (R301 to R303) -/

/-- N(s, t) before its first measure: 0x8000 in 0x2820 (log entry 14). -/
def noNoise : Int := -32768 * 65536

/-- R301: SNR of a pair in a segment, in units of 0.25 dB / 65,536: none while a level or a noise is not known. -/
def snrOf (levels : List (Option Int)) (noise : List Int) (n seg k : Nat) : Option Int :=
  let one := fun t => match at' levels t with
    | some l => if at' noise (32 * seg + t) = noNoise then none else some (l - at' noise (32 * seg + t))
    | none => none
  match one k, one (k + n) with
  | some a, some b => some (min a b)
  | _, _ => none

/-- R302: Θ of a mode (1 to 3) in the units of the levels. -/
def State.theta (s : State) (e mode : Nat) : Int := fieldInt (s.val (0x2801 + e) 7) (mode - 1) 1 * 2 * 65536

/-- R302: the pairs at or above a threshold. -/
def pairsAbove (levels : List (Option Int)) (noise : List Int) (n seg : Nat) (th : Int) : List Nat :=
  (List.range n).filter (fun k => match snrOf levels noise n seg k with | some v => decide (th ≤ v) | none => false)

/-- R302: mode and mask of a segment: the greatest floor(A / ρ), the more robust mode on a tie, silent at 0. -/
def State.chooseMode (s : State) (e seg : Nat) (levels : List (Option Int)) : Nat × Nat :=
  let n := bandPairs (s.band e)
  let noise := (s.eng e).noise
  let opt := fun m => (m, pairsAbove levels noise n seg (s.theta e m))
  let best := [2, 3].foldl (fun (b : Nat × List Nat) m =>
    let o := opt m
    if b.2.length / rho b.1 < o.2.length / rho m then o else b) (opt 1)
  if best.2.length / rho best.1 = 0 then (0, 0) else (best.1, best.2.foldl (fun a k => setBit a k) 0)

/-- R302: the proposal for a transmitter; map 7 where the capacity falls below that of map 7. -/
def State.proposal (s : State) (e : Nat) (levels : List (Option Int)) : Bytes :=
  let l := (List.range 8).map (fun seg => s.chooseMode e seg levels)
  let m := mkMap (l.map (·.1)) (l.map (·.2))
  let hz := s.cfgN 0x2000 2
  let b := s.band e
  if mapCapacity m b hz < mapCapacity (fixedMap 7 b) b hz then fixedMap 7 b else m

/-- R302: the margin of a map in 0.5 dB: the lowest SNR − Θ among its active pairs. -/
def State.marginOf (s : State) (e : Nat) (m : Bytes) (levels : List (Option Int)) : Int :=
  let n := bandPairs (s.band e)
  let vs := (List.range 8).flatMap (fun seg =>
    if mapMode m seg = 0 then [] else (pairsOf (mapMask m seg) n).filterMap (fun k =>
      (snrOf levels (s.eng e).noise n seg k).map (fun v => v - s.theta e (mapMode m seg))))
  clampInt (vs.foldl min (127 * 2 * 65536) / 131072) (-127) 127

/-- R303: what engine `e` keeps of a transmitter, or what it starts from. -/
def State.toneMaps (s : State) (e tx : Nat) : ToneMaps :=
  match (s.eng e).maps.find? (fun m => m.tx == tx) with
  | some m => m
  | none => ⟨tx, [], 0, fixedMap 0 (s.band e), 7, fixedMap 7 (s.band e), 0, 0⟩

/-- The same, put in its place. -/
def State.putMaps (s : State) (e : Nat) (m : ToneMaps) : State :=
  s.updEng e (fun x => { x with maps := x.maps.filter (fun y => y.tx != m.tx) ++ [m] })

/-- R300, R303: the map that a header's MAPID names, if the engine knows it. -/
def State.mapOf (s : State) (e tx id : Nat) : Option Bytes :=
  if id = 0 ∨ id = 7 then some (fixedMap id (s.band e))
  else
    let m := s.toneMaps e tx
    if id = m.inId then some m.inMap else if id = m.propId then some m.propMap else none

/-- R303: the ID after the last one assigned, 1 to 6, not the one in use. -/
def nextMapId (last inUse : Nat) : Nat :=
  let n := last % 6 + 1
  if n = inUse then n % 6 + 1 else n

/-- R301: L(TX, t) after a frame: weight 1/4, the first measure as it is. -/
def mixLevels (old : List Int) (lev : List (Option Int)) (n : Nat) : List Int :=
  (List.range n).map (fun t => match at' lev t with
    | none => old.getD t noNoise
    | some v => if old.getD t noNoise = noNoise then v else old.getD t noNoise + (v - old.getD t noNoise) / 4)

/-- Levels as the SNR of R301 takes them. -/
def knownLevels (l : List Int) : List (Option Int) := l.map (fun v => if v = noNoise then none else some v)

/-- R303: a good frame within tolerance: the map in use follows the frame's MAPID, with ToneMapChanged when it is the
proposal's. -/
def State.mapInUse (s : State) (e tx id : Nat) : State :=
  let m := s.toneMaps e tx
  if id = m.propId ∧ id ≠ m.inId then
    let b := s.band e
    ((s.putMaps e { m with inId := id, inMap := m.propMap })).emit 0x2803 e (s.meterNo tx)
      ([byte (e + 1), byte m.inId, byte id, byte ((List.range 8).filter (fun g => mapMode m.propMap g != 0)).length] ++
        leBytes 2 (mapCapacity m.propMap b (s.cfgN 0x2000 2)) ++ leInt 1 m.margin)
  else if id = 0 ∨ id = 7 then s.putMaps e { m with inId := id, inMap := fixedMap id (s.band e) }
  else s

/-- R301 to R303: levels and proposal after a good frame within tolerance. -/
def State.updateMaps (s : State) (e tx id : Nat) (lev : List (Option Int)) : State :=
  let s0 := s.mapInUse e tx id
  let m := s0.toneMaps e tx
  let l := mixLevels m.levels lev (bandTones (s.band e))
  let p := s0.proposal e (knownLevels l)
  let pid := if p = m.inMap then m.inId else if p = m.propMap then m.propId
             else if p = fixedMap 7 (s.band e) then 7 else nextMapId m.lastId m.inId
  s0.putMaps e { m with levels := l, propMap := p, propId := pid, margin := s0.marginOf e p (knownLevels l)
                        lastId := if pid ≠ m.inId ∧ pid ≠ m.propId ∧ pid ≠ 7 then pid else m.lastId }

/-- R304: the report on a transmitter. -/
def State.mapReport (s : State) (e tx : Nat) : Bytes :=
  let m := s.toneMaps e tx
  leBytes 2 tx ++ [byte m.propId] ++ leInt 1 m.margin ++ m.propMap

/-! ### Reception (R309, R310) -/

/-- PREAMBLE_DETECTED (R309): the engine's gain is frozen, a reception begins. -/
def preambleDetected (e : Nat) (s : State) : State :=
  let x := s.eng e
  if s.engineOn e && x.rx == .search && decide (x.sendUntil ≤ s.now) then
    (s.plcCount e 1 1).updEng e (fun y => { y with rx := .preamble s.now, listenTo := 0 })
  else s

def execPreambleDetected (e : Fin 3) (s : State) : Res := s.whenRunning (preambleDetected e)

/-- Counts of the free-running counter in n symbols. -/
def symCounts (band n : Nat) : Nat := n * bandM band * 500000000 / 1843200

/-- R545: the delay subtracted from the capture of a sync word, in ns. -/
def State.plcRxDelay (s : State) (e : Nat) : Nat :=
  (if s.band e = 0 then 59881 else 40520) + s.cfgN 0x5460 (7 + e)

/-- R318: the engine returns to search; the end of what it heard is unknown. -/
def State.rxUnknown (s : State) (e : Nat) : State :=
  (s.accessCount e 4).updEng e (fun y => { y with rx := .search, unknownEnd := true, quiet := 0, openA := none, ackMine := false })

/-- SYNC_WORD_FOUND (R309, R310, R545): with at most 2 wrong symbols of those not erased (R306), within 20 symbols of the preamble, the arrival
stamp is taken, and the symbols that follow begin. -/
def syncWordFound (e wrong : Nat) (s : State) : State :=
  match (s.eng e).rx with
  | .preamble since =>
    if since + symCounts (s.band e) 20 < s.now then s.rxUnknown e
    else if wrong ≤ 2 then
      (s.plcCount e 2 1).updEng e (fun y =>
        { y with rx := .synced (s.tdAt 0 (s.now - cNs (s.plcRxDelay e))), band := [], syms := [], symClear := false })
    else s
  | _ => s

def execSyncWordFound (e : Fin 3) (wrong : Nat) (s : State) : Res := s.whenRunning (syncWordFound e wrong)

/-- SYNC_WORD_NOT_FOUND (R309): no sync word within 20 symbols of a preamble. -/
def syncWordNotFound (e : Nat) (s : State) : State :=
  match (s.eng e).rx with
  | .preamble since => if since + symCounts (s.band e) 20 ≤ s.now then s.rxUnknown e else s
  | _ => s

def execSyncWordNotFound (e : Fin 3) (s : State) : Res := s.whenRunning (syncWordNotFound e)

/-- R310: frame start and end from the arrival stamp. -/
def frameSpan (band : Nat) (stamp : Int) (dur : Nat) : Int × Int :=
  let st := stamp - symTime band 32
  (st, st + symTime band (preSymbols band + dur))

/-- R306: the blanked samples of symbol `n` of a frame that starts at `start`, or of `n` symbols from it. -/
def Engine.blankedIn (x : Engine) (band : Nat) (start : Int) (n count : Nat) : Nat :=
  (x.blanked.filter (fun t => decide (start + symTime band n ≤ t ∧ t < start + symTime band (n + count)))).length

/-- R306: whether symbol `n` of a frame is an erasure: more than half of its ADC samples were blanked. -/
def Engine.erasedSym (x : Engine) (band : Nat) (start : Int) (n : Nat) : Bool := decide (bandM band < 2 * x.blankedIn band start n 1)

/-- The symbols since the sync word, oldest first, each with whether it is an erasure; symbol 32 of the frame is the first of them. -/
def Engine.symbols (x : Engine) (band : Nat) (start : Int) : List (List Nat × Bool) :=
  x.syms.reverse.mapIdx (fun i p => (p, x.erasedSym band start (32 + i)))

/-- R292: the symbols of a header. -/
def headSymbols (band : Nat) : Nat := preSymbols band - 32

/-- HEADER_DECODED (R294, R303, R309, R318): once its symbols have come, a header is checked; the MAC learns the frame's end from DUR, or that
it is unknown. -/
def headerDecoded (e : Nat) (s : State) : State :=
  match (s.eng e).rx with
  | .synced stamp =>
    let x := s.eng e
    let b := s.band e
    let l := (x.symbols b (frameSpan b stamp 0).1).take (headSymbols b)
    let h := bytesOfBits 9 (headerBits b l)
    if l.length < headSymbols b then s
    else if !plcHeaderOk h then (s.plcCount e 3 1).rxUnknown e
    else
      let a := x.windowAfter (frameSpan b stamp (hdrDur h)).2
      let s1 := s.updEng e (fun y => { y with openA := some a, ackMine := false, unknownEnd := false, deadline := 0, doneB := none })
      if hdrTx h = 0 then (s1.plcCount e 8 1).updEng e (fun y => { y with rx := .search })
      else match s.mapOf e (hdrTx h) (hdrMap h) with
        | none => (s1.plcCount e 4 1).updEng e (fun y => { y with rx := .search })
        | some _ => s1.updEng e (fun y => { y with rx := .payload stamp h })
  | _ => s

def execHeaderDecoded (e : Fin 3) (_u : Unit) (s : State) : Res := s.whenRunning (headerDecoded e)

/-- R441: the metadata cell of an ingest packet. -/
def metaCell (arrival : Int) (route flen : Nat) (linkq : Int) (deadline startOfs endOfs : Nat) (td2Diff : Int) (rd : Bytes) : Bytes :=
  time80 arrival ++ [byte route, byte flen] ++ leInt 2 linkq ++ leBytes 8 deadline ++ leBytes 4 startOfs ++
    leBytes 4 endOfs ++ leInt 8 td2Diff ++ padTo 24 rd

/-- R314, R325: the receiver of the hop that has ended: the next repeater, or DEST. -/
def hopReceiver (f : Bytes) : Nat := if fNext f < fHops f then (fRoute f).getD (fNext f) 0 else fDest f

/-- R325: whether a hop is addressed to the concentrator: the last hop, to DEST 0x0000, or to 0xFFFF with an uplink type. -/
def hopToUs (f : Bytes) : Bool :=
  decide (fHops f ≤ fNext f) && (fDest f == 0 || (fDest f == 0xFFFF && isUplink (fType f)))

/-- R333: the links that a frame heard from `tx` has crossed into the engine. -/
def crossedLinks (f : Bytes) (tx : Nat) : List (Nat × Nat) :=
  let done := (fRoute f).take (fNext f)
  if fHops f = 0 then [(tx, 0)] else ((fSrc f :: done).zip (done ++ [0]))

/-- R310: the mean SNR of the active pairs of a payload, in units of 0.25 dB / 65,536: of the segments that it lies in, under the levels kept
of its transmitter; none when nothing is known. -/
def State.linkQuality (s : State) (e tx : Nat) (m h : Bytes) : Option Int :=
  let b := s.band e
  let n := bandPairs b
  let segs := ((List.range (hdrDur h)).map (fun k => segOf (hdrSeg h) b (hdrPeriod h) (preSymbols b + k))).eraseDups
  let vs := segs.flatMap (fun seg =>
    if mapMode m seg = 0 then [] else (pairsOf (mapMask m seg) n).filterMap
      (snrOf (knownLevels (s.toneMaps e tx).levels) (s.eng e).noise n seg))
  if vs = [] then none else some (vs.foldl (· + ·) 0 / vs.length)

/-- R301: the mean powers of the tones sent in the unerased symbols of a frame from the sync word on, as levels. -/
def frameLevels (band : Nat) (tones : List (List Nat)) (symbols : List (List Nat × Bool)) : List (Option Int) :=
  let l := (tones.zip symbols).filter (fun p => !p.2.2)
  (List.range (bandTones band)).map (fun t =>
    let ps := (l.filter (fun p => p.1.contains t)).map (fun p => at' p.2.1 t)
    if ps = [] then none else some (levelOf (ps.foldl (· + ·) 0 / ps.length)))

/-- R309: an overrun is counted, and 0x2804 raised at most once per second. -/
def State.plcOverrun (s : State) (e : Nat) : State :=
  let x := s.eng e
  let s1 := s.plcCount e 7 1
  if s.perSecond x.overrunAt then
    (s1.updEng e (fun y => { y with overrunAt := some s.now, overruns := 0 })).event 0x2804 e
      ([byte (e + 1), 0, 0, 0] ++ leBytes 4 (x.overruns + 1))
  else s1.updEng e (fun y => { y with overruns := y.overruns + 1 })

/-- R326, R330: the reverse of the route header of a meter's last frame. -/
def State.keepRoute (s : State) (f : Bytes) : State :=
  { s with plc := { s.plc with lastRoute := insertKey (fSrc f) (validReverse (fRoute f).reverse) s.plc.lastRoute } }

/-- R309, R325 to R333: a frame has passed its CRC. `stamp` and `h` are its stamp and header, `f` the link frame, `lev` its levels, `blanked`
and `erased` what was lost of it; `s0` the state with the engine back in search. -/
def State.goodFrame (s s0 : State) (e : Nat) (stamp : Int) (h f : Bytes) (lev : List (Option Int)) (blanked erased : Nat) : State :=
  let x := s.eng e
  let tx := hdrTx h
  let sp := frameSpan (s.band e) stamp (hdrDur h)
  let tol := (s.cfgB (plcBlk e) 0x2800 3 : Int) * 65536000
  let off := x.offBoundary sp.1
  let map := (s.mapOf e tx (hdrMap h)).getD []
  let s1 := if -tol ≤ off ∧ off ≤ tol then s0.updateMaps e tx (hdrMap h) lev else s0.plcCount e 12 1
  let lq := s1.linkQuality e tx map h
  let s2 := if tx = 0xFFFE then s1 else match lq with
    | some v => s1.measureLink tx 0 (e + 1) (v / 256) true
    | none => s1
  let s3 := s2.clearFails (crossedLinks f tx) (e + 1)
  if !hopToUs f then
    let s5 := (s3.plcCount e 6 1).accessCount e 5
    if isUplink (fType f) then s5
    else { s5 with plc := { s5.plc with
      heard := (s5.plc.heard ++ [(tx, (fDest f, fLseq f))]).drop (s5.plc.heard.length + 1 - 64) } }
  else
    let a := x.windowAfter sp.2
    let dl := s.counterOf a - cUs (s.cfgN 0x4004 1)
    let mine := decide (fDest f = 0)
    let s5 := s3.updEng e (fun y => { y with openA := some a, ackMine := mine, deadline := dl, lastTx := tx
                                             lastHops := (fRoute f).reverse })
    let rd := leBytes 2 tx ++ [byte (hdrMap h), byte (hdrSeg h)] ++ leBytes 2 (hdrPeriod h) ++ leBytes 2 erased ++ leBytes 4 blanked
    let cell := metaCell stamp e f.length (match lq with | some v => clampInt (v / 65536) (-32768) 32767 | none => -32768) dl
      (nsOf (stamp - sp.1)).toNat (nsOf (sp.2 - stamp)).toNat 0 rd
    let p := (s5.keepRoute f).pushOrDrop e e (cell ++ f)
    if p.2 then p.1.plcCount e 6 1 else p.1.plcOverrun e

/-- PLC_FRAME_END (R295 to R298, R306, R309): once the symbols of a payload have come, it is decoded, and its CRC-32 judged. -/
def plcFrameEnd (e : Nat) (s : State) : State :=
  match (s.eng e).rx with
  | .payload stamp h =>
    let x := s.eng e
    let b := s.band e
    let tx := hdrTx h
    let len := hdrLen h
    let sp := frameSpan b stamp (hdrDur h)
    let all := x.symbols b sp.1
    let pay := (all.drop (headSymbols b)).take (hdrDur h)
    if pay.length < hdrDur h then s
    else
      let m := (s.mapOf e tx (hdrMap h)).getD []
      let data := decodePayload len (payloadSofts m b (hdrSeg h) (hdrPeriod h) pay 0)
      let f := data.take len
      let total := preSymbols b + hdrDur h
      let erased := ((List.range total).filter (x.erasedSym b sp.1)).length
      let s0 := (s.plcCount e 10 erased).updEng e (fun y => { y with rx := .search })
      if crc32 f ≠ fieldLE data len 4 then (s0.plcCount e 5 1).chargeLink tx 0 (e + 1) (e + 1)
      else
        let tones := (headTones b h).drop 32 ++ payloadTones m b (hdrSeg h) (hdrPeriod h) (payloadSlots f) (hdrDur h) 0 0
        s.goodFrame s0 e stamp h f (frameLevels b tones all) (x.blankedIn b sp.1 0 total) erased
  | _ => s

def execPlcFrameEnd (e : Fin 3) (_u _v _w _x : Unit) (s : State) : Res := s.whenRunning (plcFrameEnd e)

/-- ENERGY_BELOW_BUSY (R318): after 2 consecutive symbols without energy, the end of a frame whose ACK window belongs to no station. -/
def energyBelowBusy (e : Nat) (s : State) : State :=
  let x := s.eng e
  if x.unknownEnd ∧ 2 ≤ x.quiet then
    s.updEng e (fun y => { y with unknownEnd := false, openA := some (x.windowAfter s.td0), ackMine := false, deadline := 0 })
  else s

def execEnergyBelowBusy (e : Fin 3) (s : State) : Res := s.whenRunning (energyBelowBusy e)

/-! ### Blanking and gain (R305, R307) -/

/-- What blanking keeps from sample to sample; `ms` in units of 2^-20. -/
structure Blank where
  ms : Nat
  tracked : Nat
  hold : Nat
  blanked : Nat
deriving DecidableEq, Repr, Inhabited

/-- R305: one ADC sample. `abs(x) > rms × 10^(thr / 20)` is read as x^20 > ms^10 × 10^thr. -/
def blankStep (thr hold : Nat) (b : Blank) (x : Int) : Blank :=
  let v := x.natAbs
  let h := if 1024 ≤ b.tracked ∧ b.ms ^ 10 * 10 ^ thr < v ^ 20 * 2 ^ 200 then hold + 1 else b.hold
  if 0 < h then { b with hold := h - 1, blanked := b.blanked + 1 }
  else { b with hold := 0, tracked := min (b.tracked + 1) 1024
                ms := ((b.ms : Int) + ((v * v * 2 ^ 20 : Nat) - (b.ms : Int)) / 1024).toNat }

/-- R307: the gain after the samples: one step towards −26 to −14 dBFS (2^26 is full scale squared). -/
def agcWanted (gain ms : Nat) : Nat :=
  if ms ^ 5 * 10 ^ 13 < 2 ^ 230 then min 7 (gain + 1)
  else if 2 ^ 230 < ms ^ 5 * 10 ^ 7 then gain - 1
  else gain

/-- R301: a symbol outside frames updates the noise of the segment it lies in with weight 1/256. -/
def noiseUpdate (noise : List Int) (seg : Nat) (levels : List Int) : List Int :=
  noise.mapIdx (fun i n =>
    if i / 32 = seg ∧ i % 32 < levels.length then
      let p := at' levels (i % 32)
      if n = noNoise then p else n + (p - n) / 256
    else n)

/-- R317: energy on 3 or more pairs: a tone of the pair exceeds its noise by 6 dB. -/
def energyBusy (noise : List Int) (n seg : Nat) (levels : List Int) : Bool :=
  let high := fun t => at' noise (32 * seg + t) != noNoise && decide (at' noise (32 * seg + t) + 24 * 65536 < at' levels t)
  decide (3 ≤ ((List.range n).filter (fun k => high k || high (k + n))).length)

/-- R283, R286: the powers of the tones of a band in the 96 samples of a symbol, oldest first. -/
def tonePowers (band : Nat) (samples : List Int) : List Nat := (List.range (bandTones band)).map (fun t => dftPower samples (firstBin band + t))

/-- R283, R301: a sample at the band rate; 96 make a symbol, which ends at `t`. A symbol outside frames updates the noise of the segment in
which its centre lies; one after a sync word is kept for the frame. -/
def Engine.bandSample (x : Engine) (band : Nat) (v t : Int) : Engine :=
  let idle := x.rx == .search
  let l := v :: x.band
  if l.length < 96 then { x with band := l, symClear := x.symClear && idle }
  else
    let p := tonePowers band l.reverse
    let lev := p.map levelOf
    let seg := (x.boundaryBefore (t - symTime band 1 / 2)).2
    let quiet := if energyBusy x.noise (bandPairs band) seg lev then 0 else x.quiet + 1
    let y := { x with band := [], symClear := true, lastSym := lev, quiet := quiet }
    match x.rx with
    | .synced _ | .payload _ _ => { y with syms := p :: x.syms }
    | _ => if x.symClear && idle then { y with noise := noiseUpdate x.noise seg lev } else y

/-- R283, R305: an ADC sample at `t`: blanked or not, filtered by the FIR cell with coefficients `coef`, one of `decim` kept. Blanked samples
of 40 symbols are kept for a frame that may have begun. -/
def Engine.adcSample (x : Engine) (band decim : Nat) (coef : List Int) (thr hold : Nat) (t v : Int) : Engine :=
  let r := blankStep thr hold ⟨x.ms, x.tracked, x.hold, 0⟩ v
  let lost := decide (0 < r.blanked)
  let old := if x.rx == .search then x.blanked.filter (fun u => decide (t - symTime band 40 < u)) else x.blanked
  let hist := ((if lost then 0 else v) :: x.firIn).take coef.length
  let y := { x with ms := r.ms, tracked := r.tracked, hold := r.hold, blanked := if lost then t :: old else old, firIn := hist
                    firPhase := (x.firPhase + 1) % decim, counters := upd x.counters 8 (· + r.blanked) }
  if (x.firPhase + 1) % decim = 0 then y.bandSample band (shiftSat (firAcc coef hist 0 false).1 17).1 t else y

/-- ADC samples one after another, the last at `t`, at 1.8432 MS/s. -/
def Engine.adcSamples (band decim : Nat) (coef : List Int) (thr hold : Nat) (t : Int) : List Int → Engine → Engine
  | [], x => x
  | v :: r, x =>
    Engine.adcSamples band decim coef thr hold t r
      (x.adcSample band decim coef thr hold (t - ((r.length * 65536000000000 / 1843200 : Nat) : Int)) v)

/-- R307: the amplifier after the samples: at most one step, once per millisecond and only outside frames; `fixed` is RxGain. -/
def Engine.gainStep (x : Engine) (fixed : Nat) (idle : Bool) (now : Nat) : Engine :=
  let g := if fixed ≠ 0xFF then fixed else if idle ∧ x.gainAt + cMs 1 ≤ now then agcWanted x.gain x.ms else x.gain
  { x with ms := if x.gain < g then x.ms * 4 ^ (g - x.gain) else x.ms / 4 ^ (x.gain - g), gain := g
           gainAt := if g = x.gain then x.gainAt else now }

/-- PLC_AGC_STEP (R283, R305, R307): engine `e` takes the ADC samples since the last such command: they are blanked, tracked, filtered and
transformed, and then the gain may change. While the engine sends, it does not receive. -/
def plcAgcStep (e : Nat) (samples : List Int) (s : State) : State :=
  let x := s.eng e
  if !s.engineOn e ∨ s.now < x.sendUntil then s
  else
    let r := 0x2801 + e
    let f := at' s.sense.fir (8 + e)
    s.updEng e (fun y => (Engine.adcSamples (s.band e) (max 1 (at' f.decim f.bank)) (at' f.coefs f.bank) (s.cfgN r 2) (s.cfgN r 3) s.td0 samples
      y).gainStep (s.cfgN r 8) (x.rx == .search) s.now)

def execPlcAgcStep (e : Fin 3) (samples : List Int) (s : State) : Res := s.whenRunning (plcAgcStep e samples)

/-! ### Transmission (R284, R287, R293, R300, R308) -/

/-- R284, R287, R289, R293, R300, R308: engine `e` sends a link frame under a fixed map from boundary `b` on. -/
def State.plcSend (s : State) (e : Nat) (f : Bytes) (id : Nat) (b : Int × Nat) : State :=
  let x := s.eng e
  let band := s.band e
  let seg := b.2
  let us := ((if x.free then x.period else (x.cycleAt b.1).2) + 500) / 1000
  let p := 16 * (f.length + 5)
  let d := payloadDur (fixedMap id band) band seg us 16383 0 0 p
  let m := fixedMap (if d.isSome then id else 0) band
  let dur := d.getD ((payloadDur m band seg us 16383 0 0 p).getD 16383)
  let h := plcHeader 0 f.length seg (if d.isSome then id else 0) (e + 1) dur us
  let tones := headTones band h ++ payloadTones m band seg us (payloadSlots f) dur 0 0
  let limit := s.cfgN (0x2801 + e) 5
  let atts := (s.val (0x2801 + e) 6).map (fun t => t.toNat + s.cfgN (0x2801 + e) 4)
  let hot := (tones.filter (overLimit band limit atts)).length
  let n := preSymbols band + dur
  let s0 := s.updEng e (fun y => { y with txReq := none })
  let s1 := if x.rx = .search then s0 else s0.plcCount e 5 1
  let s2 := ((s1.plcCount e 11 1).plcCount e 13 hot).updEng e (fun y =>
    { y with rx := .search, sendUntil := s.now + symCounts band n, unknownEnd := false, ackMine := false, deadline := 0, band := []
             symClear := true, doneB := none, openA := some (y.windowAfter (b.1 + symTime band n)), limited := y.limited + hot })
  let s3 := s2.put (.plc e h tones (dacFrame band limit atts tones))
  if hot ≠ 0 ∧ s.perSecond x.limitAt then
    (s3.updEng e (fun y => { y with limitAt := some s.now, limited := 0 })).event 0x2805 e
      ([byte (e + 1), 0, 0, 0] ++ leBytes 4 (x.limited + hot))
  else s3

/-- PLC_TRANSMIT (R284, R289): the engine sends the frame that its MAC has asked for, at the segment boundary at which it stands. An engine
that does not work drops it; one that is still sending, or stands at no boundary, keeps it. -/
def plcTransmit (e : Nat) (s : State) : State :=
  let x := s.eng e
  match x.txReq with
  | none => s
  | some (f, id) =>
    if !s.engineOn e then s.updEng e (fun y => { y with txReq := none })
    else
      match s.boundaryNow e with
      | some b => if s.now < x.sendUntil then s else s.plcSend e f id b
      | none => s

def execPlcTransmit (e : Fin 3) (s : State) : Res := s.whenRunning (plcTransmit e)

/-! ### Access (R313 to R319) -/

/-- R317: whether an engine finds the medium busy at boundary `b`: it receives or sends, the end of what it heard is unknown, it still listens
after cast-on, or the last symbol had energy. -/
def State.mediumBusy (s : State) (e : Nat) (b : Int) : Bool :=
  let x := s.eng e
  x.rx != .search || decide (s.now < x.sendUntil) || x.unknownEnd || decide (s.now < x.listenTo) ||
    energyBusy x.noise (bandPairs (s.band e)) (x.boundaryBefore (b - 1)).2 x.lastSym

/-- ACK_WINDOW_OPEN (R304, R314, R317): at the boundary that opens the window, the ACK of the frame that has just ended is sent, if stage 11
met the deadline and the medium is idle; requests for windows gone by are dropped. -/
def ackWindowOpen (e : Nat) (s : State) : State :=
  let s0 := s.macFetch e
  let x := s0.eng e
  match s0.boundaryNow e with
  | none => s0
  | some b =>
    if x.openA ≠ some b.1 then s0
    else
      let mine := x.acks.find? (fun a => a.deadline == x.deadline)
      let s1 := s0.updEng e (fun y => { y with acks := [], ackMine := false })
      match mine with
      | some a =>
        if s.engineOn e && x.ackMine && !s0.mediumBusy e b.1 && decide (x.deadline ≠ 0) then
          let pend := x.ready.any (fun f => f.meter == a.meter)
          let r := s1.buildAck a (.route (s1.ackHops e (s1.meter a.meter) x.lastHops)) pend (s1.mapReport e x.lastTx)
          match r.2 with
          | some f => (r.1.accessCount e 1).updEng e (fun y => { y with txReq := some (f, 0) })
          | none => r.1
        else s1
      | none => s1

def execAckWindowOpen (e : Fin 3) (s : State) : Res := s.whenRunning (ackWindowOpen e)

/-- R315, R316: whether a frame of a priority may start at a boundary. -/
def Engine.mayStart (x : Engine) (t : Int) (prio : Nat) : Bool :=
  match x.openA with
  | none => true
  | some a => decide (a + (1 + 2 * (prio : Int)) * x.segTime t ≤ t)

/-- The frame that an engine contends with: the highest priority, the oldest first. -/
def bestFrame (l : List MacFrame) : Option MacFrame :=
  l.foldl (fun b f => match b with | none => some f | some c => if f.prio < c.prio then some f else b) none

/-- BACKOFF_BOUNDARY (R315 to R319): once at each segment boundary, the engine's frame counts down or is sent, if the medium is idle. -/
def backoffBoundary (e : Nat) (s : State) : State :=
  let s0 := s.macFetch e
  let x := s0.eng e
  match s0.boundaryNow e with
  | none => s0
  | some b =>
    if x.doneB = some b.1 ∨ !s.engineOn e then s0
    else
      let s1 := s0.updEng e (fun y => { y with doneB := some b.1 })
      match bestFrame x.ready with
      | none => s1
      | some f =>
        if !x.mayStart b.1 f.prio ∨ x.txReq.isSome then s1
        else if s0.mediumBusy e b.1 then s1.accessCount e 3
        else if f.backoff = 0 then
          (s1.accessCount e 2).updEng e (fun y => { y with ready := y.ready.erase f, txReq := some (f.frame, s.cfgB (plcBlk e) 0x2800 2) })
        else s1.updEng e (fun y => { y with
          ready := y.ready.map (fun g => if g == f then { g with backoff := g.backoff - 1 } else g) })

def execBackoffBoundary (e : Fin 3) (_u : Unit) (s : State) : Res := s.whenRunning (backoffBoundary e)

/-- R285, R304, R305: engine `e` after a change of band: tracking starts again, maps and noise measured in the other band are gone. -/
def State.bandChanged (s : State) (e : Nat) : State :=
  s.updEng e (fun y => { y with rx := .search, tracked := 0, blanked := [], firIn := [], firPhase := 0, band := [], symClear := true
                                lastSym := [], syms := [], maps := [], noise := List.replicate 256 noNoise, txReq := none })

end Sys2Proof.Machine
end

