-- ==== Sys2Proof/Machine/RadioPort.lean ====
section
/-!
DEFINITION. The radio ports (chapter 10): channels, front-end scripts, the IQ interface, gain, and transmission.
-/
namespace Sys2Proof.Machine

/-- The state of port `p`. -/
def State.port (s : State) (p : Nat) : RadioPort := at' s.radio.ports p

/-- Port `p` changed. -/
def State.updPort (s : State) (p : Nat) (f : RadioPort → RadioPort) : State :=
  { s with radio := { s.radio with ports := upd s.radio.ports p f } }

/-- The MAC of port `p`. -/
def State.mac (s : State) (p : Nat) : RadioMac := at' s.radio.macs p

/-- The MAC of port `p` changed. -/
def State.updMac (s : State) (p : Nat) (f : RadioMac → RadioMac) : State :=
  { s with radio := { s.radio with macs := upd s.radio.macs p f } }

/-- More on count `i` (from 1) of 0x3030 of port `p`. -/
def State.radioCount (s : State) (p i n : Nat) : State :=
  s.updPort p (fun x => { x with counters := upd x.counters (i - 1) (· + n) })

/-- One more on count `i` (from 1) of 0x3130 of port `p`. -/
def State.macCount (s : State) (p i : Nat) : State :=
  s.updMac p (fun x => { x with counters := upd x.counters (i - 1) (· + 1) })

/-- The cells of port `p`: IQ interface, transmitter, SPI and control lines, demodulators, MAC. -/
def iqCell (p : Nat) : Nat := 0x0300 + 0x0200 * p
def txCell (p : Nat) : Nat := iqCell p + 1
def spiCell (p : Nat) : Nat := iqCell p + 2
def demodCell (p d : Nat) : Nat := 0x0400 + 0x0200 * p + d
def radioMacCell (p : Nat) : Nat := 0x0703 + p

/-- The block of port `p`. -/
def radioBlk (p : Nat) : Blk := if p = 0 then .radio0 else .radio1

/-- A value of the port's record, as the port sees it. -/
def State.portN (s : State) (p sub : Nat) : Nat := s.cfgB (radioBlk p) (0x3001 + p) sub
def State.portI (s : State) (p sub : Nat) : Int :=
  let b := s.valB (radioBlk p) (0x3001 + p) sub
  untwos b.length (leNat b)

/-- R336, R344: whether a port is in use. A fence of its SPI cell fences all of it; one of its IQ interface or its transmitter only reception or
sending (log entry 81). -/
def State.portOn (s : State) (p : Nat) : Bool :=
  bit (s.cfgB (radioBlk p) 0x3000 1) p && s.inService (spiCell p) && !(s.port p).initFailed

/-- 0x3000.2. -/
def State.preambleOctets (s : State) (p : Nat) : Nat := s.cfgB (radioBlk p) 0x3000 2

/-! ### Channels (R347 to R349) -/

/-- R348: the entry of a channel: FREQ, PORTS, MODES. -/
def State.channelEntry (s : State) (p c : Nat) : Nat × Nat × Nat :=
  let t := s.valB (radioBlk p) 0x3010 0
  (fieldLE t (8 * c) 4, fieldLE t (8 * c + 4) 1, fieldLE t (8 * c + 5) 1)

/-- R347, R349: the bin of a frequency at a centre frequency, and whether it is a merged channel. -/
def binOf (freq center modes : Nat) : Option (Nat × Bool) :=
  if freq = 0 ∨ modes = 0 ∨ center = 0 then none
  else if modes ≤ 3 then
    let d : Int := (freq : Int) - center
    let k := 32 + d / 200000
    if d % 200000 = 0 ∧ ((1 ≤ k ∧ k ≤ 31) ∨ (33 ≤ k ∧ k ≤ 63)) then some (k.toNat, false) else none
  else if modes = 4 then
    let d : Int := (freq : Int) - center - 100000
    let b := 32 + d / 200000
    if d % 200000 = 0 ∧ ((1 ≤ b ∧ b ≤ 30) ∨ (33 ≤ b ∧ b ≤ 62)) then some (b.toNat, true) else none
  else none

/-- R349: the bin of a channel on a port, if it is valid there. -/
def State.channelBin (s : State) (p c : Nat) : Option (Nat × Bool) :=
  let e := s.channelEntry p c
  if bit e.2.1 p then binOf e.1 (s.portN p 1) e.2.2 else none

/-- R350, R355: whether a channel may be used on a port in a mode. -/
def State.channelMode (s : State) (p c mode : Nat) : Bool :=
  (s.channelBin p c).isSome && bit (s.channelEntry p c).2.2 mode

/-! ### Durations (R353, R370) -/

/-- The time of a bit of preamble and SFD, in ns. -/
def shrBitNs (mode : Nat) : Nat := if mode = 0 then 20000 else 10000

/-- The time of a bit of PHR and PSDU, in ns. -/
def bitNs (mode : Nat) : Nat := if mode = 0 then 20000 else if mode = 1 then 10000 else 5000

/-- Bits of PHR and PSDU on the air. With the code, 3 tail bits and padding to whole interleaver blocks are added and every
bit is sent twice, by the rules of the standard (log entry 15). -/
def airBits (psdu : Nat) (coded : Bool) : Nat :=
  let n := psdu + 2
  if coded then 2 * 8 * (if n % 2 = 0 then n + 2 else n + 1) else 8 * n

/-- R370: the duration of a PPDU in ns. -/
def State.airNs (s : State) (p mode psdu : Nat) (coded : Bool) : Nat :=
  (s.preambleOctets p + 2) * 8 * shrBitNs mode + airBits psdu coded * bitNs mode

/-- R358: preamble and SFD in ns. -/
def State.shrNs (s : State) (p mode : Nat) : Nat := (s.preambleOctets p + 2) * 8 * shrBitNs mode

/-- R356, R368: what a port sends a frame of `len` bytes as: PSDU length and coding; an ACK is never coded. -/
def State.sentAs (s : State) (p len : Nat) (ack : Bool) : Nat × Bool :=
  (len + s.portN p 10, !ack && decide (s.portN p 11 = 1))

/-- The duration of a frame that a port sends, in ns. -/
def State.sendNs (s : State) (p mode len : Nat) (ack : Bool) : Nat :=
  let a := s.sentAs p len ack
  s.airNs p mode a.1 a.2

/-! ### The FCS and the PHR (R353) -/

/-- One bit of the CRC-16 of IEEE 802.15.4. -/
def crc16Step (c : BitVec 16) : BitVec 16 := if c.getLsbD 0 then (c >>> 1) ^^^ 0x8408#16 else c >>> 1

/-- `n` bits. -/
def crc16Steps : Nat → BitVec 16 → BitVec 16
  | 0, c => c
  | n + 1, c => crc16Steps n (crc16Step c)

/-- The 2-byte FCS (log entry 15). -/
def crc16 (b : Bytes) : Nat := (b.foldl (fun c x => crc16Steps 8 (c ^^^ x.setWidth 16)) 0#16).toNat

/-- The FCS of a frame, of 4 or 2 bytes (log entry 15). -/
def fcsOf (n : Nat) (f : Bytes) : Bytes := if n = 2 then leBytes 2 (crc16 f) else leBytes 4 (crc32 (padTo (max 4 f.length) f))

/-- The PHR: [0] MS, [2:1] reserved, [3] FCS type (1 for 2 bytes), [4] DW, [15:5] length (log entry 15). -/
def phrOf (fcs : Nat) (whitening : Bool) (len : Nat) : Nat := (if fcs = 2 then 8 else 0) + 16 * b2n whitening + 32 * len

/-! ### Scripts (R342 to R344) -/

/-- Output lines of a port at their idle levels (R336, R344). -/
def State.ctlIdle (s : State) (p : Nat) (ctl : Nat) : Nat :=
  let dir := s.portN p 21
  let idle := s.portN p 22
  ofBits ((List.range 4).map (fun i => if bit dir i then bit idle i else bit ctl i))

/-- R342: the start word of a trigger's script, or none. -/
def State.scriptStart (s : State) (p t : Nat) : Option Nat :=
  let v := fieldLE (s.valB (radioBlk p) 0x3005 (p + 1)) (2 * t) 2
  if v = 0xFFFF then none else some v

/-- Receptions in progress on a port are abandoned (R338, R357); the demodulators take the state given. -/
def State.stopDemods (s : State) (p st : Nat) : State :=
  let n := ((s.port p).demods.filter (fun d => d.state == 2)).length
  (s.radioCount p 12 n).updPort p (fun x => { x with demods := x.demods.map (fun d =>
    if d.state = 0 then d else { d with state := st, due := 0 }) })

/-- A trigger joins the pending ones; a GAIN takes the place of a GAIN still pending (R344). -/
def addTrigger (l : List (Nat × Nat)) (t param : Nat) : List (Nat × Nat) :=
  if t = 4 ∧ l.any (fun x => x.1 == 4) then l.map (fun x => if x.1 = 4 then (4, param) else x) else l ++ [(t, param)]

/-- The trigger that runs next: TX_ON and TX_OFF first, then all others, in the order raised (R344). -/
def nextTrigger (l : List (Nat × Nat)) : Option (Nat × Nat) :=
  match l.find? (fun x => x.1 == 2 || x.1 == 3) with
  | some x => some x
  | none => l.head?

/-- R361: CODE and GAIN of a gain entry. -/
def State.gainCode (s : State) (p i : Nat) : Nat := fieldLE (s.valB (radioBlk p) (0x3001 + p) 14) (2 * i) 1
def State.gainDb (s : State) (p i : Nat) : Int := fieldInt (s.valB (radioBlk p) (0x3001 + p) 14) (2 * i + 1) 1

/-- The demodulators of a port resume with their current assignments (R357). -/
def State.resumeDemods (s : State) (p : Nat) : State :=
  s.updPort p (fun x => { x with demods := x.demods.map (fun d => if d.state = 3 then { d with state := 1 } else d) })

/-- The phase of the transmission that a TX_ON serves. -/
def State.txPhase (s : State) (p : Nat) (old new : TxPhase) : State :=
  s.updPort p (fun x => { x with tx := x.tx.map (fun j => if j.phase == old then { j with phase := new } else j) })

/-- R342, R344: what the end of a trigger brings about, its result 0 for success. Triggers that it raises are answered. -/
def State.triggerDone (s : State) (p t result : Nat) : State × List (Nat × Nat) :=
  let s0 := s.updPort p (fun x => { x with lastScript := t + 16 * result })
  match t with
  | 0 =>
    if result ≠ 0 then (s0.updPort p (fun x => { x with initFailed := true, inUse := false }), [])
    else
      let mode := s.portN p 16
      (s0.updPort p (fun x => { x with inUse := true, gainWanted := if mode = 0xFF then x.gainWanted else mode }),
       (1, 0) :: (if mode = 0xFF then [] else [(4, s.gainCode p mode)]))
  | 1 => (s0.resumeDemods p, [])
  | 2 =>
    if result = 0 then ((s0.txPhase p .onRaised .onDone).stopDemods p 3, []) else (s0.txPhase p .onRaised .onFailed, [])
  | 3 => (s0, [(1, 0)])
  | 4 =>
    if result = 0 then ((s0.radioCount p 13 1).updPort p (fun x => { x with gainEntry := x.gainWanted }), []) else (s0, [])
  | _ => (s0, [])

/-- A trigger is raised; one without a script completes at once (R342). The first argument bounds how many follow. -/
def State.trigger : Nat → State → Nat → Nat → Nat → State
  | 0, s, p, t, param => s.updPort p (fun x => { x with triggers := addTrigger x.triggers t param })
  | n + 1, s, p, t, param =>
    match s.scriptStart p t with
    | some _ => s.updPort p (fun x => { x with triggers := addTrigger x.triggers t param })
    | none =>
      let r := s.triggerDone p t 0
      r.2.foldl (fun st q => State.trigger n st p q.1 q.2) r.1

/-- What a running script keeps: control lines, capture registers, the bytes of each SPI operation done, bytes still to come on MISO, outcomes
still to come of WAIT_CTL. -/
structure ScriptRun where
  ctl : Nat
  capture : List Nat
  sent : List Bytes
  miso : Bytes
  waits : List Bool
deriving DecidableEq, Repr, Inhabited

/-- R343, R344: the words of a script from word `pc`: result, word offset at its end. Words past the end of a table read as
END (log entry 16). -/
def runScript (table : Bytes) (dir param : Nat) : Nat → Nat → ScriptRun → Nat × Nat × ScriptRun
  | 0, pc, r => (3, pc, r)
  | fuel + 1, pc, r =>
    if 1023 < pc then (3, pc, r)
    else
      let w := fieldLE table (4 * pc) 4
      match bits w 28 4 with
      | 0 => (0, pc, r)
      | 1 =>
        let n := bits w 0 8
        let pos := bits w 8 4
        if n < pos then (2, pc, r)
        else
          let raw := slice table (4 * pc + 4) n
          let bs := if pos = 0 then padTo n raw else (padTo n raw).set (pos - 1) (byte param)
          let inp := padTo n r.miso
          let cap := if bit w 12 then r.capture.set (bits w 13 2) (fieldLE inp (n - 1) 1) else r.capture
          runScript table dir param fuel (pc + 1 + (n + 3) / 4)
            { r with sent := r.sent ++ [bs], miso := r.miso.drop n, capture := cap }
      | 2 =>
        let mask := bits w 0 4
        let v := bits w 4 4
        runScript table dir param fuel (pc + 1)
          { r with ctl := ofBits ((List.range 4).map (fun i => if bit mask i && bit dir i then bit v i else bit r.ctl i)) }
      | 3 => runScript table dir param fuel (pc + 1) r
      | 4 =>
        if bit dir (bits w 0 2) then (2, pc, r)
        else match r.waits with
          | false :: q => (1, pc, { r with waits := q })
          | q => runScript table dir param fuel (pc + 1) { r with waits := q.drop 1 }
      | _ => (2, pc, r)

/-- SCRIPT_RUN (R341, R344): the next pending script of a port runs to its end or failure; RFn_CS_N is asserted for each SPI operation, in SpiMode
and at SpiClock MHz. `miso` are the bytes received, `waits`
whether each WAIT_CTL found its level in time. -/
def scriptRun (p : Nat) (miso : Bytes) (waits : List Bool) (s : State) : State :=
  match nextTrigger (s.port p).triggers with
  | none => s
  | some (t, param) =>
    let x := s.port p
    let s0 := s.updPort p (fun y => { y with triggers := y.triggers.erase (t, param) })
    let start := (s.scriptStart p t).getD 1024
    let r := runScript (s.valB (radioBlk p) (0x3003 + p) 0) (s.portN p 21) param 4096 start ⟨x.ctl, x.capture, [], miso, waits⟩
    let s1 := s0.updPort p (fun y => { y with capture := r.2.2.capture
                                              ctl := if r.1 = 0 then r.2.2.ctl else s.ctlIdle p r.2.2.ctl })
    let s2 := r.2.2.sent.foldl (fun st b => st.put (.spi p (s.portN p 19) (s.portN p 20) b)) s1
    let s3 := if r.1 = 0 then s2 else s2.event 0x3003 (spiCell p) ([byte p, byte t, byte r.1, 0] ++ leBytes 2 r.2.1)
    let d := s3.triggerDone p t r.1
    d.2.foldl (fun st q => st.trigger 3 p q.1 q.2) d.1

def execScriptRun (p : Fin 2) (miso : Bytes) (waits : List Bool) (s : State) : Res := s.whenLive (scriptRun p miso waits)

/-- USER_A and USER_B (R342, R362): a write of 1 or 2 to ScriptControl raises trigger 6 or 7. -/
def userTrigger (p t : Nat) (s : State) : State × Nat :=
  if !s.inService (spiCell p) then (s, Abort.fenced) else (s.trigger 3 p t 0, Abort.ok)

def execUserA (role : Nat) (p : Fin 2) (s : State) : Res := s.command 0x3006 (p + 1) role .operator (userTrigger p 6)
def execUserB (role : Nat) (p : Fin 2) (s : State) : Res := s.command 0x3006 (p + 1) role .operator (userTrigger p 7)

/-- FRONT_END_ALARM (R341): a filtered rising edge on a control line that is an input named in CtlAlarm. -/
def frontEndAlarm (p line : Nat) (s : State) : State :=
  if !bit (s.portN p 21) line && bit (s.portN p 23) line then s.event 0x3006 (spiCell p) [byte p, byte line] else s

def execFrontEndAlarm (p : Fin 2) (line : Fin 4) (s : State) : Res := s.whenLive (frontEndAlarm p line)

/-- R336, R342: what a port does when an epoch changes its enable: INIT when it comes into use, SHUTDOWN when it leaves. -/
def State.portEnabled (s : State) (p : Nat) (on : Bool) : State :=
  if on then (s.updPort p (fun x => { x with initFailed := false })).trigger 3 p 0 0
  else
    let s1 := s.stopDemods p 0
    (s1.updPort p (fun x => { x with inUse := false, tx := [], air := none, ctl := s.ctlIdle p x.ctl
                                     demods := x.demods.map (fun d => { d with state := 0, assigned := false, next := none }) })).trigger 3 p 5 0

/-! ### The IQ interface (R338, R340, R361) -/

/-- IQ_LINK_FAULT (R338): every demodulator of the port stops. -/
def iqLinkFault (p cause : Nat) (s : State) : State :=
  if bit (s.cfgB (radioBlk p) 0x3000 1) p ∧ (s.port p).iqCause = 0 then
    ((s.stopDemods p 0).updPort p (fun x => { x with iqCause := cause, iqSince := s.now })).event 0x3001 (iqCell p)
      [byte p, byte cause]
  else s

/-- The cause is 1, 2 or 3. -/
def execIqLinkFault (p : Fin 2) (cause : Fin 3) (s : State) : Res := s.whenLive (iqLinkFault p (cause + 1))

/-- R338, R345: the channelizer's history of a port is reset; 12 outputs of its bins complete it. -/
def State.resetChannelizer (s : State) (p : Nat) : State :=
  let s1 := s.updPort p (fun y => { y with iq := List.replicate 384 (0, 0), iqNo := 0 })
  { s1 with sense := { s1.sense with fir := upd s1.sense.fir (11 + p) (fun f => { f with settle := 12 }) } }

/-- IQ_LINK_RESTORED (R338): the channelizer's history is reset; demodulators search after 30 µs. -/
def iqLinkRestored (p : Nat) (s : State) : State :=
  let x := s.port p
  if x.iqCause = 0 then s
  else
    ((s.resetChannelizer p).updPort p (fun y => { y with
        iqCause := 0, iqSince := s.now + cUs 30
        demods := y.demods.map (fun d => if d.state = 0 ∧ d.assigned then { d with state := 1 } else d) })).event
      0x3002 (iqCell p) ([byte p, 0, 0, 0] ++ leBytes 4 (min maxU32 ((s.now - x.iqSince) / cMs 1)))

def execIqLinkRestored (p : Fin 2) (s : State) : Res := s.whenLive (iqLinkRestored p)

/-- R340: one sample corrected: the DC estimates in units of 2^-16, sine and cosine of φ in units of 2^-48, g as FIX32. The division rounds down
(log entry 81). -/
def correctSample (swap : Bool) (shift : Nat) (g sinv cosv : Int) (dI dQ : Int) (x : Int × Int) : Int × Int × (Int × Int) :=
  let a := if swap then (x.2, x.1) else x
  let dI' := if shift = 0 then 0 else dI + (a.1 * 65536 - dI) / 2 ^ shift
  let dQ' := if shift = 0 then 0 else dQ + (a.2 * 65536 - dQ) / 2 ^ shift
  let i := a.1 - dI' / 65536
  let q := a.2 - dQ' / 65536
  (dI', dQ', (i, (q * 2 ^ 48 - i * sinv) * 2 ^ 16 / (if g * cosv = 0 then 1 else g * cosv)))

/-- R340: samples corrected one after another: the DC estimates after them, and the corrected samples. -/
def correctSamples (swap : Bool) (shift : Nat) (g sinv cosv : Int) : Int → Int → List (Int × Int) → Int × Int × List (Int × Int)
  | dI, dQ, [] => (dI, dQ, [])
  | dI, dQ, v :: r =>
    let c := correctSample swap shift g sinv cosv dI dQ v
    let t := correctSamples swap shift g sinv cosv c.1 c.2.1 r
    (t.1, t.2.1, c.2.2 :: t.2.2)

/-- R340: cosine and sine of an angle in degrees as FIX32, in units of 2^-48. -/
def phaseTrig (ph : Int) : Int × Int := cosSin (ph % 23592960).toNat 23592960

/-! ### The channelizer (R345 to R347) -/

/-- R345: the output of bin `k`, exact but for the units: coefficients `h`, input samples newest first, the newest numbered `no` = 32 m. It is
rounded as R214 rounds, after the shift of 17. -/
def binOut (h : List Int) (x : List (Int × Int)) (no k : Nat) : Int × Int :=
  let v := (h.zip x).zipIdx.foldl (fun (a : Int × Int) q =>
    let w := cosSin ((k + 32) * (no + 384 - q.2)) 64
    (a.1 + q.1.1 * (q.1.2.1 * w.1 + q.1.2.2 * w.2), a.2 + q.1.1 * (q.1.2.2 * w.1 - q.1.2.1 * w.2))) (0, 0)
  ((shiftSat v.1 65).1, (shiftSat v.2 65).1)

/-- R347: a bin's outputs, newest first, interpolated to 800 kS/s: the sample `ph` (0 or 1) after the newest, from 11 taps. -/
def interpolated (ph : Nat) (l : List (Int × Int)) : Int × Int :=
  (l.take 6).zipIdx.foldl (fun a q => if 10 < 2 * q.2 + ph then a else
    (a.1 + Config.mergeFir (2 * q.2 + ph) * q.1.1, a.2 + Config.mergeFir (2 * q.2 + ph) * q.1.2)) (0, 0)

/-- R347: the power of the merged channel at sample `n` of 800 kS/s: the lower bin shifted by −100 kHz, the upper one by +100 kHz, added. -/
def mergedPower (pairs : List ((Int × Int) × (Int × Int))) (n : Nat) : Nat :=
  let a := interpolated (n % 2) (pairs.map (·.1))
  let b := interpolated (n % 2) (pairs.map (·.2))
  let w := cosSin n 8
  let re := a.1 * w.1 + a.2 * w.2 + b.1 * w.1 - b.2 * w.2
  let im := a.2 * w.1 - a.1 * w.2 + b.2 * w.1 + b.1 * w.2
  ((re * re + im * im) / 2 ^ 130).toNat

/-- R354: how many powers of a mode lie in its SFD, and in its PHR, and how many pass between the SFD's end and its detection (R358). -/
def sfdPowers (mode : Nat) : Nat := if mode = 1 then 64 else 128
def phrPowers (mode : Nat) (coded : Bool) : Nat := (if mode = 0 then 128 else 64) * (if coded then 2 else 1)
def latePowers (mode : Nat) : Nat := if mode = 1 then 6 else 12

/-- R354: powers of its channel reach a demodulator. One that searches keeps those of the time in which an SFD could lie; one that receives those
of its frame's SFD and PHR. -/
def Demod.hear (d : Demod) (l : List Nat) : Demod :=
  if d.state = 2 then
    let t := l.take d.due
    { d with powers := t.reverse ++ d.powers, due := d.due - t.length }
  else if d.state = 1 then { d with powers := (l.reverse ++ d.powers).take (sfdPowers d.mode + latePowers d.mode) }
  else { d with powers := [] }

/-- R345, R347: the outputs of the channelizer at input sample `no` reach a demodulator on a bin. -/
def Demod.bins (d : Demod) (h : List Int) (x : List (Int × Int)) (no : Nat) : Option (Nat × Bool) → Demod
  | none => d
  | some (k, false) => let y := binOut h x no k; d.hear [(y.1 * y.1 + y.2 * y.2).toNat]
  | some (k, true) =>
    let pairs := ((binOut h x no k, binOut h x no (k + 1)) :: d.pairs).take 6
    { d with pairs := pairs }.hear [mergedPower pairs (no / 16), mergedPower pairs (no / 16 + 1)]

/-- R359: a mean power as a level in 0.25 dB against a full-scale input; the level of no power at all is left open. -/
def dbfs (power : Nat) : Int :=
  if power = 0 then Config.zeroLevel / 65536 else (log2Fine power - 22 * 2 ^ 32) * 3156528 / 2 ^ 50

/-- The mean of some powers. -/
def meanPower (l : List Nat) : Nat := l.foldl (· + ·) 0 / max 1 l.length

/-- R345: corrected samples, oldest first, pass the channelizer of port `p`. -/
def State.channelize (s : State) (p : Nat) : List (Int × Int) → State
  | [] => s
  | v :: r =>
    let x := s.port p
    let iq := (v :: x.iq).take 384
    let s1 := s.updPort p (fun y => { y with iq := iq, iqNo := y.iqNo + 1 })
    let f := at' s.sense.fir (11 + p)
    let s2 := if x.iqNo % 32 ≠ 0 then s1 else
      let s3 := { s1 with sense := { s1.sense with fir := upd s1.sense.fir (11 + p) (fun c => { c with settle := c.settle - 1 }) } }
      s3.updPort p (fun y => { y with demods := y.demods.map (fun d =>
        if d.assigned then d.bins (at' f.coefs f.bank) iq x.iqNo (s.channelBin p d.channel) else d) })
    s2.channelize p r

/-- R361: a GAIN trigger for an entry. -/
def State.wantGain (s : State) (p i : Nat) : State :=
  (s.updPort p (fun x => { x with gainWanted := i })).trigger 3 p 4 (s.gainCode p i)

/-- AGC_BLOCK (R340, R345, R361): a block of 10 µs of receive samples is corrected and passes the channelizer: its clipped samples lower the gain
at once, and a mean power over 1 ms more than 6 dB below AgcTarget raises it while no demodulator is past an SFD. -/
def agcBlock (p : Nat) (samples : List (Int × Int)) (s : State) : State :=
  let x := s.port p
  if !s.portOn p ∨ !s.inService (iqCell p) then s
  else
    let w := phaseTrig (s.portI p 5)
    let r := correctSamples (s.portN p 2 == 1) (s.portN p 3) (s.portI p 4) w.2 w.1 x.dcI x.dcQ samples
    let mean := meanPower (r.2.2.map (fun v => (v.1 * v.1 + v.2 * v.2).toNat))
    let clipped := samples.any (fun v => v.1 == 2047 || v.1 == -2048 || v.2 == 2047 || v.2 == -2048)
    let auto := decide (s.portN p 16 = 0xFF)
    let n := x.powerBlocks + 1
    let sum := x.powerSum + mean
    let full := decide (100 ≤ n)
    let avg : Nat := sum / 100
    let s1 := (s.channelize p r.2.2).updPort p (fun y => { y with
      dcI := r.1, dcQ := r.2.1, powerSum := if full then 0 else sum
      powerBlocks := if full then 0 else n, power := if full then dbfs avg else y.power })
    if clipped then
      let s2 := (s1.radioCount p 7 1).updPort p (fun y => { y with clipSecond := y.clipSecond + 1 })
      if auto ∧ 0 < x.gainEntry ∧ x.gainWanted = x.gainEntry then s2.wantGain p (x.gainEntry - 1) else s2
    else
      let t : Nat := (s.portI p 17 - 6).natAbs
      let low := decide ((avg ^ 10 * 10 ^ t : Nat) < 2 ^ 220)
      if auto ∧ full ∧ low ∧ x.gainEntry + 1 < s.portN p 15 ∧ x.gainWanted = x.gainEntry ∧ !x.demods.any (fun d => d.state == 2) then
        s1.wantGain p (x.gainEntry + 1)
      else s1

def execAgcBlock (p : Fin 2) (samples : List (Int × Int)) (s : State) : Res := s.whenLive (agcBlock p samples)

/-- RX_CLIPPING (R340): once per second, the blocks that held a clipped sample are reported. -/
def rxClipping (p : Nat) (s : State) : State :=
  let x := s.port p
  if 0 < x.clipSecond ∧ s.perSecond x.clipAt then
    (s.updPort p (fun y => { y with clipSecond := 0, clipAt := some s.now })).event 0x3007 (iqCell p)
      ([byte p, 0, 0, 0] ++ leBytes 4 x.clipSecond)
  else s

def execRxClipping (p : Fin 2) (s : State) : Res := s.whenLive (rxClipping p)

/-! ### Transmission (R355 to R357) -/

/-- A frame that was not sent goes back to its MAC: an ACK or beacon is counted, a downlink takes its place again. -/
def State.notSent (s : State) (p : Nat) (j : TxJob) : State :=
  match j.origin, j.from' with
  | 0, _ => s.macCount p 2
  | 1, _ => s.macCount p 7
  | _, some f => s.updMac p (fun m => if f.prio = 3 then { m with blocks := f :: m.blocks } else { m with ready := f :: m.ready })
  | _, none => s

/-- TX_REQUEST (R355): the request of the MAC is accepted, or refused and counted. -/
def txRequest (p : Nat) (s : State) : State :=
  match (s.port p).tx.find? (fun j => j.phase == .asked) with
  | none => s
  | some j =>
    if s.portOn p && s.inService (txCell p) && s.channelMode p j.channel j.mode && decide (s.now + cUs (s.portN p 8) ≤ j.startAt) then
      s.updPort p (fun x => { x with tx := x.tx.map (fun k => if k == j then { k with phase := .accepted } else k) })
    else
      ((s.radioCount p 10 1).updPort p (fun x => { x with tx := x.tx.erase j })).notSent p j

def execTxRequest (p : Fin 2) (s : State) : Res := s.whenRadio (txRequest p)

/-- TX_ON (R357 step 1): TxLead before the transmission its trigger is raised. -/
def txOn (p : Nat) (s : State) : State :=
  match (s.port p).tx.find? (fun j => j.phase == .accepted) with
  | none => s
  | some j =>
    if j.startAt ≤ s.now + cUs (s.portN p 8) then
      (s.updPort p (fun x => { x with tx := x.tx.map (fun k => if k == j then { k with phase := .onRaised } else k) })).trigger 3 p 2 0
    else s

def execTxOn (p : Fin 2) (s : State) : Res := s.whenRadio (txOn p)

/-- TX_ABANDONED (R357): nothing is sent; TX_OFF runs. Cause as in 0x3005. -/
def State.txAbandon (s : State) (p cause : Nat) (j : TxJob) : State :=
  let x := s.port p
  let s1 := (s.radioCount p 11 1).updPort p (fun y => { y with
    tx := y.tx.erase j, air := if j.phase == .sending then none else y.air, triggers := y.triggers.filter (fun t => t.1 != 2)
    lastScript := if cause = 1 then 2 + 16 * 4 else y.lastScript })
  let s2 := if s.perSecond x.abandonAt then
      (s1.updPort p (fun y => { y with abandonAt := some s.now, abandoned := 0 })).event 0x3005 (iqCell p)
        ([byte p, byte cause, 0, 0] ++ leBytes 4 (x.abandoned + 1))
    else s1.updPort p (fun y => { y with abandoned := y.abandoned + 1 })
  (s2.notSent p j).trigger 3 p 3 0

/-- R386: the bucket of an instant, and the limits (window in ms, per channel in ms, single in ms) of a schedule. -/
def dwellOf (sched : Bytes) : Option (Nat × Nat × Nat) :=
  match fieldLE sched 21 1 with
  | 1 => some (20000, 400, 400)
  | 2 => some (3600000, 36000, 1000)
  | 3 => some (fieldLE sched 28 2 * 1000, fieldLE sched 24 4, fieldLE sched 22 2)
  | _ => none

/-- R386: the number of the bucket that a counter value lies in. -/
def dwellBucket (window now : Nat) : Nat := now * 64 / (max 1 window * 500000)

/-- R386: the air time of a transmission is added to the bucket in which it starts; buckets out of use go. -/
def State.dwellAdd (s : State) (p c ns : Nat) : State :=
  match dwellOf (s.mac p).sched with
  | none => s
  | some (w, _) =>
    let b := dwellBucket w s.now
    s.updMac p (fun m => { m with dwell := m.dwell.filter (fun d => decide (b ≤ d.bucket + 64)) ++ [⟨c, b, ns⟩] })

/-! ### The PPDU and its samples (R339, R352, R353, R356) -/

/-- R353: preamble and SFD, in the order sent (log entry 15). -/
def shrBits (octets : Nat) (coded : Bool) : List Bool :=
  (List.range (8 * octets)).map (fun i => i % 2 == 1) ++ (List.range 16).map (fun i => bit (if coded then 0x6F4E else 0x904E) (15 - i))

/-- R353: the PHR in the order sent: MS, two reserved bits, FCS type, DW, the length from its highest bit (log entry 15). -/
def phrBits (phr : Nat) : List Bool :=
  (List.range 5).map (bit phr) ++ (List.range 11).map (fun i => bit phr (15 - i))

/-- The PHR that 16 received bits make. -/
def phrOfBits (b : List Bool) : Nat := ofBits ((List.range 5).map (fun i => b.getD i false) ++ (List.range 11).map (fun i => b.getD (15 - i) false))

/-- The bits of some octets, bit 0 first, and the octets of some bits. -/
def octetBits (b : Bytes) : List Bool := b.flatMap (fun x => (List.range 8).map (fun i => x.getLsbD i))
def bitOctets (n : Nat) (b : List Bool) : Bytes := (List.range n).map (fun k => byte (ofBits ((b.drop (8 * k)).take 8)))

/-- R353: `n` bits of PN9, newest first, after those before them, newest first (log entry 15). -/
def pn9 : Nat → List Bool → List Bool
  | 0, l => l
  | n + 1, l => pn9 n (xor (l.getD 8 false) (l.getD 3 false) :: l)

/-- R353: bits whitened, or the whitening taken away. -/
def whitened (b : List Bool) : List Bool :=
  List.zipWith xor b (((pn9 b.length (List.replicate 9 true)).take b.length).reverse)

/-- R353: the recursive systematic code, each bit followed by its check bit, from the state of its three cells (log entry 15). -/
def rscBits : List Bool → Bool → Bool → Bool → List Bool
  | [], _, _, _ => []
  | b :: r, x, y, z =>
    let w := xor (xor b x) (xor y z)
    b :: xor (xor w y) z :: rscBits r w x y

/-- The cells of the code after some bits. -/
def rscCells : List Bool → Bool → Bool → Bool → Bool × Bool × Bool
  | [], x, y, z => (x, y, z)
  | b :: r, x, y, z => rscCells r (xor (xor b x) (xor y z)) x y

/-- The three tail bits that lead the cells back to 0. -/
def rscTail (c : Bool × Bool × Bool) : List Bool :=
  let t := fun (c : Bool × Bool × Bool) => xor c.1 (xor c.2.1 c.2.2)
  let c1 := (false, c.1, c.2.1)
  let c2 := (false, false, c.1)
  [t c, t c1, t c2]

/-- R353: bits of PHR and PSDU with tail and padding to whole interleaver blocks. -/
def rscPadded (b : List Bool) : List Bool :=
  b ++ rscTail (rscCells b false false false) ++
    (if b.length % 16 = 8 then [false, true, false, true, true]
     else [false, true, false, true, true, false, false, false, false, true, false, true, true])

/-- R353: the interleaver over blocks of 16 pairs, which is its own inverse. -/
def interleave : Nat → List Bool → List Bool
  | 0, _ => []
  | n + 1, l => (List.range 32).map (fun i => l.getD (2 * (15 - 4 * (i / 2 % 4) - i / 8) + i % 2) false) ++ interleave n (l.drop 32)

/-- R353, R356: the bits after the SFD. -/
def airOf (phr : Nat) (psdu : Bytes) (coded : Bool) : List Bool :=
  let info := phrBits phr ++ octetBits psdu
  let l := if coded then (let c := rscBits (rscPadded info) false false false; interleave (c.length / 32) c) else info
  let n := if coded then 32 else 16
  if bit phr 4 then l.take n ++ whitened (l.drop n) else l

/-- R353: the bits that received code bits stand for; those of no code word are left open. -/
def rscDecode (l : List Bool) : List Bool :=
  let info := (List.range (l.length / 2)).map (fun i => l.getD (2 * i) false)
  if rscBits info false false false = l then info else Config.rscCorrect l

/-- R353: PHR and PSDU of the bits that a demodulator reads after an SFD. -/
def airRead (coded : Bool) (l : List Bool) : Nat × Bytes :=
  let n := if coded then 32 else 16
  let open' := fun (x : List Bool) => if coded then rscDecode (interleave (x.length / 32) x) else x
  let phr := phrOfBits (open' (l.take n))
  let rest := if bit phr 4 then whitened (l.drop n) else l.drop n
  (phr, bitOctets (min (phr / 32) ((open' (l.take n ++ rest)).length / 8 - 2)) ((open' (l.take n ++ rest)).drop 16))

/-- R352: deviations in Hz: of a bit on the outer frequencies, and of two bits in 200 kb/s mode (log entry 15). -/
def outerDev (mode : Nat) (b : Bool) : Int := (if b then 1 else -1) * (if mode = 2 then 49500 else 25000)

/-- R352, R353: the deviations of the bits after the SFD. -/
def airDevs (mode : Nat) : List Bool → List Int
  | [] => []
  | a :: r =>
    if mode ≠ 2 then outerDev mode a :: airDevs mode r
    else match r with
      | [] => [outerDev mode a]
      | b :: q => (if b then outerDev mode a else outerDev mode a / 3) :: airDevs mode q

/-- R352, R353, R356: the deviations of all symbols of a PPDU. -/
def ppduDevs (mode octets phr : Nat) (psdu : Bytes) (coded : Bool) : List Int :=
  (shrBits octets coded).map (outerDev mode) ++ airDevs mode (airOf phr psdu coded)

/-- R352: samples of a symbol at 12.8 MS/s. -/
def spsOf (mode : Nat) : Nat := if mode = 0 then 256 else 128

/-- The number of the sample of 12.8 MS/s that begins at a counter value or after it. -/
def sampleAt (c : Nat) : Nat := (c * 16 + 624) / 625

/-- R356: the frequency of a transmission at its sample `i`, in Hz: the channel's offset and the symbols' deviation, shaped as TxShaping says. -/
def Air.freq (a : Air) (i : Nat) : Int :=
  a.offset + (if a.shaping = 0 then a.symbols.getD (i / a.sps) 0
    else (a.symbols.zipIdx).foldl (fun n q => n + Config.txPulse a.shaping a.sps ((i : Int) - a.sps * q.2) * q.1) 0 / 65536)

/-- The samples of a transmission. -/
def Air.length (a : Air) : Nat := a.sps * a.symbols.length

/-- R339, R356: sample `i` of a transmission, of constant amplitude, TxScale half-decibels below full scale, its phase from 0 on the sum of the
frequencies. -/
def Air.sample (a : Air) (i : Nat) : Int × Int :=
  let turns := ((List.range i).map a.freq).foldl (· + ·) 0 % 12800000
  let w := cosSin turns.toNat 12800000
  let amp : Int := (2047 * isqrt (powerAt a.scale * 2 ^ 64) / 2 ^ 16 : Nat)
  ((shiftSat (amp * w.1) 96).1, (shiftSat (amp * w.2) 96).1)

/-- R339: the transmit pins of a port: TXCLK, TXI, TXQ, TXFR. -/
structure TxPins where
  clk : Bool
  i : Bool
  q : Bool
  fr : Bool
deriving DecidableEq, Repr, Inhabited

/-- R339: the sample of 12.8 MS/s that the pins carry: that of the transmission on the air, else 0. -/
def State.txSample (s : State) (p n : Nat) : Int × Int :=
  match (s.port p).air with
  | some a => if a.first ≤ n ∧ n < a.first + a.length then a.sample (n - a.first) else (0, 0)
  | none => (0, 0)

/-- R336, R337, R339: the pins now: 12 bit slots of 153.6 Mb/s for a sample, TXFR in the first, I and Q from bit 11 down; all 0 while the port is
disabled. Bit slot 0 begins at counter value 0 (log entry 81). -/
def State.txPins (s : State) (p : Nat) : TxPins :=
  if bit (s.cfgB (radioBlk p) 0x3000 1) p then
    let k := s.now * 192 / 625
    let v := s.txSample p (k / 12)
    ⟨k % 2 == 0, bit (twos 2 v.1) (11 - k % 12), bit (twos 2 v.2) (11 - k % 12), k % 12 == 0⟩
  else ⟨false, false, false, false⟩

/-- R356: what goes on the air for a job of a port. -/
def State.airFor (s : State) (p : Nat) (j : TxJob) : Air :=
  let a := s.sentAs p j.frame.length (j.origin == 1)
  let fcs := s.portN p 10
  { first := sampleAt (j.startAt - cNs (s.portN p 7)), sps := spsOf j.mode, shaping := s.portN p 13, scale := s.portN p 9
    offset := ((s.channelEntry p j.channel).1 : Int) - s.portN p 1
    symbols := ppduDevs j.mode (s.preambleOctets p) (phrOf fcs (s.portN p 12 == 1) a.1) (j.frame ++ fcsOf fcs j.frame) a.2 }

/-- TRANSMISSION_START (R356, R357 step 3): the first sample leaves, or the transmission is abandoned. -/
def transmissionStart (p : Nat) (s : State) : State :=
  match (s.port p).tx.find? (fun j => j.phase == .onDone || j.phase == .onRaised || j.phase == .onFailed) with
  | none => s
  | some j =>
    if s.now + cNs (s.portN p 7) < j.startAt then s
    else if !s.portOn p ∨ !s.inService (txCell p) then s.txAbandon p 3 j
    else match j.phase with
      | .onDone =>
        let a := s.sentAs p j.frame.length (j.origin == 1)
        let fcs := s.portN p 10
        let s1 := (s.radioCount p 9 1).updPort p (fun x => { x with air := some (s.airFor p j), tx := x.tx.map (fun k => if k == j then { k with phase := .sending } else k) })
        let s2 := s1.dwellAdd p j.channel (s.airNs p j.mode a.1 a.2)
        let s3 := match j.origin with
          | 0 => s2.macCount p 1 | 2 => s2.macCount p 3 | 3 => s2.macCount p 4 | _ => s2
        s3.put (.radio p j.startAt j.channel j.mode a.2 (phrOf fcs (s.portN p 12 == 1) a.1) (j.frame ++ fcsOf fcs j.frame) (s.airFor p j))
      | .onFailed => s.txAbandon p 2 j
      | _ => s.txAbandon p 1 j

def execTransmissionStart (p : Fin 2) (s : State) : Res := s.whenRadio (transmissionStart p)

/-- The counter value at which the last sample of a transmission has left the pins. -/
def State.airEnds (s : State) (p : Nat) : Nat :=
  match (s.port p).air with | some a => ((a.first + a.length) * 625 + 15) / 16 | none => 0

/-- TRANSMISSION_END (R357 steps 4 and 5): after the last sample, TX_OFF is raised; RX_ON follows at its end. -/
def transmissionEnd (p : Nat) (s : State) : State :=
  match (s.port p).tx.find? (fun j => j.phase == .sending) with
  | none => s
  | some j =>
    if s.airEnds p ≤ s.now then (s.updPort p (fun x => { x with tx := x.tx.erase j, air := none })).trigger 3 p 3 0 else s

def execTransmissionEnd (p : Fin 2) (s : State) : Res := s.whenLive (transmissionEnd p)

end Sys2Proof.Machine
end

