-- ==== Sys2Proof/Machine/RadioMac.lean ====
section
/-!
DEFINITION. The radio MACs (chapter 11) and the reception of the ports (R350 to R360): slots, schedules, hopping, dwell,
drift, floods.
-/
namespace Sys2Proof.Machine

/-! ### Slots and schedules -/

/-- One slot in ns. -/
def slotNs : Int := 25000000

/-- R364: the ASN of a TD2 time. -/
def asnOf (td2 : Int) : Nat := (nsOf td2 / slotNs % 2 ^ 40).toNat

/-- The start of the slot that a TD2 time lies in, in ns of TD2. -/
def slotStart (td2 : Int) : Int := nsOf td2 / slotNs * slotNs

/-- Whether a slot boundary lies at this count: the TD2 time of the count before lies in another slot (log entry 81). -/
def State.slotBoundaryNow (s : State) : Bool := asnOf (s.td 2) != asnOf (s.td 2 - 131072)

/-- The counter value at which a TD2 time in ns comes. -/
def State.counterOfTd2 (s : State) (ns : Int) : Nat := (s.now + (ns * 65536 - s.td 2) / 131072).toNat

/-- R371: fields of a schedule. -/
def schF (b : Bytes) : Nat := max 1 (fieldLE b 0 2)
def schCells (b : Bytes) : Nat := fieldLE b 2 2
def schGuardUs (b : Bytes) : Nat := fieldLE b 14 2
def schSpread (b : Bytes) : Nat := fieldLE b 16 1
def schMeterTtl (b : Bytes) : Nat := fieldLE b 17 1
def schLife (b : Bytes) : Nat := fieldLE b 18 1

/-- R372, R374: the cells of a schedule, and after each BEACON cell its access cell (kind 5). -/
def cellsOfSchedule (b : Bytes) : List CellDef :=
  let base := (List.range (schCells b)).map (fun i =>
    let o := 32 + 8 * i
    CellDef.mk (fieldLE b o 2) (fieldLE b (o + 2) 1) (fieldLE b (o + 3) 1) (fieldLE b (o + 4) 1) (fieldLE b (o + 5) 1) (fieldLE b (o + 6) 1))
  base ++ (base.filter (fun c => c.kind == 0)).map (fun c => { c with slot := (c.slot + 1) % schF b, kind := 5 })

/-- The cells of a slot. -/
def cellsAt (b : Bytes) (asn : Nat) : List CellDef := (cellsOfSchedule b).filter (fun c => c.slot == asn % schF b)

/-- R376: the modes that a hop channel must be valid for: those used, with 100 kb/s where 50 kb/s is used. -/
def schModes (b : Bytes) : List Nat :=
  let ms := ((cellsOfSchedule b).map (·.mode)).eraseDups
  if ms.contains 0 && !ms.contains 1 then ms ++ [1] else ms

/-- R377: 16 steps of the LFSR. -/
def lfsr16 : Nat → BitVec 16 → BitVec 16
  | 0, v => v
  | n + 1, v => lfsr16 n ((v >>> 1) ^^^ (if v.getLsbD 0 then 0xB400#16 else 0#16))

/-- Two elements of a list exchanged. -/
def swapAt (l : List Nat) (i j : Nat) : List Nat := (l.set i (at' l j)).set j (at' l i)

/-- R377: the shuffle from element `i` down to 1. -/
def shuffle : Nat → BitVec 16 → List Nat → List Nat
  | 0, _, l => l
  | i + 1, v, l =>
    let v' := lfsr16 16 v
    shuffle i v' (swapAt l (i + 1) (v'.toNat % (i + 2)))

/-- R377: a generated sequence from a seed and the eligible channels. -/
def hopGenerate (seed : Nat) (e : List Nat) : List Nat := shuffle (e.length - 1) (BitVec.ofNat 16 seed) e

/-- R376, R377: the hop sequence of a schedule on a port. -/
def State.hopSeq (s : State) (p : Nat) (b : Bytes) : List Nat :=
  if fieldLE b 13 1 = 1 then (slice b (32 + 8 * schCells b) (fieldLE b 4 2)).map (·.toNat)
  else hopGenerate (fieldLE b 6 2) ((List.range 256).filter (fun c => (schModes b).all (fun m => s.channelMode p c m)))

/-- R378: the channel of a cell in a slot. -/
def hopChannel (seq : List Nat) (asn choff : Nat) : Nat := seq.getD ((asn + choff) % max 1 seq.length) 0

/-- R379: the schedule hash. -/
def schHash (b : Bytes) : Nat := crc32 b

/-! ### Meters (R381 to R384) -/

/-- What the MAC of a port keeps of a meter. -/
def State.child (s : State) (p meter : Nat) : Option Child := (s.mac p).children.find? (fun c => c.meter == meter)

/-- The same, put in its place. -/
def State.putChild (s : State) (p : Nat) (c : Child) : State :=
  s.updMac p (fun m => { m with children := m.children.filter (fun x => x.meter != c.meter) ++ [c] })

/-- R365, R381: DriftPpm in 0.1 ppm, with 100 ppm more while TD2 slews. -/
def State.driftPpm (s : State) (p : Nat) : Nat :=
  s.cfgB (radioBlk p) 0x3102 1 + if (at' s.time.pairs 1).enabled && (at' s.time.pairs 1).slewing then 1000 else 0

/-- R381: U at a TD2 time, in units of 10^-7 ns. -/
def State.drift (s : State) (p : Nat) (c : Child) (td2 : Int) : Nat := (2 * (s.driftPpm p : Int) * nsOf (td2 - c.sync)).toNat

/-- R381: U in µs at a TD2 time. -/
def State.uncertainty (s : State) (p : Nat) (c : Child) (td2 : Int) : Nat := s.drift p c td2 / 10000000000

/-- R382: whether the MAC of a port holds unicast downlink to a meter. -/
def State.held (s : State) (p meter : Nat) : Bool := (s.mac p).holds meter

/-- R383: frames that wait for a meter. -/
def waitingFor (l : List MacFrame) (meter : Nat) : Nat := (l.filter (fun f => f.meter == meter && f.kind == 0)).length

/-- R118, R383: whether a MAC has downlink for a meter, sent to it directly or by flood. -/
def RadioMac.hasFor (m : RadioMac) (meter : Nat) : Bool := m.ready.any (fun f => f.meter == meter && decide (f.kind ≤ 1))

/-- R403: a meter's outstanding commands begin or cease to be held; the time in between does not count. -/
def State.holdCommands (s : State) (meter : Nat) (hold : Bool) : State :=
  let f := fun (c : MCmd) =>
    if hold && c.state == 2 then { c with state := 3, heldAt := some s.now }
    else if !hold && c.state == 3 then { c with state := 2, heldFor := c.heldFor + (s.now - c.heldAt.getD s.now), heldAt := none }
    else c
  { s with dist := { s.dist with queues := s.dist.queues.map (fun q => if q.1 = meter then (q.1, q.2.map f) else q) } }

/-- R382: a direct meter's state re-evaluated; RESYNC lasts until its next frame (log entry 81). -/
def State.reviewChild (s : State) (p : Nat) (td2 : Int) (c : Child) : State :=
  if c.state = 0 ∨ 4 ≤ c.state then s
  else
    let u := s.drift p c td2
    let g := schGuardUs (s.mac p).sched * 10000000000
    let new := if c.state = 3 then 3 else if u ≤ g then 1 else if u ≤ 250000000000000 then 2 else 3
    if new = c.state then s
    else if new = 1 then (s.putChild p { c with state := 1 }).holdCommands c.meter false
    else
      let n := waitingFor (s.mac p).ready c.meter
      let more := if c.state = 1 then n else 0
      let s1 := ((s.putChild p { c with state := new }).updMac p (fun m => { m with counters := upd m.counters 11 (· + more) })).holdCommands
        c.meter true
      if new = 2 then s1.emit 0x3112 (radioMacCell p) c.meter ([byte p, 0, 0, 0] ++ leBytes 4 (s.uncertainty p c td2))
      else s1.emit 0x3113 (radioMacCell p) c.meter ([byte p, 0, 0, 0] ++ leBytes 4 (nsOf (td2 - c.sync) / 1000000000).toNat)

/-- R365: a direct meter after a step of TD2. -/
def State.resyncChild (s : State) (p : Nat) (td2 : Int) (c : Child) : State :=
  if c.state = 1 ∨ c.state = 2 then
    let more := if c.state = 1 then waitingFor (s.mac p).ready c.meter else 0
    (((s.putChild p { c with state := 3 }).updMac p (fun m => { m with counters := upd m.counters 11 (· + more) })).holdCommands c.meter true).emit 0x3113 (radioMacCell p) c.meter
      ([byte p, 0, 0, 0] ++ leBytes 4 (nsOf (td2 - c.sync) / 1000000000).toNat)
  else s

/-- R381, R383: a sync of a meter: IN_SYNC, and its held downlink is released. `delta` is δ in ns. -/
def State.syncChild (s : State) (p meter : Nat) (td2 delta : Int) (lseq : Nat) : State :=
  let old := s.child p meter
  let c : Child := { meter := meter, port := p, state := 1, sync := td2, hops := 0, ttl := 0, lseq := lseq }
  let s1 := (s.putChild p c).holdCommands meter false
  match old with
  | some o =>
    if o.state = 2 ∨ o.state = 3 then
      s1.emit 0x3114 (radioMacCell p) meter ([byte p, 0] ++ leBytes 2 (waitingFor (s.mac p).ready meter) ++ leInt 4 delta)
    else s1
  | none => s1

/-- R384, R390: a meter whose frame arrived with FP: no sync state; the highest TTL among the copies of its last frame. -/
def State.floodChild (s : State) (p meter ttl lseq : Nat) : State :=
  let old := s.child p meter
  let t := match old with
    | some o => if o.state = 4 ∧ o.lseq = lseq then max o.ttl ttl else ttl
    | none => ttl
  let hops := schMeterTtl (s.mac p).sched - t
  s.putChild p { meter := meter, port := p, state := 4, sync := (old.map (·.sync)).getD 0, hops := hops, ttl := t, lseq := lseq }

/-- R390: the TTL of a flood to a meter. -/
def State.floodTtlFor (s : State) (p meter : Nat) : Nat := min 15 (((s.child p meter).map (·.hops)).getD 0 + 1)

/-! ### The seen cache (R389) -/

/-- R389: an entry is made; when the cache is full the entry nearest to expiry is replaced and counted. -/
def State.markSeen (s : State) (p origin fseq : Nat) : State :=
  let until' := s.now + cSec (schLife (s.mac p).sched)
  let live := s.radio.seen.filter (fun e => decide (s.now < e.until'))
  if live.any (fun e => e.origin == origin && e.fseq == fseq) then s
  else if live.length < 8192 then
    { s with radio := { s.radio with seen := live ++ [⟨origin, fseq, until'⟩] } }
  else
    match live with
    | [] => s
    | e :: es =>
      let w := es.foldl (fun (b x : Seen) => if x.until' < b.until' then x else b) e
      ({ s with radio := { s.radio with seen := live.erase w ++ [Seen.mk origin fseq until'] } }).macCount p 11

/-- R389: whether an entry is in the cache. -/
def State.isSeen (s : State) (origin fseq : Nat) : Bool :=
  s.radio.seen.any (fun e => e.origin == origin && e.fseq == fseq && decide (s.now < e.until'))

/-- SEEN_ENTRY_EXPIRE (R389). -/
def seenEntryExpire (s : State) : State :=
  { s with radio := { s.radio with seen := s.radio.seen.filter (fun e => decide (s.now < e.until')) } }

def execSeenEntryExpire (s : State) : Res := s.whenLive seenEntryExpire

/-! ### Dwell (R385 to R387) -/

/-- R386: whether a transmission of `ns` on a channel passes. -/
def State.dwellOk (s : State) (p c ns : Nat) : Bool :=
  match dwellOf (s.mac p).sched with
  | none => true
  | some (w, limit, single) =>
    let b := dwellBucket w s.now
    let used := ((s.mac p).dwell.filter (fun d => d.channel == c && decide (b ≤ d.bucket + 64))).foldl (fun n d => n + d.air) 0
    decide (ns ≤ single * 1000000 ∧ used + ns ≤ limit * 1000000)

/-- R387: a deferral is counted, and 0x3111 raised at most once per second. -/
def State.dwellDefer (s : State) (p c : Nat) : State :=
  let m := s.mac p
  let s1 := s.macCount p 6
  if s.perSecond m.dwellAt then
    (s1.updMac p (fun x => { x with dwellAt := some s.now, deferrals := 0 })).event 0x3111 (radioMacCell p)
      ([byte p, byte c, 0, 0] ++ leBytes 4 (m.deferrals + 1))
  else s1.updMac p (fun x => { x with deferrals := x.deferrals + 1 })

/-! ### Slot boundaries (R350, R365, R367) -/

/-- The listening cells of a slot: SHARED, GROUP, FLOOD and access cells. -/
def listenCells (b : Bytes) (asn : Nat) : List CellDef :=
  (cellsAt b asn).filter (fun c => c.kind == 1 || c.kind == 2 || c.kind == 4 || c.kind == 5)

/-- R350: the entry that demodulator `d` takes, if its demodulator is free for it. -/
def Demod.take (d : Demod) (searching : Bool) (entry : Option (Nat × CellDef)) : Demod :=
  if d.state = 2 then { d with moved := true, next := entry }
  else match entry with
    | some (c, k) => { d with channel := c, mode := k.mode, cell := k, assigned := true, moved := false, next := none
                              powers := if d.assigned && d.channel == c && d.mode == k.mode then d.powers else []
                              pairs := if d.assigned && d.channel == c && d.mode == k.mode then d.pairs else []
                              state := if d.state = 3 then 3 else if searching then 1 else 0 }
    | none => { d with state := 0, assigned := false, moved := false, next := none, powers := [], pairs := [] }

/-- R350: the listen list of a slot given to the demodulators in service; entries that cannot be used are skipped and
counted. -/
def State.assignDemods (s : State) (p : Nat) (entries : List (Nat × CellDef)) : State :=
  let serving := (List.range 16).filter (fun d => s.inService (demodCell p d))
  let ok := entries.mapIdx (fun i e =>
    s.channelMode p e.1 e.2.mode && !((entries.take i).any (fun x => x.1 == e.1 && x.2.mode == e.2.mode)) && decide (i < serving.length))
  let skipped := (ok.filter (fun b => !b)).length
  let searching := decide ((s.port p).iqCause = 0) && s.inService (iqCell p)
  let entryOf := fun d =>
    let i := serving.idxOf d
    if serving.contains d && ok.getD i false then entries[i]? else none
  (s.radioCount p 8 skipped).updPort p (fun x => { x with demods := x.demods.mapIdx (fun i d => d.take searching (entryOf i)) })

/-- SLOT_BOUNDARY (R350, R364, R365, R367, R382): at a slot's boundary, once, listen lists change and drift states are re-evaluated. -/
def slotBoundary (p : Nat) (s : State) : State :=
  if !s.portOn p ∨ !s.slotBoundaryNow ∨ (s.mac p).lastAsn = asnOf (s.td 2) then s
  else
    let td2 := s.td 2
    let asn := asnOf td2
    let stepped := at' s.radio.stepped p
    let s1 := if stepped then
        let old := (s.mac p).lastAsn
        let a := { s with radio := { s.radio with stepped := s.radio.stepped.set p false } }
        let b := (List.range 2).foldl (fun st q => (st.mac q).children.foldl (fun st' c => st'.resyncChild q td2 c) st) a
        b.event 0x3117 (radioMacCell p) (byte p :: leBytes 5 old ++ leBytes 5 asn)
      else s
    let s2 := (s1.mac p).children.foldl (fun st c => st.reviewChild p td2 c) s1
    let s3 := s2.macFetch (3 + p)
    let sched := (s.mac p).sched
    let seq := s.hopSeq p sched
    let flood := (cellsAt sched asn).any (fun c => c.kind == 4)
    let s4 := s3.updMac p (fun m => { m with
      lastAsn := asn, slotFrames := []
      wait := if flood then m.wait - 1 else m.wait
      ready := m.ready.map (fun f => if f.kind = 3 ∧ flood then { f with backoff := f.backoff - 1 }
                                     else if f.kind = 2 ∧ f.cw = 0 then { f with cw := asn / schF sched + 1 } else f) })
    s4.assignDemods p ((listenCells sched asn).map (fun c => (hopChannel seq asn c.choff, c)))

def execSlotBoundary (p : Fin 2) (s : State) : Res := s.whenLive (slotBoundary p)

/-- SCHEDULE_ACTIVATED (R375): the schedule on its way takes effect at a slot's boundary, before its listen list changes: that of ACTIVE_ASN or a
later one. -/
def scheduleActivated (p : Nat) (s : State) : State :=
  match (s.mac p).pending with
  | none => s
  | some b =>
    let asn := asnOf (s.td 2)
    if s.slotBoundaryNow ∧ (s.mac p).lastAsn ≠ asn ∧ (fieldLE b 8 5 = 0 ∨ fieldLE b 8 5 ≤ asn) then
      (s.updMac p (fun m => { m with sched := b, pending := none })).event 0x3110 (radioMacCell p)
        (byte p :: leBytes 5 asn ++ [0, 0] ++ leBytes 4 (schHash b))
    else s

def execScheduleActivated (p : Fin 2) (s : State) : Res := s.whenLive (scheduleActivated p)

/-! ### Reception (R354, R358 to R360, R366, R367, R381 to R393) -/

/-- R358: the delay subtracted at SFD detection, in ns, before RxFrontEndDelay. -/
def sfdDelay (mode : Nat) : Nat := if mode = 0 then 44961 else if mode = 1 then 29961 else 36211

/-- SFD_FOUND (R354, R358, R366): the stamp is taken, and the powers of the SFD stand for the RSSI. -/
def sfdFound (p d : Nat) (coded : Bool) (s : State) : State :=
  let x := s.port p
  let dm := at' x.demods d
  if s.portOn p && decide (x.iqCause = 0 ∧ x.iqSince ≤ s.now) && s.inService (iqCell p) && s.inService (demodCell p d) && decide (dm.state = 1) then
    let td2 := s.td 2
    let dm' : Demod := { dm with
      state := 2, stamp := s.now - cNs (sfdDelay dm.mode + s.portN p 6), gainDb := s.gainDb p x.gainEntry, coded := coded
      slot := asnOf td2, slotAt := slotStart td2, gains := at' x.counters 12, moved := false, next := none
      due := phrPowers dm.mode coded - latePowers dm.mode }
    (s.radioCount p 1 1).updPort p (fun y => { y with demods := y.demods.set d dm' })
  else s

def execSfdFound (p : Fin 2) (d : Fin 16) (coded : Bool) (_u : Unit) (s : State) : Res := s.whenRadio (sfdFound p d coded)

/-- R354, R359: the RSSI of a frame: its channel's mean power over SFD and PHR, without the gain then in force, with RxLevelOffset. -/
def State.rssi (s : State) (p : Nat) (d : Demod) : Int :=
  clampInt (dbfs (meanPower d.powers) - 4 * d.gainDb + s.portI p 18) (-32768) 32767

/-- The demodulator is done with its frame and takes the entry that waits for it. -/
def State.demodDone (s : State) (p d : Nat) : State :=
  s.updPort p (fun x => { x with demods := upd x.demods d (fun m =>
    if m.moved then { m with state := 0 }.take true m.next else { m with state := 1, powers := [], due := 0 }) })

/-- R367, R382: whether a frame start, in ns after its slot's boundary, lies in the window of its cell. -/
def State.inWindow (s : State) (p : Nat) (cell : CellDef) (off : Int) (td2 : Int) : Bool :=
  let m := s.mac p
  let g : Int := (schGuardUs m.sched : Int) * 1000
  let normal := decide (2000000 - g ≤ off ∧ off ≤ 2000000 + g)
  let wide := fun (c : Child) =>
    let u : Int := (s.drift p c td2 : Int)
    decide (0 ≤ off ∧ (2000000 - off) * 10000000 ≤ u ∧ off ≤ 7000000 ∧ (off - 2000000) * 10000000 ≤ u)
  let mayUse := fun (c : Child) => c.state == 2 && (cell.kind == 1 ||
    (cell.kind == 2 && (match s.meter c.meter with
      | some r => decide (r.short % max 1 cell.gmod = cell.gres)
      | none => false)))
  normal || m.children.any (fun c => mayUse c && wide c)

/-- R391: a flood frame not yet seen is relayed once on the other port, its TTL one less, in the k-th FLOOD cell with k a free
value below RELAY_SPREAD. -/
def State.crossRelay (s : State) (p : Nat) (f : Bytes) : State :=
  let q := 1 - p
  if s.cfgB (radioBlk p) 0x3102 4 = 1 ∧ s.portOn q ∧ 0 < fTtl f ∧ !s.isSeen (fOrigin f) (fFseq f) then
    let k := s.freeNat
    let g := f.modify (fFloodOff f + 4) (fun b => byte (b.toNat - 1))
    let fr : MacFrame := { frame := g, meter := noMeter, dest := fDest f, prio := 0, ident := 0, kind := 3
                           backoff := k.2 % max 1 (schSpread (s.mac q).sched) + 1, cw := 0, tries := 0 }
    (k.1.updMac q (fun m => { m with ready := m.ready ++ [fr] })).macCount q 5
  else s

/-- R354: an overrun is counted, and 0x3004 raised at most once per second. -/
def State.radioOverrun (s : State) (p : Nat) : State :=
  let x := s.port p
  let s1 := s.radioCount p 6 1
  if s.perSecond x.overrunAt then
    (s1.updPort p (fun y => { y with overrunAt := some s.now, overruns := 0 })).event 0x3004 (iqCell p)
      ([byte p, 0, 0, 0] ++ leBytes 4 (x.overruns + 1))
  else s1.updPort p (fun y => { y with overruns := y.overruns + 1 })

/-- R441: the metadata cell of a radio frame. -/
def State.radioMeta (s : State) (p d : Nat) (dm : Demod) (flen psdu deadline : Nat) (fcs4 : Bool) : Bytes :=
  let arrival := s.tdAt 0 dm.stamp
  let fl := b2n dm.coded + 2 * b2n fcs4 + 4 * b2n (at' (s.port p).counters 12 != dm.gains)
  time80 arrival ++ [byte (3 + p), byte flen] ++ leInt 2 (s.rssi p dm) ++ leBytes 8 deadline ++ leBytes 4 (s.shrNs p dm.mode) ++
    leBytes 4 (airBits psdu dm.coded * bitNs dm.mode) ++ leInt 8 (nsOf (s.tdAt 2 dm.stamp) - nsOf arrival) ++
    padTo 24 ([byte dm.channel, byte dm.mode, byte d, byte fl] ++ leBytes 2 psdu)

/-- What the MAC does with a good uplink frame in its window: sync, flood state, seen cache, relay, and the ACK's claim. -/
def State.macHears (s : State) (p : Nat) (dm : Demod) (f : Bytes) (off : Int) (deadline : Nat) : State :=
  let meter := s.indexOfShort (fSrc f)
  if fFp f then
    let s1 := match meter with | some i => s.floodChild p i (fTtl f) (fLseq f) | none => s
    (s1.crossRelay p f).markSeen p (fOrigin f) (fFseq f)
  else
    let s1 := match meter with | some i => s.syncChild p i (s.tdAt 2 dm.stamp) (off - 2000000) (fLseq f) | none => s
    s1.updMac p (fun m => { m with slotFrames := m.slotFrames ++
      [⟨fSrc f, fLseq f, dm.channel, dm.mode, off, dm.stamp, deadline⟩] })

/-- RADIO_FRAME_END (R353, R354, R359, R366, R393, R710): the PPDU of demodulator `d` ends; `air` are the bits that it has read after the SFD. -/
def radioFrameEnd (p d : Nat) (air : List Bool) (s : State) : State :=
  let dm := at' (s.port p).demods d
  if dm.state ≠ 2 then s
  else
    let s0 := s.demodDone p d
    let phr := (airRead dm.coded air).1
    let psdu := (airRead dm.coded air).2
    let len := phr / 32
    let n := if bit phr 3 then 2 else 4
    if bit phr 0 then s0.radioCount p 2 1
    else if bit phr 1 ∨ bit phr 2 ∨ len < 3 ∨ 259 < len ∨ len < n + 1 then s0.radioCount p 3 1
    else
      let f := psdu.take (len - n)
      if psdu.length ≠ len ∨ psdu.drop (len - n) ≠ fcsOf n f then s0.radioCount p 4 1
      else
        let td2 := s.tdAt 2 dm.stamp
        let off := nsOf td2 - s.shrNs p dm.mode - dm.slotAt
        if s.power.phase = .lastGasp ∧ fType f ≠ 2 then s0.radioCount p 6 1
        else if !isUplink (fType f) ∧ 8 ≤ fType f ∧ fType f ≤ 0xD then (s0.radioCount p 5 1).macCount p 10
        else if !s.inWindow p dm.cell off td2 then (s0.radioCount p 5 1).macCount p 9
        else
          let dl := s.counterOfTd2 (dm.slotAt + 21000000) - cUs (s.cfgN 0x4004 2)
          let s1 := s0.macHears p dm f off dl
          let r := s1.pushOrDrop (3 + p) (demodCell p d) (s.radioMeta p d dm f.length len dl (n == 4) ++ f)
          if r.2 then r.1.radioCount p 5 1 else r.1.radioOverrun p

def execRadioFrameEnd (p : Fin 2) (d : Fin 16) (air : List Bool) (_u : Unit) (s : State) : Res := s.whenRadio (radioFrameEnd p d air)

/-! ### Sending (R368 to R370, R379, R383, R387, R390) -/

/-- A transmission is asked of the port. -/
def State.askTx (s : State) (p : Nat) (j : TxJob) : State := s.updPort p (fun x => { x with tx := x.tx ++ [j] })

/-- Whether the transmitter of a port has something to do in this slot. -/
def State.txBusy (s : State) (p : Nat) : Bool := (s.port p).tx != []

/-- R370: whether a frame fits the mode of a cell. -/
def State.fitsCell (s : State) (p mode len : Nat) : Bool := decide (s.sendNs p mode len false ≤ 18000000)

/-- R355, R367: whether the frames of a slot may still be asked of the port: their start, at 2 ms, is to come. -/
def State.slotAhead (s : State) : Bool := decide (s.now < s.counterOfTd2 (slotStart (s.td 2) + 2000000))

/-- BEACON_SEND (R379): in a BEACON cell the beacon goes out at 2 ms. While the previous network key is still in use,
beacons go under the two keys in turn (log entry 18). -/
def beaconSend (p : Nat) (s : State) : State :=
  let m := s.mac p
  let td2 := s.td 2
  let asn := asnOf td2
  match (cellsAt m.sched asn).find? (fun c => c.kind == 0) with
  | none => s
  | some c =>
    if !s.portOn p ∨ m.beaconAsn = asn ∨ !s.slotAhead then s
    else
      let ch := hopChannel (s.hopSeq p m.sched) asn c.choff
      let ttl := s.cfgB (radioBlk p) 0x3102 3
      let start := slotStart td2 + 2000000
      let body := leBytes 5 asn ++ [0] ++ leBytes 4 (schHash m.sched) ++ time80 (start * 65536)
      let old := decide (s.mtr.prevUntil.isSome ∧ s.mtr.unconfirmed ≠ []) && m.beacons % 2 == 1
      let slot := if old then s.mtr.prevSlot else s.networkSlot
      let gen := if old then s.mtr.prevGen else s.net.gen
      let r := s.buildNetwork slot gen 0xC (.flood (ttl * 4096 + m.beacons % 4096) ttl) body
      match r.2 with
      | none => (r.1.updMac p (fun x => { x with beaconAsn := asn })).macCount p 2
      | some f =>
        let s1 := r.1.updMac p (fun x => { x with beacons := x.beacons + 1, beaconAsn := asn })
        if s1.dwellOk p ch (s1.sendNs p c.mode f.length false) then
          (s1.markSeen p 0 (ttl * 4096 + m.beacons % 4096)).askTx p ⟨f, ch, c.mode, s.counterOfTd2 start, 0, .asked, none⟩
        else s1.macCount p 2

def execBeaconSend (p : Fin 2) (s : State) : Res := s.whenRadio (beaconSend p)

/-- R369: the frame of a slot that an acknowledgement request answers. -/
def claimOf (frames : List SlotFrame) (a : AckReq) : Option SlotFrame :=
  frames.find? (fun f => f.src == a.src && f.lseq == a.lseq && f.deadline == a.deadline)

/-- RADIO_ACK_SEND (R162, R368, R369, R387): once the slot's acknowledgement deadline has passed, the port is asked for one ACK, to the frame of the
slot with the earliest arrival stamp, at 21 ms; the others are counted. -/
def radioAckSend (p : Nat) (s : State) : State :=
  let s0 := s.macFetch (3 + p)
  if s.now + cUs (s.cfgN 0x4004 2) < s.counterOfTd2 (slotStart (s.td 2) + 21000000) then s0 else
  let m := s0.mac p
  let claims := m.acks.filterMap (fun a => (claimOf m.slotFrames a).map (fun f => (a, f)))
  let s1 := s0.updMac p (fun x => { x with acks := [] })
  match claims with
  | [] => s1
  | c :: cs =>
    let best := cs.foldl (fun b x => if x.2.stamp < b.2.stamp then x else b) c
    let s2 := s1.updMac p (fun x => { x with counters := upd x.counters 6 (· + cs.length) })
    let mode := if best.2.mode = 2 then 2 else 1
    let delta := max 0 (best.2.start - 2000000)
    let start := slotStart (s.td 2) + 21000000 + delta
    let pend := m.hasFor best.1.meter
    let r := s2.buildAck best.1 (.route []) pend []
    match r.2 with
    | none => r.1
    | some f =>
      let ns := s.sendNs p mode f.length true
      if !s.portOn p ∨ s.txBusy p ∨ 4000000 < delta + ns then r.1.macCount p 7
      else if !s.dwellOk p best.2.channel ns then r.1.macCount p 8
      else r.1.askTx p ⟨f, best.2.channel, mode, s.counterOfTd2 start, 1, .asked, none⟩

def execRadioAckSend (p : Fin 2) (s : State) : Res := s.whenRadio (radioAckSend p)

/-- R370: a frame that fits no cell of the schedule in which it could be sent is discarded. -/
def State.tooLong (s : State) (p : Nat) (f : MacFrame) : State :=
  ((s.updMac p (fun m => { m with ready := m.ready.erase f, blocks := m.blocks.erase f })).macCount p 13).event 0x3116
    (radioMacCell p) [byte p, byte (fType f.frame), byte f.frame.length, 0]

/-- R370: the kinds of cell that a frame may go out in. -/
def MacFrame.cellKind (f : MacFrame) : Nat := if f.kind = 0 then 3 else if f.kind = 2 then 5 else 4

/-- R370: frames that fit none of their cells leave. -/
def State.dropTooLong (s : State) (p : Nat) : State :=
  let m := s.mac p
  let cells := cellsOfSchedule m.sched
  (m.ready ++ m.blocks).foldl (fun st f =>
    if cells.any (fun c => c.kind == f.cellKind && (f.prio != 3 || c.mode != 0) && s.fitsCell p c.mode f.frame.length) then st
    else st.tooLong p f) s

/-- The first of some frames that passes dwell in a cell; those before it that do not are deferred (R387). -/
def State.pickFrame (s : State) (p ch mode : Nat) : List MacFrame → State × Option MacFrame
  | [] => (s, none)
  | f :: r =>
    if !s.fitsCell p mode f.frame.length then s.pickFrame p ch mode r
    else if s.dwellOk p ch (s.sendNs p mode f.frame.length false) then (s, some f)
    else (s.dwellDefer p ch).pickFrame p ch mode r

/-- DOWN_CELL_SEND (R373, R382, R383, R387, R407): in a DOWN cell the first unicast frame that is not held goes out at 2 ms; in
an access cell a JOIN answer built in an earlier slotframe. -/
def downCellSend (p : Nat) (s : State) : State :=
  let s0 := (s.macFetch (3 + p)).dropTooLong p
  let m := s0.mac p
  let td2 := s.td 2
  let asn := asnOf td2
  match (cellsAt m.sched asn).find? (fun c => c.kind == 3 || c.kind == 5) with
  | none => s0
  | some c =>
    if !s.portOn p ∨ s.txBusy p ∨ !s.slotAhead then s0
    else
      let ch := hopChannel (s.hopSeq p m.sched) asn c.choff
      let cands := if c.kind = 3 then m.ready.filter (fun f => f.kind == 0 && !s0.held p f.meter)
        else m.ready.filter (fun f => f.kind == 2 && decide (f.cw ≤ asn / schF m.sched))
      let r := s0.pickFrame p ch c.mode cands
      match r.2 with
      | none => r.1
      | some f =>
        (r.1.updMac p (fun x => { x with ready := x.ready.erase f })).askTx p
          ⟨f.frame, ch, c.mode, s.counterOfTd2 (slotStart td2 + 2000000), 2, .asked, some f⟩

def execDownCellSend (p : Fin 2) (s : State) : Res := s.whenRadio (downCellSend p)

/-- R390: a flooded ACK built for its request. -/
def State.buildFloodAck (s : State) (p : Nat) (a : AckReq) : State × Option MacFrame :=
  let q := s.takeFseq
  let r := q.1.buildAck a (.flood q.2 (s.floodTtlFor p a.meter)) ((s.mac p).hasFor a.meter) []
  (r.1, r.2.map (fun f => { frame := f, meter := a.meter, dest := a.src, prio := 0, ident := 0, kind := 1, backoff := 0, cw := 0, tries := 0 }))

/-- FLOOD_CELL_SEND (R387, R390, R391, R421): in a FLOOD cell the port sends one frame: an ACK, a relay from the other port, a
command, or a block in a cell of 100 or 200 kb/s once enough FLOOD cells have passed. -/
def floodCellSend (p : Nat) (s : State) : State :=
  let s00 := (s.macFetch (3 + p)).dropTooLong p
  -- Requests become frames at the head of what waits.
  let s0 := (s00.mac p).floodAcks.foldl (fun st a =>
    let r := st.buildFloodAck p a
    match r.2 with
    | some f => r.1.updMac p (fun m => { m with ready := m.ready ++ [{ f with kind := 4 }] })
    | none => r.1) (s00.updMac p (fun m => { m with floodAcks := [] }))
  let m := s0.mac p
  let td2 := s.td 2
  let asn := asnOf td2
  match (cellsAt m.sched asn).find? (fun c => c.kind == 4) with
  | none => s0
  | some c =>
    if !s.portOn p ∨ s.txBusy p ∨ !s.slotAhead then s0
    else
      let ch := hopChannel (s.hopSeq p m.sched) asn c.choff
      let cands := m.ready.filter (fun f => f.kind == 4) ++ m.ready.filter (fun f => f.kind == 3 && f.backoff == 0) ++
        m.ready.filter (fun f => f.kind == 1) ++ (if m.wait = 0 ∧ c.mode ≠ 0 then m.blocks else [])
      let r := s0.pickFrame p ch c.mode cands
      match r.2 with
      | none => r.1
      | some f =>
        let ttl := s.cfgB (radioBlk p) 0x3102 2
        let s1 := r.1.updMac p (fun x => { x with
          ready := x.ready.erase f, blocks := x.blocks.erase f
          wait := if f.prio = 3 then ttl * schSpread m.sched else x.wait })
        (s1.markSeen p (fOrigin f.frame) (fFseq f.frame)).askTx p
          ⟨f.frame, ch, c.mode, s.counterOfTd2 (slotStart td2 + 2000000), if f.kind = 3 then 4 else 3, .asked, some f⟩

def execFloodCellSend (p : Fin 2) (s : State) : Res := s.whenRadio (floodCellSend p)

/-- R342, R375: what a port does when its block switches epochs: its enable and its schedule. `before` is the state with the
settings it leaves. -/
def State.radioSwitched (s before : State) (p : Nat) : State :=
  let was := bit (before.cfgB (radioBlk p) 0x3000 1) p
  let on := bit (s.cfgB (radioBlk p) 0x3000 1) p
  let s1 := if on ∧ (!was ∨ (s.port p).initFailed) then s.portEnabled p true else if was ∧ !on then s.portEnabled p false else s
  let old := before.valB (radioBlk p) (0x3100 + p) 0
  let new := s.valB (radioBlk p) (0x3100 + p) 0
  if old = new then s1 else s1.updMac p (fun m => { m with pending := some new })

end Sys2Proof.Machine
end

