-- ==== Sys2Proof/Machine/MeterRec.lean ====
section
/-!
DEFINITION. The 256-byte meter record as bytes (R104, R186, R256, R399) and the counter windows (R150).
-/
namespace Sys2Proof.Machine

/-- R104: an entry of BASE as 24 bytes. -/
def BaseEntry.bytes (b : BaseEntry) : Bytes := leBytes 4 b.id ++ ((List.range 4).map (fun i => leBytes 5 (at' b.vals i))).flatten

/-- The entry that 24 bytes hold. -/
def baseOf (b : Bytes) : BaseEntry := ⟨fieldLE b 0 4, (List.range 4).map (fun i => fieldLE b (4 + 5 * i) 5)⟩

/-- R104, R186, R256, R399: a record as 256 bytes. -/
def Meter.bytes (m : Meter) : Bytes :=
  let head := leBytes 8 m.eui ++ leBytes 2 m.short ++ [byte m.family, byte m.cls, byte m.state, byte m.link] ++ leBytes 2 m.gen ++
    leBytes 4 m.fcHigh ++ leBytes 8 m.fcBitmap ++ leBytes 4 m.prevHigh ++ leBytes 8 m.prevBitmap ++ leBytes 4 m.switchTime ++
    leBytes 4 m.joinFcHigh ++ leBytes 4 m.dlFc ++ leBytes 2 m.pendingGen ++ leBytes 2 m.rflags
  let base := ((List.range 4).map (fun i => (at' m.base i).bytes)).flatten
  let vee := leBytes 4 m.lgId ++ ((List.range 4).map (fun i => leBytes 5 (at' m.lgVal i))).flatten ++
    [byte m.lgOutcome, byte m.badrun] ++ zeros 6
  let bal := ((List.range 4).map (fun i => leBytes 2 (m.groups.getD i 0xFFFF))).flatten ++ [byte m.detFlags, byte m.neutRun, 0, 0] ++
    leBytes 4 m.revDay ++ zeros 16
  let dist := [byte m.tariff, byte m.tState] ++ leBytes 2 m.tVer ++ [byte m.image, byte m.iState, byte m.tSilent, byte m.iSilent] ++
    leBytes 4 m.meterFw ++ leBytes 2 m.nextTag ++ [byte m.cmdQueued] ++ zeros 25
  head ++ base ++ vee ++ bal ++ dist

/-- The record that 256 bytes hold. -/
def meterOf (b : Bytes) : Meter :=
  { eui := fieldLE b 0 8, short := fieldLE b 8 2, family := fieldLE b 10 1, cls := fieldLE b 11 1, state := fieldLE b 12 1
    link := fieldLE b 13 1, gen := fieldLE b 14 2, fcHigh := fieldLE b 16 4, fcBitmap := fieldLE b 20 8
    prevHigh := fieldLE b 28 4, prevBitmap := fieldLE b 32 8, switchTime := fieldLE b 40 4, joinFcHigh := fieldLE b 44 4
    dlFc := fieldLE b 48 4, pendingGen := fieldLE b 52 2, rflags := fieldLE b 54 2
    base := (List.range 4).map (fun i => baseOf (slice b (56 + 24 * i) 24))
    lgId := fieldLE b 152 4, lgVal := (List.range 4).map (fun i => fieldLE b (156 + 5 * i) 5)
    lgOutcome := fieldLE b 176 1, badrun := fieldLE b 177 1
    groups := (List.range 4).map (fun i => fieldLE b (184 + 2 * i) 2), detFlags := fieldLE b 192 1, neutRun := fieldLE b 193 1
    revDay := fieldLE b 196 4, tariff := fieldLE b 216 1, tState := fieldLE b 217 1, tVer := fieldLE b 218 2
    image := fieldLE b 220 1, iState := fieldLE b 221 1, tSilent := fieldLE b 222 1, iSilent := fieldLE b 223 1
    meterFw := fieldLE b 224 4, nextTag := fieldLE b 228 2, cmdQueued := fieldLE b 230 1 }

/-- R150: what a counter is to a window: new, accepted before, or below it. -/
inductive FcVerdict where
  | fresh | duplicate | replay
deriving DecidableEq, Repr, Inhabited

/-- R150: a counter judged against FC_HIGH and FC_BITMAP. -/
def judgeFc (fc high bitmap : Nat) : FcVerdict :=
  if high < fc then .fresh
  else if 63 < high - fc then .replay
  else if bit bitmap (high - fc) then .duplicate else .fresh

/-- R150: a window after a counter has been accepted. -/
def applyFc (fc high bitmap : Nat) : Nat × Nat :=
  if high < fc then (fc, if 63 < fc - high then 1 else (bitmap * 2 ^ (fc - high) + 1) % 2 ^ 64)
  else if 63 < high - fc then (high, bitmap)
  else (high, setBit bitmap (high - fc))

/-- R113: a reading pushed into BASE when it is newer than the newest entry. -/
def pushBase (base : List BaseEntry) (id : Nat) (vals : List Nat) : List BaseEntry :=
  if (at' base 0).id < id then (⟨id, vals⟩ :: base).take 4 else base

end Sys2Proof.Machine
end

