-- ==== Sys2Proof/Machine/Store.lean ====
section
/-!
DEFINITION. The record store and its NAND array (chapter 14, R446 to R489).
-/
namespace Sys2Proof.Machine

/-! ### Encryption of unit data (R464) -/

/-- IEEE 1619: the next tweak. -/
def xtsDouble (t : Bytes) : Bytes :=
  let v := leNat t * 2
  leBytes 16 (if v < 2 ^ 128 then v else (BitVec.ofNat 128 (v - 2 ^ 128) ^^^ 0x87#128).toNat)

/-- The blocks of a data unit, encrypted or decrypted, at most `n`. -/
def xtsBlocks (f : Bytes → Bytes) : Nat → Bytes → Bytes → Bytes
  | 0, _, _ => []
  | n + 1, t, b => if b = [] then [] else xorBytes (f (xorBytes (b.take 16) t)) t ++ xtsBlocks f n (xtsDouble t) (b.drop 16)

/-- A data unit of 4,096 bytes under the tweak `n`. -/
def xtsUnit (key : Bytes) (enc : Bool) (n : Nat) (b : Bytes) : Bytes :=
  xtsBlocks (if enc then aesEncrypt (key.take 32) else aesDecrypt (key.take 32)) 256
    (aesEncrypt (slice key 32 32) (leBytes 16 n)) b

/-- A unit of 16,384 bytes, whose first data unit has the tweak `first`. -/
def xtsCrypt (key : Bytes) (enc : Bool) (first : Nat) (b : Bytes) : Bytes :=
  ((List.range 4).map (fun i => xtsUnit key enc (first + i) (slice b (4096 * i) 4096))).flatten

/-- The bytes of a unit, and the unit number of pages that hold none. -/
def unitBytes : Nat := 16384
def noMun : Nat := 0xFFFFFFFF

/-- R466: the first unit of the ring. -/
def ringBase : Nat := 34112

/-! ### Names -/

/-- The cell of the flash translation engine, and that of a die. -/
def fteCell : Nat := 0x4200
def dieCell (d : Nat) : Nat := 0x4300 + d

/-- `n` more on count `i` (from 1) of 0x4C40. -/
def State.storeCount (s : State) (i n : Nat) : State :=
  { s with store := { s.store with counters := upd s.store.counters (i - 1) (· + n) } }

/-- The root, and the superblock and die tables. -/
def State.root (s : State) : StoreRoot := s.storeNv.root.getD default
def State.sb (s : State) (i : Nat) : Superblock := at' s.storeNv.sbs i
def State.die (s : State) (d : Nat) : DieRec := at' s.storeNv.dies d

/-- Changes of the non-volatile part, of a superblock, a die and a stream. -/
def State.updNv (s : State) (f : StoreNv → StoreNv) : State := { s with storeNv := f s.storeNv }
def State.updSb (s : State) (i : Nat) (f : Superblock → Superblock) : State :=
  s.updNv (fun n => { n with sbs := upd n.sbs i f })
def State.updDie (s : State) (d : Nat) (f : DieRec → DieRec) : State :=
  s.updNv (fun n => { n with dies := upd n.dies d f })
def State.stream (s : State) (k : Nat) : Stream := at' s.store.streams k
def State.updStream (s : State) (k : Nat) (f : Stream → Stream) : State :=
  { s with store := { s.store with streams := upd s.store.streams k f } }

/-- Planes and pages per block, which are the same on every die (R460). -/
def State.planes (s : State) : Nat := match s.root.geom with | p :: _ => p.2.planes | [] => 1
def State.pagesPerBlock (s : State) : Nat := match s.root.geom with | p :: _ => p.2.pages | [] => 64

/-- The active dies. -/
def State.activeDies (s : State) : List Nat := (List.range 16).filter (fun d => (s.die d).state == 1)

/-- R461: the data units that a stripe over `dies` holds. -/
def State.stripeUnits (s : State) (dies : List Nat) : Nat := (dies.length - 1) * s.planes

/-- The free superblocks. -/
def State.freeSbs (s : State) : List Nat :=
  (List.range s.storeNv.sbs.length).filter (fun i => (s.sb i).state == .free)

/-- The units that the map places in a superblock. -/
def State.validIn (s : State) (i : Nat) : List (Nat × Loc) :=
  s.storeNv.map.filterMap (fun p => match p.2 with | some l => if l.sb = i then some (p.1, l) else none | none => none)

/-- Whether a superblock holds pages of the checkpoint in force, or of one being written. -/
def State.holdsCheckpoint (s : State) (i : Nat) : Bool :=
  s.root.checkpoint.any (fun l => l.sb == i) || s.store.ckptLocs.any (fun l => l.sb == i)

/-- The closed superblocks without checkpoint pages. -/
def State.closedSbs (s : State) : List Nat :=
  (List.range s.storeNv.sbs.length).filter (fun i => (s.sb i).state == .closed && !s.holdsCheckpoint i)

/-- The element of a list with the least value of a measure, the first of equals. -/
def leastBy (f : Nat → Nat) (l : List Nat) : Option Nat :=
  l.foldl (fun b x => match b with | none => some x | some y => if f x < f y then some x else some y) none

/-- R474: the spread of the erase counts. -/
def State.eraseSpread (s : State) : Nat :=
  let es := s.storeNv.sbs.map (·.erases)
  es.foldl max 0 - (match es with | [] => 0 | e :: r => r.foldl min e)

/-! ### Reading units -/

/-- The page that stands at a place. -/
def State.pageAt (s : State) (l : Loc) : Option NandPage := s.storeNv.pages.find? (fun p => p.at' == l)

/-- The units of all streams that are not yet in the map, copies left out. -/
def State.unitsInDram (s : State) : List UnitBuf :=
  ((s.store.streams.map (fun k => k.flying ++ k.units)).flatten).filter (fun u => u.source.isNone)

/-- The content of a unit: the latest written, or what the array holds. None: unmapped or lost. -/
def State.unitData (s : State) (mun : Nat) : Option Bytes :=
  match s.unitsInDram.reverse.find? (fun u => u.mun == mun) with
  | some u => some u.data
  | none =>
    match lookupKey mun s.storeNv.map with
    | some (some l) => (s.pageAt l).map (fun p => xtsCrypt (s.reg .nandXts).key false (4 * mun) p.data)
    | _ => none

/-- R478: whether a unit is lost. -/
def State.unitLost (s : State) (mun : Nat) : Bool := lookupKey mun s.storeNv.map == some none

/-- The records of a unit, without pad records. -/
def unitRecords (b : Bytes) : List Bytes :=
  ((List.range 512).map (fun i => slice b (32 * i) 32)).filter (fun r => fieldLE r 4 3 != 0xFFFFFF && r.length == 32)

/-- The records of a unit with their ASEQs, where the first has `first`. -/
def numbered (first : Nat) (l : List Bytes) : List (Nat × Bytes) := l.mapIdx (fun i r => (first + i, r))

/-- R453, R455: the records appended on a day, in ASEQ order; those of lost batches are left out. -/
def State.dayRecords (s : State) (day : Nat) : List Bytes :=
  let d := s.storeNv.days.find? (fun x => x.day == day)
  let done := match d with | some x => x.units | none => []
  let waiting := (s.unitsInDram.filter (fun u => u.kind == 0 && u.day == day)).filter (fun u => !done.contains u.mun)
  let openR := if s.store.openDay = day then s.store.openRecs.map (·.2) else []
  (done.map (fun m => unitRecords ((s.unitData m).getD []))).flatten ++ (waiting.map (fun u => unitRecords u.data)).flatten ++ openR

/-- R454: the batches that index segments list for a meter: entries of meter, count and batch addresses, at most `n`. -/
def segmentBatches (meter : Nat) : Nat → Bytes → List Nat
  | 0, _ => []
  | n + 1, b =>
    if b.length < 8 then []
    else
      let k := fieldLE b 4 4
      let mine := if fieldLE b 0 4 = meter then (List.range k).map (fun i => fieldLE b (8 + 4 * i) 4) else []
      mine ++ segmentBatches meter n (b.drop (8 + 4 * k))

/-- R455, R478: whether a batch with records of a meter on a day is lost, as the day's index has it; a lost segment leaves it open, and counts as
a lost batch. -/
def State.meterLost (s : State) (day meter : Nat) : Bool :=
  match s.storeNv.days.find? (fun x => x.day == day) with
  | none => false
  | some d =>
    let seg := (d.segments.map (fun m => (s.unitData m).getD [])).flatten
    let now := if s.store.openDay = day then (lookupKey meter s.store.index).getD [] else []
    let batches := segmentBatches meter (seg.length / 8) seg ++ now
    d.units.any s.unitLost && (d.segments.any s.unitLost || batches.any (fun b => s.unitLost (b / 4)))

/-- R455, R457: whether the store holds a day. -/
def State.holdsDay (s : State) (day : Nat) : Bool :=
  s.storeNv.days.any (fun x => x.day == day) || (s.store.openRecs != [] && s.store.openDay == day) ||
    s.unitsInDram.any (fun u => u.kind == 0 && u.day == day)

/-- Whether queries and reads are served (R459, R465). -/
def State.storeReads (s : State) : Bool := s.store.mode == .ready || s.store.mode == .readOnly

/-- The days of an interval, from its own UTC day to the current day (R456). `minute` is its start in minutes. -/
def State.daysFrom (s : State) (minute : Nat) : List Nat :=
  (List.range (s.utcDay + 1 - minute / 1440)).map (fun i => minute / 1440 + i)

/-- R456: the latest interval record of a meter and interval, if the store finds one. -/
def State.findRecord (s : State) (meter interval len : Nat) : Option Bytes :=
  if s.storeReads then
    (((s.daysFrom (interval * len)).map s.dayRecords).flatten.filter (fun r =>
      fieldLE r 4 3 == meter && fieldLE r 0 4 == interval && fieldLE r 7 1 < 128)).getLast?
  else none

/-! ### The journal (R468, R469) -/

/-- The entries that a half of the journal holds. -/
def journalHalf : Nat := 131072

/-- R467: a map entry as 32 bits. -/
def Loc.word (l : Loc) : Nat := l.die % 16 + 16 * (l.plane % 4) + 64 * (l.page % 4096) + 2 ^ 18 * l.sb

/-- R468: an entry. -/
def journalEntry (mun arg count op jseq : Nat) : Bytes :=
  let b := leBytes 4 mun ++ leBytes 4 arg ++ [byte count, byte op] ++ leBytes 2 jseq
  b ++ leBytes 4 (crc32 b)

/-- Whether `n` more entries find room: in the half in use, or in the other half when that is free. -/
def State.journalRoom (s : State) (n : Nat) : Bool :=
  decide (s.storeNv.journal.length + n ≤ journalHalf) || (!s.storeNv.otherHalf && decide (n ≤ journalHalf))

/-- R468, R469: an entry is written; when the half is full the other half is taken. -/
def State.journal (s : State) (mun arg count op : Nat) : State :=
  s.updNv (fun n =>
    let e := journalEntry mun arg count op n.jseq
    if n.journal.length < journalHalf then { n with journal := n.journal ++ [e], jseq := (n.jseq + 1) % 65536 }
    else { n with journal := [e], otherHalf := true, jseq := (n.jseq + 1) % 65536 })

/-! ### Streams (R470) -/

/-- A unit put at the end of a stream; `force` asks that its stripe be filled with pad pages. -/
def State.enqueue (s : State) (k : Nat) (force : Bool) (u : UnitBuf) : State :=
  s.updStream k (fun x => { x with units := x.units ++ [u], force := x.force || force })

/-- A unit of the cold stream (tariffs, image slots, firmware area). A store that is not READY takes none. -/
def State.coldWrite (s : State) (kind mun : Nat) (data : Bytes) : State :=
  if s.store.mode = .ready then
    s.enqueue 2 true (UnitBuf.mk mun kind 0 0 0 (padTo unitBytes data) none 0 0 s.now)
  else s

/-- R487: units unmapped, in one journal entry. -/
def State.unmapUnits (s : State) (first n : Nat) : State :=
  (s.journal first n 0 1).updNv (fun v => { v with map := v.map.filter (fun p => p.1 < first ∨ first + n ≤ p.1) })

/-- R471, R474, R475, R477: copies of valid units wait in a stream, those left out that already wait. -/
def State.copyUnits (s : State) (k origin : Nat) (l : List (Nat × Loc)) : State :=
  l.foldl (fun st p =>
    if (st.store.streams.any (fun x => (x.units ++ x.flying).any (fun u => u.source == some p.2))) then st
    else
      let pg := (st.pageAt p.2).getD default
      st.enqueue k true (UnitBuf.mk p.1 pg.kind origin pg.aseq pg.day ((st.unitData p.1).getD (xtsCrypt (st.reg .nandXts).key false (4 * p.1) pg.data)) (some p.2) 0 0 st.now)) s

/-- R475: the blocks of a superblock that wait for a replacement get it from their die's spares; a die without a spare is
left out. -/
def replaceBlocks : List (Nat × Nat) → Superblock → List DieRec → Superblock × List DieRec
  | [], b, ds => ({ b with bad := [] }, ds)
  | (d, p) :: r, b, ds =>
    if 0 < (at' ds d).spares.getD p 0 then
      replaceBlocks r b (upd ds d (fun x => { x with spares := upd x.spares p (· - 1) }))
    else replaceBlocks r { b with dies := b.dies.filter (· ≠ d) } ds

/-- R470, R475, R477: a superblock is opened for a stream. -/
def State.openSb (s : State) (k i : Nat) : State :=
  let b := s.sb i
  let r := replaceBlocks b.bad { b with dies := b.dies.filter (fun d => (s.die d).state == 1) } s.storeNv.dies
  let s1 := s.updNv (fun n => { n with sbs := n.sbs.set i { r.1 with state := .opened }, dies := r.2 })
  (s1.journal 0 i 0 2).updStream k (fun x => { x with sb := some i, page := 0 })

/-- R460: the NV-DDR3 timing mode: the highest that every die supports, at most mode 10 (800 MT/s; log entry 83). -/
def timingMode (l : List (Nat × DieParam)) : Nat := l.foldl (fun m x => min m x.2.timing) 10

/-- R458: the dies whose spares could make one more superblock: more than 2 per plane. -/
def State.richDies (s : State) : List Nat :=
  s.activeDies.filter (fun d => (s.die d).spares != [] && (s.die d).spares.all (fun n => decide (2 < n)))

/-- R458: one more superblock is assembled from spares, where at least 2 dies have more than 2 per plane. -/
def State.assemble (s : State) : State :=
  let ds := s.richDies
  if 2 ≤ ds.length then
    s.updNv (fun n => { n with
      sbs := n.sbs ++ [{ state := .free, erases := 0, dies := ds, bad := [] }]
      dies := n.dies.mapIdx (fun d x => if ds.contains d then { x with spares := x.spares.map (· - 1) } else x) })
  else s

/-- R470: the superblock that a stream would open: the free one with the lowest erase count; appends and images leave the
last free one to the cold stream. -/
def State.nextSb (s : State) (k : Nat) : Option Nat :=
  let fs := s.freeSbs
  if k < 2 ∧ fs.length < 2 then none else leastBy (fun i => (s.sb i).erases) fs

/-- The stream has an open superblock with a page left, or opens one. -/
def State.readyStream (s : State) (k : Nat) : Option State :=
  let x := s.stream k
  match x.sb with
  | some i =>
    if x.page < s.pagesPerBlock then some s
    else (s.nextSb k).map ((s.updSb i (fun b => { b with state := .closed })).openSb k)
  | none => (s.nextSb k).map (s.openSb k)

/-! ### Appending (R450 to R454) -/

/-- R454: the index segments of the open day, as units of the ring; the layout within a segment is the model's (log entry
19): meter, count and batch addresses, 4 bytes each. -/
def indexBytes (l : List (Nat × List Nat)) : Bytes :=
  (l.map (fun p => leBytes 4 p.1 ++ leBytes 4 p.2.length ++ (p.2.map (leBytes 4)).flatten)).flatten

/-- The next unit of the ring, and the state with the append position moved past it (R466). -/
def State.takeMun (s : State) : State × Nat :=
  let m := s.storeNv.ringNext
  (s.updNv (fun n => { n with ringNext := if s.root.units ≤ m + 1 then ringBase else m + 1 }), m)

/-- R454: the open day's index is written as segments, one after another. -/
def State.writeSegments : Nat → State → Bytes → State
  | 0, s, _ => s
  | n + 1, s, b =>
    if b = [] then s
    else
      let t := s.takeMun
      let s1 := t.1.enqueue 0 false (UnitBuf.mk t.2 1 0 0 s.store.openDay (padTo unitBytes (b.take unitBytes)) none 0 0 s.now)
      State.writeSegments n s1 (b.drop unitBytes)

/-- R454: an index segment is due: the index is written and begins anew. -/
def State.closeIndex (s : State) : State :=
  let b := indexBytes s.store.index
  let s1 := State.writeSegments (b.length / unitBytes + 1) s b
  { s1 with store := { s1.store with index := [], indexCount := 0 } }

/-- R451: the open unit is sealed; pad records fill it. -/
def State.sealUnit (s : State) : State :=
  match s.store.openRecs with
  | [] => s
  | (a, r) :: rest =>
    let recs := r :: rest.map (·.2)
    let data := recs.flatten ++ List.replicate (32 * (512 - recs.length)) 0xFF#8
    let s1 := s.enqueue 0 false (UnitBuf.mk s.store.openMun 0 0 a s.store.openDay data none recs.length 0 s.store.openSince)
    { s1.storeCount 3 (512 - recs.length) with store := { (s1.storeCount 3 (512 - recs.length)).store with openRecs := [] } }

/-- R451, R454: at the close of the open day its last unit is sealed and the rest of its index written. -/
def State.closeDay (s : State) : State :=
  if s.store.mode = .ready ∧ s.store.openDay < s.utcDay ∧ (s.store.openRecs ≠ [] ∨ s.store.index ≠ []) then s.sealUnit.closeIndex else s

/-- R452: a forced seal: the open unit, the index, and pad pages for the rest of the stripe. -/
def State.forceSeal (s : State) : State :=
  (s.sealUnit.closeIndex).updStream 0 (fun x => { x with force := x.units != [] })

/-- R457: whether a day is old enough to be reclaimed. -/
def State.reclaimable (s : State) (day : Nat) : Bool := decide (day + s.cfgN 0x4C01 2 ≤ s.utcDay)

/-- R457: a day is reclaimed: its units and segments are unmapped, it leaves the directory, and 0x4C05 is raised. -/
def State.reclaimDay (s : State) (d : DayDir) : State :=
  let s1 := (d.units ++ d.segments).foldl (fun st m => st.unmapUnits m 1) s
  (s1.updNv (fun n => { n with days := n.days.filter (fun x => x.day ≠ d.day) })).event 0x4C05 fteCell
    (leBytes 4 d.day ++ leBytes 4 d.records)

/-- The oldest day held. -/
def State.oldestDay (s : State) : Option DayDir :=
  (leastBy id (s.storeNv.days.map (·.day))).bind (fun d => s.storeNv.days.find? (fun x => x.day == d))

/-- R457: the oldest day, when the ring is enabled and the day is old enough. -/
def State.dueDay (s : State) : Option DayDir :=
  if s.cfgN 0x4C01 1 = 1 then s.oldestDay.filter (fun d => s.reclaimable d.day) else none

/-- DAY_RECLAIMED (R457, R470): while fewer than FreeLow superblocks are free, and the emptiest closed superblock has more
than half its units valid, or the append position meets a mapped unit. -/
def State.reclaimDue (s : State) : Bool :=
  let full := fun i => decide ((s.stripeUnits (s.sb i).dies * s.pagesPerBlock) < 2 * (s.validIn i).length)
  (decide (s.freeSbs.length < s.cfgN 0x4C01 3) &&
    ((leastBy (fun i => (s.validIn i).length) s.closedSbs).map full).getD false) ||
  (lookupKey s.storeNv.ringNext s.storeNv.map).isSome

/-- R458: whether no closed superblock can be collected and no day reclaimed. -/
def State.noneToCollect (s : State) : Bool :=
  s.closedSbs.all (fun i => decide (s.stripeUnits (s.sb i).dies * s.pagesPerBlock ≤ (s.validIn i).length)) && s.dueDay.isNone

/-- R458: whether no superblock is free for an append (R470 keeps the last one for the cold stream), and none can be freed. -/
def State.storeStuck (s : State) : Bool :=
  (s.nextSb 0).isNone &&
    s.noneToCollect && decide (s.richDies.length < 2)

/-- R458, R477: the cause in 0x4C03. -/
def State.fullCause (s : State) : Nat :=
  if s.activeDies.length < 2 then 3 else if s.cfgN 0x4C01 1 = 0 then 2 else 1

/-- 0x4C03 StoreFullAlarm. -/
def State.fullAlarm (s : State) : State :=
  ({ s with store := { s.store with fullAt := s.now } }).event 0x4C03 fteCell
    ([byte s.fullCause, 0, 0, 0] ++ leBytes 4 s.store.discarded)

/-- R458: the store becomes READ_ONLY. -/
def State.enterReadOnly (s : State) : State :=
  if s.store.mode = .ready then ({ s with store := { s.store with mode := .readOnly, discarded := 0 } }).fullAlarm else s

/-- A batch address added to the open day's index. -/
def addBatch (meter batch : Nat) (l : List (Nat × List Nat)) : List (Nat × List Nat) :=
  let old := (lookupKey meter l).getD []
  if old.contains batch then l else insertKey meter (old ++ [batch]) l

/-- R450: the next ASEQ, the root's floor written before it is passed. -/
def State.takeAseq (s : State) : State × Nat :=
  let a := s.store.nextAseq
  let s1 := if s.root.floor ≤ a then
      s.updNv (fun n => { n with root := n.root.map (fun r => StoreRoot.mk r.geom r.keyId r.clean r.lastDurable (a + 2 ^ 24) r.units r.checkpoint) })
    else s
  ({ s1 with store := { s1.store with nextAseq := a + 1 } }, a)

/-- R450, R451, R454: a record is given its ASEQ and placed in the open unit of its day. -/
def State.appendRecord (s : State) (r : Bytes) : State :=
  let day := s.utcDay
  let s1 := if s.store.openDay ≠ day then s.sealUnit.closeIndex else s
  let s2 := if s1.store.openRecs = [] then
      (let t := s1.takeMun
       { t.1 with store := { t.1.store with openMun := t.2, openDay := day, openSince := s.now } })
    else s1
  let t := s2.takeAseq
  let isState := decide (128 ≤ fieldLE r 7 1)
  let st := t.1.store
  let batch := 4 * st.openMun + st.openRecs.length / 128
  let s3 := { t.1 with store := { st with openRecs := st.openRecs ++ [(t.2, r)], index := addBatch (fieldLE r 4 3) batch st.index, indexCount := st.indexCount + 1 } : State }
  let s4 := s3.storeCount (if isState then 2 else 1) 1
  let s5 := if s4.store.openRecs.length = 512 then s4.sealUnit else s4
  if s5.cfgN 0x4C01 5 ≤ s5.store.indexCount then s5.closeIndex else s5

/-- R480: a marker arrives: the image unit goes to the image stream, with the last ASEQ assigned as its image SEQ; with none
assigned it is all ones (log entry 19). -/
def State.takeMarker (s : State) (unit : Nat) : State :=
  match s.store.snaps.find? (fun x => x.unit == unit) with
  | none => s
  | some sn =>
    let copy := 1 - (lookupKey unit s.store.copies).getD 1
    let s1 := { s with store := { s.store with
      snaps := s.store.snaps.eraseP (fun x => x.unit == unit), copies := insertKey unit copy s.store.copies } }
    s1.enqueue 1 false (UnitBuf.mk (1344 + 16384 * copy + unit) 2 0 ((s.store.nextAseq + 2 ^ 64 - 1) % 2 ^ 64) 0 sn.data none 0 0 s.now)

/-- Whether the append stream must wait for a superblock, a ring unit, the journal or the images owed after a format. -/
def State.appendBlocked (s : State) : Bool :=
  let x := s.stream 0
  let dies := match x.sb with | some i => (s.sb i).dies | none => s.activeDies
  s.store.imagesOwed != [] || !s.journalRoom 1 ||
    (decide (s.store.openRecs = []) && (lookupKey s.storeNv.ringNext s.storeNv.map).isSome) ||
    (decide (s.stripeUnits dies ≤ x.units.length) && (s.readyStream 0).isNone)

/-- One packet of Q41 is taken: a record, or the marker of an image unit (4 bytes). -/
def State.takeQ41 (s : State) (take : State → Bytes → State) (mark : State → Nat → State) : State :=
  match s.popPacket 41 with
  | none => s
  | some (s1, b, ab) => if ab then s1 else if b.length = 32 then take s1 b else mark s1 (fieldLE b 0 4)

/-- RECORD_APPEND (R450, R451, R458, R459, R469). -/
def recordAppend (s : State) : State :=
  match s.store.mode with
  | .readOnly =>
    s.takeQ41 (fun st _ => { st.storeCount 14 1 with
        store := { (st.storeCount 14 1).store with discarded := sat32 st.store.discarded } })
      (fun st u => { st with store := { st.store with snaps := st.store.snaps.filter (fun x => x.unit ≠ u) } })
  | .ready =>
    if s.appendBlocked then
      (if s.hasPacket 41 && (s.storeStuck || decide (s.activeDies.length < 2)) then s.enterReadOnly
       else if s.hasPacket 41 && (s.nextSb 0).isNone && s.noneToCollect then s.assemble else s)
    else s.takeQ41 State.appendRecord State.takeMarker
  | _ => s

/-- RECORD_APPEND as a command. -/
def execRecordAppend (s : State) : Res := s.whenLive recordAppend

/-- BATCH_AGE_SEAL (R452): the oldest record not yet programmed has waited BatchAge seconds. -/
def batchAgeSeal (s : State) : State :=
  let age := s.cfgN 0x4C01 4
  let olds := ((s.stream 0).units.filter (fun u => u.kind == 0)).map (·.since) ++
    (if s.store.openRecs = [] then [] else [s.store.openSince])
  if s.store.mode = .ready ∧ age ≠ 0 ∧ olds.any (fun t => decide (t + cSec age ≤ s.now)) then s.forceSeal else s

/-- BATCH_AGE_SEAL as a command. -/
def execBatchAgeSeal (s : State) : Res := s.whenRunning batchAgeSeal

/-! ### Programming (R452, R461, R464, R468, R473, R475) -/

/-- A pad page: its content is the model's, all ones (log entry 19). -/
def padUnit (now : Nat) : UnitBuf :=
  (UnitBuf.mk noMun 8 0 0 0 (List.replicate unitBytes 0xFF#8) none 0 0 now)

/-- R464: the data of a unit as it stands in the array. -/
def UnitBuf.cipher (u : UnitBuf) (key : Bytes) : Bytes :=
  if u.kind = 8 then u.data
  else if u.kind = 6 then xtsCrypt key true (2 ^ 32 + 4 * u.page) u.data
  else xtsCrypt key true (4 * u.mun) u.data

/-- R461: the pages of a stripe: unit `j` stands on plane j mod P of the die in slot j / P; the parity stands on the die in the
last slot. -/
def State.stripePages (s : State) (i page pseq : Nat) (dies : List Nat) (us : List UnitBuf) : List NandPage :=
  let p := s.planes
  let key := (s.reg .nandXts).key
  let width := dies.length - 1
  let datas := us.mapIdx (fun j u =>
    { at' := Loc.mk i page (dies.getD (j / p) 0) (j % p), mun := u.mun, pseq := pseq, kind := u.kind, origin := u.origin
      width := width, slot := j / p, aseq := u.aseq, day := u.day, keyId := s.vault.keyId, data := u.cipher key : NandPage })
  let par := (List.range p).map (fun q =>
    { at' := Loc.mk i page (dies.getD width 0) q, mun := noMun, pseq := pseq, kind := 7, origin := 0, width := width
      slot := width, aseq := 0, day := 0, keyId := s.vault.keyId
      data := (datas.filter (fun (x : NandPage) => x.at'.plane == q)).foldl (fun acc x => xorBytes acc x.data) (zeros unitBytes) : NandPage })
  datas ++ par

/-- STRIPE_PROGRAM (R452, R461): a stripe whose data units are sealed is programmed with its parity. -/
def stripeProgram (k : Nat) (s : State) : State :=
  let x0 := s.stream k
  if s.store.mode ≠ .ready ∨ x0.flying ≠ [] ∨ x0.units = [] then s
  else
    match s.readyStream k with
    | none => s
    | some s1 =>
      let x := s1.stream k
      let i := x.sb.getD 0
      let dies := (s1.sb i).dies
      let cap := s1.stripeUnits dies
      if cap = 0 ∨ (x.units.length < cap ∧ !x.force) then s
      else
        let us := x.units.take cap
        let pseq := s1.storeNv.pseq + 1
        let all := us ++ List.replicate (cap - us.length) (padUnit s.now)
        let rest := x.units.drop cap
        ((s1.updNv (fun n => { n with pages := n.pages ++ s1.stripePages i x.page pseq dies all, pseq := pseq })).updStream k
          (fun y => { y with units := rest, flying := us, flyingPseq := pseq, page := y.page + 1, force := y.force && rest != [] })).storeCount 4 1

/-- STRIPE_PROGRAM as a command: `stream` 0 append, 1 image, 2 cold, 3 the wear move. -/
def execStripeProgram (stream : Fin 4) (s : State) : Res := s.whenLive (stripeProgram stream)

/-- R475: a block is retired: journaled, counted, and 0x4C06 raised. Cause 1 program, 2 erase. -/
def State.retireBlock (s : State) (i d plane cause : Nat) : State :=
  (((s.journal 0 (d * 65536 + i) 0 4).updSb i (fun b => { b with bad := b.bad ++ [(d, plane)] })).updDie d
    (fun x => { x with retired := x.retired + 1 })).event 0x4C06 (dieCell d) ([byte plane, byte cause, 0, 0] ++ leBytes 4 i)

/-- R473: whether a programmed unit is to be mapped. -/
def State.mayMap (s : State) (u : UnitBuf) : Bool :=
  match u.source with
  | some l => lookupKey u.mun s.storeNv.map == some (some l)
  | none => decide (u.mun ≠ noMun)

/-- R454: the day directory after a record unit or a segment has been mapped. -/
def putDay (u : UnitBuf) (l : List DayDir) : List DayDir :=
  let e := (l.find? (fun x => x.day == u.day)).getD ⟨u.day, u.aseq, 0, [], []⟩
  let e' := if u.kind = 0 then { e with firstAseq := if e.units = [] then u.aseq else min e.firstAseq u.aseq, records := e.records + u.records
                                        units := e.units ++ [u.mun] }
            else { e with segments := e.segments ++ [u.mun] }
  l.filter (fun x => x.day ≠ u.day) ++ [e']

/-- R473: unit `j` of a stripe that has been programmed is mapped, if it is to be. -/
def State.mapUnit (s : State) (i page : Nat) (dies : List Nat) (j : Nat) (u : UnitBuf) : State :=
  let p := s.planes
  let l := Loc.mk i page (dies.getD (j / p) 0) (j % p)
  if u.kind = 6 then { s with store := { s.store with ckptLocs := s.store.ckptLocs ++ [l] } }
  else if s.mayMap u then
    let s1 := s.updNv (fun n => { n with map := insertKey u.mun (some l) n.map })
    let s2 := if u.source.isNone ∧ u.kind ≤ 1 then
        s1.updNv (fun n => { n with days := putDay u n.days
                                    durable := if u.kind = 0 then some (max (n.durable.getD 0) (u.aseq + u.records - 1)) else n.durable })
      else s1
    if u.origin ≠ 0 then s2.storeCount (4 + u.origin) 1 else s2
  else s

/-- R452, R468: the entries that map a stripe's units: one for each run of up to 64 consecutive units at consecutive data positions. An element is
first position, first unit, count. -/
def mapRuns (l : List (Nat × UnitBuf)) : List (Nat × Nat × Nat) :=
  (l.foldl (fun acc p =>
    match acc with
    | (j, m, c) :: r => if c < 64 ∧ p.1 = j + c ∧ p.2.mun = m + c then (j, m, c + 1) :: r else (p.1, p.2.mun, 1) :: acc
    | [] => [(p.1, p.2.mun, 1)]) []).reverse

/-- R452, R468: the units of a programmed stripe are journaled, then mapped. -/
def State.mapStripe (s : State) (i page : Nat) (dies : List Nat) (us : List UnitBuf) : State :=
  let l := us.mapIdx (fun j u => (j, u))
  let p := s.planes
  let runs := mapRuns (l.filter (fun x => x.2.kind ≠ 6 && s.mayMap x.2))
  let s1 := runs.foldl (fun st r => st.journal r.2.1 (Loc.mk i page (dies.getD (r.1 / p) 0) (r.1 % p)).word r.2.2 0) s
  l.foldl (fun st x => st.mapUnit i page dies x.1 x.2) s1

/-- A superblock's move to ERASING once nothing in it is valid (R471, R474). -/
def State.eraseIfEmpty (s : State) (i : Nat) : State :=
  if (s.sb i).state = .closed ∧ s.validIn i = [] ∧ !s.holdsCheckpoint i then s.updSb i (fun b => { b with state := .erasing }) else s

/-- A stream's superblock is closed. -/
def State.closeStream (s : State) (k : Nat) : State :=
  match (s.stream k).sb with
  | some i => (s.updSb i (fun b => { b with state := .closed })).updStream k (fun x => { x with sb := none, page := 0 })
  | none => s

/-- PROGRAM_COMPLETE without a failure (R468, R471, R473). -/
def State.programDone (s : State) (k : Nat) : State :=
  let x := s.stream k
  let i := x.sb.getD 0
  let dies := (s.sb i).dies
  let s1 := s.mapStripe i (x.page - 1) dies x.flying
  let s2 := (s1.updNv (fun n => { n with jpseq := max n.jpseq x.flyingPseq })).updStream k (fun y => { y with flying := [] })
  let s3 := if s2.pagesPerBlock ≤ x.page ∨ (k = 3 ∧ x.units = []) ∨ dies.any (fun d => (s2.die d).state != 1) then s2.closeStream k else s2
  let s4 := ((x.flying.filter (fun u => u.origin == 1 || u.origin == 2)).filterMap (fun u => u.source.map (·.sb))).eraseDups.foldl State.eraseIfEmpty s3
  if k = 1 ∧ s4.store.imagesOwed ≠ [] then
    { s4 with store := { s4.store with imagesOwed := s4.store.imagesOwed.filter (fun n =>
        !x.flying.any (fun u => u.kind == 2 && decide (u.mun = 1344 + n ∨ u.mun = 17728 + n))) } }
  else s4

/-- PROGRAM_COMPLETE with a failure on a plane of a die (R475). -/
def State.programFailed (s : State) (k d plane : Nat) : State :=
  let x := s.stream k
  let i := x.sb.getD 0
  let s1 := s.updNv (fun n => { n with pages := n.pages.filter (fun p => p.pseq ≠ x.flyingPseq) })
  let again := x.flying.map (fun u => { u with origin := 3 })
  let s2 := s1.updStream k (fun y => { y with flying := [] })
  let s3 := (s2.updStream 2 (fun y => { y with units := again ++ y.units, force := true })).closeStream k
  let s4 := s3.copyUnits 2 3 ((s3.validIn i).filter (fun p => p.2.die == d && p.2.plane == plane))
  (s4.storeCount 12 1).retireBlock i d plane 1

/-- PROGRAM_COMPLETE: a stripe being programmed is done, or has failed on a die and plane; the journal must have room. -/
def programComplete (k : Nat) (failed : Option (Nat × Nat)) (s : State) : State :=
  let x := s.stream k
  if x.flying = [] ∨ !s.journalRoom (x.flying.length + 1) then s
  else match failed with
    | none => s.programDone k
    | some (d, p) => s.programFailed k d p

/-- PROGRAM_COMPLETE as a command. -/
def execProgramComplete (stream : Fin 4) (failed : Option (Nat × Nat)) (s : State) : Res := s.whenLive (programComplete stream failed)

/-! ### Reads and failures (R456, R462, R463, R476 to R478) -/

/-- R477: a die is retired: RETIRING, journaled, 0x4C07, and no further program on it. -/
def State.retireDie (s : State) (d : Nat) : State :=
  if (s.die d).state ≠ 1 then s
  else
    let n := ((List.range s.storeNv.sbs.length).filter (fun i => (s.sb i).dies.contains d && s.validIn i != [])).length
    let reb := (s.die d).rebuilds.length
    let s1 := (s.updDie d (fun x => { x with state := 2, retiringAt := s.now, relocated := 0 })).journal 0 d 0 5
    let s2 := (List.range 4).foldl (fun st k =>
      match (st.stream k).sb with
      | some i => if (st.sb i).dies.contains d ∧ (st.stream k).flying = [] then st.closeStream k else st
      | none => st) s1
    let s3 := s2.event 0x4C07 (dieCell d) ([byte reb, 0, 0, 0] ++ leBytes 4 n)
    if s3.activeDies.length < 2 then s3.enterReadOnly else s3

/-- R478: a unit is lost: its map entry says so and 0x4C0A is raised. -/
def State.loseUnit (s : State) (mun kind : Nat) : State :=
  (s.updNv (fun n => { n with map := insertKey mun none n.map })).event 0x4C0A fteCell ([byte kind, 0, 0, 0] ++ leBytes 4 mun ++ leBytes 4 1)

/-- R476: a rebuild is counted for its die, raised at most once per second, and may retire the die. -/
def State.countRebuild (s : State) (d : Nat) : State :=
  let inWindow := (s.die d).rebuilds.filter (fun t => decide (s.now < t + cSec (s.cfgN 0x4C01 8)))
  let s1 := (s.storeCount 11 1).updDie d (fun x => { x with rebuilds := inWindow ++ [s.now] })
  let s2 := { s1 with store := { s1.store with rebuildSecond := s1.store.rebuildSecond + 1 } }
  let s3 := if s2.perSecond s2.store.rebuildAt then
      ({ s2 with store := { s2.store with rebuildAt := some s2.now, rebuildSecond := 0 } }).event 0x4C09 fteCell
        ([byte d, 0, 0, 0] ++ leBytes 4 s2.store.rebuildSecond)
    else s2
  if s3.cfgN 0x4C01 7 ≤ inWindow.length + 1 then s3.retireDie d else s3

/-- R462, R476, R478: what a read of a unit brings about. -/
def State.readEffects (s : State) (r : UnitRead) : State :=
  match lookupKey r.mun s.storeNv.map with
  | some (some l) =>
    let s1 := (s.storeCount 9 r.corrected).storeCount 10 r.retries
    let dies := (s1.sb l.sb).dies
    let dead := dies.filter (fun d => r.bad.contains d || (s1.die d).state == 2)
    let kind := ((s1.pageAt l).map (·.kind)).getD 0
    if !dead.contains l.die then
      if s1.cfgN 0x4C01 9 < r.bits ∨ 0 < r.retries then { s1 with store := { s1.store with weak := s1.store.weak ++ [r.mun] } } else s1
    else if 1 < dead.length then s1.loseUnit r.mun kind
    else if r.bad.contains l.die then
      let s2 := if s1.store.mode = .ready then s1.copyUnits 2 3 [(r.mun, l)] else s1
      s2.countRebuild l.die
    else s1
  | _ => s

/-- R456: a unit's request for a read enters Q42 or Q43; none while it must wait. The layout of a request is the model's (log entry 22). -/
def State.askStore (s : State) (q producer a b : Nat) : Option State := s.pushPacket q producer (leBytes 4 a ++ leBytes 4 b)

/-- STORE_READ (R456): the next read of Q42 or Q43 is answered; `reads` tells how the reads of its units went. -/
def storeRead (q : Nat) (reads : List UnitRead) (s : State) : State :=
  if s.storeReads then
    match s.popPacket (42 + q) with
    | none => s
    | some (s1, _, _) => reads.foldl State.readEffects s1
  else s

/-- STORE_READ as a command: `q` 0 for Q42, 1 for Q43. -/
def execStoreRead (q : Fin 2) (reads : List UnitRead) (s : State) : Res := s.whenLive (storeRead q reads)

/-- PATROL_READ (R463): a closed superblock is read. -/
def patrolRead (i : Nat) (reads : List UnitRead) (s : State) : State :=
  if s.store.mode = .ready ∧ s.cfgN 0x4C01 10 ≠ 0 ∧ i < s.storeNv.sbs.length ∧ (s.sb i).state = .closed then
    (reads.filter (fun r => (s.validIn i).any (fun p => p.1 == r.mun))).foldl State.readEffects
      s
  else s

/-- PATROL_READ as a command. -/
def execPatrolRead (sb : Nat) (reads : List UnitRead) (s : State) : Res := s.whenRunning (patrolRead sb reads)

/-- UNIT_RELOCATE (R462): the units that needed retries or many corrections are rewritten with ORIGIN 3. -/
def unitRelocate (s : State) : State :=
  if s.store.mode = .ready then
    let l := s.store.weak.filterMap (fun m => match lookupKey m s.storeNv.map with | some (some l) => some (m, l) | _ => none)
    ({ s with store := { s.store with weak := [] } }).copyUnits 2 3 l
  else s

/-- UNIT_RELOCATE as a command. -/
def execUnitRelocate (s : State) : Res := s.whenRunning unitRelocate

/-! ### Reclaim, collection and wear (R457, R470 to R474) -/

/-- R457: a day of which records wait in DRAM is sealed, programmed and journaled before it is unmapped. -/
def State.flushDay (s : State) (day : Nat) : State :=
  if (s.store.openRecs ≠ [] ∧ s.store.openDay ≤ day) ∨ s.unitsInDram.any (fun u => u.kind ≤ 1 && decide (u.day ≤ day)) then
    let s1 := s.forceSeal
    (List.range ((s1.stream 0).units.length + 1)).foldl (fun st _ => programComplete 0 none (stripeProgram 0 st)) (programComplete 0 none s1)
  else s

/-- R457: a day is reclaimed, its records programmed first. -/
def State.reclaimSealed (s : State) (day : Nat) : State :=
  let s1 := s.flushDay day
  match s1.storeNv.days.find? (fun x => x.day == day) with
  | some d => s1.reclaimDay d
  | none => s1

/-- DAY_RECLAIMED (R457): the oldest reclaimable day is reclaimed where that is due. -/
def dayReclaimed (s : State) : State :=
  if s.store.mode = .ready ∧ s.reclaimDue ∧ s.journalRoom 1 then
    match s.dueDay with
    | some d => s.reclaimSealed d.day
    | none => s
  else s

/-- DAY_RECLAIMED as a command. -/
def execDayReclaimed (s : State) : Res := s.whenRunning dayReclaimed

/-- R459: a READ_ONLY store that can free a superblock becomes READY and raises 0x4C04. -/
def State.tryResume (s : State) : State :=
  let s1 := if s.freeSbs.length < 2 then s.assemble else s
  let can := decide (2 ≤ s1.freeSbs.length) || s1.closedSbs.any (fun i => (s1.validIn i).length < s1.stripeUnits (s1.sb i).dies * s1.pagesPerBlock) ||
    s1.dueDay.isSome
  if s1.store.mode = .readOnly ∧ 2 ≤ s1.activeDies.length ∧ can then
    ({ s1 with store := { s1.store with mode := .ready } }).event 0x4C04 fteCell (leBytes 4 s1.freeSbs.length)
  else s

/-- STORE_RESUMED (R459). -/
def execStoreResumed (s : State) : Res := s.whenRunning State.tryResume

/-- The refusal code of a store command, kept in 0x4C30.4. -/
def State.storeAnswer (s : State) (code : Nat) : State × Nat :=
  (if code = Abort.ok then s else { s with store := { s.store with abort := code } }, code)

/-- RECLAIM_THROUGH (R457). -/
def reclaimThrough (day : Nat) (s : State) : State × Nat :=
  match s.store.mode with
  | .unformatted | .mounting | .formatting | .offline _ => s.storeAnswer Abort.notInState
  | _ =>
    if !s.reclaimable day then s.storeAnswer Abort.valueRange
    else
      let s1 := s.flushDay day
      let ds := sortInts ((s1.storeNv.days.filter (fun d => decide (d.day ≤ day))).map (fun d => (d.day : Int)))
      let s2 := ds.foldl (fun st d => match st.storeNv.days.find? (fun x => (x.day : Int) == d) with
        | some x => st.reclaimDay x | none => st) s1
      (s2.tryResume, Abort.ok)

/-- RECLAIM_THROUGH as a command. -/
def execReclaimThrough (role day : Nat) (s : State) : Res := s.command 0x4C30 3 role .operator (reclaimThrough day)

/-- STORE_FULL_HOURLY (R458). -/
def storeFullHourly (s : State) : State :=
  if s.store.mode = .readOnly ∧ s.store.fullAt + cSec 3600 ≤ s.now then s.fullAlarm else s

/-- STORE_FULL_HOURLY as a command. -/
def execStoreFullHourly (s : State) : Res := s.whenRunning storeFullHourly

/-- R477: the units of the superblocks that contain a retiring die are copied elsewhere. -/
def State.relocateDies (s : State) : State :=
  let ds := (List.range 16).filter (fun d => (s.die d).state == 2)
  match s.closedSbs.find? (fun i => (s.sb i).dies.any ds.contains && s.validIn i != []) with
  | none => s
  | some i =>
    let n := (s.validIn i).length
    let s1 := s.copyUnits 2 3 (s.validIn i)
    ds.foldl (fun st d => if (s.sb i).dies.contains d then st.updDie d (fun x => { x with relocated := x.relocated + n }) else st) s1

/-- GARBAGE_COLLECTION (R470, R471, R477). -/
def garbageCollection (s : State) : State :=
  if s.store.mode ≠ .ready then s
  else
    let s0 := s.relocateDies
    if s0.cfgN 0x4C01 3 ≤ s0.freeSbs.length then s0
    else
      match s0.closedSbs.find? (fun i => s0.validIn i == []) with
      | some i => s0.updSb i (fun b => { b with state := .erasing })
      | none =>
        match (if s0.reclaimDue then s0.dueDay else none) with
        | some d => s0.reclaimSealed d.day
        | none =>
          match leastBy (fun i => (s0.validIn i).length) s0.closedSbs with
          | some i => s0.copyUnits 2 1 (s0.validIn i)
          | none => s0

/-- GARBAGE_COLLECTION as a command. -/
def execGarbageCollection (s : State) : Res := s.whenRunning garbageCollection

/-- ERASE_COMPLETE (R471, R475): the erase of a superblock is done, or has failed on a die and plane. -/
def eraseComplete (i : Nat) (failed : Option (Nat × Nat)) (s : State) : State :=
  if i < s.storeNv.sbs.length ∧ (s.sb i).state = .erasing ∧ s.journalRoom 2 then
    let s1 := (s.journal 0 i 0 3).updNv (fun n => { n with pages := n.pages.filter (fun p => p.at'.sb ≠ i) })
    let s2 := (s1.updSb i (fun b => { b with state := .free, erases := b.erases + 1 })).storeCount 8 1
    match failed with
    | none => s2
    | some (d, p) => (s2.storeCount 13 1).retireBlock i d p 2
  else s

/-- ERASE_COMPLETE as a command. -/
def execEraseComplete (sb : Nat) (failed : Option (Nat × Nat)) (s : State) : Res := s.whenLive (eraseComplete sb failed)

/-- WEAR_MOVE (R474): the coldest superblock is moved onto the most-worn free one. -/
def wearMove (s : State) : State :=
  let x := s.stream 3
  if s.store.mode = .ready ∧ x.sb = none ∧ x.units = [] ∧ x.flying = [] ∧ s.cfgN 0x4C01 6 < s.eraseSpread then
    match leastBy (fun i => (s.sb i).erases) s.closedSbs, leastBy (fun i => 0xFFFFFFFF - (s.sb i).erases) s.freeSbs with
    | some src, some dst =>
      let s1 := s.openSb 3 dst
      ((if s.validIn src = [] then (s1.closeStream 3).eraseIfEmpty src else s1.copyUnits 3 2 (s.validIn src))).event 0x4C0C fteCell
        (leBytes 2 src ++ leBytes 2 dst ++ leBytes 2 s.eraseSpread)
    | _, _ => s
  else s

/-- WEAR_MOVE as a command. -/
def execWearMove (s : State) : Res := s.whenRunning wearMove

/-- DIE_REBUILD_DONE (R477): nothing valid is left in a superblock with the retiring die. -/
def dieRebuildDone (d : Nat) (s : State) : State :=
  if (s.die d).state = 2 ∧ (List.range s.storeNv.sbs.length).all (fun i => !(s.sb i).dies.contains d || s.validIn i == []) then
    (s.updDie d (fun x => { x with state := 3 })).event 0x4C08 (dieCell d)
      (leBytes 4 (s.die d).relocated ++ leBytes 4 ((s.now - (s.die d).retiringAt) / cSec 1))
  else s

/-- DIE_REBUILD_DONE as a command. -/
def execDieRebuildDone (die : Fin 16) (s : State) : Res := s.whenRunning (dieRebuildDone die)

/-! ### Checkpoints (R469) -/

/-- R467: a map entry as it stands in a checkpoint. -/
def mapWord (e : Option (Option Loc)) : Nat :=
  match e with
  | none => 0xFFFFFFFF
  | some none => 0xFFFFFFFE
  | some (some l) => l.word

/-- Page `n` of a checkpoint of the map. -/
def State.mapPage (s : State) (n : Nat) : Bytes :=
  ((List.range 4096).map (fun i => leBytes 4 (mapWord (lookupKey (4096 * n + i) s.storeNv.map)))).flatten

/-- MAP_CHECKPOINT (R469): a full journal half starts a checkpoint of the whole map. -/
def mapCheckpoint (s : State) : State :=
  if s.store.mode = .ready ∧ !s.store.ckpting ∧ (s.storeNv.otherHalf ∨ journalHalf ≤ s.storeNv.journal.length) then
    let n := (s.root.units + 4095) / 4096
    let s1 := (List.range n).foldl (fun st i => st.enqueue 2 true
      (UnitBuf.mk noMun 6 0 0 0 (s.mapPage i) none 0 i s.now)) s
    let s2 := if s.storeNv.otherHalf then s1 else s1.updNv (fun v => { v with journal := [], otherHalf := true })
    { s2 with store := { s2.store with ckpting := true, ckptLocs := [] } }
  else s

/-- MAP_CHECKPOINT as a command. -/
def execMapCheckpoint (s : State) : Res := s.whenRunning mapCheckpoint

/-- CHECKPOINT_COMPLETE (R469): the root names the checkpoint and the first half is free. -/
def checkpointComplete (s : State) : State :=
  if s.store.ckpting ∧ !s.store.streams.any (fun x => (x.units ++ x.flying).any (fun u => u.kind == 6)) then
    let s1 := s.updNv (fun n => { n with
      otherHalf := false, root := n.root.map (fun r => { r with checkpoint := s.store.ckptLocs, lastDurable := n.durable }) })
    { s1 with store := { s1.store with ckpting := false, ckptLocs := [] } }
  else s

/-- CHECKPOINT_COMPLETE as a command. -/
def execCheckpointComplete (s : State) : Res := s.whenLive checkpointComplete

/-! ### Meter images (R479 to R482) -/

/-- R479: the 64 records of an image unit; a record not in use is zeros. -/
def State.imageBytes (s : State) (unit : Nat) : Bytes :=
  ((List.range 64).map (fun i => match s.meter (64 * unit + i) with | some m => padTo 256 m.bytes | none => zeros 256)).flatten

/-- R479: an image unit of which a record has changed is to be written within 1 s. -/
def State.imageDue (s : State) (meter : Nat) : State :=
  { s with store := { s.store with dueUnits := if s.store.dueUnits.contains (meter / 64) then s.store.dueUnits else s.store.dueUnits ++ [meter / 64] } }

/-- Whether an image unit holds a record in use. -/
def State.unitUsed (s : State) (unit : Nat) : Bool := s.mtr.table.any (fun p => p.1 / 64 == unit)

/-- R480: the snapshot of an image unit; its changes are then in it. -/
def State.snapUnit (s : State) (unit : Nat) : State :=
  { s with store := { s.store with
      snaps := s.store.snaps ++ [Snap.mk unit (s.imageBytes unit)], dueUnits := s.store.dueUnits.filter (· ≠ unit) } }

/-- R479, R480: a snapshot is taken and its marker enters Q40; it waits when Q40 is full. -/
def imageUnitWrite (unit : Nat) (s : State) : State :=
  if s.store.mode = .ready ∧ (s.unitUsed unit ∨ s.store.dueUnits.contains unit) ∧ !s.store.snaps.any (fun x => x.unit == unit) then
    if s.store.imagesOwed.contains unit then (s.snapUnit unit).takeMarker unit
    else
      match s.pushPacket 40 0x2200 (leBytes 4 unit) with
      | some s1 => s1.snapUnit unit
      | none => s.backpressure 40
  else s

/-- IMAGE_UNIT_WRITE (R479): by sweep or after a record change. -/
def execImageUnitWrite (unit : Fin 16384) (s : State) : Res := s.whenLive (imageUnitWrite unit)

/-- R481: one record of the tail replayed into its meter's record. -/
def replayRecord (m : Meter) (r : Bytes) : Meter :=
  let fl := fieldLE r 7 1
  if 128 ≤ fl then
    let m1 := if fieldLE r 14 1 = 2 then
        { m with prevHigh := m.fcHigh, prevBitmap := m.fcBitmap, fcHigh := 0, fcBitmap := 0, gen := fieldLE r 8 2, dlFc := 0
                 state := 2, switchTime := fieldLE r 20 4, rflags := clearBit m.rflags 1 }
      else m
    let m2 := { m1 with pendingGen := fieldLE r 12 2, joinFcHigh := fieldLE r 16 4, link := fieldLE r 24 1 }
    if fieldLE r 15 1 = 0 then m2
    else if fieldLE r 10 2 = m2.gen then
      (let w := applyFc (fieldLE r 0 4) m2.fcHigh m2.fcBitmap
       { m2 with fcHigh := w.1, fcBitmap := w.2 })
    else if (fieldLE r 10 2 + 1) % 65536 = m2.gen then
      (let w := applyFc (fieldLE r 0 4) m2.prevHigh m2.prevBitmap
       { m2 with prevHigh := w.1, prevBitmap := w.2 })
    else m2
  else
    let m1 := if bit fl 5 then
        (let d := (fieldLE r 9 1 + 256 - m.fcHigh % 256) % 256
         let fc := if 128 ≤ d then m.fcHigh + d - 256 else m.fcHigh + d
         let w := applyFc fc m.fcHigh m.fcBitmap
         { m with fcHigh := w.1, fcBitmap := w.2 })
      else m
    if bits fl 2 3 = 0 then
      let n := fieldLE r 0 4
      let vals := (List.range 4).map (fun i => fieldLE r (12 + 5 * i) 5)
      let m2 := { m1 with base := pushBase m1.base n vals }
      if bits fl 0 2 ≤ 1 ∧ m2.lgId < n then { m2 with lgId := n, lgVal := vals, lgOutcome := bits fl 0 2 } else m2
    else m1

/-- R481: the copies of an image unit that can be read: copy, image SEQ plus 1, PSEQ, content. -/
def State.imageCopies (s : State) (unit : Nat) : List (Nat × Nat × Nat × Bytes) :=
  [0, 1].filterMap (fun c =>
    let mun := 1344 + 16384 * c + unit
    match lookupKey mun s.storeNv.map with
    | some (some l) => (s.pageAt l).map (fun p => (c, (p.aseq + 1) % 2 ^ 64, p.pseq, (s.unitData mun).getD []))
    | _ => none)

/-- The newer of the copies. -/
def newestCopy (l : List (Nat × Nat × Nat × Bytes)) : Option (Nat × Nat × Nat × Bytes) :=
  l.foldl (fun b x => match b with
    | none => some x
    | some y => if y.2.1 < x.2.1 ∨ (y.2.1 = x.2.1 ∧ y.2.2.1 < x.2.2.1) then some x else b) none

/-- The durable records with their ASEQs, in ASEQ order by unit. -/
def State.tail (s : State) : List (Nat × Bytes) :=
  let us := s.storeNv.map.filterMap (fun p => match p.2 with
    | some l => (match s.pageAt l with | some g => if g.kind = 0 then some (g.aseq, p.1) else none | none => none)
    | none => none)
  (((us.foldl (fun acc p => insertKey p.1 p.2 acc) []).map (fun p => numbered p.1 (unitRecords ((s.unitData p.2).getD [])))).flatten)

/-- R481, R482: an image unit restored: its records with the tail replayed, or 0x4C0A when both copies are lost. The count is
that of the records replayed. -/
def State.restoreUnit (s : State) (tail : List (Nat × Bytes)) (unit : Nat) : State × Nat :=
  match newestCopy (s.imageCopies unit) with
  | none =>
    (if s.unitLost (1344 + unit) ∨ s.unitLost (17728 + unit) then
       s.event 0x4C0A fteCell ([byte 2, 0, 0, 0] ++ leBytes 4 (1344 + unit) ++ leBytes 4 1) else s, 0)
  | some (c, seq1, _, data) =>
    let mine := tail.filter (fun p => decide (seq1 ≤ p.1) && fieldLE p.2 4 3 / 64 == unit)
    let ms := (List.range 64).filterMap (fun i =>
      let m := meterOf (slice data (256 * i) 256)
      if m.state = 0 then none
      else some (64 * unit + i, (mine.filter (fun p => fieldLE p.2 4 3 == 64 * unit + i)).foldl (fun a p => replayRecord a p.2) m))
    ({ s with mtr := { s.mtr with table := ms.foldl (fun t p => insertKey p.1 p.2 t) s.mtr.table }
              store := { s.store with copies := insertKey unit c s.store.copies } }, mine.length)

/-- R481: the meter table restored; the count of records replayed. -/
def State.restoreTable (s : State) : State × Nat :=
  let units := (s.storeNv.map.filterMap (fun p =>
    if 1344 ≤ p.1 ∧ p.1 < 34112 then some ((p.1 - 1344) % 16384) else none)).eraseDups
  let tail := s.tail
  units.foldl (fun a u => let r := a.1.restoreUnit tail u; (r.1, a.2 + r.2)) (s, 0)

/-! ### Format and mount (R460, R465, R472, R483 to R485) -/

/-- R460: whether the dies found make an array that the store can use. -/
def arrayOk (l : List (Nat × DieParam)) : Bool :=
  match l with
  | [] => false
  | p :: _ =>
    decide (2 ≤ l.length ∧ l.length ≤ 16) && l.all (fun x => decide (x.1 < 16) && decide (32 ≤ x.2.gbit ∧ x.2.gbit ≤ 256) &&
      decide (x.2.planes = p.2.planes ∧ x.2.pages = p.2.pages) && [1, 2, 4].contains x.2.planes &&
      decide (64 ≤ x.2.pages ∧ x.2.pages ≤ 4096 ∧ x.2.blocks ≤ 16383 ∧ x.2.pageBytes = 16384 ∧ 2048 ≤ x.2.spare))

/-- R485, R465: 0x4C0B StoreOffline. -/
def State.storeOffline (s : State) (cause : Nat) : State :=
  ({ s with store := { s.store with mode := .offline cause } }).event 0x4C0B fteCell [byte cause]

/-- R484, R559: the vault creates a new data key with the next KEY_ID, keeps it wrapped, and loads it. -/
def State.newDataKey (s : State) : State :=
  let r := s.freeBytes 64
  let s1 := r.1
  let ident := s1.vaultNv.lastKeyId + 1
  let banks := s1.vaultNv.banks.mapIdx (fun i b =>
    if b.written && (s1.vault.bothBanks || i == s1.vault.bankInUse) then
      { b with keyId := ident, storeKey := keyWrap (sealingKey b.labelM b.labelLcs) r.2 } else b)
  { s1 with vaultNv := { s1.vaultNv with banks := banks, lastKeyId := ident }
            vault := { s1.vault with dataKey := r.2, keyId := ident, regs := s1.vault.regs.set Consumer.nandXts.index ⟨0, 0, r.2⟩ } }

/-- R475: the spares that a die keeps per plane: 2 % of its blocks, and at least 4. -/
def spareTarget (blocks : Nat) : Nat := max 4 (blocks * 2 / 100)

/-- R484: what a format starts: StoreState reads FORMATTING. -/
def State.startFormat (s : State) (ofReady : Bool) : State :=
  { s with store := { s.store with mode := .formatting, formatReady := ofReady } }

/-- The four streams, empty. -/
def noStreams : List Stream := List.replicate 4 ⟨none, 0, [], [], 0, false⟩

/-- R484: superblocks and spares assigned over the dies found; `bad` are the factory marks (die, plane, block). -/
def State.layOut (s : State) (bad : List (Nat × Nat × Nat)) : State :=
  let geom := s.board.nand
  let planes := match geom with | p :: _ => p.2.planes | [] => 1
  let pages := match geom with | p :: _ => p.2.pages | [] => 64
  let good := fun (d : Nat) (p : Nat) (b : Nat) =>
    b - ((bad.filter (fun x => x.1 == d && x.2.1 == p && decide (x.2.2 < b))).eraseDups).length
  let avail := (geom.map (fun g => (List.range planes).map (fun p => good g.1 p g.2.blocks - spareTarget g.2.blocks))).flatten
  let n := match avail with | [] => 0 | a :: r => r.foldl min a
  let dies := geom.map (·.1)
  let units := n * ((dies.length - 1) * planes * pages)
  let recs := (List.range 16).map (fun d => match geom.find? (fun g => g.1 == d) with
    | some g => { state := 1, spares := (List.range planes).map (fun p => good d p g.2.blocks - n), retired := 0, rebuilds := []
                  retiringAt := 0, relocated := 0 : DieRec }
    | none => default)
  { s with
    storeNv := { root := some { geom := geom, keyId := s.vault.keyId, clean := false, lastDurable := none, floor := 0, units := units
                                checkpoint := [] }
                 map := [], journal := [], otherHalf := false, jseq := 0
                 sbs := List.replicate n ⟨.free, 0, dies, []⟩, dies := recs, days := [], pages := [], pseq := 0, jpseq := 0
                 ringNext := ringBase, durable := none }
    store := { s.store with timing := timingMode geom, nextAseq := 0, openDay := 0, openMun := 0, openRecs := [], streams := noStreams, index := [], indexCount := 0
                            snaps := [], copies := [], imagesOwed := [], dueUnits := [], weak := [], ckpting := false, ckptLocs := [] } }

/-- R459, R484: FORMAT. -/
def format (v : Nat) (s : State) : State × Nat :=
  if v ≠ 0xA5 then s.storeAnswer Abort.valueRange
  else match s.store.mode with
    | .mounting | .formatting => s.storeAnswer Abort.busy
    | .readOnly => s.storeAnswer Abort.storeFull
    | .offline 1 => if arrayOk s.board.nand then (s.startFormat false, Abort.ok) else (s.storeOffline 1, Abort.ok)
    | .offline _ => s.storeAnswer Abort.notInState
    | .unformatted => if arrayOk s.board.nand then (s.startFormat false, Abort.ok) else (s.storeOffline 1, Abort.ok)
    | .ready => (s.startFormat true, Abort.ok)

/-- FORMAT as a command. -/
def execFormat (role v : Nat) (s : State) : Res := s.command 0x4C30 1 role .keyholder (format v)

/-- FORMAT_COMPLETE (R484): the format has run; a store that was READY owes an image of every unit in use, and 0x4C30.1's store is
READY. -/
def formatComplete (bad : List (Nat × Nat × Nat)) (s : State) : State :=
  if s.store.mode = .formatting then
    let was := s.store.formatReady
    let s1 := (s.newDataKey.layOut bad)
    let owed := if was then (s.mtr.table.map (fun p => p.1 / 64)).eraseDups else []
    { s1 with store := { s1.store with mode := .ready, imagesOwed := owed, formatReady := false } }
  else s

/-- FORMAT_COMPLETE as a command; `bad` are the factory bad-block marks read. -/
def execFormatComplete (bad : List (Nat × Nat × Nat)) (s : State) : Res := s.whenRunning (formatComplete bad)

/-- R454, R483: the day directory as the array shows it. -/
def State.rebuildDays (s : State) : State :=
  let us := s.storeNv.map.filterMap (fun p => match p.2 with
    | some l => (match s.pageAt l with
      | some g => if g.kind ≤ 1 then some (UnitBuf.mk p.1 g.kind 0 g.aseq g.day ([]) none (if g.kind = 0 then (unitRecords ((s.unitData p.1).getD [])).length else 0) 0 0) else none
      | none => none)
    | none => none)
  let sorted := (us.foldl (fun acc u => insertKey (u.aseq * 2 ^ 32 + u.mun) u acc) []).map (·.2)
  let lost := s.storeNv.days.map (fun d => { d with units := d.units.filter s.unitLost, segments := [], records := 0 })
  s.updNv (fun n => { n with days := (sorted.foldl (fun acc u => putDay u acc) lost).filter (fun d => d.units != [] || d.segments != []) })

/-- R454, R483 step 8: the open day's index rebuilt from the records of the newest day held. -/
def State.rebuildIndex (s : State) : State :=
  match s.storeNv.days.foldl (fun b d => match b with | none => some d | some e => if e.day < d.day then some d else some e) (none : Option DayDir) with
  | none => { s with store := { s.store with openDay := s.utcDay } }
  | some d =>
    let rs := (d.units.map (fun m => (unitRecords ((s.unitData m).getD [])).mapIdx (fun i r => (fieldLE r 4 3, 4 * m + i / 128)))).flatten
    { s with store := { s.store with openDay := d.day, index := rs.foldl (fun l r => addBatch r.1 r.2 l) [], indexCount := rs.length } }

/-- R472, R483 step 5: open superblocks scanned: whole append stripes above the journal are mapped, other pages are orphans.
`torn` are the PSEQs of stripes that are not complete with parity. -/
def State.rollForward (s : State) (torn : List Nat) : State :=
  let above := s.storeNv.pages.filter (fun p => decide (s.storeNv.jpseq < p.pseq))
  let good := above.filter (fun p => !torn.contains p.pseq && p.origin == 0 && decide (p.kind ≤ 1))
  let stripes := (good.map (·.pseq)).eraseDups
  let orphans := (above.filter (fun p => !stripes.contains p.pseq)).length
  let s1 := s.updNv (fun n => { n with
    map := good.foldl (fun m p => insertKey p.mun (some p.at') m) n.map
    pages := n.pages.filter (fun p => !(decide (n.jpseq < p.pseq) && torn.contains p.pseq)), jpseq := n.pseq
    durable := good.foldl (fun d p => if p.kind = 0 then
        some (max (d.getD 0) (p.aseq + (unitRecords (xtsCrypt (s.reg .nandXts).key false (4 * p.mun) p.data)).length - 1)) else d) n.durable
    sbs := n.sbs.map (fun b => if b.state = .opened then { b with state := .closed } else b) })
  (s1.storeCount 15 orphans).storeCount 16 stripes.length

/-- R483, R484, R485: the mount at cast-on. `torn` as in rollForward; `ms` is the mount time. -/
def State.mount (s : State) (torn : List Nat) (ms : Nat) : State :=
  match s.storeNv.root with
  | none =>
    if !arrayOk s.board.nand then s.storeOffline 1
    else if s.vault.lockdown ∨ s.vault.unsealFail ≠ 0 then s.storeOffline 2 else s.startFormat false
  | some r =>
    if !arrayOk s.board.nand ∨ s.board.nand ≠ r.geom then s.storeOffline 1
    else if s.vault.dataKey = [] then
      (if s.vault.lockdown ∨ s.vault.unsealFail ≠ 0 ∨ s.vault.keyId ≠ 0 then s.storeOffline 2 else s.startFormat false)
    else
      let s0 := { s with vault := { s.vault with regs := s.vault.regs.set Consumer.nandXts.index ⟨0, 0, s.vault.dataKey⟩ } }
      let s1 := (s0.rollForward torn).rebuildDays
      let next : Nat := Nat.max r.floor (match s1.storeNv.durable with | some a => a + 1 | none => 0)
      let s2 := { s1 with store := { s1.store with mode := .ready, nextAseq := next, streams := noStreams, timing := timingMode s.board.nand } }
      let t : State × Nat := s2.rebuildIndex.restoreTable
      let s3 := t.1.updNv (fun n => { n with root := n.root.map (fun x => StoreRoot.mk x.geom x.keyId false x.lastDurable x.floor x.units x.checkpoint) })
      let s4 := s3.event 0x4C01 fteCell ([byte (b2n r.clean), 0, 0, 0] ++ leBytes 4 ms ++ leBytes 4 t.2)
      let s5 := if r.clean then s4 else s4.event 0x4C02 fteCell (leBytes 8 (s1.storeNv.durable.getD 0))
      if s5.activeDies.length < 2 then s5.enterReadOnly else s5

/-- R486: the store's part of the last gasp: what waits in Q41 is taken, the pending event images are written, a seal is forced without the open
day's index, and everything is programmed and journaled; the root says CLEAN. The `late` last packets of Q41 were committed after that (R710
step 6). -/
def State.storeGasp (s : State) (whole : Bool) (late : Nat) : State :=
  if s.store.mode ≠ .ready then s
  else
    let n := ((at' s.queue.queues 41).cells.filter (·.last)).length - late
    let s1 := (List.range n).foldl (fun st _ => recordAppend st) s
    let s2 := s1.store.dueUnits.foldl (fun st u => if st.store.snaps.any (fun x => x.unit == u) then st else (st.snapUnit u).takeMarker u) s1
    let s2 := [0, 1].foldl (fun st k => st.updStream k (fun x => { x with force := x.units != [] })) s2.sealUnit
    let runs := (List.range 4).foldl (fun m k => max m ((s2.stream k).units.length + 1)) 1
    let s3 := (List.range runs).foldl (fun st _ => [0, 1, 2, 3].foldl (fun a k => stripeProgram k (programComplete k none a)) st) s2
    let s4 := [0, 1, 2, 3].foldl (fun a k => programComplete k none a) s3
    if whole then s4.updNv (fun v => { v with root := v.root.map (fun r => { r with clean := true, lastDurable := v.durable }) }) else s4

end Sys2Proof.Machine
end

