-- ==== Sys2Proof/Machine/Dist.lean ====
section
/-!
DEFINITION. The distribution engine: commands, tariffs and meter images (chapter 12, R399 to R424).
-/
namespace Sys2Proof.Machine

/-- `n` more on count `i` (from 1) of 0x3C50. -/
def State.distCount (s : State) (i n : Nat) : State :=
  { s with dist := { s.dist with counters := upd s.dist.counters (i - 1) (· + n) } }

/-! ### Command queues (R400, R410) -/

/-- The commands of a meter, the oldest first. -/
def State.cmds (s : State) (meter : Nat) : List MCmd := (lookupKey meter s.dist.queues).getD []

/-- R399: the fields of a record that control item 10 sets: 0 T_STATE and T_SILENT, 1 I_STATE and I_SILENT, 2 T_VER, 3 METER_FW, 4 CMD_QUEUED,
5 TARIFF, 6 IMAGE. -/
def Meter.withField (m : Meter) (field v : Nat) : Meter :=
  match field with
  | 0 => { m with tState := v % 256, tSilent := v / 256 }
  | 1 => { m with iState := v % 256, iSilent := v / 256 }
  | 2 => { m with tVer := v }
  | 3 => { m with meterFw := v }
  | 4 => { m with cmdQueued := v }
  | 5 => { m with tariff := v }
  | _ => { m with image := v }

/-- R148, R399: a field of a meter's record is to change, by a control item. -/
def State.setField (s : State) (meter field v : Nat) : State := s.oweCtl distCell meter 10 field v []

/-- The commands of a meter replaced. -/
def State.setCmds (s : State) (meter : Nat) (l : List MCmd) : State :=
  { s with dist := { s.dist with queues := if l = [] then eraseKey meter s.dist.queues else insertKey meter l s.dist.queues } }

/-- The same, with CMD_QUEUED of the record where their number changes (R399). -/
def State.putCmds (s : State) (meter : Nat) (l : List MCmd) : State :=
  if l.length = (s.cmds meter).length then s.setCmds meter l else (s.setCmds meter l).setField meter 4 l.length

/-- A command of a meter changed. -/
def State.updCmd (s : State) (meter ident : Nat) (f : MCmd → MCmd) : State :=
  s.setCmds meter ((s.cmds meter).map (fun x => if x.ident = ident then f x else x))

/-- R400: entries in all. -/
def State.cmdTotal (s : State) : Nat := s.dist.queues.foldl (fun n q => n + q.2.length) 0

/-- R410: the outcomes of the last 4,096 commands. -/
def State.noteOutcome (s : State) (o : CmdOutcome) : State :=
  let l := s.dist.outcomes ++ [o]
  { s with dist := { s.dist with outcomes := l.drop (l.length - 4096) } }

/-- R400, R401: a command submitted; none beyond a limit. Its CMD_TAG is that which its turn will give it. -/
def State.queueCommand (s : State) (meter cmdId : Nat) (args : Bytes) (origin : Nat) : Option (State × Nat) :=
  match s.meter meter with
  | none => none
  | some m =>
    let q := s.cmds meter
    if 4 ≤ q.length ∨ 65536 ≤ s.cmdTotal then none
    else
      let tag := match q.reverse.find? (fun c => c.tries == 0) with
        | some c => (c.tag + 1) % 65536
        | none => m.nextTag
      let c : MCmd := { ident := s.dist.nextIdent, cmdId := cmdId, args := args, tag := tag, state := 1, tries := 0, frame := []
                        sentAt := 0, rebuild := false, heldFor := 0, heldAt := none, origin := origin, resends := 0, asked := false }
      some (({ s with dist := { s.dist with nextIdent := s.dist.nextIdent + 1 } }).putCmds meter (q ++ [c]), tag)

/-- R407: a command of the engine's own: queued, or owed until the queue has room. -/
def State.engineCommand (s : State) (meter cmdId : Nat) (args : Bytes) : State :=
  match (if s.dist.owed.any (fun o => o.1 == meter) then none else s.queueCommand meter cmdId args 1) with
  | some r => r.1
  | none => if (s.meter meter).isSome then { s with dist := { s.dist with owed := s.dist.owed ++ [(meter, (cmdId, args))] } } else s

/-- What is owed to a meter enters its queue while it has room. -/
def State.drainOwed (s : State) (meter : Nat) : State :=
  match s.dist.owed.find? (fun o => o.1 == meter) with
  | none => s
  | some o =>
    match s.queueCommand meter o.2.1 o.2.2 1 with
    | some r => { r.1 with dist := { r.1.dist with owed := r.1.dist.owed.erase o } }
    | none => s

/-- COMMAND_REQUEST (R410). An APDU without its PROTOCOL byte or with more than 180 bytes of DATA (R119) is refused with VALUE_RANGE (log entry 75). -/
def commandRequest (v : Nat) : State → State × Nat := one v (fun s =>
  let cmd := s.cfgN 0x3C10 1
  let allowed := decide (cmd = 0x10 ∨ cmd = 0x11 ∨ cmd = 0x80 ∨ (0x40 ≤ cmd ∧ cmd ≤ 0x7F))
  match s.selected with
  | none => (s, Abort.unknownMeter)
  | some (i, _) =>
    let n := (s.val 0x3C10 2).length
    if !allowed ∨ (cmd = 0x80 ∧ (n = 0 ∨ 181 < n)) then (s, Abort.valueRange)
    else match s.queueCommand i cmd (s.val 0x3C10 2) 0 with
      | none => (s, Abort.noResource)
      | some r => ({ r.1 with dist := { r.1.dist with lastTag := r.2 } }, Abort.ok))

/-- COMMAND_REQUEST as a command. -/
def execCommandRequest (role v : Nat) (s : State) : Res := s.command 0x3C10 3 role .operator (commandRequest v)

/-! ### Campaign records (R399, R413, R415) -/

/-- The campaign of a table or image slot. -/
def State.campaign (s : State) (kind slot : Nat) : Option Campaign :=
  s.dist.campaigns.find? (fun c => c.kind == kind && c.slot == slot)

/-- The same, put in its place. -/
def State.putCampaign (s : State) (c : Campaign) : State :=
  let rest := s.dist.campaigns.filter (fun x => !(x.kind == c.kind && x.slot == c.slot))
  { s with dist := { s.dist with campaigns := rest ++ [c] } }

/-- R399: T_STATE or I_STATE, and T_SILENT or I_SILENT, of a meter. -/
def State.noteTarget (s : State) (kind : Nat) (t : Target) : State :=
  s.setField t.meter kind (t.state + 256 * t.silent)

/-- A target changed, in its campaign and in its record. -/
def State.setTarget (s : State) (kind slot : Nat) (t : Target) : State :=
  match s.campaign kind slot with
  | none => s
  | some c => (s.putCampaign { c with targets := c.targets.map (fun x => if x.meter = t.meter then t else x) }).noteTarget kind t

/-- R411: the object of a campaign: OBJECT, SIZE, DIGEST source and content. -/
def State.objectOf (s : State) (kind slot : Nat) : Option (Nat × Bytes) :=
  if kind = 0 then (lookupKey slot s.distNv.tariffs).map (fun t => (slot + 256 * t.version, t.data))
  else
    let i := at' s.distNv.images slot
    if i.state = 2 then some (i.object, i.data) else none

/-- R412: bytes of a block on a medium (0 power-line, 1 radio), and the blocks of an object of a size. -/
def bsize (medium : Nat) : Nat := if medium = 0 then 128 else 96
def blockCount (medium size : Nat) : Nat := (size + bsize medium - 1) / bsize medium

/-- The medium of a LINK of 0 to 4. -/
def mediumOf (link : Nat) : Nat := if link ≤ 2 then 0 else 1

/-- R408, R409: the arguments of an OFFER. -/
def State.offerArgs (s : State) (kind slot medium : Nat) : Bytes :=
  match s.objectOf kind slot with
  | none => []
  | some (o, d) =>
    [byte kind, byte slot, byte (bsize medium), 0] ++ leBytes 4 o ++ leBytes 4 d.length ++ leBytes 2 (s.cfgN 0x3C00 5) ++
      leBytes 2 (s.cfgN 0x3C00 6) ++ (sha384 d).take 16

/-- R414 step 1: an OFFER for a target; its state becomes offer pending. -/
def State.offer (s : State) (kind slot meter : Nat) : State :=
  match s.meter meter with
  | none => s
  | some m =>
    let md := mediumOf m.link
    (s.setTarget kind slot ⟨meter, 1, [], 0, false, 0, md⟩).engineCommand meter 0x12 (s.offerArgs kind slot md)

/-- R415: a WITHDRAW for a meter. -/
def State.withdraw (s : State) (kind slot object meter : Nat) : State :=
  s.engineCommand meter 0x15 ([byte kind, byte slot, 0, 0] ++ leBytes 4 object)

/-- R413: whether a meter may be a target. -/
def Meter.mayTarget (m : Meter) (kind slot : Nat) : Bool :=
  decide (m.state = 2 ∧ m.link ≤ 4) && (kind == 0 || m.image == 0xFF || m.image == slot)

/-- The state in which a target has all of its object: T_STATE confirmed, I_STATE complete or beyond. -/
def Target.done (kind : Nat) (t : Target) : Bool := if kind = 0 then t.state == 3 else t.state == 3 || t.state == 6 || t.state == 7

/-- R414: whether a campaign is offering or in a round. -/
def State.campaignRuns (s : State) (kind slot : Nat) : Bool :=
  match s.campaign kind slot with | some c => c.phase == .offering || c.phase == .round | none => false

/-- 0x3C04 CampaignEnded. -/
def State.endCampaign (s : State) (kind slot : Nat) : State :=
  match s.campaign kind slot with
  | none => s
  | some c =>
    let ts := c.targets.map (fun t => if t.state = 2 then { t with state := 5 } else t)
    let s1 := ts.foldl (fun st t => st.noteTarget kind t) (s.putCampaign { c with phase := .ended, targets := ts, lists := [] })
    s1.event 0x3C04 distCell ([byte kind, byte slot, byte c.rounds, 0] ++ leBytes 4 (ts.filter (Target.done kind)).length ++
      leBytes 4 (ts.filter (fun t => t.state == 5)).length)

/-- R414: a campaign over the given meters begins at step 1. -/
def State.startCampaign (s : State) (kind slot : Nat) (meters : List Nat) : State :=
  let ts := meters.map (fun m => Target.mk m 1 [] 0 false 0 0)
  meters.foldl (fun st m => st.offer kind slot m) (s.putCampaign ⟨kind, slot, .offering, 0, ts, [], s.now⟩)

/-- A meter added to a campaign: its OFFER goes at once; a campaign that does not run begins anew with it. -/
def State.addTarget (s : State) (kind slot meter : Nat) : State :=
  match s.campaign kind slot with
  | none => s.startCampaign kind slot [meter]
  | some c =>
    let t : Target := ⟨meter, 1, [], 0, false, 0, 0⟩
    let c1 := { c with targets := c.targets.filter (fun x => x.meter ≠ meter) ++ [t] }
    let c2 := if c.phase = .offering ∨ c.phase = .round then c1 else { c1 with phase := .offering, rounds := 0, lists := [] }
    (s.putCampaign c2).offer kind slot meter

/-- R415: a target removed; a WITHDRAW is queued when it is not complete. -/
def State.dropTarget (s : State) (kind slot object meter : Nat) : State :=
  match s.campaign kind slot with
  | none => s
  | some c =>
    match c.targets.find? (fun t => t.meter == meter) with
    | none => s
    | some t =>
      let s1 := s.putCampaign { c with targets := c.targets.filter (fun x => x.meter ≠ meter) }
      if t.done kind then s1 else s1.withdraw kind slot object meter

/-- R414 step 2: the answer to an OFFER: accepted, or not. -/
def State.offerAnswered (s : State) (meter : Nat) (args : Bytes) (ok : Bool) : State :=
  let kind := fieldLE args 0 1
  let slot := fieldLE args 1 1
  match s.campaign kind slot, s.objectOf kind slot with
  | some c, some (o, d) =>
    match c.targets.find? (fun t => t.meter == meter) with
    | some t =>
      if t.state ≠ 1 ∨ o ≠ fieldLE args 4 4 then s
      else if ok then
        let md := if fieldLE args 2 1 = 128 then 0 else 1
        s.setTarget kind slot { t with state := 2, medium := md, lacks := List.range (blockCount md d.length) }
      else s.setTarget kind slot { t with state := 5 }
    | none => s
  | _, _ => s

/-- R422: an IMAGE_ACTIVATE answered: activated with METER_FW, or failed. -/
def State.activateAnswered (s : State) (meter : Nat) (args : Bytes) (fw : Option Nat) : State :=
  let slot := fieldLE args 0 1
  match s.campaign 1 slot with
  | some c =>
    match c.targets.find? (fun t => t.meter == meter) with
    | some t =>
      match fw with
      | some v => (s.setTarget 1 slot { t with state := 7 }).setField meter 3 v
      | none => s.setTarget 1 slot { t with state := 5 }
    | none => s
  | none => s

/-! ### Sending commands (R401 to R405) -/

/-- A command is gone from its queue, and what is owed takes its place. -/
def State.dropCommand (s : State) (meter ident : Nat) : State :=
  (s.putCmds meter ((s.cmds meter).filter (fun c => c.ident ≠ ident))).drainOwed meter

/-- R403, R401, R405: a command fails: 0x3C02, its outcome, and what its failure means to a campaign. -/
def State.failCommand (s : State) (meter : Nat) (c : MCmd) (cause : Nat) : State :=
  let s1 := (s.dropCommand meter c.ident).noteOutcome ⟨meter, c.tag, if cause = 4 then 6 else 5, cause, c.tries, []⟩
  let s2 := s1.emit 0x3C02 distCell meter ([byte c.cmdId, byte cause] ++ leBytes 2 c.tag ++ [byte c.tries])
  if c.cmdId = 0x12 then s2.offerAnswered meter c.args false
  else if c.cmdId = 0x13 then s2.activateAnswered meter c.args none
  else s2

/-- R408, R119: the arguments as sent: those of NETWORK_KEY carry the key of the present generation; none while it cannot be delivered (R564). -/
def State.argsOf (s : State) (c : MCmd) : State × Option Bytes :=
  if c.cmdId = 2 then
    let r := s.downKey s.networkSlot (.raw 1)
    (r.1, r.2.map (fun k => leBytes 2 s.net.gen ++ padTo 16 k))
  else (s, some c.args)

/-- R635: how a frame for a meter of LINK 5 goes at the node that hears it: on the power-line along the way that R331 gives for a meter with
no route, on the radio by flood with TTL FloodTtl. -/
def State.returnPath (s : State) (m : Meter) : State × Path × Nat :=
  match lookupKey m.eui s.casc.returns with
  | some (_, r) =>
    if r = 3 ∨ r = 4 then
      (let q := s.takeFseq
       (q.1, .flood q.2 (s.cfgB (if r = 3 then .radio0 else .radio1) 0x3102 2), 1))
    else (s, .route ((lookupKey m.short s.plc.lastRoute).getD []), 0)
  | none => (s, .route [], 0)

/-- R402: how a frame for a meter goes: its path, its kind for the MAC, and whether it goes by flood. -/
def State.pathFor (s : State) (i : Nat) (m : Meter) : State × Path × Nat :=
  if m.link ≤ 2 then (s, .route (s.plcTarget m).2, 0)
  else if m.link ≤ 4 then
    if ((s.child (m.link - 3) i).map (fun c => c.state == 4)).getD false then
      (let q := s.takeFseq
       (q.1, .flood q.2 (s.floodTtlFor (m.link - 3) i), 1))
    else (s, .route [], 0)
  else if m.link = 5 then s.returnPath m
  else (s, .route [], 0)

/-- R91, R370, R401: whether a frame fits its meter's medium. -/
def State.fitsMedium (s : State) (m : Meter) (kind len : Nat) : Bool :=
  if m.link = 3 ∨ m.link = 4 then
    let p := m.link - 3
    (cellsOfSchedule (s.mac p).sched).any (fun c => c.kind == (if kind = 0 then 3 else 4) && s.fitsCell p c.mode len)
  else decide (len ≤ 255)

/-- R102, in the meter's lane: DL_FC rises by 65,536 before the first downlink that takes it. -/
def State.raisedNow (s : State) (i : Nat) : State :=
  if s.mtr.raised.contains i then s
  else ({ s with mtr := { s.mtr with raised := s.mtr.raised ++ [i] } }).updMeter i (fun m => { m with dlFc := m.dlFc + 65536 })

/-- R401: the COMMAND of a meter built under K_dn(GEN) with DL_FC, which rises by 1, in the meter's lane. -/
def State.buildCommand (s : State) (i : Nat) (c : MCmd) : State × Option (Bytes × Nat) :=
  let s0 := s.raisedNow i
  match s0.meter i with
  | none => (s0, none)
  | some m =>
    let p := s0.pathFor i m
    let a := p.1.argsOf c
    match a.2 with
    | none => (a.1, none)
    | some args =>
    let r := a.1.buildUnder m m.gen m.eui m.dlFc 9 m.short p.2.1 ([byte c.cmdId, 0] ++ leBytes 2 c.tag ++ args)
    match r.2 with
    | none => (r.1, none)
    | some f => (r.1.updMeter i (fun x => { x with dlFc := x.dlFc + 1 }), some (f, p.2.2))

/-- R402: the MAC that a LINK's frames go to: Q8 + this. -/
def State.routeNo (s : State) (m : Meter) : Nat := if m.link ≤ 2 then (s.plcTarget m).1 else m.link

/-- R319, R402, R403: the frame of a command is sent, or sent again; a frame held by the MAC makes the command held. -/
def State.sendCommand (s : State) (i : Nat) (m : Meter) (c : MCmd) (frame : Bytes) (kind : Nat) : State :=
  let f : MacFrame := { frame := frame, meter := i, dest := m.short, prio := 1, ident := c.ident, kind := kind, backoff := 0, cw := 0, tries := c.resends }
  let r := s.macSend (s.routeNo m) distCell m.eui f
  if !r.2 then r.1
  else
    let hold := decide (m.link = 3 ∨ m.link = 4) && kind == 0 && s.held (m.link - 3) i
    let c' := { c with state := if hold then 3 else 2, tries := c.tries + 1, frame := frame, sentAt := s.now, rebuild := false, heldFor := 0
                       heldAt := if hold then some s.now else none }
    (r.1.updCmd i c.ident (fun _ => c')).distCount 1 1

/-- R401, R404, R405: a command is built, or built anew, and sent; too long a frame fails with cause 2. -/
def State.buildAndSend (s : State) (i : Nat) (c : MCmd) : State :=
  match s.buildCommand i c with
  | (s1, none) => s1
  | (s1, some (f, kind)) =>
    match s1.meter i with
    | none => s1
    | some m => if s1.fitsMedium m kind f.length then s1.sendCommand i m { c with resends := 0 } f kind else s1.failCommand i c 2

/-- R401: the control item by which a command is taken (`b` 0), or built anew (1), is on its way. -/
def State.askCommand (s : State) (i ident b : Nat) : State :=
  (s.updCmd i ident (fun c => { c with asked := true })).oweCtl distCell i 11 ident b []

/-- R401, in the meter's lane: the commit of that control item: NEXT_TAG and DL_FC rise, and the command is built and sent. A rekey that has begun
since leaves the command queued (R400). -/
def State.commandTaken (s : State) (i ident b : Nat) : State :=
  match (s.cmds i).find? (fun c => c.ident == ident), s.meter i with
  | some c, some m =>
    let s1 := s.updCmd i ident (fun x => { x with asked := false })
    let c1 := { c with asked := false }
    if b = 1 then s1.buildAndSend i { c1 with state := 2 }
    else if c.state ≠ 1 ∨ bit m.rflags 1 then s1
    else (s1.updMeter i (fun x => { x with nextTag := (c.tag + 1) % 65536 })).buildAndSend i c1
  | _, _ => s

/-- COMMAND_TAKE (R400, R401): the command at the head of a meter's queue is taken, by a control item, when none is outstanding and no rekey is in
progress. -/
def commandTake (i : Nat) (s : State) : State :=
  match s.cmds i, s.meter i with
  | c :: _, some m => if c.state ≠ 1 ∨ c.asked ∨ bit m.rflags 1 then s else s.askCommand i c.ident 0
  | _, _ => s

/-- COMMAND_TAKE as a command. -/
def execCommandTake (meter : Nat) (s : State) : Res := s.whenRunning (commandTake meter)

/-- R403: the timeout of a command in counter counts. -/
def State.cmdTimeout (s : State) (m : Meter) (c : MCmd) : Nat :=
  cSec (if c.cmdId = 0x13 then s.cfgN 0x3C00 4 else if m.link ≤ 2 then s.cfgN 0x3C00 1 else s.cfgN 0x3C00 2)

/-- R403: the kind under which a frame is sent again. -/
def kindOf (f : Bytes) : Nat := if fFp f then 1 else 0

/-- COMMAND_TIMEOUT (R333, R403, R404): the outstanding command of a meter has had no answer in time, or only RESULT 3, which is an answer to
the links of its route. -/
def commandTimeout (i : Nat) (s : State) : State :=
  match s.cmds i, s.meter i with
  | c :: _, some m =>
    if c.state ≠ 2 ∨ c.asked ∨ s.now < c.sentAt + c.heldFor + s.cmdTimeout m c then s
    else
      let s1 := if c.rebuild then s else s.downUnanswered i (fLseq c.frame)
      if s1.cfgN 0x3C00 3 ≤ c.tries then s1.failCommand i c 1
      else if c.rebuild then s1.askCommand i c.ident 1
      else s1.sendCommand i m { c with resends := c.resends + 1 } c.frame (kindOf c.frame)
  | _, _ => s

/-- COMMAND_TIMEOUT as a command. -/
def execCommandTimeout (meter : Nat) (s : State) : Res := s.whenRunning (commandTimeout meter)

/-- R405: a generation switch makes the engine rebuild the outstanding command, by a control item (R401). -/
def State.rebuildCommand (s : State) (i : Nat) : State :=
  match s.cmds i with
  | c :: _ => if c.state = 1 ∨ c.asked then s else s.askCommand i c.ident 1
  | [] => s

/-- COMMAND_CANCEL (R423): the command of the tag in 0x3C11.1. -/
def commandCancel (v : Nat) : State → State × Nat := one v (fun s =>
  match s.selected with
  | none => (s, Abort.unknownMeter)
  | some (i, _) =>
    match (s.cmds i).find? (fun c => c.tag == s.cfgN 0x3C11 1) with
    | none => (s, Abort.valueInconsistent)
    | some c => if c.state = 1 then (s.failCommand i c 4, Abort.ok) else (s, Abort.valueInconsistent))

/-- COMMAND_CANCEL as a command. -/
def execCommandCancel (role v : Nat) (s : State) : Res := s.command 0x3C11 6 role .operator (commandCancel v)

/-- R405: a meter that is removed loses its queue, and its place in the campaigns. -/
def State.removeCommands (s : State) (i : Nat) : State :=
  let s0 := { s with dist := { s.dist with owed := s.dist.owed.filter (fun o => o.1 ≠ i) } }
  let s1 := (s.cmds i).foldl (fun st c => st.failCommand i c 3) s0
  { s1 with dist := { s1.dist with campaigns := s1.dist.campaigns.map (fun c => { c with targets := c.targets.filter (fun t => t.meter ≠ i) }) } }

/-- R403, R404, R408: a COMMAND_RESPONSE that has committed. -/
def State.commandResponse (s : State) (i : Nat) (body : Bytes) : State :=
  let cmd := fieldLE body 0 1
  let result := fieldLE body 1 1
  let tag := fieldLE body 2 2
  let data := body.drop 4
  match (s.cmds i).find? (fun c => c.state != 1 && c.tag == tag && c.cmdId == cmd) with
  | none => s.distCount 7 1
  | some c =>
    if result = 3 then (s.downAnswered i).updCmd i c.ident (fun x => { x with rebuild := true })
    else
      let s1 := (s.dropCommand i c.ident).noteOutcome ⟨i, tag, 4, result, c.tries, data.take 196⟩
      let s2 := s1.emit 0x3C01 distCell i ([byte cmd, byte result] ++ leBytes 2 tag ++ [byte c.tries])
      let s3 := s2.downAnswered i
      if cmd = 0x11 ∧ result = 0 then { s3 with plc := { s3.plc with reports := s3.plc.reports ++ [(i, data)] } }
      else if cmd = 0x12 then s3.offerAnswered i c.args (result = 0)
      else if cmd = 0x13 then s3.activateAnswered i c.args (if result = 0 then some (fieldLE data 0 4) else none)
      else if cmd = 2 ∧ result = 0 then { s3 with mtr := { s3.mtr with unconfirmed := s3.mtr.unconfirmed.filter (· ≠ i) } }
      else s3

/-! ### REKEY (R107, R120) -/

/-- R120: the body of a REKEY: NEW_GEN, NK_GEN, NK; none while the network key cannot be delivered (R564). -/
def State.rekeyBody (s : State) (m : Meter) : State × Option Bytes :=
  let r := s.downKey s.networkSlot (.raw 1)
  (r.1, r.2.map (fun k => leBytes 2 m.pendingGen ++ leBytes 2 s.net.gen ++ padTo 16 k))

/-- A rekey changed. -/
def State.updRekey (s : State) (i : Nat) (f : Rekey → Rekey) : State :=
  { s with mtr := { s.mtr with rekeys := s.mtr.rekeys.map (fun x => if x.meter = i then f x else x) } }

/-- R107 step 2, in the meter's lane: a REKEY of a meter is built under K_dn(GEN) with the next DL_FC and given to its MAC. -/
def State.sendRekey (s : State) (r : Rekey) : State :=
  let s0 := s.raisedNow r.meter
  match s0.meter r.meter with
  | none => s0
  | some m =>
    let b := s0.rekeyBody m
    match b.2 with
    | none => b.1
    | some body =>
    let p := b.1.pathFor r.meter m
    let f := p.1.buildUnder m m.gen m.eui m.dlFc 0xD m.short p.2.1 body
    match f.2 with
    | none => f.1
    | some fr =>
      let s1 := f.1.updMeter r.meter (fun x => { x with dlFc := x.dlFc + 1 })
      if !s1.fitsMedium m p.2.2 fr.length then s1
      else
        let q := s1.macSend (s1.routeNo m) meterTableCell m.eui
          { frame := fr, meter := r.meter, dest := m.short, prio := 1, ident := 0, kind := p.2.2, backoff := 0, cw := 0, tries := 0 }
        if !q.2 then q.1
        else q.1.updRekey r.meter (fun x => { x with sends := x.sends + 1, dueAt := s.now + cSec (s.cfgN 0x3812 4), lseq := fLseq fr })

/-- R107: the control item by which a REKEY takes DL_FC is on its way. -/
def State.askRekey (s : State) (i : Nat) : State := (s.updRekey i (fun r => { r with asked := true })).oweCtl meterTableCell i 12 0 0 []

/-- R107, in the meter's lane: the commit of that control item. -/
def State.rekeyTaken (s : State) (i : Nat) : State :=
  match s.mtr.rekeys.find? (fun r => r.meter == i) with
  | none => s
  | some r =>
    let s1 := s.updRekey i (fun x => { x with asked := false })
    if r.stalled then s1 else s1.sendRekey { r with asked := false }

/-! ### Traffic of the engine's own (R407) -/

/-- NEIGHBOUR_QUERY_PERIOD (R328, R407): each joined power-line meter gets a query, unless one is queued. -/
def neighbourQueryPeriod (s : State) : State :=
  let period := s.cfgB .plc0 0x2850 6
  let last := s.plc.queryAt.getD 0 0
  if period = 0 ∨ s.now < last + cSec period then s
  else
    let s1 := { s with plc := { s.plc with queryAt := [s.now] } }
    (s.mtr.table.filter (fun p => p.2.state == 2 && decide (p.2.link ≤ 2) && p.2.direct)).foldl (fun st p =>
      if (st.cmds p.1).any (fun c => c.cmdId == 0x11) || st.dist.owed.any (fun o => o.1 == p.1 && o.2.1 == 0x11) then st
      else st.engineCommand p.1 0x11 []) s1

/-- NEIGHBOUR_QUERY_PERIOD as a command. -/
def execNeighbourQueryPeriod (s : State) : Res := s.whenRunning neighbourQueryPeriod

/-- R103, R407: the network key has changed: NETWORK_KEY to every joined meter; the previous key stays in use for a time. -/
def State.networkKeyChanged (s : State) (oldSlot : Nat) : State :=
  let joined := (s.mtr.table.filter (fun p => p.2.state == 2)).map (·.1)
  let s1 := { s with
    net := { s.net with gen := (s.net.gen + 1) % 65536 }
    mtr := { s.mtr with prevSlot := oldSlot, prevGen := s.net.gen, prevUntil := some (s.now + cSec (s.cfgN 0x3812 5)), unconfirmed := joined } }
  joined.foldl (fun st i => st.engineCommand i 2 []) s1

/-- R407, R408: the parts of a schedule for a meter; a part carries 40 bytes, the last one fewer. -/
def State.queueSchedule (s : State) (p i : Nat) : State :=
  let b := s.valB (radioBlk p) (0x3100 + p) 0
  (List.range ((b.length + 39) / 40)).foldl (fun st k =>
    st.engineCommand i 0x14 ([byte p, 0] ++ leBytes 2 (40 * k) ++ leBytes 2 b.length ++ [0, 0] ++ leBytes 4 (crc32 b) ++ slice b (40 * k) 40)) s

/-- R407: a new schedule of a port goes to each joined meter whose LINK is that port. -/
def State.scheduleChanged (s : State) (p : Nat) : State :=
  (s.mtr.table.filter (fun q => q.2.state == 2 && q.2.link == 3 + p)).foldl (fun st q => st.queueSchedule p q.1) s

/-! ### Tariffs (R411, R413, R417) -/

/-- R411, R487: the 4 KiB of a table in its unit of the tariff store. -/
def State.writeTariff (s : State) (table : Nat) : State :=
  let u := table / 4
  s.coldWrite 3 u (((List.range 4).map (fun i => padTo 4096 (match lookupKey (4 * u + i) s.distNv.tariffs with | some t => t.data | none => []))).flatten)

/-- R413: the meters that a tariff campaign may have as targets, the others counted. -/
def State.tariffTargets (s : State) (table : Nat) : State × List Nat :=
  let named := s.mtr.table.filter (fun p => p.2.tariff == table)
  let ok := (named.filter (fun p => p.2.mayTarget 0 table)).map (·.1)
  (s.distCount 8 (named.length - ok.length + (ok.length - 16384)), ok.take 16384)

/-- TARIFF_LOAD (R411, R417, R459). -/
def tariffLoad (b : Bytes) (s : State) : State × Nat :=
  let table := fieldLE b 0 1
  let version := fieldLE b 2 2
  if b.length < 17 ∨ 4112 < b.length ∨ !timeOk (slice b 4 12) then (s, Abort.valueRange)
  else if s.store.mode = .readOnly then (s, Abort.storeFull)
  else if ((lookupKey table s.distNv.tariffs).map (fun t => decide (version ≤ t.version))).getD false then (s, Abort.valueInconsistent)
  else
    let s1 := if s.campaignRuns 0 table then s.endCampaign 0 table else s
    let s2 := ({ s1 with distNv := { s1.distNv with tariffs := insertKey table ⟨version, slice b 4 12, b.drop 16⟩ s1.distNv.tariffs } }).writeTariff table
    let t := s2.tariffTargets table
    (t.1.startCampaign 0 table t.2, Abort.ok)

/-- TARIFF_LOAD as a command. -/
def execTariffLoad (role : Nat) (b : Bytes) (s : State) : Res := s.command 0x3C20 0 role .operator (tariffLoad b)

/-- TARIFF_ASSIGN (R30, R148, R417): a control item carries it to the meter's lane; BUSY while Q37 has no room. -/
def tariffAssign (v : Nat) (s : State) : State × Nat :=
  if 255 < v ∧ v ≠ 0xFFFF then (s, Abort.valueRange)
  else match s.selected with
    | none => (s, Abort.unknownMeter)
    | some (i, _) =>
      match s.sendCtl 0x8100 i 14 v 0 [] with
      | none => (s, Abort.busy)
      | some s1 => (s1, Abort.ok)

/-- R417, in the meter's lane: a meter is assigned to a table, or to none. -/
def State.tariffAssigned (s : State) (i : Nat) (m : Meter) (v : Nat) : State :=
  let new := if v = 0xFFFF then 0xFF else v
  let old := m.tariff
  let s1 := if old = 0xFF ∨ (old = new ∧ v ≠ 0xFFFF) then s
    else
      let obj := ((s.objectOf 0 old).map (·.1)).getD old
      let s' := match s.campaign 0 old with
        | some c => s.putCampaign { c with targets := c.targets.filter (fun t => t.meter ≠ i) }
        | none => s
      s'.withdraw 0 old obj i
  let s2 := s1.updMeter i (fun x => { x with tariff := new, tState := 0, tSilent := 0 })
  if v = 0xFFFF ∨ (lookupKey new s.distNv.tariffs).isNone then s2
  else if (({ m with tariff := new } : Meter).mayTarget 0 new) then s2.addTarget 0 new i
  else s2.distCount 8 1

/-- TARIFF_ASSIGN as a command. -/
def execTariffAssign (role v : Nat) (s : State) : Res := s.command 0x3C23 0 role .operator (tariffAssign v)

/-! ### Images (R411, R413, R422) -/

/-- An image slot replaced. -/
def State.putImage (s : State) (slot : Nat) (i : ImageSlot) : State :=
  { s with distNv := { s.distNv with images := s.distNv.images.set slot i } }

/-- R466, R487: the units of an image slot that hold bytes `lo` to `hi` are written. -/
def State.writeImage (s : State) (slot lo hi : Nat) : State :=
  let d := (at' s.distNv.images slot).data
  ((List.range 64).filter (fun u => decide (lo < unitBytes * (u + 1) ∧ unitBytes * u < hi))).foldl (fun st u =>
    st.coldWrite 4 (64 + 64 * slot + u) (slice d (unitBytes * u) unitBytes)) s

/-- R487: a slot is emptied and its units unmapped. -/
def State.emptyImage (s : State) (slot : Nat) : State :=
  (s.putImage slot ⟨0, 0, 0, [], []⟩).unmapUnits (64 + 64 * slot) 64

/-- IMAGE_BEGIN_SLOT (R411). -/
def imageBeginSlot (b : Bytes) (s : State) : State × Nat :=
  let slot := fieldLE b 0 1
  let size := fieldLE b 8 4
  if b.length ≠ 28 then (s, Abort.typeLength)
  else if 3 < slot ∨ size = 0 ∨ 1048576 < size then (s, Abort.valueRange)
  else if s.store.mode = .readOnly then (s, Abort.storeFull)
  else if s.campaignRuns 1 slot then (s, Abort.busy)
  else
    let s1 := s.putImage slot ⟨1, fieldLE b 4 4, size, slice b 12 16, []⟩
    (match s1.campaign 1 slot with
     | some c => s1.putCampaign { c with phase := .idle, rounds := 0, lists := [] }
     | none => s1, Abort.ok)

/-- IMAGE_BEGIN_SLOT as a command. -/
def execImageBeginSlot (role : Nat) (b : Bytes) (s : State) : Res := s.command 0x3C30 0 role .operator (imageBeginSlot b)

/-- IMAGE_CHUNK (R411, R487). -/
def imageChunk (b : Bytes) (s : State) : State × Nat :=
  let slot := fieldLE b 0 1
  let i := at' s.distNv.images slot
  let d := b.drop 8
  if b.length < 9 ∨ 3 < slot then (s, Abort.valueRange)
  else if s.store.mode = .readOnly then (s, Abort.storeFull)
  else if i.state ≠ 1 then (s, Abort.notInState)
  else if fieldLE b 4 4 ≠ i.data.length ∨ i.size < i.data.length + d.length then (s, Abort.valueInconsistent)
  else
    ((s.putImage slot { i with data := i.data ++ d }).writeImage slot i.data.length (i.data.length + d.length), Abort.ok)

/-- IMAGE_CHUNK as a command. -/
def execImageChunk (role : Nat) (b : Bytes) (s : State) : Res := s.command 0x3C31 0 role .operator (imageChunk b)

/-- IMAGE_END_SLOT (R411, R414): the content is checked, and the campaign starts. -/
def imageEndSlot (slot : Nat) (s : State) : State × Nat :=
  if 3 < slot then (s, Abort.valueRange)
  else
    let i := at' s.distNv.images slot
    if i.state ≠ 1 then (s, Abort.notInState)
    else if i.data.length ≠ i.size ∨ (sha384 i.data).take 16 ≠ i.digest then (s.emptyImage slot, Abort.valueInconsistent)
    else
      let s1 := s.putImage slot { i with state := 2 }
      let ms : List Nat := match s1.campaign 1 slot with | some c => c.targets.map (·.meter) | none => []
      (s1.startCampaign 1 slot ms, Abort.ok)

/-- IMAGE_END_SLOT as a command. -/
def execImageEndSlot (role slot : Nat) (s : State) : Res := s.command 0x3C32 0 role .operator (imageEndSlot slot)

/-- IMAGE_TARGETS (R413, R415): the list of an image's targets; those left out of it are removed. -/
def imageTargets (b : Bytes) (s : State) : State × Nat :=
  let slot := fieldLE b 0 1
  let n := (b.length - 4) / 4
  if b.length < 4 ∨ b.length % 4 ≠ 0 ∨ 16384 < n ∨ 3 < slot then (s, Abort.valueRange)
  else
    let want := ((List.range n).map (fun k => fieldLE b (4 + 4 * k) 4)).eraseDups
    let ok := want.filter (fun i => ((s.meter i).map (fun m => m.mayTarget 1 slot)).getD false)
    let have_ : List Nat := match s.campaign 1 slot with | some c => c.targets.map (·.meter) | none => []
    let obj := (at' s.distNv.images slot).object
    let s1 := (have_.filter (fun i => !ok.contains i)).foldl (fun st i =>
      ((st.dropTarget 1 slot obj i).setField i 6 0xFF).setField i 1 0) (s.distCount 8 (want.length - ok.length))
    let new := ok.filter (fun i => !have_.contains i)
    let s2 := new.foldl (fun st i => st.setField i 6 slot) s1
    if (at' s.distNv.images slot).state = 2 then (new.foldl (fun st i => st.addTarget 1 slot i) s2, Abort.ok)
    else
      let c := (s2.campaign 1 slot).getD ⟨1, slot, .idle, 0, [], [], 0⟩
      (s2.putCampaign { c with targets := c.targets ++ new.map (fun i => Target.mk i 0 [] 0 false 0 0) }, Abort.ok)

/-- IMAGE_TARGETS as a command. -/
def execImageTargets (role : Nat) (b : Bytes) (s : State) : Res := s.command 0x3C33 0 role .operator (imageTargets b)

/-- IMAGE_ACTIVATE (R422). -/
def imageActivate (b : Bytes) (s : State) : State × Nat :=
  let slot := fieldLE b 0 1
  if b.length ≠ 16 then (s, Abort.typeLength)
  else if 3 < slot ∨ !timeOk (slice b 4 12) then (s, Abort.valueRange)
  else if fieldLE b 1 1 = 1 ∧ s.selected.isNone then (s, Abort.unknownMeter)
  else
    let only := if fieldLE b 1 1 = 1 then s.selected.map (·.1) else none
    let ts : List Target := match s.campaign 1 slot with | some c => c.targets | none => []
    let chosen := ts.filter (fun t => t.state == 3 && (only.isNone || only == some t.meter))
    let args := [byte slot, 0, 0, 0] ++ leBytes 4 (at' s.distNv.images slot).object ++ slice b 4 12
    (chosen.foldl (fun (st : State) (t : Target) => (st.setTarget 1 slot { t with state := 6 }).engineCommand t.meter 0x13 args) s, Abort.ok)

/-- IMAGE_ACTIVATE as a command. -/
def execImageActivate (role : Nat) (b : Bytes) (s : State) : Res := s.command 0x3C34 0 role .operator (imageActivate b)

/-- IMAGE_REMOVE (R415, R423): the campaign ends and the slot is emptied. -/
def imageRemove (slot : Nat) (s : State) : State × Nat :=
  if 3 < slot then (s, Abort.valueRange)
  else
    let obj := (at' s.distNv.images slot).object
    let ts : List Target := match s.campaign 1 slot with | some c => c.targets | none => []
    let s1 := if s.campaignRuns 1 slot then s.endCampaign 1 slot else s
    let s2 := ts.foldl (fun st t => ((if t.done 1 then st else st.withdraw 1 slot obj t.meter).setField t.meter 6 0xFF).setField t.meter 1 0) s1
    (({ s2 with dist := { s2.dist with campaigns := s2.dist.campaigns.filter (fun c => !(c.kind == 1 && c.slot == slot)) } }).emptyImage slot, Abort.ok)

/-- IMAGE_REMOVE as a command. -/
def execImageRemove (role slot : Nat) (s : State) : Res := s.command 0x3C35 0 role .operator (imageRemove slot)

/-! ### Rounds (R414, R415, R419 to R421) -/

/-- Whether a list begins with another. -/
def startsWith (l p : List Nat) : Bool := p == l.take p.length

/-- Numbers in rising order. -/
def sortNats (l : List Nat) : List Nat := (l.foldl (fun acc n => insertKey n () acc) []).map (·.1)

/-- R420: the broadcast routes of the targets on an engine: prefixes dropped, the most used first; and how many targets those beyond 64
serve. -/
def broadcastRoutes (routes : List (List Nat)) : List (List Nat) × Nat :=
  let rs := (routes.filter (fun r => r != [])).eraseDups
  let kept := rs.filter (fun r => !rs.any (fun x => x != r && startsWith x r))
  let served := fun (r : List Nat) => (routes.filter (fun x => x != [] && startsWith r x)).length
  let ranked := kept.foldl (fun acc r => (acc.filter (fun x => served r ≤ served x)) ++ [r] ++ acc.filter (fun x => served x < served r)) []
  let out := ranked.drop 64
  (ranked.take 64, (routes.filter (fun x => x != [] && out.any (fun r => startsWith r x) && !(ranked.take 64).any (fun r => startsWith r x))).length)

/-- R414 step 3: the block list of a port. -/
def State.blockList (s : State) (c : Campaign) (port : Nat) : BlockList × Nat :=
  let ts := c.targets.filter (fun t => t.state == 2 && ((s.meter t.meter).map (fun m => m.link == port)).getD false)
  let blocks := sortNats ((ts.map (·.lacks)).flatten)
  if port ≤ 2 then
    let routes := ts.filterMap (fun t => (s.meter t.meter).map (fun m => (s.plcTarget m).2))
    let r := broadcastRoutes routes
    (⟨port, blocks, r.1⟩, r.2)
  else (⟨port, blocks, []⟩, 0)

/-- R414 steps 3 and 6: a round starts. -/
def State.startRound (s : State) (c : Campaign) : State :=
  let ls := (List.range 5).map (fun p => s.blockList c p)
  let lists := (ls.map (·.1)).filter (fun l => l.blocks != [])
  let n := lists.foldl (fun a l => a + l.blocks.length) 0
  let c1 := { c with phase := .round, rounds := c.rounds + 1, lists := lists, lastBlockAt := s.now
                     targets := c.targets.map (fun t => { t with requested := false }) }
  let s1 := (s.putCampaign c1).event 0x3C03 distCell ([byte c.kind, byte c.slot, byte c1.rounds, 0] ++ leBytes 4 n)
  ls.foldl (fun st l => if l.2 = 0 then st else st.event 0x3C05 distCell ([byte (l.1.port + 1), 0, 0, 0] ++ leBytes 4 l.2)) s1

/-- ROUND_START (R414 step 3): no OFFER of the campaign is outstanding. -/
def roundStart (kind slot : Nat) (s : State) : State :=
  match s.campaign kind slot with
  | some c => if c.phase = .offering ∧ !c.targets.any (fun t => t.state == 1) then s.startRound c else s
  | none => s

/-- ROUND_START as a command: `kind` 0 a tariff table, 1 an image slot. -/
def execRoundStart (kind : Fin 2) (slot : Fin 256) (s : State) : Res := s.whenRunning (roundStart kind slot)

/-- ROUND_END (R414 steps 5 and 6). -/
def roundEnd (kind slot : Nat) (s : State) : State :=
  match s.campaign kind slot with
  | some c =>
    if c.phase ≠ .round ∨ c.lists.any (fun l => l.blocks != []) ∨
        s.now < c.lastBlockAt + cSec (s.cfgN 0x3C00 5 + s.cfgN 0x3C00 6 + 30) then s
    else
      let limit := s.cfgN 0x3C00 8
      let ts := c.targets.map (fun t =>
        if t.state = 2 ∧ !t.requested then { t with silent := t.silent + 1, state := if limit ≤ t.silent + 1 then 4 else 2 } else t)
      let c1 := { c with targets := ts, lists := [] }
      let s1 := ts.foldl (fun st t => st.noteTarget kind t) (s.putCampaign c1)
      if ts.any (fun t => t.state == 2) && decide (c.rounds < s.cfgN 0x3C00 7) then s1.startRound c1 else s1.endCampaign kind slot
  | none => s

/-- ROUND_END as a command. -/
def execRoundEnd (kind : Fin 2) (slot : Fin 256) (s : State) : Res := s.whenRunning (roundEnd kind slot)

/-- R121: the type and body of a block. -/
def State.blockBody (s : State) (kind slot medium n : Nat) : Nat × Bytes :=
  let b := bsize medium
  if kind = 0 then
    match lookupKey slot s.distNv.tariffs with
    | some t => (0xA, [byte slot] ++ leBytes 2 t.version ++ leBytes 2 n ++ leBytes 2 (blockCount medium t.data.length) ++ padTo 12 t.activation ++
        slice t.data (b * n) b)
    | none => (0xA, [])
  else
    let i := at' s.distNv.images slot
    (0xB, [byte slot] ++ leBytes 4 i.object ++ leBytes 2 n ++ slice i.data (b * n) b)

/-- R103, R419: the keys under which a block goes out: the present one, and the previous one while it is in use and some target on the
medium has not confirmed NETWORK_KEY. -/
def State.blockKeys (s : State) (c : Campaign) (medium : Nat) : List (Nat × Nat) :=
  let late := c.targets.any (fun t => t.medium == medium && s.mtr.unconfirmed.contains t.meter)
  let live := match s.mtr.prevUntil with | some u => decide (s.now < u) | none => false
  [(s.networkSlot, s.net.gen)] ++ if late && live then [(s.mtr.prevSlot, s.mtr.prevGen)] else []

/-- One transmission of a block: built under a network key and passed to the MAC; none when it must wait. -/
def State.sendBlock (s : State) (port typ : Nat) (key : Nat × Nat) (p : Path) (body : Bytes) : Option State :=
  let r := s.buildNetwork key.1 key.2 typ p body
  match r.2 with
  | none => some r.1
  | some f =>
    let q := r.1.macSend port distCell Config.deviceEui
      { frame := f, meter := noMeter, dest := 0xFFFF, prio := 3, ident := 0, kind := if port ≤ 2 then 0 else 1, backoff := 0, cw := 0, tries := 0 }
    if q.2 then some q.1 else none

/-- The transmissions of a block: on the power-line without a route header and then along each broadcast route (R420); on the radio one
flood (R421). -/
def State.sendBlockAll (s : State) (port typ : Nat) (keys : List (Nat × Nat)) (routes : List (List Nat)) (body : Bytes) : Option State :=
  keys.foldl (fun acc k => acc.bind (fun st =>
    if port ≤ 2 then ([] :: routes).foldl (fun a r => a.bind (fun x => x.sendBlock port typ k (.route r) body)) (some st)
    else
      let q := st.takeFseq
      q.1.sendBlock port typ k (.flood q.2 (st.cfgB (radioBlk (port - 3)) 0x3102 2)) body)) (some s)

/-- The campaigns with blocks for a port, those after the one that sent last coming first (R419). -/
def State.campaignTurn (s : State) (port : Nat) : Option Campaign :=
  let has := s.dist.campaigns.filter (fun c => c.phase == .round && c.lists.any (fun l => l.port == port && l.blocks != []))
  let key := fun (c : Campaign) => c.kind * 256 + c.slot + 1
  let last := s.dist.turns.getD port 0
  match has.filter (fun c => decide (last < key c)) with
  | [] => (leastBy id (has.map key)).bind (fun k => has.find? (fun c => key c == k))
  | after => (leastBy id (after.map key)).bind (fun k => after.find? (fun c => key c == k))

/-- BLOCK_SEND (R414 step 4, R419 to R421, R456): the next block of a port, read through Q42, goes out. -/
def blockSend (port : Nat) (s : State) : State :=
  match s.campaignTurn port with
  | none => s
  | some c =>
    match c.lists.find? (fun l => l.port == port) with
    | none => s
    | some l =>
      match l.blocks with
      | [] => s
      | b :: rest =>
        let md := mediumOf port
        let x := s.blockBody c.kind c.slot md b
        match (s.askStore 42 distCell (c.kind * 256 + c.slot) b).bind (fun st => st.sendBlockAll port x.1 (s.blockKeys c md) l.routes x.2) with
        | none => s.backpressure (8 + port)
        | some s1 =>
          let lists := c.lists.map (fun y => if y.port = port then { y with blocks := rest } else y)
          let s2 := s1.putCampaign { c with lists := lists, lastBlockAt := s.now }
          ({ s2 with dist := { s2.dist with turns := s2.dist.turns.set port (c.kind * 256 + c.slot + 1) } }).distCount (if port ≤ 2 then 2 else 3) 1

/-- BLOCK_SEND as a command: `port` 0 to 2 the engines, 3 and 4 the radio ports. -/
def execBlockSend (port : Fin 5) (s : State) : Res := s.whenRunning (blockSend port)

/-- R415: the blocks that a STATE 0 request leaves lacking. -/
def newLacks (count start missing : Nat) (old : List Nat) : List Nat :=
  (List.range count).filter (fun b =>
    if b < start then false else if b ≤ start + 63 then bit missing (b - start) else old.contains b)

/-- R414: a round with no target left that receives, or that may come to, ends its campaign (log entry 58). -/
def State.endIfDone (s : State) (kind slot : Nat) : State :=
  match s.campaign kind slot with
  | some c => if c.phase = .round ∧ !c.targets.any (fun t => t.state == 1 || t.state == 2) then s.endCampaign kind slot else s
  | none => s

/-- R415: a BLOCK_REQUEST that has committed. -/
def State.blockRequest (s : State) (i : Nat) (body : Bytes) : State :=
  let kind := fieldLE body 0 1
  let object := fieldLE body 1 4
  let st := fieldLE body 5 1
  match s.meter i with
  | none => s
  | some m =>
    let slot := if kind = 0 then m.tariff else m.image
    match s.campaign kind slot, s.objectOf kind slot with
    | some c, some (o, d) =>
      match c.targets.find? (fun t => t.meter == i) with
      | none => s.distCount 5 1
      | some t =>
        if o ≠ object ∨ 4 < m.link ∨ mediumOf m.link ≠ t.medium ∨ t.state = 1 ∨ t.state = 0 then s.distCount 5 1
        else
          let n := blockCount t.medium d.length
          let back := decide (t.state = 4 ∨ t.state = 5)
          let base := { t with requested := true, state := if back then 2 else t.state, silent := if back then 0 else t.silent }
          let restart := fun (x : State) => if c.phase = .ended ∧ st ≠ 1 then
              (match x.campaign kind slot with | some c' => x.startRound c' | none => x) else x
          if st = 1 then
            let s1 := (s.setTarget kind slot { base with state := if base.done kind then base.state else 3, lacks := [] })
            if kind = 0 then
              let late := decide (ofTime80 ((lookupKey slot s.distNv.tariffs).map (·.activation) |>.getD (zeros 12)) < s.td0)
              let s2 := s1.setField i 2 (object / 256 % 65536)
              (if late then s2.distCount 4 1 else s2).endIfDone kind slot
            else s1.endIfDone kind slot
          else if st = 2 then
            let t2 := { base with lacks := List.range n, failures := t.failures + 1, state := if 1 ≤ t.failures then 5 else base.state }
            let s1 := (s.setTarget kind slot t2).distCount 6 1
            if t2.state = 2 then restart s1 else s1.endIfDone kind slot
          else
            let s1 := s.setTarget kind slot { base with lacks := newLacks n (fieldLE body 6 2) (fieldLE body 8 8) t.lacks }
            if back then restart s1 else s1
    | _, _ => s.distCount 5 1

/-- R415: a change of a target's LINK to another medium, or to a route other than 0 to 4. -/
def State.linkChanged (s : State) (i old new : Nat) : State :=
  if old = new ∨ (old ≤ 4 ∧ new ≤ 4 ∧ mediumOf old = mediumOf new) then s
  else
    s.dist.campaigns.foldl (fun st c =>
      match c.targets.find? (fun t => t.meter == i) with
      | none => st
      | some t =>
        if t.done c.kind ∨ (c.phase ≠ .offering ∧ c.phase ≠ .round) then st
        else if 4 < new then st.setTarget c.kind c.slot { t with state := 5 }
        else st.offer c.kind c.slot i) s

end Sys2Proof.Machine
end

