-- ==== Sys2Proof/Machine/Reading.lean ====
section
/-!
DEFINITION. What stages 5 to 9 compute (R105, R110 to R115, R149, R150, R176 to R191, R257, R258, R267), and interval
records (R446 to R449).
-/
namespace Sys2Proof.Machine

/-! ### Meter classes (R176, R208) -/

/-- The values of a class. -/
structure ClassCfg where
  len : Nat
  kinds : List Nat
  quants : List Nat
  high : List Nat
  low : List Nat
  change : List Nat
  roll : List Nat
  total : Nat
  parts : Nat
  tol : Nat
  idPast : Nat
  idFuture : Nat
  flags : Nat
  severity : Nat
  clockLimit : Nat
  interpMax : Nat
  estDelay : Nat
  profMax : Nat
  required : Nat
  badRun : Nat
  scaleMin : Nat
deriving DecidableEq, Repr, Inhabited

/-- A setting of class `c`; one at whose index another object stands keeps its default (log entry 72). -/
def State.classVal (s : State) (st : Settings) (c i : Nat) : Bytes :=
  if namedInClasses (0x4400 + c) i then defaultOf s.board.cascMaster 0x4400 i else s.valIn st (0x4400 + c) i

/-- Class `c` in given settings. -/
def State.classIn (s : State) (st : Settings) (c : Nat) : ClassCfg :=
  let n := fun i => leNat (s.classVal st c i)
  let four := fun i => (List.range 4).map (fun k => n (i + k))
  let oct := fun i => (s.classVal st c i).map (·.toNat)
  { len := max 1 (n 1), kinds := oct 2, quants := oct 3, high := four 4, low := four 8, change := four 12, roll := four 16
    total := (oct 20).getD 0 255, parts := (oct 20).getD 1 0, tol := n 21, idPast := n 22, idFuture := n 23, flags := n 24
    severity := n 25, clockLimit := n 26, interpMax := n 27, estDelay := n 28, profMax := n 29, required := n 30, badRun := n 31
    scaleMin := n 32 }

/-- R182: the advance from `a` to `b` under a rollover modulus, and whether it rolled over; none where it is not defined. -/
def advance (m a b : Nat) : Option (Nat × Bool) :=
  if a = absentVal ∨ b = absentVal then none
  else if m ≠ 0 ∧ (m ≤ a ∨ m ≤ b) then none
  else if a ≤ b then some (b - a, false)
  else if m ≠ 0 then some (b + m - a, true)
  else none

/-- The advance of channel `c`, if it is cumulative. -/
def ClassCfg.adv (k : ClassCfg) (old new : List Nat) (c : Nat) : Option Nat :=
  if k.kinds.getD c 0 = 1 then (advance (k.roll.getD c 0) (old.getD c absentVal) (new.getD c absentVal)).map (·.1) else none

/-- The channel of a quantity, the lowest. -/
def ClassCfg.chan (k : ClassCfg) (q : Nat) : Option Nat := (List.range 4).find? (fun c => k.quants.getD c 0 == q && k.kinds.getD c 0 != 0)

/-- R257: the consumption between two readings in mWh; none where it is not defined. -/
def ClassCfg.consumption (k : ClassCfg) (old new : List Nat) : Option Int :=
  match k.chan 1 with
  | some c =>
    match k.adv old new c, k.chan 2 with
    | some i, none => some ((i : Int) * 1000)
    | some i, some e => (k.adv old new e).map (fun x => ((i : Int) - x) * 1000)
    | none, _ => none
  | none =>
    let cs := (List.range 4).filter (fun c => decide (0x10 ≤ k.quants.getD c 0 ∧ k.quants.getD c 0 ≤ 0x17))
    let as := cs.filterMap (k.adv old new)
    if as = [] then none else some (((as.foldl (· + ·) 0 : Nat) : Int) * 1000)

/-! ### Interval records (R446 to R449) -/

/-- R446: an interval record. -/
def intervalRecord (interval meter flags status reasons : Nat) (vals : List Nat) : Bytes :=
  leBytes 4 interval ++ leBytes 3 meter ++ [byte flags] ++ leBytes 2 status ++ leBytes 2 reasons ++
    ((List.range 4).map (fun c => leBytes 5 (vals.getD c absentVal))).flatten

/-- R446: FLAGS from OUTCOME, METHOD and FC_VALID. -/
def recordFlags (outcome method : Nat) (fcValid : Bool) : Nat := outcome + 4 * method + 32 * b2n fcValid

/-- Fields of a record. -/
def rInterval (r : Bytes) : Nat := fieldLE r 0 4
def rMeter (r : Bytes) : Nat := fieldLE r 4 3
def rFlags (r : Bytes) : Nat := fieldLE r 7 1
def rOutcome (r : Bytes) : Nat := bits (rFlags r) 0 2
def rMethod (r : Bytes) : Nat := bits (rFlags r) 2 3
def rIsState (r : Bytes) : Bool := bit (rFlags r) 7
def rReasons (r : Bytes) : Nat := fieldLE r 10 2
def rVals (r : Bytes) : List Nat := (List.range 4).map (fun c => fieldLE r (12 + 5 * c) 5)

/-- R449: a state record. -/
def stateRecord (fc meter gen judged pending cause typ joinHigh time link : Nat) : Bytes :=
  leBytes 4 fc ++ leBytes 3 meter ++ [0xA0] ++ leBytes 2 gen ++ leBytes 2 judged ++ leBytes 2 pending ++ [byte cause, byte typ] ++
    leBytes 4 joinHigh ++ leBytes 4 time ++ [byte link] ++ zeros 7

/-! ### Stage 5 (R110 to R115) -/

/-- R111: an unsigned LEB128 of at most 6 bytes, and what follows it; none when it is longer or exceeds 2^40 − 1. -/
def varint : Nat → Bytes → Option (Nat × Bytes)
  | 0, _ => none
  | _, [] => none
  | n + 1, b :: r =>
    if b.toNat < 128 then some (b.toNat, r)
    else (varint n r).map (fun p => (b.toNat - 128 + 128 * p.1, p.2))

/-- R111: the varints of the set channels, channel 0 first; none when one is bad. -/
def varints : List Nat → Bytes → Option (List (Nat × Nat) × Bytes)
  | [], b => some ([], b)
  | c :: cs, b =>
    match varint 6 b with
    | none => none
    | some (v, r) => if 2 ^ 40 ≤ v then none else (varints cs r).map (fun p => ((c, v) :: p.1, p.2))

/-- R111: the value that a zigzag delta makes of a base value. -/
def zigzag (z base : Nat) : Nat :=
  let d : Int := if z % 2 = 0 then (z / 2 : Nat) else -((z / 2 : Nat) : Int) - 1
  (((base : Int) + d) % 2 ^ 40).toNat

/-- R112: the entry of BASE that a reading names. -/
def findBase (base : List BaseEntry) (low : Nat) : Option BaseEntry := base.find? (fun e => e.id != 0 && e.id % 65536 == low)

/-- R110: the fields of a READING before its values. -/
def readingHead (b : Bytes) (vals : List Nat) : Reading :=
  { interval := fieldLE b 0 4, mask := fieldLE b 4 1, status := fieldLE b 5 1, zco := fieldLE b 8 4, clockofs := fieldInt b 12 2, vals := vals }

/-- R111, R112: a READING decoded against a BASE list; none when it is undecodable. -/
def decodeReading (base : List BaseEntry) (b : Bytes) : Option Reading :=
  let mask := fieldLE b 4 1
  let chans := (List.range 4).filter (bit mask)
  let abs := bit mask 4
  if chans = [] then none
  else match varints chans (b.drop 14) with
    | none => none
    | some (vs, rest) =>
      if rest ≠ [] then none
      else if abs then
        some (readingHead b ((List.range 4).map (fun c => (lookupKey c vs).getD absentVal)))
      else match findBase base (fieldLE b 6 2) with
        | none => none
        | some e =>
          if chans.any (fun c => e.vals.getD c absentVal == absentVal) then none
          else some (readingHead b ((List.range 4).map (fun c =>
            match lookupKey c vs with | some z => zigzag z (e.vals.getD c 0) | none => absentVal)))

/-- R115, R151: whether a body other than that of a READING or PASSTHROUGH breaks its type's layout. -/
def bodyBad (typ : Nat) (b : Bytes) : Bool :=
  let n := b.length
  match typ with
  | 2 => decide (n < 8 ∨ 4 < fieldLE b 3 1 ∨ 3 < fieldLE b 2 1 ∨ n ≠ 8 + fieldLE b 3 1)
  | 3 => decide (n ≠ 13) || !(([1, 5, 15, 30, 60] : List Nat).contains (fieldLE b 12 1)) ||
      decide (63 < fieldLE b 11 1 ∧ fieldLE b 11 1 ≠ 0xFF)
  | 4 => decide (n ≠ 7 ∨ 1 < fieldLE b 2 1)
  | 5 => decide (n ≠ 16 ∨ 1 < fieldLE b 0 1 ∨ 2 < fieldLE b 5 1)
  | 6 => decide (n < 4 ∨ 200 < n ∨ 4 < fieldLE b 1 1)
  | _ => false

/-! ### Stage 6 (R182 to R185, R188) -/

/-- R179: the severity of a configurable reason. -/
def ClassCfg.sev (k : ClassCfg) (r : Nat) : Nat := bits k.severity (2 * r) 2

/-- R183: the action of FlagAction for a STATUS: the highest among the set bits; REVERSE is ignored with GEN_SITE. -/
def ClassCfg.flagSeverity (k : ClassCfg) (status : Nat) : Nat :=
  (List.range 6).foldl (fun a f =>
    if bit status f ∧ !(f = 1 ∧ bit status 5) then max a (bits k.flags (2 * f) 2) else a) 0

/-- R182: the reasons of one channel: HIGH_LIMIT, LOW_LIMIT, MAX_CHANGE, CONTINUITY, ROLLOVER. -/
def ClassCfg.channelReasons (k : ClassCfg) (lg : Nat) (lgVals : List Nat) (r : Reading) (c : Nat) : List Nat :=
  let v := r.vals.getD c absentVal
  let l := lgVals.getD c absentVal
  let kind := k.kinds.getD c 0
  if v = absentVal ∨ kind = 0 then []
  else
    (if k.high.getD c 0 < v then [0] else []) ++ (if v < k.low.getD c 0 then [1] else []) ++
      (if kind = 2 then
        (if lg ≠ 0 ∧ (r.interval = lg + 1 ∨ r.interval + 1 = lg) ∧ l ≠ absentVal ∧ k.change.getD c 0 < (if l ≤ v then v - l else l - v) then [2] else [])
      else
        let m := k.roll.getD c 0
        if m ≠ 0 ∧ m ≤ v then [3]
        else if lg ≠ 0 ∧ r.interval ≠ lg ∧ l ≠ absentVal then
          let a := if lg < r.interval then l else v
          let b := if lg < r.interval then v else l
          let n := if lg < r.interval then r.interval - lg else lg - r.interval
          if a ≤ b then (if k.change.getD c 0 * n < b - a then [2] else [])
          else if m ≠ 0 then 4 :: (if (k.change.getD c 0 * n : Int) < (b : Int) + m - a then [2] else [])
          else [3]
        else [])

/-- R184: SUM_CHECK. -/
def ClassCfg.sumBad (k : ClassCfg) (r : Reading) : Bool :=
  let ps := (List.range 4).filter (bit k.parts)
  let v := fun c => r.vals.getD c absentVal
  if 3 < k.total ∨ v k.total = absentVal ∨ ps.any (fun p => v p == absentVal) then false
  else
    let sum := ps.foldl (fun a p => a + v p) 0
    let m := k.roll.getD k.total 0
    if m = 0 then decide ((k.tol : Int) < ((v k.total : Int) - sum).natAbs)
    else
      let d := (((v k.total : Int) - sum) % m).toNat
      decide (k.tol < min d (m - d))

/-- R182 to R184: the reasons of a decoded reading. `cur` is the interval that contains now, none where TD0 is not synchronised. -/
def ClassCfg.reasons (k : ClassCfg) (cur : Option Nat) (lg : Nat) (lgVals : List Nat) (r : Reading) : List Nat :=
  let window := match cur with
    | none => [8]
    | some c => (if c + k.idFuture < r.interval + 1 then [6] else []) ++ (if r.interval + k.idPast < c then [7] else [])
  let dup := if lg ≠ 0 ∧ r.interval = lg then [11] else []
  let miss := if andNotBits 4 k.required r.mask ≠ 0 then [12] else []
  let clock := if r.clockofs ≠ -32768 ∧ k.clockLimit ≠ 0 ∧ k.clockLimit < r.clockofs.natAbs then [13] else []
  let flag := if k.flagSeverity r.status ≠ 0 then [9] else []
  let sum := if k.sumBad r then [5] else []
  window ++ dup ++ miss ++ clock ++ flag ++ sum ++ ((List.range 4).map (k.channelReasons lg lgVals r)).flatten

/-- R179, R180: the severity of a reason in a reading. -/
def ClassCfg.reasonSeverity (k : ClassCfg) (status r : Nat) : Nat :=
  if r = 6 ∨ r = 7 ∨ r = 10 ∨ r = 11 ∨ r = 15 then 2
  else if r = 9 then k.flagSeverity status
  else k.sev r

/-- R180: the bits that stay set, and the outcome. -/
def ClassCfg.judge (k : ClassCfg) (status : Nat) (rs : List Nat) : Nat × Nat :=
  let on := (List.range 16).filter (fun r => rs.contains r && k.reasonSeverity status r != 0)
  (on.foldl (fun a r => a + 2 ^ r) 0, on.foldl (fun a r => max a (k.reasonSeverity status r)) 0)

/-! ### Stage 7 (R191) -/

/-- R191: the interpolated values of interval `i` between two bounds. -/
def ClassCfg.interpolate (k : ClassCfg) (a : Nat) (aVals : List Nat) (b : Nat) (bVals : List Nat) (i : Nat) : List Nat :=
  (List.range 4).map (fun c =>
    match k.adv aVals bVals c with
    | none => absentVal
    | some d =>
      let v := aVals.getD c 0 + d * (i - a) / (b - a)
      let m := k.roll.getD c 0
      if m = 0 then v else v % m)

/-- R191: the estimates of a gap: interval and values; an interval none of whose channels can be interpolated gets none. -/
def ClassCfg.fillGap (k : ClassCfg) (a : Nat) (aVals : List Nat) (b : Nat) (bVals : List Nat) : List (Nat × List Nat) :=
  ((List.range (b - a - 1)).map (fun j => (a + 1 + j, k.interpolate a aVals b bVals (a + 1 + j)))).filter
    (fun p => p.2.any (· != absentVal))

/-! ### Stage 8 (R258, R267) -/

/-- R258: the contributions of a run of records: each whose predecessor stands before it. -/
def ClassCfg.contributions (k : ClassCfg) : Nat → List Nat → List (Nat × (List Nat × Bool)) → List (Nat × (Int × Bool))
  | _, _, [] => []
  | i, old, (j, (vals, real)) :: r =>
    (if j = i + 1 ∧ i ≠ 0 then (match k.consumption old vals with | some x => [(j, (x, real))] | none => []) else []) ++
      k.contributions j vals r

/-- R267: NEUTRAL and REVERSE and TAMPER after a reading: the record, and what was raised (true) or cleared. `real` says that the
outcome is not INVALID; `export` is the advance of the channel of quantity 0x02. -/
def detect (m : Meter) (neutralCount reverseMin : Nat) (status day : Nat) (real : Bool) (exportAdv : Option Nat) :
    Meter × List (Nat × Bool × Nat) :=
  let n0 := bit m.detFlags 0
  let neut := bit status 4
  let run := if neut = n0 then 0 else m.neutRun + 1
  let n1 : Meter × List (Nat × Bool × Nat) :=
    if !real then (m, [])
    else if !n0 ∧ neut ∧ neutralCount ≤ run then ({ m with detFlags := setBit m.detFlags 0, neutRun := 0 }, [(0, true, run)])
    else if n0 ∧ !neut ∧ 8 ≤ run then ({ m with detFlags := clearBit m.detFlags 0, neutRun := 0 }, [(0, false, run)])
    else ({ m with neutRun := min 255 run }, [])
  let gs := bit status 5
  let trig := !gs && (bit status 1 || ((exportAdv.map (fun e => decide (reverseMin ≤ e))).getD false))
  let r0 := bit n1.1.detFlags 1
  let n2 : Meter × List (Nat × Bool × Nat) :=
    if !real then n1
    else if trig then
      ({ n1.1 with revDay := day, detFlags := setBit n1.1.detFlags 1 }, n1.2 ++ (if r0 then [] else [(1, true, exportAdv.getD 0)]))
    else if r0 ∧ n1.1.revDay + 1 < day then ({ n1.1 with detFlags := clearBit n1.1.detFlags 1 }, n1.2 ++ [(1, false, 0)])
    else n1
  if bit status 0 ∧ !bit n2.1.detFlags 2 then ({ n2.1 with detFlags := setBit n2.1.detFlags 2 }, n2.2 ++ [(2, true, 0)]) else n2

/-! ### Stage 9 (R105, R123, R149, R150) -/

/-- Which window took a frame. -/
inductive Window where
  | current | previous | pending | join
deriving DecidableEq, Repr, Inhabited

/-- R105: the window that judges a frame, or the outcome that decides: 2 REPLAY, 3 AUTH_FAIL. The Bool says that it is counted
in 0x3830.7. -/
def selectWindow (m : Meter) (gen now grace : Nat) : Window ⊕ (Nat × Bool) :=
  if gen = 0 then .inr (3, false)
  else if gen = m.gen then .inl .current
  else if m.pendingGen ≠ 0 ∧ gen = m.pendingGen then .inl .pending
  else if m.gen ≠ 0 ∧ gen + 1 = m.gen ∧ (now + 2 ^ 32 - m.switchTime) % 2 ^ 32 ≤ grace then .inl .previous
  else .inr (if gen < m.gen then 2 else 3, true)

/-- R150: the outcome of a window: 0 new, 1 DUPLICATE, 2 REPLAY. -/
def verdictCode (v : FcVerdict) : Nat := match v with | .fresh => 0 | .duplicate => 1 | .replay => 2

/-- R123, R149, R150: the outcome of an authentic frame in a window. -/
def judgeWindow (m : Meter) (w : Window) (fc : Nat) : Nat :=
  match w with
  | .current => verdictCode (judgeFc fc m.fcHigh m.fcBitmap)
  | .previous => verdictCode (judgeFc fc m.prevHigh m.prevBitmap)
  | .pending => 0
  | .join => if m.joinFcHigh < fc then 0 else if fc = m.joinFcHigh then 1 else 2

/-- R105: the generation switches: the record under PENDING_GEN with an empty window. -/
def switchGen (m : Meter) (time : Nat) : Meter :=
  { m with prevHigh := m.fcHigh, prevBitmap := m.fcBitmap, fcHigh := 0, fcBitmap := 0, gen := m.pendingGen, pendingGen := 0, dlFc := 0
           rflags := clearBit m.rflags 1, switchTime := time % 2 ^ 32, state := 2 }

/-- R150, R105: the record after its window has taken a counter. -/
def takeWindow (m : Meter) (w : Window) (fc time : Nat) : Meter :=
  match w with
  | .current => let x := applyFc fc m.fcHigh m.fcBitmap; { m with fcHigh := x.1, fcBitmap := x.2 }
  | .previous => let x := applyFc fc m.prevHigh m.prevBitmap; { m with prevHigh := x.1, prevBitmap := x.2 }
  | .pending =>
    let n := switchGen m time
    let x := applyFc fc n.fcHigh n.fcBitmap
    { n with fcHigh := x.1, fcBitmap := x.2 }
  | .join => { m with joinFcHigh := fc }

end Sys2Proof.Machine
end

