-- ==== Sys2Proof/Machine/Lanes.lean ====
section
/-!
DEFINITION. The dispatcher and the lanes (chapter 4, R132 to R175): dispatching, the stages, forwarding and rewind, verification,
and what a squash leaves.
-/
namespace Sys2Proof.Machine

/-! ### Names -/

/-- A lane, and a lane changed. -/
def State.laneOf (s : State) (l : Nat) : Lane := at' s.lane.lanes l
def State.updLane (s : State) (l : Nat) (f : Lane → Lane) : State :=
  { s with lane := { s.lane with lanes := upd s.lane.lanes l f } }

/-- An item in flight, and an item changed. -/
def State.item (s : State) (l i : Nat) : Option Item := (s.laneOf l).items.find? (fun x => x.ident == i)
def State.updItem (s : State) (l i : Nat) (f : Item → Item) : State :=
  s.updLane l (fun x => { x with items := x.items.map (fun y => if y.ident = i then f y else y) })

/-- The EUI that an item belongs to. -/
def Item.eui (i : Item) : Nat := if i.isCtl then i.ctl.eui else fEui i.frame

/-- R146: a JOIN and a control item are barriers. -/
def Item.barrier (i : Item) : Bool := i.isCtl || fType i.frame == 3

/-- The route of an item's frame (R441). -/
def Item.route (i : Item) : Nat := fieldLE i.info 12 1

/-- The items of a lane that stand before item `i`. -/
def Lane.before (x : Lane) (i : Nat) : List Item := x.items.takeWhile (fun y => y.ident != i)

/-! ### Dispatching (R97, R138 to R141) -/

/-- R138: the bucket of an EUI. -/
def bucketOf (eui : Nat) : Nat := crc32 (leBytes 8 eui) % 64

/-- R139: whether a lane is in service. -/
def Lane.serves (x : Lane) : Bool := x.mode != .retired && x.mode != .fenced

/-- R139: entries that name a lane not in service are replaced, counting cyclically through the lanes in service. -/
def replaceLanes (ok : List Nat) : List Nat → Nat → List Nat
  | [], _ => []
  | l :: r, k => if ok.contains l then l :: replaceLanes ok r k else ok.getD (k % ok.length) 0 :: replaceLanes ok r (k + 1)

/-- R139: the effective map that LaneMap and the lanes in service give. -/
def State.effectiveMap (s : State) : List Nat :=
  let ok := (List.range 4).filter (fun l => (s.laneOf l).serves)
  if ok = [] then s.lane.map else replaceLanes ok ((s.valB .lanes 0x4002 1).map (·.toNat)) 0

/-- R141: buckets whose lane the effective map changes begin to move. -/
def State.syncMap (s : State) : State :=
  let want := s.effectiveMap
  (List.range 64).foldl (fun st b =>
    let cur := st.lane.map.getD b 0
    let new := want.getD b 0
    match st.lane.moving.find? (fun m => m.bucket == b) with
    | some m => if m.new = new then st
      else { st with lane := { st.lane with moving := st.lane.moving.map (fun x => if x.bucket = b then { x with old := cur, new := new, switched := false } else x) } }
    | none => if cur = new then st else { st with lane := { st.lane with moving := st.lane.moving ++ [⟨b, cur, new, false, []⟩] } }) s

/-- Whether an item of a bucket is in flight in a lane or waits in its input. -/
def State.bucketBusy (s : State) (l b : Nat) : Bool :=
  (s.laneOf l).items.any (fun i => bucketOf i.eui == b) ||
    (s.laneOf l).input.any (fun i => bucketOf (if i.isCtl then i.ctl.eui else fEui i.frame) == b)

/-- R141 step 4: held items are released in order, as many as the input buffer of the new lane takes (R140); with the last of them 0x4005 tells the move. -/
def State.releaseHeld (s : State) (m : Moving) : State :=
  let n := 4 - (s.laneOf m.new).input.length
  let s1 := s.updLane m.new (fun x => { x with input := x.input ++ m.held.take n })
  if m.held.length ≤ n then
    ({ s1 with lane := { s1.lane with moving := s1.lane.moving.filter (fun x => x.bucket ≠ m.bucket) } }).event 0x4005 dispatcherCell
      [byte m.bucket, byte m.old, byte m.new]
  else
    { s1 with lane := { s1.lane with
      moving := s1.lane.moving.map (fun x => if x.bucket = m.bucket then { x with switched := true, held := m.held.drop n } else x) } }

/-- LANE_MAP_MOVE (R141): the old lane has no item of the bucket left: the entry switches and the held items are released. -/
def laneMapMove (b : Nat) (s0 : State) : State :=
  let s := s0.syncMap
  match s.lane.moving.find? (fun m => m.bucket == b) with
  | none => s
  | some m =>
    if m.switched then s.releaseHeld m
    else if s.bucketBusy m.old b then s
    else ({ s with lane := { s.lane with map := s.lane.map.set b m.new } } : State).releaseHeld m

/-- LANE_MAP_MOVE as a command. -/
def execLaneMapMove (bucket : Fin 64) (s : State) : Res := s.whenLive (laneMapMove bucket)

/-- Where the head packet of an ingest queue is bound: its EUI, none when it is malformed (it is then dropped at once). -/
def headEui (q : Nat) (b : Bytes) : Option Nat :=
  if q = 37 then some (ctlOf b).eui
  else
    let f := b.drop 64
    if f.length ≠ fieldLE b 13 1 ∨ f = [] ∨ malformed f then none else some (fEui f)

/-- R140, R141: whether the head of a queue can be taken now. -/
def State.canDispatch (s : State) (q : Nat) : Bool :=
  match s.peekPacket q with
  | none => false
  | some b =>
    match headEui q b with
    | none => true
    | some e =>
      match s.lane.moving.find? (fun m => m.bucket == bucketOf e) with
      | some m => decide (m.held.length < 16)
      | none => decide ((s.laneOf (s.lane.map.getD (bucketOf e) 0)).input.length < 4)

/-- R16, R140: the next of Q5 to Q7: the queue whose turn it is while it has credit and work, then the next; with no credit left
where there is work, a new round. -/
def State.pickWrr (s : State) : Option (Nat × List Nat × Nat) :=
  let ready := [0, 1, 2].filter (fun i => s.canDispatch (5 + i))
  let order := (List.range 3).map (fun k => (s.lane.wrrTurn + k) % 3)
  let pick := fun (cr : List Nat) => order.find? (fun i => ready.contains i && decide (0 < cr.getD i 0))
  let fresh := (List.range 3).map (fun i => s.cfgB .lanes 0x4003 (i + 1))
  if ready = [] then none
  else
    let cr := if (pick s.lane.credits).isSome then s.lane.credits else fresh
    (pick cr).map (fun i => (5 + i, cr.set i (cr.getD i 1 - 1), i))

/-- R140: the queue from which the dispatcher takes, with the state of its arbiters after it. -/
def State.pickQueue (s : State) : Option (Nat × LaneState) :=
  let timed := ((List.range 5).map (fun k => (s.lane.turn + k) % 5)).find? (fun q => s.canDispatch q)
  match timed with
  | some q => some (q, { s.lane with turn := (q + 1) % 5 })
  | none =>
    if s.canDispatch 37 then some (37, s.lane)
    else s.pickWrr.map (fun p => (p.1, { s.lane with credits := p.2.1, wrrTurn := p.2.2 }))

/-- R40: when the last cell of the packet at the front of a queue entered it. -/
def State.headPushedAt (s : State) (q : Nat) : Nat := (((at' s.queue.queues q).cells.find? (·.last)).map (·.pushedAt)).getD s.now

/-- DISPATCH (R97, R138, R140): one item is taken, checked and given to its lane. -/
def dispatch (s0 : State) : State :=
  let s := s0.syncMap
  if !((List.range 4).any (fun l => (s.laneOf l).serves)) then s
  else match s.pickQueue with
    | none => s
    | some (q, ls) =>
      match ({ s with lane := ls } : State).popPacket q with
      | none => s
      | some (s1, b, ab) =>
        if ab then s1
        else match headEui q b with
          | none => s1.frameCount 1
          | some e =>
            let it : Input4 := { isCtl := q == 37, ctl := if q = 37 then ctlOf b else default, frame := if q = 37 then [] else b.drop 64
                                 info := if q = 37 then [] else b.take 64, entered := s.headPushedAt q }
            let bk := bucketOf e
            if s1.lane.moving.any (fun m => m.bucket == bk) then
              { s1 with lane := { s1.lane with moving := s1.lane.moving.map (fun m => if m.bucket = bk then { m with held := m.held ++ [it] } else m) } }
            else s1.updLane (s1.lane.map.getD bk 0) (fun x => { x with input := x.input ++ [it] })

/-- DISPATCH as a command. -/
def execDispatch (s : State) : Res := s.whenLanes dispatch

/-! ### Fetch and identify (stages 1 and 2) -/

/-- The configuration epoch that the lanes follow now. -/
def State.laneEpoch (s : State) : Nat :=
  match s.cfg.publishing with
  | some p => if p.switched.contains .lanes then p.number else s.cfg.applied
  | none => s.cfg.applied

/-- R135, R166, R168: whether a lane may fetch. -/
def Lane.mayFetch (x : Lane) : Bool :=
  x.serves && x.restarting == [] && decide (x.items.length < 16) && decide ((x.items.filter (·.held)).length < 8) &&
    (x.mode == .runAhead || decide ((x.items.filter (fun i => i.plain && !i.held)).length < 4))

/-- FETCH (stage 1): the front of the lane's input becomes an item in flight. -/
def fetchItem (l : Nat) (s : State) : State :=
  let x := s.laneOf l
  match x.input with
  | [] => s
  | i :: rest =>
    if !x.mayFetch then s
    else
      let pl := x.mode != .runAhead
      let it : Item := { (default : Item) with
        ident := s.lane.nextIdent, isCtl := i.isCtl, ctl := i.ctl, frame := i.frame, info := i.info
        ingestAt := i.entered, epoch := s.laneEpoch, cfg := s.settingsFor .lanes, plain := pl
        next := 2, deadline := if i.isCtl then 0 else fieldLE i.info 16 8, judged := 0xFFFF }
      let s1 := { s with lane := { s.lane with nextIdent := s.lane.nextIdent + 1 } }
      s1.updLane l (fun y => { y with
        input := rest, items := y.items ++ [it], peak := max y.peak (y.items.length + 1), plainItems := y.plainItems + b2n pl })

/-- FETCH as a command. -/
def execFetch (lane : Fin 4) (s : State) : Res := s.whenLanes (fetchItem lane)

/-- R142, R144: the producer of an item: the newest earlier item of its meter that gives forwarded state. -/
def Lane.producerOf (x : Lane) (it : Item) : Option Nat :=
  (((x.before it.ident).filter (fun y => y.eui == it.eui && !y.barrier && !y.plain && !y.unknown)).getLast?).map (·.ident)

/-- R146, R166, R167: whether an item must wait in the hold list at stage 2. -/
def Lane.mustHold (x : Lane) (it : Item) : Bool :=
  let same := (x.before it.ident).filter (fun y => y.eui == it.eui)
  if it.barrier || it.plain then same != [] || (it.plain && decide (4 ≤ (x.items.filter (fun y => y.plain && !y.held && y.ident != it.ident && decide (2 < y.next))).length))
  else same.any (fun y => y.barrier || y.plain)

/-- The place of stage `k` in the order of an item's stages (R166). -/
def Item.rank (it : Item) (k : Nat) : Nat := if it.plain then (match k with | 9 => 5 | 5 => 6 | 6 => 7 | 7 => 8 | 8 => 9 | n => n) else k

/-- R133: whether an item may run stage `k`: every earlier item of its meter has completed it, and every earlier item of another meter that has not been
overtaken by way of the hold list, the rewind port or a restart. -/
def Lane.mayEnter (x : Lane) (it : Item) (k : Nat) : Bool :=
  (x.before it.ident).all (fun y => decide (y.rank k < y.rank y.next) || (y.eui != it.eui && (y.held || y.overtaken)))

/-- IDENTIFY (stage 2; R142, R146, R147, R166, R168): the record, the producer, the barriers and the mark UNKNOWN_METER. The hold list has 8 entries
(R135); with none free the item waits before stage 2. -/
def identify (l i : Nat) (s : State) : State :=
  match s.item l i with
  | none => s
  | some it =>
    if it.next ≠ 2 then s
    else if !it.held && !(s.laneOf l).mayEnter { it with ident := i } 2 then s
    else if (s.laneOf l).mustHold it then
      (if it.held || decide (8 ≤ ((s.laneOf l).items.filter (·.held)).length) then s else s.updItem l i (fun y => { y with held := true, overtaken := true }))
    else
      let idx := if it.isCtl then (if (s.meter it.ctl.meter).map (·.eui) = some it.ctl.eui then some it.ctl.meter else none) else s.indexOf it.eui
      let m := (idx.bind s.meter).getD default
      let unknown := !it.isCtl && fType it.frame != 3 && idx.isNone
      let prod := if it.barrier ∨ it.plain ∨ unknown then none else (s.laneOf l).producerOf it
      (s.updItem l i (fun y => { y with
        held := false, meter := idx, shadow := m, unknown := unknown, producer := prod
        next := if it.isCtl ∨ unknown then 10 else 3 })).updLane l (fun y => { y with restarting := y.restarting.filter (· ≠ i) })

/-- IDENTIFY as a command. -/
def execIdentify (lane : Fin 4) (item : Nat) (s : State) : Res := s.whenLanes (identify lane item)

/-! ### Derive and decrypt (stages 3 and 4) -/

/-- R99, R115: the family of a frame's keys: that of the record, or the FAMILY byte of a JOIN. -/
def Item.family (it : Item) : Nat := if fType it.frame = 3 then fFamily it.frame else it.shadow.family

/-- R122, R151: the outcome that a refusal of the vault marks a frame with. -/
def keyMark (join revoked lockdown : Bool) : Nat :=
  if lockdown then 6 else if join then 3 else if revoked then 5 else 6

/-- R166: the stage after `k` in the order of an item. -/
def Item.after (it : Item) (k : Nat) : Nat :=
  if it.plain then (match k with | 4 => 9 | 9 => 5 | 8 => 10 | n => n + 1) else k + 1

/-- DERIVE (stage 3; R99, R134, R160): the uplink key is asked of the vault; the lane's one key register must be free. -/
def derive (l i : Nat) (s : State) : State :=
  match s.item l i with
  | none => s
  | some it =>
    if it.next ≠ 3 ∨ !(s.laneOf l).mayEnter it 3 ∨ (s.laneOf l).items.any (fun y => y.next == 4 && y.mark.isNone) then s
    else
      let slot := s.cfgIn it.cfg (0x3800 + it.family) 1
      let join := fType it.frame == 3
      if slot = 0xFF then s.updItem l i (fun y => { y with slot := slot, slotGen := 0, mark := some (keyMark join false s.vault.lockdown), next := 4 })
      else
        let r := s.deliverKey (laneConsumer l) slot (.up (fEui it.frame) (fGen it.frame))
        let g := polGen (r.1.slot slot).policy
        r.1.updItem l i (fun y => { y with
          slot := slot, slotGen := g, next := 4
          mark := if r.2 = 0 then none else some (keyMark join (r.2 == Abort.rootRevoked) s.vault.lockdown) })

/-- DERIVE as a command. -/
def execDerive (lane : Fin 4) (item : Nat) (s : State) : Res := s.whenLanes (derive lane item)

/-- DECRYPT (stage 4; R100): the plaintext and the computed tag, under the key in the lane's register. -/
def decrypt (l i : Nat) (s : State) : State :=
  match s.item l i with
  | none => s
  | some it =>
    if it.next ≠ 4 ∨ !(s.laneOf l).mayEnter it 4 then s
    else
      let k := (s.reg (laneConsumer l)).key
      let f := it.frame
      s.updItem l i (fun y => if y.mark.isSome then { y with text := [], tag := [], next := y.after 4 }
        else { y with
          text := gcmCrypt k (frameNonce (fEui f) (fFc f)) (fCipher f)
          tag := frameTag k (fEui f) (fFc f) (fAad f) (fCipher f), next := y.after 4 })

/-- DECRYPT as a command. -/
def execDecrypt (lane : Fin 4) (item : Nat) (s : State) : Res := s.whenLanes (decrypt lane item)

/-! ### Forwarded state (R143) -/

/-- R143: the fields of the forwarded state that belong to a stage. -/
def forward (k : Nat) (src dst : Meter) : Meter :=
  match k with
  | 5 => { dst with base := src.base, rflags := (if bit src.rflags 0 then setBit dst.rflags 0 else clearBit dst.rflags 0) }
  | 6 => { dst with badrun := src.badrun }
  | 7 => { dst with lgId := src.lgId, lgVal := src.lgVal, lgOutcome := src.lgOutcome }
  | 8 => { dst with detFlags := src.detFlags, neutRun := src.neutRun, revDay := src.revDay, groups := src.groups }
  | _ => { dst with gen := src.gen, pendingGen := src.pendingGen, fcHigh := src.fcHigh, fcBitmap := src.fcBitmap, prevHigh := src.prevHigh
                    prevBitmap := src.prevBitmap, switchTime := src.switchTime, state := src.state, joinFcHigh := src.joinFcHigh
                    rflags := (if bit src.rflags 1 then setBit dst.rflags 1 else clearBit dst.rflags 1) }

/-- R143: the input of stage `k`: the producer's result of that stage, or the committed record; none while the producer has not
completed it. -/
def State.stageInput (s : State) (l k : Nat) (it : Item) : Option Meter :=
  let committed := ((it.meter.bind s.meter).getD it.shadow)
  match it.producer with
  | none => some (forward k committed it.shadow)
  | some p =>
    match s.item l p with
    | none => some (forward k committed it.shadow)
    | some q => if k < q.next then some (forward k q.shadow it.shadow) else none

/-- R144: the rewind port has priority over stage 4 for entry to stage 5: whether a rewound item that can run waits there. -/
def State.portBusy (s : State) (l : Nat) : Bool :=
  (s.laneOf l).items.any (fun y => y.rewinding && y.next == 5 && (s.stageInput l 5 y).isSome)

/-- One of stages 5 to 9 of an item, on its input. -/
def State.runStage (s : State) (l i k : Nat) (f : Item → Meter → Item) : State :=
  match s.item l i with
  | none => s
  | some it =>
    if it.next ≠ k ∨ !(s.laneOf l).mayEnter it k ∨ (k = 5 ∧ !it.rewinding ∧ s.portBusy l) then s
    else match s.stageInput l k it with
      | none => s
      | some m => s.updItem l i (fun y => { f { y with shadow := m } m with next := y.after k })

/-! ### Stages 5 to 9 -/

/-- The type of an item's frame, unless it has been marked. -/
def Item.isReading (it : Item) : Bool := fType it.frame == 1 && it.mark.isNone

/-- DECODE (R110 to R113, R117, R136). -/
def decodeStage (it : Item) (m : Meter) : Item :=
  let it := { it with rewinding := false }
  if it.mark.isSome ∨ fType it.frame = 7 then it
  else if fType it.frame = 1 then
    match decodeReading m.base it.text with
    | none =>
      { it with undecodable := true, reading := readingHead it.text (List.replicate 4 absentVal), shadow := { m with rflags := setBit m.rflags 0 } }
    | some r =>
      { it with undecodable := false, reading := r
                shadow := { m with base := pushBase m.base r.interval r.vals, rflags := if bit r.mask 4 then clearBit m.rflags 0 else m.rflags } }
  else { it with badBody := bodyBad (fType it.frame) it.text }

/-- DECODE (R112): stage 5 of an item. -/
def decodeItem (l i : Nat) (s : State) : State := s.runStage l i 5 decodeStage

/-- DECODE as a command. -/
def execDecode (lane : Fin 4) (item : Nat) (s : State) : Res := s.whenLanes (decodeItem lane item)

/-- The class of an item's meter under its epoch. -/
def State.itemClass (s : State) (it : Item) : ClassCfg := s.classIn it.cfg it.shadow.cls

/-- VALIDATE (R182 to R185, R188): outcome, reasons and BADRUN, with LG as the producer's stage 7 left it. -/
def validateStage (s : State) (lg : Nat) (lgVals : List Nat) (it : Item) (m : Meter) : Item :=
  if !it.isReading then it
  else
    let k := s.itemClass it
    let r := it.reading
    let cur := if s.syncOf 0 then some (intervalOf s.utcNow k.len) else none
    let j := if it.undecodable then (2 ^ 10, 2) else k.judge r.status (k.reasons cur lg lgVals r)
    let run := if j.2 = 0 then 0 else min 255 (m.badrun + 1)
    { it with reasons := j.1, outcome := j.2, shadow := { m with badrun := run }
              alerts := if j.2 ≠ 0 ∧ k.badRun ≠ 0 ∧ run = k.badRun ∧ m.badrun ≠ run then [(100, true, run)] else [] }

/-- The last-good state that stage 6 of an item tests against: that which stage 7 of its producer left, none while it has not. -/
def State.lastGood (s : State) (l : Nat) (it : Item) : Option (Nat × List Nat) :=
  (s.stageInput l 7 it).map (fun m => (m.lgId, m.lgVal))

/-- VALIDATE (R182): stage 6 of an item. -/
def validateItem (l i : Nat) (s : State) : State :=
  match s.item l i with
  | none => s
  | some it =>
    match s.lastGood l it with
    | none => s
    | some g => s.runStage l i 6 (validateStage s g.1 g.2)

/-- VALIDATE as a command. -/
def execValidate (lane : Fin 4) (item : Nat) (s : State) : Res := s.whenLanes (validateItem lane item)

/-- ESTIMATE (R187, R191): the estimates of a gap, and the advance of the last-good state. -/
def estimateStage (s : State) (it : Item) (m : Meter) : Item :=
  if !it.isReading then it
  else
    let k := s.itemClass it
    let r := it.reading
    let adv := decide (it.outcome ≤ 1 ∧ m.lgId < r.interval)
    let gap := r.interval - m.lgId - 1
    let es := if adv ∧ m.lgId ≠ 0 ∧ 1 ≤ gap ∧ gap ≤ k.interpMax then k.fillGap m.lgId m.lgVal r.interval r.vals else []
    { it with
      advances := adv, oldLg := m.lgId, oldVals := m.lgVal
      ests := es.map (fun p => intervalRecord p.1 (it.meter.getD 0) (recordFlags 0 1 false) 0 0 p.2)
      shadow := if adv then { m with lgId := r.interval, lgVal := r.vals, lgOutcome := it.outcome } else m }

/-- ESTIMATE (R191): stage 7 of an item. -/
def estimateItem (l i : Nat) (s : State) : State := s.runStage l i 7 (estimateStage s)

/-- ESTIMATE as a command. -/
def execEstimate (lane : Fin 4) (item : Nat) (s : State) : Res := s.whenLanes (estimateItem lane item)

/-- R250: the entry of a balance group in given settings. -/
def State.groupEntry (s : State) (st : Settings) (g : Nat) : Bytes :=
  slice (s.valIn st (0x2410 + g / 2048) 0) (32 * (g % 2048)) 32

/-- R252: the entry of a group in force: the one that its last close took over, or the settings' while the group is not at work. -/
def State.entryInForce (s : State) (st : Settings) (g : Nat) : Bytes :=
  match lookupKey g s.bal.groups with
  | some x => x.entry
  | none => s.groupEntry st g

/-- R267: the parameter set of a meter's home group. -/
def State.homeSet (s : State) (st : Settings) (m : Meter) : Option Nat :=
  let g := m.groups.getD 0 0xFFFF
  if g = 0xFFFF then none else some (fieldLE (s.entryInForce st g) 3 1 % 64)

/-- R267: whether an item is a TAMPER event of a meter with a home group. -/
def Item.tamper (it : Item) (m : Meter) : Bool :=
  fType it.frame == 2 && it.mark.isNone && !it.badBody && fieldLE it.text 0 2 == 3 && m.groups.getD 0 0xFFFF != 0xFFFF

/-- BALANCE_CONTRIBUTION (R258, R267): the deltas and the detectors of stage 8. The detector that a TAMPER event will raise at its commit is set in its
shadow record, so that later items of its meter build on it (R143). -/
def balanceStage (s : State) (it : Item) (m : Meter) : Item :=
  if it.tamper m then { it with deltas := [], shadow := { m with detFlags := setBit m.detFlags 2 } }
  else if !it.isReading then { it with deltas := [] }
  else if it.undecodable then
    (if bit it.reading.status 0 ∧ m.groups.getD 0 0xFFFF ≠ 0xFFFF ∧ !bit m.detFlags 2 then
      { it with deltas := [], shadow := { m with detFlags := setBit m.detFlags 2 }, alerts := it.alerts ++ [(2, (true, 0))] }
     else { it with deltas := [] })
  else
    let k := s.itemClass it
    let r := it.reading
    let i := it.meter.getD 0
    let run := it.ests.map (fun e => (rInterval e, (rVals e, false))) ++ [(r.interval, (r.vals, true))]
    let xs := if it.advances ∧ it.oldLg ≠ 0 then k.contributions it.oldLg it.oldVals run else []
    let volt := (k.chan 0x20).bind (fun c => let v := r.vals.getD c absentVal; if v = absentVal then none else some v)
    let ds := xs.map (fun x => Delta.mk i m.groups x.1 k.len x.2.1 (b2n x.2.2 : Nat) 1 (if x.2.2 then volt else none) none)
    match s.homeSet it.cfg m with
    | none => { it with deltas := ds }
    | some set =>
      let e := (k.chan 2).bind (fun c =>
        if it.oldLg ≠ 0 ∧ it.oldLg < r.interval then k.adv it.oldVals r.vals c
        else if r.interval < it.oldLg then k.adv r.vals it.oldVals c else none)
      let d := detect m (s.cfgIn it.cfg (0x2430 + set) 9) (s.cfgIn it.cfg (0x2430 + set) 8) r.status (r.interval * k.len / 1440)
        (decide (it.outcome ≤ 1)) e
      { it with deltas := ds, shadow := d.1, alerts := it.alerts ++ d.2 }

/-- BALANCE_CONTRIBUTION (R258): stage 8 of an item. -/
def balanceItem (l i : Nat) (s : State) : State := s.runStage l i 8 (balanceStage s)

/-- BALANCE_CONTRIBUTION as a command. -/
def execBalanceContribution (lane : Fin 4) (item : Nat) (s : State) : Res := s.whenLanes (balanceItem lane item)

/-- The low 32 bits of the TD0 seconds. -/
def State.secs32 (s : State) : Nat := (secOf s.td0 % 2 ^ 32).toNat

/-- The window of an item's frame, or the outcome that R105 decides. -/
def State.windowOf (s : State) (it : Item) (m : Meter) : Window ⊕ (Nat × Bool) :=
  if fType it.frame = 3 then .inl .join
  else selectWindow m (fGen it.frame) s.secs32 (s.cfgIn it.cfg 0x3812 2)

/-- VERIFY (R105, R149, R150): marks, tags, generation and window; an accepted frame takes its counter in the shadow record. -/
def verifyStage (s : State) (it : Item) (m : Meter) : Item :=
  let f := it.frame
  match it.mark with
  | some o => { it with verdict := o }
  | none =>
    if it.tag ≠ fTag f then { it with verdict := 3 }
    else if fType f = 3 ∧ it.meter.isNone then { it with verdict := 0, judged := 0xFFFF }
    else match s.windowOf it m with
      | .inr (o, c) => { it with verdict := o, judged := fGen f, otherGen := c }
      | .inl w =>
        let v := judgeWindow m w (fFc f)
        { it with verdict := v, judged := if w = .join then 0xFFFF else fGen f
                  shadow := if v = 0 then takeWindow m w (fFc f) s.secs32 else m }

/-- R166: in plain mode only frames that are new go on to stage 5. -/
def plainSkip (it : Item) : Item := if it.plain && it.verdict != 0 then { it with next := 10 } else it

/-- VERIFY (stage 9). -/
def verify (l i : Nat) (s : State) : State :=
  match s.item l i with
  | none => s
  | some it =>
    if it.next ≠ 9 ∨ !(s.laneOf l).mayEnter it 9 then s
    else match s.stageInput l 9 it with
      | none => s
      | some m => s.updItem l i (fun y => plainSkip { verifyStage s { y with shadow := m, otherGen := false } m with next := y.after 9 })

/-- VERIFY as a command. -/
def execVerify (lane : Fin 4) (item : Nat) (s : State) : Res := s.whenLanes (verify lane item)

/-! ### Squash, rewind and copies (R144, R151 to R154) -/

/-- R154: a packet for Q32 to Q36 that a full queue drops: counted, and 0x4006 at most once per second, with the drops at that queue since the last
(log entry 76). -/
def State.pushLossy (s : State) (q l : Nat) (b : Bytes) : State :=
  let r := s.pushOrDrop q (laneCell l) b
  if r.2 then r.1
  else
    let s1 := r.1.laneCount 19
    let n := s1.lane.dropsByQueue.getD (q - 32) 0 + 1
    if s1.perSecond s1.lane.dropEventAt then
      ({ s1 with lane := { s1.lane with dropEventAt := some s1.now, dropsByQueue := s1.lane.dropsByQueue.set (q - 32) 0 } }).event 0x4006 (laneCell l)
        ([byte q, 0, 0, 0] ++ leBytes 4 n)
    else { s1 with lane := { s1.lane with dropsByQueue := s1.lane.dropsByQueue.set (q - 32) n } }

/-- R152: a frame copy. -/
def frameCopy (l : Nat) (it : Item) (outcome : Nat) : Bytes :=
  let detail := if outcome = 5 ∨ outcome = 6 then it.slot % 256 + 256 * it.family else if outcome = 2 then it.judged else 0
  slice it.info 0 12 ++ [byte outcome, byte it.route, byte l, byte it.frame.length] ++ leBytes 4 (it.meter.getD noMeter) ++
    leBytes 4 it.epoch ++ leBytes 2 detail ++ slice it.info 14 2 ++ zeros 4 ++ it.frame

/-- R151: the queue of a frame copy. -/
def copyQueue (outcome : Nat) : Nat := if outcome = 4 then 33 else if outcome = 7 then 36 else 32

/-- R155: the counts of the second: AUTH_FAIL, REPLAY, ROOT_REVOKED, KEY_UNAVAILABLE, UNKNOWN_METER, BAD_BODY. -/
def secondIndex (outcome : Nat) : Option Nat :=
  match outcome with | 3 => some 0 | 2 => some 1 | 5 => some 2 | 6 => some 3 | 4 => some 4 | 8 => some 5 | _ => none

/-- R151, R152, R155: an outcome counted, and its copy made. -/
def State.noteOutcome4 (s : State) (l : Nat) (it : Item) (outcome : Nat) : State :=
  let s1 := s.laneCount (outcome + 1)
  let s2 := match secondIndex outcome with
    | some k => { s1 with lane := { s1.lane with second := upd s1.lane.second k (· + 1) } }
    | none => s1
  if outcome ≤ 1 then s2
  else
    let s3 := s2.pushLossy (copyQueue outcome) l (frameCopy l it outcome)
    if outcome = 4 ∧ (at' s3.queue.queues 33).level ≠ (at' s2.queue.queues 33).level then
      s3.noteUnknown (fEui it.frame) (fFc it.frame) it.deadline it.route (fAr it.frame) (padTo 64 it.info) it.frame
    else s3

/-- Whether an item in flight has entered stage 5 (R144). -/
def Item.entered5 (it : Item) : Bool := !it.isCtl && !it.plain && !it.unknown && decide (6 ≤ it.next)

/-- R144, R160: the later items of an item's meter that have entered stage 5 go back to it. -/
def Lane.rewind (x : Lane) (it : Item) : Lane × Nat :=
  let after := x.items.dropWhile (fun y => y.ident != it.ident) |>.drop 1
  let hit := (after.filter (fun y => y.eui == it.eui && y.entered5)).map (·.ident)
  ({ x with items := x.items.map (fun y => if hit.contains y.ident then { y with next := 5, rewinding := true, overtaken := true } else y), rewound := x.rewound + hit.length }, hit.length)

/-- R144: an item leaves by a squash: its dependants take new producers and are rewound. -/
def State.squash (s : State) (l : Nat) (it : Item) (outcome : Nat) : State :=
  let r := (s.laneOf l).rewind it
  let x1 : Lane := { r.1 with items := r.1.items.filter (fun y => y.ident ≠ it.ident), squashes := r.1.squashes + 1 }
  let x2 : Lane := { x1 with items := x1.items.map (fun y => if y.producer = some it.ident then { y with producer := x1.producerOf y } else y) }
  let s1 := (s.updLane l (fun _ => x2)).noteOutcome4 l it outcome
  if r.2 = 0 then s1
  else
    let s2 := { s1 with lane := { s1.lane with counters := upd (upd s1.lane.counters 9 (· + r.2)) 10 (· + 1) } }
    s2.pushLossy 34 l (time80 s.td0 ++ leBytes 4 (it.meter.getD noMeter) ++ leBytes 4 (fFc it.frame) ++ [byte outcome, byte l, byte r.2] ++ zeros 9)

/-- R160: the frame is restarted from stage 3, its dependants from stage 5. -/
def State.restartFrame (s : State) (l : Nat) (it : Item) : State :=
  let r := (s.laneOf l).rewind it
  (({ s with lane := { s.lane with counters := upd s.lane.counters 9 (· + r.2) } }.updLane l (fun _ => r.1)).updItem l it.ident (fun y => { y with
    next := 3, overtaken := true, rewinding := false, mark := none, badBody := false, undecodable := false, ests := [], deltas := [], alerts := [], stalled := false
    shadow := (y.meter.bind s.meter).getD y.shadow })).laneCount 12

/-! ### Modes (R167 to R169) -/

/-- 0x4001 LaneState of a mode. -/
def LaneMode.code : LaneMode → Nat
  | .runAhead => 0 | .plainCommand => 1 | .plainFence => 2 | .retired => 3 | .fenced => 4

/-- A lane takes a mode, and 0x4001 tells it. -/
def State.setLaneMode (s : State) (l : Nat) (m : LaneMode) (cause : Nat) : State :=
  if (s.laneOf l).mode = m then s
  else (s.updLane l (fun x => { x with mode := m })).event 0x4001 (laneCell l) [byte l, byte m.code, byte cause]

/-- R168: the shadow or undo logic of a lane is fenced: its items restart in plain mode from stage 2, in fetch order. -/
def State.lanePlainFence (s : State) (l : Nat) : State :=
  let x := s.laneOf l
  (s.updLane l (fun y => { y with
    items := y.items.map (fun it => { it with
      plain := true, next := 2, held := false, rewinding := false, overtaken := false, producer := none, mark := none, badBody := false, undecodable := false, ests := [], deltas := []
      alerts := [], stalled := false, unknown := false })
    restarting := x.items.map (·.ident), plainItems := y.plainItems + (x.items.filter (fun it => !it.plain)).length })).setLaneMode l .plainFence 1

/-- R169: a lane is retired, or fenced until it returns: its items, those of its input buffer among them, are discarded and counted. The causes of 0x4001
name no retirement by errors: it is told as 1, one by command as 0 (log entry 76). -/
def State.laneOut (s : State) (l : Nat) (m : LaneMode) (cause : Nat) : State :=
  let n := (s.laneOf l).items.length + (s.laneOf l).input.length
  let s1 := (s.updLane l (fun x => { x with input := [], items := [], restarting := [] })).setLaneMode l m cause
  if n = 0 then s1.syncMap
  else
    (({ s1 with lane := { s1.lane with counters := upd s1.lane.counters 17 (· + n) } }).event 0x4002 (laneCell l)
      ([byte l, 0] ++ leBytes 2 n)).syncMap

/-- R167: what the lanes do when their block switches epochs: PipelineMode. -/
def State.lanesSwitched (s : State) : State :=
  let plain := s.cfgB .lanes 0x4000 0 = 1
  ((List.range 4).foldl (fun st l =>
    match (st.laneOf l).mode with
    | .runAhead => if plain then st.setLaneMode l .plainCommand 0 else st
    | .plainCommand => if plain then st else st.setLaneMode l .runAhead 0
    | _ => st) s).syncMap

/-- R37, R168: a lane returns to service at an epoch. -/
def State.laneReturns (s : State) (l : Nat) : State :=
  (s.setLaneMode l (if s.cfgB .lanes 0x4000 0 = 1 then .plainCommand else .runAhead) 2).syncMap

/-! ### Notices and summaries -/

/-- GENERATION_NOTICE (R159, R568): a lane applies the oldest notice for it, between two commits. -/
def generationNotice (l : Nat) (s : State) : State :=
  match s.vault.notices.find? (fun n => n.lane == l) with
  | none => s
  | some n =>
    let s1 := { s with vault := { s.vault with notices := s.vault.notices.erase n } }
    (s1.updLane l (fun x => { x with gens := x.gens.set n.slot n.gen })).finishRevokes

/-- GENERATION_NOTICE as a command. -/
def execGenerationNotice (lane : Fin 4) (s : State) : Res := s.whenLive (generationNotice lane)

/-- QUARANTINE_SUMMARY (R155). -/
def quarantineSummary (s : State) : State :=
  if s.lane.second.all (· == 0) ∨ s.now < s.lane.summaryAt + cSec 1 then s
  else
    ({ s with lane := { s.lane with second := List.replicate 6 0, summaryAt := s.now } }).event 0x4003 dispatcherCell
      ((s.lane.second.map (fun n => leBytes 2 (min maxU16 n))).flatten)

/-- QUARANTINE_SUMMARY as a command. -/
def execQuarantineSummary (s : State) : Res := s.whenLive quarantineSummary

/-- LATENCY_EXCEEDED (R173). -/
def latencyExceeded (s : State) : State :=
  if s.lane.lateSecond = 0 ∨ !s.perSecond s.lane.lateEventAt then s
  else
    ({ s with lane := { s.lane with lateSecond := 0, lateEventAt := some s.now } }).event 0x4004 dispatcherCell
      (leBytes 4 s.lane.lateSecond ++ leBytes 4 s.lane.latencyMax)

/-- LATENCY_EXCEEDED as a command. -/
def execLatencyExceeded (s : State) : Res := s.whenLive latencyExceeded

/-- LATENCY_STATS_CLEAR (R174). -/
def latencyStatsClear (v : Nat) : State → State × Nat :=
  one v (fun s => ({ s with lane := { s.lane with latencyMax := 0, latencyCount := 0 } }, Abort.ok))

/-- LATENCY_STATS_CLEAR as a command. -/
def execLatencyStatsClear (role v : Nat) (s : State) : Res := s.command 0x4020 3 role .operator (latencyStatsClear v)

end Sys2Proof.Machine
end

