-- ==== Sys2Proof/Machine/Commit.lean ====
section
/-!
DEFINITION. Stages 10 to 12 of the lanes (chapter 4, R156 to R165): commits of frames and of control items, joins (R122 to
R125), and what leaves after a commit.
-/
namespace Sys2Proof.Machine

/-! ### Packets between the units -/

/-- A record on its way to the VEE engine (Q40): the record, whether stage 8 contributed for its interval, and what. The
layout after the record is the model's (log entry 22). -/
def veePacket (rec : Bytes) (x : Option Int) : Bytes := rec ++ [byte (b2n x.isSome)] ++ leInt 8 (x.getD 0)

/-- What a packet of Q40 says stage 8 contributed. -/
def packetX (b : Bytes) : Option Int := if fieldLE b 32 1 = 1 then some (fieldInt b 33 8) else none

/-- A balance delta within a follow-on item (log entry 22). -/
def Delta.bytes (d : Delta) : Bytes :=
  leBytes 4 d.meter ++ leBytes 4 d.interval ++ [byte d.len, byte (d.cause.getD 0xFF)] ++ leInt 8 d.x ++ leInt 1 d.real ++ leInt 1 d.count ++
    leBytes 5 (d.volt.getD absentVal) ++ ((List.range 4).map (fun i => leBytes 2 (d.groups.getD i 0xFFFF))).flatten

/-- The delta that such bytes hold. -/
def deltaOf (b : Bytes) : Delta :=
  { meter := fieldLE b 0 4, interval := fieldLE b 4 4, len := fieldLE b 8 1
    cause := if fieldLE b 9 1 = 0xFF then none else some (fieldLE b 9 1), x := fieldInt b 10 8, real := fieldInt b 18 1
    count := fieldInt b 19 1, volt := if fieldLE b 20 5 = absentVal then none else some (fieldLE b 20 5)
    groups := (List.range 4).map (fun i => fieldLE b (25 + 2 * i) 2) }

/-- R124: a JOIN_ACCEPT asked of the distribution engine (Q48). -/
def JoinAnswer.bytes (j : JoinAnswer) : Bytes :=
  leBytes 4 j.meter ++ leBytes 4 j.fc ++ leBytes 2 j.dest ++ [byte j.route, byte (b2n j.flood)] ++ leBytes 2 j.newGen ++
    (j.hops.map (leBytes 2)).flatten

/-- The request that a packet of Q48 holds. -/
def joinAnswerOf (b : Bytes) : JoinAnswer :=
  { meter := fieldLE b 0 4, fc := fieldLE b 4 4, dest := fieldLE b 8 2, route := fieldLE b 10 1, flood := fieldLE b 11 1 == 1
    newGen := fieldLE b 12 2, hops := (List.range ((b.length - 14) / 2)).map (fun i => fieldLE b (14 + 2 * i) 2) }

/-- R438: a packet pushed into its producer's reservation. -/
def State.pushReserved (s : State) (q producer : Nat) (b : Bytes) : Option State :=
  match s.pushAllRaw q producer true (cellsOf b) with
  | none => none
  | some (s1, evs) => some (s1.emitAll evs)

/-- R156: cells reserved in several queues, or none. -/
def State.reserveAll (s : State) : List (Nat × Nat) → Option State
  | [] => some s
  | (q, n) :: r => if n = 0 then s.reserveAll r else (s.reserve q n).bind (fun t => t.reserveAll r)

/-- R156: a commit whose outputs cannot be reserved waits, and is counted once. -/
def State.stall (s : State) (l : Nat) (it : Item) : State :=
  if it.stalled then s else (s.updItem l it.ident (fun y => { y with stalled := true })).laneCount 17

/-! ### Acknowledgement requests (R161) -/

/-- The acknowledgement request of a frame for the record `m` of meter `i`, if it asks for one. -/
def Item.ackReqFor (it : Item) (i : Nat) (m : Meter) (reack : Bool) : Option AckReq :=
  let f := it.frame
  if !fAr f || (decide (it.route ≤ 2) && fDest f == 0xFFFF) then none
  else some
    { src := fSrc f, lseq := fLseq f, route := m.link % 8, gen := fGen f, eui := m.eui, meter := i, fc := fFc f, tag := fTag f
      deadline := it.deadline, family := it.family, abs := bit m.rflags 0, pend := m.cmdQueued != 0, reack := reack, flood := fFp f }

/-- R161, R165: cells that a request takes in its queue: one, or for frame import and loopback a header cell and the built frame. -/
def AckReq.cells (a : AckReq) : Nat := if a.route = 6 ∨ a.route = 7 then 2 else 1

/-! ### Joins (R122 to R125) -/

/-- The lowest number from `k` that is not used, of `n` tried. -/
def lowestFree (used : List Nat) : Nat → Nat → Option Nat
  | _, 0 => none
  | k, n + 1 => if used.contains k then lowestFree used (k + 1) n else some k

/-- R3, R285: direct meters that count against the limit of a route's medium, and that limit: for the power line 8,192 while any enabled
engine is in A band. -/
def State.mediumCount (s : State) (route : Nat) : Nat × Nat :=
  let direct := s.mtr.table.filter (fun p => p.2.direct)
  if route ≤ 2 then
    ((direct.filter (fun p => decide (p.2.link ≤ 2))).length,
     if (List.range 3).any (fun e => bit (s.cfgB (plcBlk e) 0x2800 1) e && s.band e == 0) then 8192 else 16384)
  else ((direct.filter (fun p => decide (p.2.link = 3 ∨ p.2.link = 4))).length, 16384)

/-- R122 step 2: why a JOIN is refused: 0 not at all, otherwise the reason of 0x3802. -/
def State.joinReason (s : State) (it : Item) : Nat :=
  let pol := s.cfgIn it.cfg (0x3800 + it.family) 2
  let allow := s.valIn it.cfg 0x3810 0
  let direct := decide (it.route ≤ 4)
  let used := s.mtr.table.map (fun p => p.2.short)
  let c := s.mediumCount it.route
  if pol = 0 then 1
  else if pol = 1 ∧ !((List.range (allow.length / 8)).any (fun k => fieldLE allow (8 * k) 8 == it.eui)) then 2
  else if 1048576 ≤ s.mtr.table.length then 3
  else if direct ∧ (c.2 ≤ c.1 ∨ 16384 ≤ (s.mtr.table.filter (fun p => p.2.direct)).length) then 4
  else if direct ∧ (lowestFree used 1 0xFFFC).isNone then 5
  else 0

/-- R122 step 3: the provisional record of a JOIN, and its index. LAST_GEN + 1 is taken in 16 bits (log entry 75). -/
def State.newMeter (s : State) (it : Item) : Nat × Meter :=
  let b := it.text
  let short := if it.route ≤ 4 then (lowestFree (s.mtr.table.map (fun p => p.2.short)) 1 0xFFFC).getD 0xFFFD else 0xFFFD
  let hint := fieldLE b 11 1
  ((lowestFree (s.mtr.table.map (·.1)) 0 1048576).getD 0,
   { (default : Meter) with
     eui := it.eui, short := short, family := it.family, cls := if hint ≤ 63 then hint else s.cfgIn it.cfg (0x3800 + it.family) 3
     state := 1, link := it.route, joinFcHigh := fFc it.frame, pendingGen := (fieldLE b 1 2 + 1) % 65536
     base := List.replicate 4 ⟨0, List.replicate 4 absentVal⟩, lgVal := List.replicate 4 absentVal, groups := List.replicate 4 0xFFFF
     tariff := 0xFF, image := 0xFF, meterFw := fieldLE b 3 4 })

/-- 0x3802 JoinRefused, at most once per second, with the count since the last. -/
def State.noteRefused (s : State) (eui family reason : Nat) : State :=
  let s1 := s.frameCount 3
  let n := s1.mtr.refusedSince + 1
  if s1.perSecond s1.mtr.refusedAt then
    ({ s1 with mtr := { s1.mtr with refusedAt := some s1.now, refusedSince := 0 } }).event 0x3802 meterTableCell
      (leBytes 8 eui ++ [byte reason, byte family] ++ leBytes 2 (min maxU16 n))
  else { s1 with mtr := { s1.mtr with refusedSince := n } }

/-- A JOIN refused. -/
def State.joinRefused (s : State) (it : Item) (reason : Nat) : State := s.noteRefused it.eui it.family reason

/-- R124: the answer owed to a JOIN, which offers generation `g`. -/
def Item.joinAnswer (it : Item) (i g : Nat) : JoinAnswer :=
  { meter := i, fc := fFc it.frame, dest := fSrc it.frame, route := it.route, flood := fFp it.frame, newGen := g, hops := (fRoute it.frame).reverse }

/-- R124: the generation that a repeated answer names: that of the accepted JOIN; where the model no longer holds it, after a cold reset, the one that
the record still offers or has taken (log entry 75). -/
def State.offered (s : State) (i : Nat) (m : Meter) : Nat :=
  (lookupKey i s.mtr.offers).getD (if m.pendingGen = 0 then m.gen else m.pendingGen)

/-! ### What a commit changes (R158) -/

/-- The window that a verified frame of a recorded meter is judged in. -/
def Item.window (it : Item) (m : Meter) : Window :=
  if fType it.frame = 3 then .join
  else if it.judged = m.gen then .current
  else if it.judged = m.pendingGen then .pending else .previous

/-- FC_HIGH of a window before the commit. -/
def Window.high (w : Window) (m : Meter) : Nat :=
  match w with | .current => m.fcHigh | .previous => m.prevHigh | .pending => 0 | .join => m.joinFcHigh

/-- R104, R158, R399: the record of a meter after a frame of it, from its committed record and the shadow record. -/
def Item.committed (it : Item) (m : Meter) (time : Nat) : Meter :=
  let w := it.window m
  let sh := it.shadow
  let m1 := { takeWindow m w (fFc it.frame) time with link := it.route }
  if it.badBody then m1
  else match fType it.frame with
    | 1 =>
      let rf := if bit sh.rflags 0 then setBit m1.rflags 0 else clearBit m1.rflags 0
      { m1 with base := sh.base, rflags := rf, lgId := sh.lgId, lgVal := sh.lgVal, lgOutcome := sh.lgOutcome, badrun := sh.badrun
                detFlags := sh.detFlags, neutRun := sh.neutRun, revDay := sh.revDay }
    | 2 => if bit sh.detFlags 2 then { m1 with detFlags := setBit m1.detFlags 2 } else m1
    | 3 => { m1 with pendingGen := (max m.gen (fieldLE it.text 1 2) + 1) % 65536, meterFw := fieldLE it.text 3 4 }
    | 4 => { m1 with meterFw := fieldLE it.text 3 4 }
    | _ => m1

/-- R448: the cause of a commit's state record, none where it appends none. -/
def Item.stateCause (it : Item) (m : Meter) : Option Nat :=
  let w := it.window m
  let jump := w != .join && decide (w.high m + 127 < fFc it.frame)
  if jump then some 1
  else if w = .pending then some 2
  else if fType it.frame = 3 then some 3
  else if w = .previous then some 4
  else if fType it.frame ≠ 1 then some 0 else none

/-- R448, R449: the state record of a commit. -/
def Item.stateRec (it : Item) (i : Nat) (after : Meter) (cause time : Nat) : Bytes :=
  stateRecord (fFc it.frame) i after.gen it.judged after.pendingGen cause (fType it.frame) after.joinFcHigh time after.link

/-- R190, R448: the interval records of a READING: the real one, then the estimates. -/
def Item.intervalRecords (it : Item) (i : Nat) (valid : Bool) : List Bytes :=
  if fType it.frame ≠ 1 then []
  else
    let r := it.reading
    intervalRecord r.interval i (recordFlags it.outcome 0 valid) (r.status + if valid then 256 * (fFc it.frame % 256) else 0) it.reasons
      r.vals :: it.ests

/-- The packets of Q40 of a commit's interval records. -/
def Item.veePackets (it : Item) (recs : List Bytes) : List Bytes :=
  recs.map (fun r => veePacket r ((it.deltas.find? (fun d => d.interval == rInterval r)).map (·.x)))

/-- R137: the follow-on work of a frame, as control items. -/
def Item.followOns (it : Item) (i : Nat) (pk : List Bytes) : List Bytes :=
  (pk.drop 8).map (fun b => Ctl.bytes ⟨8, i, it.eui, 0, 0, b⟩) ++ (it.deltas.drop 8).map (fun d => Ctl.bytes ⟨9, i, it.eui, 0, 0, d.bytes⟩)

/-! ### Effects of a commit -/

/-- R274: the phase report of a READING. -/
def State.phaseReport (s : State) (it : Item) (i : Nat) (m : Meter) : Option PhaseRep :=
  let z := it.reading.zco
  let kind := bits z 30 2
  let ofs := bits z 0 20
  let top := if s.cfgN 0x2000 2 = 60 then 16666 else 19999
  let arrive := ofTime80 (slice it.info 0 12)
  let us : Int := (ofs : Int) * 1000 * 65536
  if kind = 1 ∧ it.route ≤ 2 ∧ ofs ≤ top then
    some ⟨i, m.groups.getD 0 0xFFFF, arrive - (fieldLE it.info 24 4 : Nat) * 65536 - us⟩
  else if kind = 2 ∧ (it.route = 3 ∨ it.route = 4) ∧ ofs ≤ 999999 then
    let diff := fieldInt it.info 32 8 * 65536
    let t2 := arrive + diff
    let sec := (t2 - us) / (1000000000 * 65536)
    some ⟨i, m.groups.getD 0 0xFFFF, sec * (1000000000 * 65536) + us - diff⟩
  else none

/-- R267: a transition of a stage-8 detector, or 0x4404 QualityRun (100), told. -/
def State.stageAlert (s : State) (l i interval reasons : Nat) (a : Nat × (Bool × Nat)) : State :=
  if a.1 = 100 then s.emit 0x4404 (laneCell l) i (leBytes 4 interval ++ leBytes 2 reasons ++ [byte a.2.2])
  else if a.2.1 then s.emit 0x2403 (laneCell l) i ([byte a.1, 0, 0, 0] ++ leBytes 4 interval ++ leBytes 4 a.2.2)
  else s.emit 0x2404 (laneCell l) i ([byte a.1, 0, 0, 0] ++ leBytes 4 interval)

/-- R267: a TAMPER event of a meter has raised detector 2 at its commit. The event names no interval: a free value stands there. -/
def State.tamperEvent (s : State) (l i : Nat) (old after : Meter) : State :=
  if bit old.detFlags 2 || !bit after.detFlags 2 then s
  else
    let r := s.freeNat
    r.1.emit 0x2403 (laneCell l) i ([2, 0, 0, 0] ++ leBytes 4 r.2 ++ zeros 4)

/-- R105, R125, R405: what follows a change of generation. A rekey that a rejoin overtook is told as a rekey (log entry 75). -/
def State.generationChanged (s : State) (l i : Nat) (old new : Meter) : State :=
  let reason := if old.state = 1 then 0 else if bit old.rflags 1 then 1 else 2
  let s0 := if s.mtr.rekeys.any (fun r => r.meter == i && r.sends != 0) then s.downAnswered i else s
  let s1 := { s0 with mtr := { s0.mtr with joins := eraseKey i s0.mtr.joins, rekeys := s0.mtr.rekeys.filter (fun r => r.meter ≠ i) } }
  let s2 := (s1.frameCount 4).emit 0x3804 (laneCell l) i (leBytes 2 old.gen ++ leBytes 2 new.gen ++ [byte reason])
  let s3 := s2.rebuildCommand i
  if old.state = 1 then
    let s4 := s3.emit 0x3801 (laneCell l) i (leBytes 8 new.eui ++ leBytes 2 new.short ++ [byte new.family, 0])
    if new.link ≤ 2 then s4.recompute new.short 0
    else if new.link = 3 ∨ new.link = 4 then s4.queueSchedule (new.link - 3) i else s4
  else s3

/-- R107, R108: the rekey threshold, reached under GEN, be it by the frame that made the generation current, and a stalled rekey whose meter sends under
GEN. `oldHigh` is FC_HIGH of the window before the frame. -/
def State.rekeyWatch (s : State) (l i oldHigh : Nat) (w : Window) : State :=
  match s.meter i with
  | none => s
  | some m =>
    let s1 := if w = .current then { s with mtr := { s.mtr with
        rekeys := s.mtr.rekeys.map (fun r => if r.meter = i ∧ r.stalled then { r with stalled := false, sends := 0, dueAt := s.now } else r) } } else s
    let thr := s1.cfgN 0x3812 1
    if (w ≠ .current ∧ w ≠ .pending) ∨ m.fcHigh < thr then s1
    else if m.gen = 0xFFFF then
      (if oldHigh < thr then s1.emit 0x3807 (laneCell l) i (leBytes 4 m.fcHigh) else s1)
    else if m.pendingGen ≠ 0 then s1
    else (s1.sendCtl (laneCell l) i 1 0 0 []).getD s1

/-- R136: what a committed body does beside the record. -/
def State.bodyEffects (s : State) (l i : Nat) (it : Item) (old after : Meter) : State :=
  match fType it.frame with
  | 2 => (s.emit 0x3806 (laneCell l) i (padTo 12 it.text)).tamperEvent l i old after
  | 5 => s.blockRequest i it.text
  | 6 => s.commandResponse i it.text
  | _ => s

/-- R173: the latency of a link-timed frame. -/
def State.noteLatency (s : State) (it : Item) : State :=
  if 4 < it.route then s
  else
    let ns := 2 * (s.now - it.ingestAt)
    let late := b2n (decide (20000 < ns))
    { s with lane := { s.lane with latencyMax := max s.lane.latencyMax (min maxU32 ns), latencyCount := s.lane.latencyCount + late
                                   lateSecond := s.lane.lateSecond + late } }

/-- An item leaves stage 10 for stages 11 and 12. -/
def State.toDone (s : State) (l : Nat) (it : Item) (records : List Bytes) (ack : Option AckReq) : State :=
  let no := (s.laneOf l).commitNo
  let it' := { it with next := 11, records := records, ackReq := (ack.map AckReq.bytes).getD [], commitAt := s.td0, commitNo := no }
  s.updLane l (fun x => { x with items := x.items.filter (fun y => y.ident ≠ it.ident), done := x.done ++ [it'] })

/-- R151, R166: a commit counted. -/
def State.countCommit (s : State) (l : Nat) (it : Item) (outcome : Nat) : State :=
  (s.updLane l (fun x => { x with commits := x.commits + 1, commitNo := x.commitNo + 1 })).noteOutcome4 l it outcome

/-- The item's frame names another short address than its record (R127). -/
def State.noteAddress (s : State) (it : Item) (m : Meter) : State := if fSrc it.frame = m.short then s else s.frameCount 6

/-! ### COMMIT_OR_SQUASH: frames -/

/-- Cells of the export record of a commit: Q16 for a READING, Q19 for a PASSTHROUGH. -/
def Item.exportCells (it : Item) : List (Nat × Nat) :=
  if it.badBody then []
  else if fType it.frame = 1 then [(16, 1)]
  else if fType it.frame = 7 then [(19, (9 + 21 + (it.text.length - 2) + 63) / 64)] else []

/-- Packets pushed into reservations of one producer, queue and bytes. -/
def State.pushEach (s : State) (producer : Nat) : List (Nat × Bytes) → Option State
  | [] => some s
  | (q, b) :: r => (s.pushReserved q producer b).bind (fun t => t.pushEach producer r)

/-- A new frame of a recorded meter commits (R42, R156 to R158); a rejoin is one of them (R123). -/
def commitFrame (l i : Nat) (m : Meter) (it : Item) (s : State) : State :=
  let time := s.secs32
  let w := it.window m
  let after := it.committed m time
  let cause := it.stateCause m
  let pk := if it.badBody then [] else it.veePackets (it.intervalRecords i cause.isNone)
  let recs := ((cause.map (fun c => veePacket (it.stateRec i after c time) none)).toList) ++ pk.take 8
  let follow := it.followOns i pk
  let ack := it.ackReqFor i after false
  let join := decide (fType it.frame = 3) && !it.badBody
  let need := [(40, recs.length), (37, follow.length), (48, b2n join)] ++ it.exportCells ++
    ((ack.map (fun a => (8 + a.route, a.cells))).toList)
  let answer := if join then [(48, (it.joinAnswer i after.pendingGen).bytes)] else []
  match (s.reserveAll need).bind (fun r => (r.pushEach veeCell (follow.map (fun b => (37, b)))).bind (fun t => t.pushEach (laneCell l) answer)) with
  | none => s.stall l it
  | some r0 =>
    let r2 := if join then ({ r0 with mtr := { r0.mtr with offers := insertKey i after.pendingGen r0.mtr.offers } }).imageDue i else r0
    let s1 := ((r2.setMeter i after).toDone l it recs ack).countCommit l it (if it.badBody then 8 else 0)
    let s2 := (s1.noteAddress it m).noteLatency it
    let s3 := s2.linkChanged i m.link after.link
    let s4 := if w = .pending then s3.generationChanged l i m after else s3
    let s5 := s4.rekeyWatch l i (w.high m) w
    let s6 := if fType it.frame = 3 ∧ m.state = 1 ∧ !it.badBody then
        { s5 with mtr := { s5.mtr with joins := insertKey i s5.now s5.mtr.joins } } else s5
    if it.badBody then s6
    else
      let s7 := it.alerts.foldl (fun st a => st.stageAlert l i it.reading.interval it.reasons a) s6
      let s8 := { s7 with bal := { s7.bal with
        inbox := s7.bal.inbox ++ it.deltas.take 8
        reports := s7.bal.reports ++ (if fType it.frame = 1 then (s7.phaseReport it i after).toList else []) } }
      (if it.undecodable then s8.frameCount 5 else s8).bodyEffects l i it m after

/-- A JOIN from an EUI with no record (R122): admitted, or refused. -/
def commitJoin (l : Nat) (it : Item) (s : State) : State :=
  if it.badBody then (s.updLane l (fun x => { x with items := x.items.filter (fun y => y.ident ≠ it.ident) })).noteOutcome4 l it 8
  else
    let reason := s.joinReason it
    if reason ≠ 0 then (s.squash l it 7).joinRefused it reason
    else
      let n := s.newMeter it
      let i := n.1
      let m := n.2
      let rec1 := veePacket (it.stateRec i m 3 s.secs32) none
      let ack := it.ackReqFor i m false
      match (s.reserveAll ([(40, 1), (48, 1)] ++ (ack.map (fun a => (8 + a.route, a.cells))).toList)).bind (fun r =>
          r.pushReserved 48 (laneCell l) (it.joinAnswer i m.pendingGen).bytes) with
      | none => s.stall l it
      | some r1 =>
        let r2 := { r1 with mtr := { r1.mtr with
          table := insertKey i m r1.mtr.table, joins := insertKey i r1.now r1.mtr.joins, offers := insertKey i m.pendingGen r1.mtr.offers } }
        let s1 := ((r2.toDone l { it with meter := some i } [rec1] ack).countCommit l it 0).frameCount 2
        ((s1.reportDir it.eui i true).noteLatency it).imageDue i

/-- A duplicate (R151): squashed, and acknowledged again; a JOIN is also answered again (R123). -/
def squashDuplicate (l i : Nat) (m : Meter) (it : Item) (s : State) : State :=
  let join := fType it.frame == 3
  match (if join then (s.reserve 48 1).bind (fun r => r.pushReserved 48 (laneCell l) (it.joinAnswer i (s.offered i m)).bytes) else some s) with
  | none => s.stall l it
  | some r1 =>
    let s1 := (r1.squash l it 1).noteAddress it m
    let ack := it.ackReqFor i m true
    if ack.isNone then s1
    else
      let it' := { it with next := 11, verdict := 1, records := [], ackReq := (ack.map AckReq.bytes).getD [] }
      s1.updLane l (fun x => { x with done := x.done ++ [it'] })

/-! ### COMMIT_OR_SQUASH: control items (R148) -/

/-- R128, R125: a record is removed with all that is kept of its meter. -/
def State.dropMeterState (s : State) (i : Nat) (m : Meter) : State :=
  let s1 := (s.removeCommands i).reportDir m.eui i false
  let gone := fun (l : Link) => m.direct && (l.a == m.short || l.b == m.short)
  { s1 with
    mtr := { s1.mtr with
      table := eraseKey i s1.mtr.table, joins := eraseKey i s1.mtr.joins, offers := eraseKey i s1.mtr.offers, rekeys := s1.mtr.rekeys.filter (fun r => r.meter ≠ i)
      raised := s1.mtr.raised.filter (· ≠ i), unconfirmed := s1.mtr.unconfirmed.filter (· ≠ i) }
    plc := { s1.plc with
      links := s1.plc.links.filter (fun l => !gone l), routes := s1.plc.routes.filter (fun r => !(m.direct && r.short == m.short))
      lastRoute := if m.direct then eraseKey m.short s1.plc.lastRoute else s1.plc.lastRoute }
    radio := { s1.radio with macs := s1.radio.macs.map (fun x => { x with children := x.children.filter (fun c => c.meter ≠ i) }) }
    vee := { s1.vee with hist := eraseKey i s1.vee.hist, toRebuild := s1.vee.toRebuild.filter (· ≠ i) }
    bal := { s1.bal with
      meters := eraseKey i s1.bal.meters, series := s1.bal.series.filter (fun p => p.2 ≠ i)
      mismatch := s1.bal.mismatch.filter (fun p => p.2 ≠ i) } }

/-- R128, R331: the same, and the routes of other meters that went over it are computed again. -/
def State.forgetMeter (s : State) (i : Nat) (m : Meter) : State :=
  let hit := s.plc.routes.filter (fun r => m.direct && r.short != m.short && r.hops.contains m.short)
  hit.foldl (fun st r => st.recompute r.short 2) (s.dropMeterState i m)

/-- R279: members of a group. -/
def State.members (s : State) (g : Nat) : List (Nat × Meter) := s.mtr.table.filter (fun p => p.2.groups.contains g)

/-- R279: why a meter cannot be added to a group, 0 if it can. -/
def State.addRefusal (s : State) (m : Meter) (g : Nat) : Nat :=
  if 4095 < g then Abort.valueRange
  else if m.groups.contains g then Abort.valueInconsistent
  else if !m.groups.contains 0xFFFF ∨ 65536 ≤ (s.members g).length then Abort.noResource else Abort.ok

/-- R279: why a meter cannot be removed from a group, 0 if it can. -/
def removeRefusal (m : Meter) (g : Nat) : Nat :=
  if 4095 < g then Abort.valueRange else if m.groups.contains g then Abort.ok else Abort.valueInconsistent

/-- R279: the group list with one more, and with one less. -/
def groupsWith (l : List Nat) (g : Nat) : List Nat := ((l.filter (· ≠ 0xFFFF)) ++ [g] ++ List.replicate 4 0xFFFF).take 4
def groupsWithout (l : List Nat) (g : Nat) : List Nat := ((l.filter (fun x => x ≠ g ∧ x ≠ 0xFFFF)) ++ List.replicate 4 0xFFFF).take 4

/-- R270: the pool of correlation series. -/
def State.corrPool (s : State) : Nat := s.cfgB .balance 0x2400 2

/-- R253: a membership whose class does not divide the group interval is told once. -/
def State.noteMismatch (s : State) (i : Nat) (m : Meter) (g : Nat) : State :=
  let st := s.settingsFor .balance
  let e := s.groupEntry st g
  let len := (s.classIn (s.settingsFor .lanes) m.cls).len
  if !bit (fieldLE e 0 1) 0 ∨ fieldLE e 1 1 % len = 0 ∨ s.bal.mismatch.contains (g, i) then s
  else ({ s with bal := { s.bal with mismatch := s.bal.mismatch ++ [(g, i)] } }).event 0x2408 0x2400 (leBytes 2 g ++ [byte len])

/-- R270: a membership takes a series of the pool, or is counted where the pool has none left. -/
def State.takeSeries (s : State) (g i : Nat) : State :=
  if s.bal.series.contains (g, i) then s
  else if s.bal.series.length < s.corrPool then { s with bal := { s.bal with series := s.bal.series ++ [(g, i)] } }
  else { s with bal := { s.bal with counters := upd s.bal.counters 8 (· + 1) } }

/-- R252, R270: a group begins under an entry: the series that it had are released; with CORRELATE every membership takes one, in order of
the meter index (log entry 78). -/
def State.assignSeries (s : State) (g : Nat) (e : Bytes) : State :=
  let s1 := { s with bal := { s.bal with series := s.bal.series.filter (fun p => p.1 ≠ g) } }
  if bit (fieldLE e 0 1) 5 then ((s1.members g).map (·.1)).foldl (fun st i => st.takeSeries g i) s1 else s1

/-- R253, R270: a membership begins. -/
def State.addGroupTo (s : State) (i : Nat) (m : Meter) (g : Nat) : State :=
  let s1 := s.setMeter i { m with groups := groupsWith m.groups g }
  let s2 := match lookupKey g s1.bal.groups with
    | some x => if bit (fieldLE x.entry 0 1) 5 then s1.takeSeries g i else s1
    | none => s1
  s2.noteMismatch i m g

/-- R270, R279: a membership ends. -/
def State.removeGroupFrom (s : State) (i : Nat) (m : Meter) (g : Nat) : State :=
  let s1 := s.setMeter i { m with groups := groupsWithout m.groups g }
  { s1 with bal := { s1.bal with series := s1.bal.series.filter (· ≠ (g, i)), mismatch := s1.bal.mismatch.filter (· ≠ (g, i)) } }

/-- R178: a meter in another class. -/
def State.moveClass (s : State) (i : Nat) (m : Meter) (c : Nat) : State :=
  let st := s.settingsFor .lanes
  if (s.classIn st c).len = (s.classIn st m.cls).len then s.setMeter i { m with cls := c }
  else
    let s1 := s.setMeter i { m with cls := c, lgId := 0, lgVal := List.replicate 4 absentVal, badrun := 0 }
    { s1 with vee := { s1.vee with hist := eraseKey i s1.vee.hist, toRebuild := s1.vee.toRebuild.filter (· ≠ i) } }

/-- R267: detectors 0 to 2 cleared by command. The events name no interval: free values stand there. -/
def State.clearDetectors (s : State) (l i : Nat) (m : Meter) (mask : Nat) : State :=
  let hit := (List.range 3).filter (fun d => bit mask d && bit m.detFlags d)
  let s1 := s.setMeter i { m with detFlags := hit.foldl clearBit m.detFlags, neutRun := if hit.contains 0 then 0 else m.neutRun }
  hit.foldl (fun st d => let r := st.freeNat; r.1.emit 0x2404 (laneCell l) i ([byte d, 1, 0, 0] ++ leBytes 4 r.2)) s1

/-- R107 step 1: a rekey starts. -/
def State.startRekey (s : State) (i : Nat) (m : Meter) : State :=
  let s1 := s.setMeter i { m with pendingGen := m.gen + 1, rflags := setBit m.rflags 1 }
  { s1 with mtr := { s1.mtr with rekeys := s1.mtr.rekeys.filter (fun r => r.meter ≠ i) ++ [⟨i, 0, s1.now, false, 0, false⟩] } }

/-- R107: why a rekey cannot start, 0 if it can. -/
def rekeyRefusal (m : Meter) : Nat :=
  if m.pendingGen ≠ 0 then Abort.busy else if m.gen = 0xFFFF then Abort.notInState else Abort.ok

/-- The outcome of a membership change for the host: 0x2480.5 and .6, or the bulk list (`b` − 1 is the entry). -/
def State.memberOutcome (s : State) (b code : Nat) : State :=
  if b = 0 then
    { s with bal := { s.bal with cmdState := if code = 0 then 2 else 3, cmdAbort := if code = 0 then s.bal.cmdAbort else code } }
  else
    let k := s.bal.bulk
    let d := k.getD 0 0
    let r := k.getD 1 0
    let f := k.getD 2 maxU32
    { s with bal := { s.bal with bulk := if code = 0 then [d + 1, r, f] else [d, r + 1, if f = maxU32 then b - 1 else f] } }

/-- The effect of a control item on its meter, and its abort code (R148). `l` is its lane. -/
def ctlEffect (l : Nat) (c : Ctl) (s : State) : State × Nat :=
  match (s.meter c.meter).filter (fun m => m.eui == c.eui) with
  | none => (s, Abort.unknownMeter)
  | some m =>
    match c.code with
    | 1 => if rekeyRefusal m = 0 then (s.startRekey c.meter m, 0) else (s, rekeyRefusal m)
    | 2 => ((s.forgetMeter c.meter m).emit 0x3809 (laneCell l) c.meter (leBytes 8 m.eui), 0)
    | 3 => (s.moveClass c.meter m c.a, 0)
    | 4 => if s.addRefusal m c.a = 0 then (s.addGroupTo c.meter m c.a, 0) else (s, s.addRefusal m c.a)
    | 5 => if removeRefusal m c.a = 0 then (s.removeGroupFrom c.meter m c.a, 0) else (s, removeRefusal m c.a)
    | 6 => if m.state = 1 then ((s.forgetMeter c.meter m).emit 0x3803 meterTableCell c.meter (leBytes 8 m.eui), 0) else (s, Abort.notInState)
    | 7 => (s.clearDetectors l c.meter m c.a, 0)
    | 8 => ((s.pushReserved 40 (laneCell l) c.data).getD s, 0)
    | 9 => ({ s with bal := { s.bal with inbox := s.bal.inbox ++ [deltaOf c.data] } }, 0)
    | 10 => (s.setMeter c.meter (m.withField c.a c.b), 0)
    | 11 => (s.commandTaken c.meter c.a c.b, 0)
    | 12 => (s.rekeyTaken c.meter, 0)
    | 13 => if m.gen = c.a then (s.setMeter c.meter { m with dlFc := m.dlFc + 65536 }, 0) else (s, 0)
    | 14 => (s.tariffAssigned c.meter m c.a, 0)
    | 15 => if m.state = 1 then ((s.forgetMeter c.meter m).noteRefused c.eui m.family 3, 0) else (s, Abort.notInState)
    | _ => (s, 0)

/-- A control item commits, and a record that it changed is to be written to its image unit (R479); those that wait for room in Q37 may now find it. -/
def commitCtl (l : Nat) (it : Item) (s : State) : State :=
  let c := it.ctl
  match (if c.code = 8 then s.reserve 40 1 else some s) with
  | none => s.stall l it
  | some r =>
    let s1 := r.updLane l (fun x => { x with items := x.items.filter (fun y => y.ident ≠ it.ident) })
    let e := ctlEffect l c s1
    let s2 := if c.code = 8 ∧ e.2 ≠ 0 then e.1.release 40 1 else e.1
    let s3 := if c.code = 4 ∨ c.code = 5 ∨ c.code = 7 then s2.memberOutcome c.b e.2 else s2
    let s4 := if s3.meter c.meter = s1.meter c.meter then s3 else s3.imageDue c.meter
    State.sendOwedCtl s4.dist.owedCtl.length s4

/-! ### COMMIT_OR_SQUASH -/

/-- COMMIT_OR_SQUASH (stage 10; R42, R105, R122, R123, R144, R147, R151, R156 to R160). -/
def commitOrSquash (l i : Nat) (s : State) : State :=
  match s.item l i with
  | none => s
  | some it =>
    if it.next ≠ 10 ∨ !(s.laneOf l).mayEnter it 10 then s
    else if it.isCtl then commitCtl l it s
    else if it.unknown then s.squash l it 4
    else if it.slot ≠ 0xFF ∧ it.slotGen ≠ (s.laneOf l).gens.getD it.slot 0 then s.restartFrame l it
    else if it.verdict = 1 then
      (match it.meter.bind s.meter, it.meter with
       | some m, some k => squashDuplicate l k m it s
       | _, _ => s.squash l it 1)
    else if it.verdict ≠ 0 then (if it.otherGen then s.frameCount 7 else s).squash l it it.verdict
    else match it.meter.bind s.meter, it.meter with
      | some m, some k => commitFrame l k m it s
      | _, _ => if fType it.frame = 3 then commitJoin l it s else s.squash l it 4

/-- COMMIT_OR_SQUASH as a command. -/
def execCommitOrSquash (lane : Fin 4) (item : Nat) (s : State) : Res := s.whenLanes (commitOrSquash lane item)

/-! ### Stages 11 and 12 -/

/-- R161, R165: a request goes to its route: to the MAC as it is, through the cascade as it is, to frame import and loopback
as the encryptor's frame. None: its place in the queue cannot be taken yet. -/
def State.sendAck (s : State) (l : Nat) (a : AckReq) : Option State :=
  if a.route = 6 ∨ a.route = 7 then
    let r := s.buildAck a (.route []) false []
    match r.2 with
    | none => some (r.1.release (8 + a.route) a.cells)
    | some f => r.1.pushReserved (8 + a.route) (laneCell l) (padTo 64 a.bytes ++ f)
  else s.pushReserved (8 + a.route) (laneCell l) a.bytes

/-- R163: the request of an item is issued if its deadline is met. None: it must wait. -/
def State.issueAck (s : State) (l : Nat) (it : Item) : Option State :=
  if it.ackReq = [] then some s
  else
    let a := ackOf it.ackReq
    let late := decide (it.deadline ≠ 0 ∧ it.deadline < s.now)
    if a.reack then
      some (if late then s.laneCount 14 else ((s.laneCount 15).pushLossy 35 l it.ackReq).passReacks)
    else if late then some ((s.laneCount 14).release (8 + a.route) a.cells)
    else (s.laneCount 13).sendAck l a

/-- RECORD_AND_ACKNOWLEDGE (stage 11): the records go to Q40, and the acknowledgement request to its route. Items of a meter
pass in commit order (R43). While a place that is reserved cannot be taken (R157), nothing is done yet. -/
def recordAndAcknowledge (l i : Nat) (s : State) : State :=
  match (s.laneOf l).done.find? (fun y => y.ident == i) with
  | none => s
  | some it =>
    let before := (s.laneOf l).done.takeWhile (fun y => y.ident != i)
    if it.next ≠ 11 ∨ before.any (fun y => y.eui == it.eui && y.next == 11) then s
    else
      match (s.pushEach (laneCell l) (it.records.map (fun b => (40, b)))).bind (fun t => t.issueAck l it) with
      | none => s
      | some s2 =>
        let more := it.verdict = 0 ∧ it.exportCells ≠ []
        s2.updLane l (fun x => { x with
          done := if more then x.done.map (fun y => if y.ident = i then { y with next := 12 } else y) else x.done.filter (fun y => y.ident ≠ i) })

/-- RECORD_AND_ACKNOWLEDGE as a command. -/
def execRecordAndAcknowledge (lane : Fin 4) (item : Nat) (s : State) : Res := s.whenLanes (recordAndAcknowledge lane item)

/-- R498: the body of an OPAQUE record. -/
def Item.opaqueBody (it : Item) : Bytes :=
  leBytes 4 (it.meter.getD noMeter) ++ leBytes 4 (fFc it.frame) ++ time80 it.commitAt ++ it.text.take 1 ++ it.text.drop 2

/-- R190, R499: the packet of the export queue: commit number and lane, then the record. -/
def Item.exportPacket (it : Item) (l : Nat) : Nat × Bytes :=
  let head := leBytes 8 it.commitNo ++ [byte l]
  if fType it.frame = 7 then (19, head ++ it.opaqueBody)
  else (16, head ++ ((it.records.map (fun r => r.take 32)).find? (fun r => !rIsState r)).getD [])

/-- EXPORT_ENQUEUE (stage 12; R43, R190). -/
def exportEnqueue (l i : Nat) (s : State) : State :=
  match (s.laneOf l).done.find? (fun y => y.ident == i) with
  | none => s
  | some it =>
    let before := (s.laneOf l).done.takeWhile (fun y => y.ident != i)
    if it.next ≠ 12 ∨ before.any (fun y => y.eui == it.eui) then s
    else
      let p := it.exportPacket l
      match s.pushReserved p.1 (laneCell l) p.2 with
      | none => s
      | some s1 => s1.updLane l (fun x => { x with done := x.done.filter (fun y => y.ident ≠ i) })

/-- EXPORT_ENQUEUE as a command. -/
def execExportEnqueue (lane : Fin 4) (item : Nat) (s : State) : Res := s.whenLanes (exportEnqueue lane item)

end Sys2Proof.Machine
end

