-- ==== Sys2Proof/Machine/Meters.lean ====
section
/-!
DEFINITION. Commands on the meter table (chapter 3, R102 to R108, R124 to R130; R178): rekeys, joins, removal, selection.
-/
namespace Sys2Proof.Machine

/-- The dictionary engine. -/
def dictCell : Nat := 0x8100

/-- A control item of the dictionary engine for the selected meter, after the check that its owner makes now; the check is made
again when the item commits (R148, R745). BUSY while Q37 has no room. -/
def State.ctlForSelected (s : State) (code a : Nat) (check : Meter → Nat) : State × Nat :=
  match s.selected with
  | none => (s, Abort.unknownMeter)
  | some (i, m) =>
    if check m ≠ 0 then (s, check m)
    else match s.sendCtl dictCell i code a 0 [] with
      | none => (s, Abort.busy)
      | some s1 => (s1, Abort.ok)

/-! ### Rekeys (R107, R108) -/

/-- METER_REKEY (R107, R130). -/
def meterRekey (v : Nat) : State → State × Nat := one v (fun s => s.ctlForSelected 1 0 rekeyRefusal)

/-- METER_REKEY as a command. -/
def execMeterRekey (role v : Nat) (s : State) : Res := s.command 0x3822 1 role .keyholder (meterRekey v)

/-- REKEY_SEND (R107 step 2): the first REKEY of a rekey that has begun, by way of the meter's lane. -/
def rekeySend (meter : Nat) (s : State) : State :=
  match s.mtr.rekeys.find? (fun r => r.meter == meter) with
  | none => s
  | some r => if r.stalled ∨ r.asked ∨ r.sends ≠ 0 ∨ s.now < r.dueAt then s else s.askRekey meter

/-- REKEY_SEND as a command. -/
def execRekeySend (meter : Nat) (s : State) : Res := s.whenRunning (rekeySend meter)

/-- REKEY_RETRY (R108, R333): sent again after the retry interval; after 8 sends the rekey stalls. The failure of an unanswered REKEY is charged
now (log entry 80). -/
def rekeyRetry (meter : Nat) (s : State) : State :=
  match s.mtr.rekeys.find? (fun r => r.meter == meter), s.meter meter with
  | some r, some m =>
    if r.stalled ∨ r.asked ∨ r.sends = 0 ∨ s.now < r.dueAt then s
    else if r.sends < 8 then (s.downUnanswered meter r.lseq).askRekey meter
    else
      let s1 := s.downUnanswered meter r.lseq
      (s1.updRekey meter (fun x => { x with stalled := true })).emit
        0x3805 meterTableCell meter (leBytes 2 m.pendingGen ++ [byte r.sends])
  | _, _ => s

/-- REKEY_RETRY as a command. -/
def execRekeyRetry (meter : Nat) (s : State) : Res := s.whenRunning (rekeyRetry meter)

/-! ### Joins (R124, R125) -/

/-- R119, R124: the body of a JOIN_ACCEPT; none while the network key cannot be delivered (R564). The spec gives its CMD_TAG no value: a free one. -/
def State.joinAcceptBody (s : State) (j : JoinAnswer) (m : Meter) : State × Option Bytes :=
  let r := s.downKey s.networkSlot (.raw 1)
  match r.2 with
  | none => (r.1, none)
  | some k =>
    let t := r.1.freeNat
    (t.1, some ([1, 0] ++ leBytes 2 t.2 ++ leBytes 4 j.fc ++ leBytes 2 m.short ++ leBytes 2 j.newGen ++ leBytes 2 s.net.gen ++ padTo 16 k))

/-- JOIN_ACCEPT_SEND (R124, R407): the oldest request in Q48 is answered, once, by the route of its JOIN. -/
def joinAcceptSend (s : State) : State :=
  match s.popPacket 48 with
  | none => s
  | some (s0, b, ab) =>
    let j := joinAnswerOf b
    let s1 := s0.raiseDlFc j.meter
    match (if ab then none else s1.meter j.meter) with
    | none => s0
    | some m =>
      let body := s1.joinAcceptBody j m
      match body.2 with
      | none => body.1
      | some plain =>
      let radio := decide (j.route = 3 ∨ j.route = 4)
      let flood := radio && j.flood
      let fs := if flood then body.1.takeFseq else (body.1, 0)
      let path : Path := if flood then .flood fs.2 (fs.1.floodTtlFor (j.route - 3) j.meter) else .route (if j.route ≤ 2 then j.hops else [])
      let c := fs.1.takeJoin
      let r := c.1.buildUnder m 0 Config.deviceEui c.2 9 j.dest path plain
      match r.2 with
      | none => r.1
      | some fr =>
        (r.1.macSend j.route distCell m.eui
          { frame := fr, meter := j.meter, dest := j.dest, prio := 1, ident := 0, kind := if flood then 1 else if radio then 2 else 0
            backoff := 0, cw := 0, tries := 0 }).1

/-- JOIN_ACCEPT_SEND as a command. -/
def execJoinAcceptSend (s : State) : Res := s.whenRunning joinAcceptSend

/-- JOIN_EXPIRED (R125): the join timeout of a provisional record runs out; the record is removed through its lane. -/
def joinExpired (meter : Nat) (s : State) : State :=
  match s.meter meter, lookupKey meter s.mtr.joins with
  | some m, some at0 =>
    if m.state ≠ 1 ∨ s.now < at0 + cSec (s.cfgN 0x3812 3) then s
    else match s.sendCtl meterTableCell meter 6 0 0 [] with
      | none => s
      | some s1 => { s1 with mtr := { s1.mtr with joins := eraseKey meter s1.mtr.joins } }
  | _, _ => s

/-- JOIN_EXPIRED as a command. -/
def execJoinExpired (meter : Nat) (s : State) : Res := s.whenRunning (joinExpired meter)

/-! ### Removal, selection, class (R128, R130, R178) -/

/-- METER_REMOVE (R128). -/
def meterRemove (v : Nat) : State → State × Nat := one v (fun s => s.ctlForSelected 2 0 (fun _ => 0))

/-- METER_REMOVE as a command. -/
def execMeterRemove (role v : Nat) (s : State) : Res := s.command 0x3822 2 role .operator (meterRemove v)

/-- METER_SELECT_EUI (R130). -/
def meterSelectEui (eui : Nat) (s : State) : State × Nat :=
  match s.indexOf eui with
  | none => (s, Abort.unknownMeter)
  | some i => (s.setRw 0x3820 1 (leBytes 4 i), Abort.ok)

/-- METER_SELECT_EUI as a command. -/
def execMeterSelectEui (role eui : Nat) (s : State) : Res := s.command 0x3820 2 role .operator (meterSelectEui eui)

/-- METER_CLASS_MOVE (R178, R208). -/
def meterClassMove (v : Nat) (s : State) : State × Nat :=
  if 63 < v then (s, Abort.valueRange) else s.ctlForSelected 3 v (fun _ => 0)

/-- METER_CLASS_MOVE as a command. -/
def execMeterClassMove (role v : Nat) (s : State) : Res := s.command 0x4421 0 role .operator (meterClassMove v)

/-- NETWORK_KEY_GRACE_END (R103): the previous network key is no longer used. -/
def networkKeyGraceEnd (s : State) : State :=
  match s.mtr.prevUntil with
  | none => s
  | some u => if s.now < u then s else { s with mtr := { s.mtr with prevUntil := none, unconfirmed := [] } }

/-- NETWORK_KEY_GRACE_END as a command. -/
def execNetworkKeyGraceEnd (s : State) : Res := s.whenRunning networkKeyGraceEnd

end Sys2Proof.Machine
end

