-- ==== Sys2Proof/Machine/Balance.lean ====
section
/-!
DEFINITION. The balance engine (chapter 7, R250 to R281): contributions, sensing blocks, closes, detectors, correlation, phase
identification, and the commands on memberships.
-/
namespace Sys2Proof.Machine

def balCell : Nat := 0x2400
def corrCell : Nat := 0x2401
def phaseCell : Nat := 0x2402

/-! ### Group entries (R250) -/

def gEnabled (e : Bytes) : Bool := bit (fieldLE e 0 1) 0
def gCheckSupply (e : Bytes) : Bool := bit (fieldLE e 0 1) 1
def gPerPhase (e : Bytes) : Bool := bit (fieldLE e 0 1) 2
def gPhaseRef (e : Bytes) : Bool := bit (fieldLE e 0 1) 3
def gCascade (e : Bytes) : Bool := bit (fieldLE e 0 1) 4
def gCorrelate (e : Bytes) : Bool := bit (fieldLE e 0 1) 5
def gLen (e : Bytes) : Nat := fieldLE e 1 1
def gSet (e : Bytes) : Nat := fieldLE e 3 1 % 64
def gCheck (e : Bytes) : Nat := fieldLE e 4 4
def gKloss (e : Bytes) (p : Nat) : Nat := fieldLE e (8 + 4 * p) 4
def gCloss (e : Bytes) (p : Nat) : Nat := fieldLE e (20 + 2 * p) 2
def gOffset (e : Bytes) : Int := fieldInt e 26 2
def gRef (e : Bytes) : Nat := fieldLE e 28 4

/-- The phases L1 to L3 (0 to 2) that supply a group. -/
def gPhases (e : Bytes) : List Nat := (List.range 3).filter (bit (fieldLE e 2 1))

/-- The entry of a group as the balance engine's settings give it. -/
def State.groupNow (s : State) (g : Nat) : Bytes := s.groupEntry (s.settingsFor .balance) g

/-- R252: the entry of a group in force. -/
def State.groupIn (s : State) (g : Nat) : Bytes := s.entryInForce (s.settingsFor .balance) g

/-- A value of a parameter set as the balance engine sees it. -/
def State.param (s : State) (set n : Nat) : Nat := s.cfgB .balance (0x2430 + set) n

/-- One more on count `i` (from 1) of 0x24A0. -/
def State.balCount (s : State) (i n : Nat) : State :=
  { s with bal := { s.bal with counters := upd s.bal.counters (i - 1) (· + n) } }

/-- R679: packets drained from a fenced unit. -/
def State.drain (s : State) (n : Nat) : State := { s with health := { s.health with drained := s.health.drained + n } }

/-- What the engine keeps of a meter. -/
def State.meterBal (s : State) (i : Nat) : MeterBal := (lookupKey i s.bal.meters).getD default

/-- What the engine keeps of a meter, changed. -/
def State.updMeterBal (s : State) (i : Nat) (f : MeterBal → MeterBal) : State :=
  { s with bal := { s.bal with meters := insertKey i (f (s.meterBal i)) s.bal.meters } }

/-- A group changed. -/
def State.updGroup (s : State) (g : Nat) (f : Group → Group) : State :=
  match lookupKey g s.bal.groups with
  | some x => { s with bal := { s.bal with groups := insertKey g (f x) s.bal.groups } }
  | none => s

/-- The class length of a meter in minutes. -/
def State.lenOf (s : State) (m : Meter) : Nat := (s.classIn (s.settingsFor .lanes) m.cls).len

/-! ### Group intervals (R261) -/

/-- An accumulator with nothing in it. -/
def emptyInt (j : Nat) : GInt :=
  { (default : GInt) with
    id := j, supply := [0, 0, 0], i2t := [0, 0, 0], members := [0, 0, 0, 0], real := [0, 0, 0, 0]
    losses := [0, 0, 0, 0], expected := [0, 0, 0, 0], revision := [0, 0, 0, 0], runs := [0, 0, 0, 0]
    alerts := [false, false, false, false] }

/-- A group that starts: nothing open, nothing closed, the interval that contains now counted as closed (R252). -/
def Group.start (e : Bytes) (now : Nat) (runs : List Nat) (alerts : List Bool) : Group :=
  { entry := e, opens := [], ring := [], carry := [0, 0, 0], runs := runs, alerts := alerts, lastClosed := now, results := [], suspects := [] }

/-- The newest open interval, or the last closed one. -/
def Group.newest (g : Group) : Nat := match g.opens.getLast? with | some o => o.id | none => g.lastClosed

/-- R261: a contribution to interval `j`; none when it is dropped. -/
def Group.touch (g : Group) (j : Nat) (f : GInt → GInt) : Option Group :=
  if g.opens.any (fun o => o.id == j) then some { g with opens := g.opens.map (fun o => if o.id = j then f o else o) }
  else if j = g.newest + 1 ∧ g.opens.length < 8 then some { g with opens := g.opens ++ [f (emptyInt j)] }
  else if g.ring.any (fun o => o.id == j) then
    some { g with ring := g.ring.map (fun o => if o.id = j then { f o with revised := true } else o) }
  else none

/-- R261: a dropped contribution, counted; 0x2407 at most once per second. -/
def State.balLate (s : State) (g : Nat) : State :=
  let s1 := s.balCount 3 1
  let n := s1.bal.lateCount + 1
  if s1.perSecond s1.bal.lateAt then
    ({ s1 with bal := { s1.bal with lateAt := some s1.now, lateCount := 0 } }).event 0x2407 balCell (leBytes 2 g ++ [0, 0] ++ leBytes 4 n)
  else { s1 with bal := { s1.bal with lateCount := n } }

/-! ### Contributions (R253 to R260) -/

/-- A contribution to one group: from which meter (with its node in bits [25:20]), as supply or not, the member's phase (0 unknown,
1 to 3, 4 three-phase), whether it carries a voltage for the group. -/
structure Contribution where
  group : Nat
  meter : Nat
  supply : Bool
  phase : Nat
  delta : Delta
  home : Bool
deriving DecidableEq, Repr

/-- R260: a member's phase: the decided one, or else the configured one; 4 for a three-phase member. -/
def MeterBal.phase (b : MeterBal) : Nat := if b.config = 4 then 4 else if b.decided ≠ 0 then b.decided else b.config

/-- R260: what a contribution of `v` adds to the whole sum and to those of L1 to L3. -/
def phaseShares (phase : Nat) (v : Int) : List Int :=
  if phase = 4 then
    let t := v.tdiv 3
    [v, v - 2 * t, t, t]
  else [v, if phase = 1 then v else 0, if phase = 2 then v else 0, if phase = 3 then v else 0]

/-- Elementwise sums. -/
def addInts (a b : List Int) : List Int := List.zipWith (· + ·) a b

/-- A count of member intervals: one to the whole sum, and to each phase that the member is on. -/
def phaseCounts (phase : Nat) (v : Int) : List Int :=
  if phase = 4 then [v, v, v, v] else phaseShares phase v

/-- R255, R260: a contribution added to an accumulator. -/
def Contribution.addTo (c : Contribution) (o : GInt) : GInt :=
  let d := c.delta
  if c.supply then { o with checkSum := o.checkSum + d.x, checkCount := o.checkCount + d.real, checkLen := d.len }
  else
    let old := (lookupKey c.meter o.xs).getD (0, (0, 0))
    { o with
      members := addInts o.members (phaseShares c.phase d.x), real := addInts o.real (phaseCounts c.phase d.real)
      xs := insertKey c.meter (old.1 + d.x, (old.2.1 + d.count, d.len)) o.xs
      volts := match d.volt, c.home with | some v, true => o.volts ++ [⟨c.meter, v⟩] | _, _ => o.volts }

/-- R253, R261: a contribution applied to its group. -/
def State.contribute (s : State) (c : Contribution) : State :=
  match lookupKey c.group s.bal.groups with
  | none => s
  | some g =>
    let j := c.delta.interval * c.delta.len / max 1 (gLen g.entry)
    match g.touch j c.addTo with
    | some g' => (s.balCount 1 1).updGroup c.group (fun _ => g')
    | none => s.balLate c.group

/-- R638: a contribution on its way to the master (log entry 25). -/
def Contribution.bytes (c : Contribution) : Bytes :=
  leBytes 2 c.group ++ [byte (b2n c.supply + 2 * b2n c.home), byte c.phase] ++ c.delta.bytes

/-- The contribution that such bytes hold, from a node. -/
def contributionOf (node : Nat) (b : Bytes) : Contribution :=
  let d := deltaOf (b.drop 4)
  { group := fieldLE b 0 2, supply := bit (fieldLE b 2 1) 0, home := bit (fieldLE b 2 1) 1, phase := fieldLE b 3 1
    delta := d, meter := node * 1048576 + d.meter }

/-- R638: at a leaf the voltage of a contribution to a CASCADE group stays with the per-meter detectors of its own node. -/
def State.keepVolt (s : State) (c : Contribution) : State :=
  match c.delta.volt, c.home, lookupKey c.group s.bal.groups with
  | some v, true, some g =>
    let j := c.delta.interval * c.delta.len / max 1 (gLen g.entry)
    (match g.touch j (fun o => { o with volts := o.volts ++ [⟨c.meter, v⟩] }) with
     | some g' => s.updGroup c.group (fun _ => g')
     | none => s)
  | _, _, _ => s

/-- R266: whether an interval holds a contribution or a block. -/
def GInt.accumulated (o : GInt) : Bool := o.blocks != 0 || o.checkCount != 0 || o.xs != []

/-- R260: a contribution of a meter for one of its groups: dropped while the group is not at work, told once where the interval lengths
do not divide, sent to the master for a CASCADE group of a leaf (R266). -/
def State.contributeTo (s : State) (d : Delta) (i : Nat) (m : Meter) (g : Nat) : State :=
  match lookupKey g s.bal.groups with
  | none => s
  | some x =>
    let c : Contribution :=
      { group := g, meter := i, supply := gCheckSupply x.entry && gCheck x.entry == i, phase := (s.meterBal i).phase, delta := d
        home := m.groups.getD 0 0xFFFF == g }
    if gLen x.entry % max 1 d.len ≠ 0 then s.noteMismatch i m g
    else if gCascade x.entry && s.leafPresent then (s.toMaster 3 3 c.bytes).keepVolt c
    else s.contribute c

/-- R268: a day's energy and real intervals of a member, of the last 29 days. -/
def addDay (days : List (Nat × (Int × Nat))) (day : Nat) (x real : Int) : List (Nat × (Int × Nat)) :=
  let old := (lookupKey day days).getD (0, 0)
  let l := insertKey day (old.1 + x, ((old.2 : Int) + real).toNat) days
  l.drop (l.length - 29)

/-- R260: a contribution applied to every group of its meter as they stand now. -/
def State.applyDelta (s : State) (d : Delta) : State :=
  match s.meter d.meter with
  | none => s
  | some m =>
    let s1 := (m.groups.filter (· ≠ 0xFFFF)).foldl (fun st g => st.contributeTo d d.meter m g) s
    if m.groups.getD 0 0xFFFF = 0xFFFF then s1
    else s1.updMeterBal d.meter (fun b => { b with days := addDay b.days (d.interval * d.len / 1440) d.x d.real })

/-- BALANCE_DELTA_APPLY (R261): the oldest delta of stage 10. -/
def balanceDeltaApply (s : State) : State :=
  match s.bal.inbox with
  | [] => s
  | d :: r =>
    let s1 := { s with bal := { s.bal with inbox := r } }
    if s.inService balCell then s1.applyDelta d else s1.drain 1

/-- BALANCE_DELTA_APPLY as a command. -/
def execBalanceDeltaApply (s : State) : Res := s.whenLive balanceDeltaApply

/-- BALANCE_CORRECTION_APPLY (R259, R261): the oldest packet of Q39. -/
def balanceCorrectionApply (s : State) : State :=
  match s.popPacket 39 with
  | none => s
  | some (s1, b, abort) =>
    if abort then s1
    else if !s1.inService balCell then s1.drain 1
    else
      let i := fieldLE b 0 4
      match s1.meter i with
      | none => s1
      | some m => s1.applyDelta
          { meter := i, groups := m.groups, interval := fieldLE b 4 4, len := s1.lenOf m, x := fieldInt b 12 8
            real := fieldInt b 9 1, count := fieldInt b 10 1, volt := none, cause := some (fieldLE b 8 1) }

/-- BALANCE_CORRECTION_APPLY as a command. -/
def execBalanceCorrectionApply (s : State) : Res := s.whenLive balanceCorrectionApply

/-! ### Sensing blocks (R254) -/

/-- R254: the UTC second to which a block record belongs: that of its first grid instant. -/
def State.blockUtc (s : State) (b : Bytes) : Int := s.utcOf (ofTime80 (slice b 0 12) - 199875000 * 65536)

/-- R254: the block of a group interval: supply energies with their fractions carried, in mW × 0.2 s, and what the loss needs. -/
def addBlock (phases : List Nat) (b : Bytes) (carry : List Int) (o : GInt) : GInt :=
  let p := fun (k : Nat) => fieldInt b (12 + 12 * k) 4
  let sv := fun (k : Nat) => fieldLE b (20 + 12 * k) 4
  let flags := fieldLE b 56 2
  let bad := bit flags 9 || phases.any (fun k => bit flags (6 + k))
  { o with
    supply := (List.range 3).map (fun k => o.supply.getD k 0 + (carry.getD k 0 + p k) / 18000)
    i2t := (List.range 3).map (fun k => o.i2t.getD k 0 + sv k * sv k)
    blocks := o.blocks + 1, badBlocks := o.badBlocks + b2n bad }

/-- R254: a block applied to a group: P × 0.2 s is P / 18,000 mWh of P in mW, the fraction carried. -/
def State.blockTo (s : State) (g : Nat) (b : Bytes) : State :=
  match lookupKey g s.bal.groups with
  | none => s
  | some x =>
    let j := intervalOf (s.blockUtc b) (max 1 (gLen x.entry))
    match x.touch j (addBlock (gPhases x.entry) b x.carry) with
    | none => s.balLate g
    | some y =>
      s.updGroup g (fun _ => { y with
        carry := (List.range 3).map (fun k => (x.carry.getD k 0 + fieldInt b (12 + 12 * k) 4) % 18000) })

/-- SENSING_BLOCK_APPLY (R254, R266): the oldest record of Q52, added to every group with local supply. -/
def sensingBlockApply (s : State) : State :=
  match s.popPacket 52 with
  | none => s
  | some (s1, b, abort) =>
    if abort then s1
    else if !s1.inService balCell then s1.drain 1
    else
      s1.bal.groups.foldl (fun st g =>
        if gCheckSupply g.2.entry then st
        else if gCascade g.2.entry && st.leafPresent then st.toMaster 3 4 (leBytes 2 g.1 ++ b)
        else st.blockTo g.1 b) s1

/-- SENSING_BLOCK_APPLY as a command. -/
def execSensingBlockApply (s : State) : Res := s.whenLive sensingBlockApply

/-! ### The close (R262 to R265) -/

/-- A quotient rounded half up. -/
def roundDiv (n d : Int) : Int := (2 * n + d) / (2 * d)

/-- 0x2000.3 NominalVoltage in units of 2^-16 V. -/
def State.vnom (s : State) : Nat := s.cfgN 0x2000 3

/-- R263: the terms of one phase with local supply: `i2` is the sum of S² in mVA². -/
def lossLocal (e : Bytes) (v : Nat) (p i2 : Nat) : Int :=
  roundDiv ((gKloss e p * i2 * 65536 * 65536 : Nat) : Int) ((18000000000000 * (max 1 v) * (max 1 v) : Nat) : Int) +
    roundDiv ((gCloss e p * 1000 * gLen e : Nat) : Int) 60

/-- R263: the one term of check-meter supply. -/
def lossCheck (e : Bytes) (v : Nat) (es : Int) : Int :=
  roundDiv ((gKloss e 0 : Int) * es * es * 36 * 65536 * 65536) ((10000000 * (max 1 v) * (max 1 v) * 60 * (max 1 (gLen e)) : Nat) : Int) +
    roundDiv ((gCloss e 0 * 1000 * gLen e : Nat) : Int) 60

/-- The phases (0 to 2) that result `k` (0 whole, 1 to 3) counts. -/
def resultPhases (e : Bytes) (k : Nat) : List Nat := if k = 0 then gPhases e else [k - 1]

/-- The results of a group: the whole, and each phase with PER_PHASE. -/
def resultsOf (e : Bytes) : List Nat := 0 :: (if gPerPhase e then (gPhases e).map (· + 1) else [])

/-- E_s of result `k`. -/
def GInt.supplyOf (o : GInt) (e : Bytes) (k : Nat) : Int :=
  if gCheckSupply e then o.checkSum else (resultPhases e k).foldl (fun a p => a + o.supply.getD p 0) 0

/-- E_loss of result `k`. -/
def GInt.lossOf (o : GInt) (e : Bytes) (v k : Nat) : Int :=
  if gCheckSupply e then lossCheck e v o.checkSum
  else (resultPhases e k).foldl (fun a p => a + lossLocal e v p (o.i2t.getD p 0)) 0

/-- R254, R255: SUPPLY_POOR: a check meter's interval that is neither real nor edited, or too few blocks. The check meter may stand at a leaf
(R266): its contributions carry the length of its intervals. -/
def supplyPoor (e : Bytes) (o : GInt) : Bool :=
  if gCheckSupply e then decide (o.checkLen = 0 ∨ o.checkCount * (o.checkLen : Nat) < (gLen e : Nat))
  else decide (gLen e * 300 < (gLen e * 300 - o.blocks + o.badBlocks) * 100)

/-- R262: the member intervals expected: of the whole group and of each phase. The check meter and members whose class does not divide the
group interval are none; leaves' members count at the master (R638). -/
def State.expectedOf (s : State) (g : Nat) (e : Bytes) : List Nat :=
  let ms := (s.members g).filter (fun p => !(gCheckSupply e && gCheck e == p.1) && gLen e % s.lenOf p.2 == 0)
  let count := fun (k : Nat) => ms.foldl (fun a p =>
    let ph := (s.meterBal p.1).phase
    if k = 0 ∨ ph = 4 ∨ ph = k then a + gLen e / s.lenOf p.2 else a) 0
  let leaves := s.casc.leafCounts.foldl (fun a c => if c.group = g ∧ 0 < c.len ∧ gLen e % c.len = 0 then a + c.count * (gLen e / c.len) else a) 0
  [count 0 + leaves, count 1, count 2, count 3]

/-- One result of R263: E_s, E_m, E_loss, R, C, threshold, whether it is decided. -/
structure BalResult where
  es : Int
  em : Int
  loss : Int
  r : Int
  c : Nat
  thr : Int
  real : Nat
  expected : Nat
  poor : Bool
  decided : Bool
deriving DecidableEq, Repr

/-- R263, R264: result `k` of an interval whose loss is given. -/
def State.resultAt (s : State) (e : Bytes) (o : GInt) (loss : Int) (expected k : Nat) : BalResult :=
  let set := gSet e
  let es := o.supplyOf e k
  let em := o.members.getD k 0
  let real := (o.real.getD k 0).toNat
  let c := if expected = 0 then 0 else real * 10000 / expected
  let low : Int := ((s.param set 1 * 1000 : Nat) : Int)
  let rel := if es ≤ 0 then low else max low (es * (s.param set 2 : Int) / 10000)
  let poor := supplyPoor e o
  { es := es, em := em, loss := loss, r := es - em - loss, c := c, thr := rel, real := real, expected := expected, poor := poor
    decided := decide (s.param set 4 ≤ c) && !poor }

/-- The epoch that the balance engine runs under. -/
def State.balEpoch (s : State) : Nat :=
  match s.cfg.publishing with
  | some p => if p.switched.contains .balance then p.number else s.cfg.applied
  | none => s.cfg.applied

/-- R276: a balance result. -/
def BalResult.bytes (r : BalResult) (j g k min' run revision epoch : Nat) (alert revised : Bool) : Bytes :=
  let flags := b2n r.decided + 2 * b2n (r.decided && decide (r.thr < r.r)) + 4 * b2n alert + 8 * b2n (r.decided && decide (r.r < -r.thr)) +
    16 * b2n r.poor + 32 * b2n (decide (r.c < min')) + 64 * b2n revised
  leBytes 4 j ++ leBytes 2 g ++ [byte k, byte flags] ++ leInt 8 r.es ++ leInt 8 r.em ++ leInt 8 r.loss ++ leInt 8 r.r ++
    leBytes 4 (min maxU32 (r.thr / 1000).toNat) ++ leBytes 2 (min maxU16 r.c) ++ [byte run, byte revision] ++ leBytes 4 r.real ++
    leBytes 4 r.expected ++ leBytes 4 epoch ++ zeros 4

/-- R264: run count and alert after a result, and whether the alert was raised (some true) or cleared (some false). -/
def BalResult.judge (r : BalResult) (consec run : Nat) (alert : Bool) : Nat × (Bool × Option Bool) :=
  if !r.decided then (run, (alert, none))
  else if r.thr < r.r then
    let n := min 255 (run + 1)
    if !alert && decide (consec ≤ n) then (n, (true, some true)) else (n, (alert, none))
  else (0, (false, if alert then some false else none))

/-- A rounding to whole Wh, half up. -/
def toWh (x : Int) : Int := roundDiv x 1000

/-- R281: the event of an alert raised or cleared. -/
def alertEvent (g k run j : Nat) (residual : Int) : Option Bool → Option (Nat × Bytes)
  | none => none
  | some true => some (0x2401, leBytes 2 g ++ [byte k, byte run] ++ leBytes 4 j ++ leInt 4 (clampInt (toWh residual) (-2147483648) 2147483647))
  | some false => some (0x2402, leBytes 2 g ++ [byte k, 0] ++ leBytes 4 j)

/-- What a close makes: the group, packets for Q18, events, and results undecided. -/
structure CloseWork where
  group : Group
  packets : List Bytes
  events : List (Nat × Bytes)
  undecided : Nat
  revisions : Nat

/-- R263, R264: one result of the interval that closes. -/
def State.closeResult (s : State) (g : Nat) (e : Bytes) (v : Nat) (w : CloseWork × GInt) (k : Nat) : CloseWork × GInt :=
  let o := w.2
  let grp := w.1.group
  let loss := o.lossOf e v k
  let r := s.resultAt e o loss (o.expected.getD k 0) k
  let q := r.judge (s.param (gSet e) 3) (grp.runs.getD k 0) (grp.alerts.getD k false)
  let bytes := r.bytes o.id g k (s.param (gSet e) 4) q.1 0 s.balEpoch q.2.1 false
  let o' := { o with
    losses := o.losses.set k loss, runs := o.runs.set k q.1, alerts := o.alerts.set k q.2.1
    decided := if k = 0 then r.decided else o.decided, residual := if k = 0 then r.r else o.residual }
  ({ w.1 with
     group := { grp with runs := grp.runs.set k q.1, alerts := grp.alerts.set k q.2.1, results := grp.results ++ [bytes] }
     packets := w.1.packets ++ [bytes], events := w.1.events ++ (alertEvent g k q.1 o.id r.r q.2.2).toList
     undecided := w.1.undecided + b2n (!r.decided) }, o')

/-- R265: a revised interval told again, its loss, runs and alerts as they were. -/
def State.reviseResult (s : State) (g : Nat) (e : Bytes) (w : List Bytes × GInt) (k : Nat) : List Bytes × GInt :=
  let o := w.2
  let r := s.resultAt e o (o.losses.getD k 0) (o.expected.getD k 0) k
  let rev := min 255 (o.revision.getD k 0 + 1)
  let o' := { o with revision := o.revision.set k rev, decided := if k = 0 then r.decided else o.decided
                     residual := if k = 0 then r.r else o.residual }
  (w.1 ++ [r.bytes o.id g k (s.param (gSet e) 4) (o.runs.getD k 0) rev s.balEpoch (o.alerts.getD k false) true], o')

/-! ### Correlation (R270 to R272) -/

/-- R271: the valid pairs (x, r) of a member in whole Wh: the member's defined intervals cover the group interval. -/
def corrPairs (g : Group) (m : Nat) : List (Int × Int) :=
  g.ring.filterMap (fun o =>
    match lookupKey m o.xs with
    | some (x, (n, len)) =>
      let w := toWh x
      if o.decided && decide (0 ≤ w ∧ w ≤ 65535 ∧ ((gLen g.entry : Nat) : Int) ≤ n * (len : Nat)) then some (w, toWh o.residual) else none
    | none => none)

/-- R271: ρ × 10,000, none where it is undefined, and K. -/
def corrRho (l : List (Int × Int)) (minSamples : Nat) : Option Int × Nat :=
  let k : Int := (l.length : Int)
  let sum := fun (f : Int × Int → Int) => l.foldl (fun a p => a + f p) 0
  let sx := sum (·.1)
  let sr := sum (·.2)
  let num := k * sum (fun p => p.1 * p.2) - sx * sr
  let d := (k * sum (fun p => p.1 * p.1) - sx * sx) * (k * sum (fun p => p.2 * p.2) - sr * sr)
  if l.length < minSamples then (none, l.length)
  else if d ≤ 0 then (some 0, l.length)
  else
    let q : Int := (isqrt (num.natAbs * num.natAbs * 100000000 / d.toNat) : Nat)
    (some (if num < 0 then -q else q), l.length)

/-- R267: the active detectors of a meter. -/
def State.detectors (s : State) (i : Nat) : Nat :=
  ((s.meter i).map (fun m => m.detFlags % 8)).getD 0 + (s.meterBal i).mask / 8 % 8 * 8

/-- R272: a suspect: meter, ρ, score × 10,000, K, detectors. -/
structure Suspect where
  meter : Nat
  rho : Option Int
  score : Int
  k : Nat
  mask : Nat
deriving DecidableEq, Repr

/-- R272: by score, ties to the lower meter index. -/
def insertSuspect (x : Suspect) : List Suspect → List Suspect
  | [] => [x]
  | y :: r => if y.score < x.score ∨ (y.score = x.score ∧ x.meter < y.meter) then x :: y :: r else y :: insertSuspect x r

/-- R271, R272: the suspect list of a group. -/
def State.suspects (s : State) (g : Nat) (e : Bytes) (grp : Group) : List Suspect :=
  let ms := (s.bal.series.filter (fun p => p.1 == g)).map (·.2)
  let minS := s.param (gSet e) 12
  let weight : Int := (s.param (gSet e) 13 : Nat)
  let floor' : Int := s.cfgIntIn (s.settingsFor .balance) (0x2430 + gSet e) 14
  let all := ms.map (fun m =>
    let c := corrRho (corrPairs grp m) minS
    let mask := s.detectors m
    Suspect.mk m c.1 (c.1.getD 0 + weight * (popcount 6 mask : Nat) * 10000 / 65536) c.2 mask)
  ((all.filter (fun x => decide (floor' * 10000 ≤ x.score * 65536))).foldr insertSuspect []).take 32

/-- R277: a suspect list as bytes. -/
def suspectBytes (j g : Nat) (alert : Bool) (l : List Suspect) : Bytes :=
  leBytes 4 j ++ leBytes 2 g ++ [byte l.length, byte (b2n alert)] ++ zeros 8 ++
    (l.map (fun x => leBytes 4 x.meter ++ (match x.rho with | some r => leInt 2 r | none => leBytes 2 0x8000) ++
      leInt 2 (clampInt x.score (-32768) 32767) ++ leBytes 2 x.k ++ [byte x.mask, 0])).flatten

/-! ### VOLTAGE (R269) -/

/-- A meter detector raised or cleared by the balance engine. -/
def State.alertRaised (s : State) (cell det i interval : Nat) (value : Int) : State :=
  (s.updMeterBal i (fun b => { b with mask := setBit b.mask det })).emit 0x2403 cell i
    ([byte det, 0, 0, 0] ++ leBytes 4 interval ++ leInt 4 (clampInt value (-2147483648) 2147483647))
def State.alertCleared (s : State) (cell det i interval cause : Nat) : State :=
  (s.updMeterBal i (fun b => { b with mask := clearBit b.mask det })).emit 0x2404 cell i ([byte det, byte cause, 0, 0] ++ leBytes 4 interval)

/-- R269: the outliers of one phase: meter and deviation in mV. The median of an even number of values is the mean of the middle two. -/
def outliers (vals : List VoltVal) (tol vnom : Nat) : List (Nat × Int) :=
  if vals.length < 8 then []
  else
    let l := sortInts (vals.map (fun v => (v.mv : Int)))
    let twice := l.getD ((l.length - 1) / 2) 0 + l.getD (l.length / 2) 0
    vals.filterMap (fun v =>
      let d := 2 * (v.mv : Int) - twice
      if 2 * (tol * vnom) < d.natAbs * 65536 then some (v.meter, d / 2) else none)

/-- R269: an outlier interval of a member. -/
def State.voltOutlier (s : State) (limit day j : Nat) (p : Nat × Int) : State :=
  let b := s.meterBal p.1
  let n := if b.voltDay = day then b.voltCount + 1 else 1
  let s1 := s.updMeterBal p.1 (fun x => { x with voltDay := day, voltCount := n })
  if limit ≤ n ∧ !bit b.mask 5 then s1.alertRaised balCell 5 p.1 j p.2 else s1

/-- R269: the voltages of the interval that closes, by the decided or configured phase of the members whose home group it is. -/
def State.voltageTest (s : State) (e : Bytes) (o : GInt) : State :=
  let ph := fun (i : Nat) => let b := s.meterBal i; if b.decided ≠ 0 then b.decided else b.config
  let day := o.id * gLen e / 1440
  [1, 2, 3].foldl (fun st p =>
    (outliers (o.volts.filter (fun v => decide (v.meter < 1048576) && ph v.meter == p)) (st.param (gSet e) 10) st.vnom).foldl
      (fun st2 x => st2.voltOutlier (st2.param (gSet e) 11) day o.id x) st) s

/-! ### GROUP_INTERVAL_CLOSE -/

/-- Packets pushed into Q18, all of them or none. -/
def State.pushQ18 (s : State) : List Bytes → Option State
  | [] => some s
  | b :: r => (s.pushPacket 18 balCell b).bind (fun t => t.pushQ18 r)

/-- R270: the series of a group whose CORRELATE changes. -/
def State.correlateFrom (s : State) (g : Nat) (old e : Bytes) : State := if gCorrelate e == gCorrelate old then s else s.assignSeries g e

/-- R266, R638: an interval of a CASCADE group at a leaf whose master is present ends with nothing to publish; the voltages are
judged here. -/
def closeSilently (g : Nat) (grp : Group) (e : Bytes) (s : State) : State :=
  let j := grp.lastClosed + 1
  let o := (grp.opens.find? (fun x => x.id == j)).getD (emptyInt j)
  ((s.updGroup g (fun _ => { grp with entry := e, opens := grp.opens.filter (fun x => x.id ≠ j), lastClosed := j })).correlateFrom g grp.entry e).voltageTest e o

/-- R262 to R265, R272: the next interval of a group closes. -/
def closeInterval (g : Nat) (grp : Group) (e : Bytes) (s0 : State) : State :=
  let s := s0.correlateFrom g grp.entry e
  let j := grp.lastClosed + 1
  let o0 := { ((grp.opens.find? (fun x => x.id == j)).getD (emptyInt j)) with expected := s.expectedOf g e }
  let w0 : CloseWork := { group := { grp with entry := e, results := [] }, packets := [], events := [], undecided := 0, revisions := 0 }
  let w := (resultsOf e).foldl (s.closeResult g e s.vnom) (w0, o0)
  let rev := grp.ring.map (fun x =>
    if x.revised then (let q := (resultsOf e).foldl (s.reviseResult g e) ([], x); (q.1, { q.2 with revised := false })) else ([], x))
  let g1 := { w.1.group with
    opens := grp.opens.filter (fun x => x.id ≠ j), ring := (w.2 :: rev.map (·.2)).take 672, lastClosed := j }
  let sus := suspectBytes j g (g1.alerts.getD 0 false) (s.suspects g e g1)
  let list := gCorrelate e && s.inService corrCell
  let g2 := if list then { g1 with suspects := sus } else g1
  let packets := w.1.packets ++ (rev.map (·.1)).flatten ++ (if list then [sus] else [])
  match s.pushQ18 packets with
  | none => s.backpressure 18
  | some s1 =>
    let s2 := (((s1.updGroup g (fun _ => g2)).balCount 7 1).balCount 8 w.1.undecided).balCount 2 (rev.filter (fun x => x.1 != [])).length
    (w.1.events.foldl (fun st ev => st.event ev.1 balCell ev.2) s2).voltageTest e w.2

/-- GROUP_INTERVAL_CLOSE (R252, R262): a group's next interval closes once it is due. A group not yet at work starts. -/
def groupIntervalClose (g : Nat) (s : State) : State :=
  if !s.inService balCell then s
  else
    let e := s.groupNow g
    match lookupKey g s.bal.groups with
    | none =>
      if gEnabled e then
        ({ s with bal := { s.bal with groups := insertKey g (Group.start e (intervalOf s.utcNow (max 1 (gLen e))) [0, 0, 0, 0] [false, false, false, false])
                                        s.bal.groups } }).assignSeries g e
      else s
    | some grp =>
      if s.utcNow < (((grp.lastClosed + 2) * gLen grp.entry * 60 + s.cfgB .balance 0x2400 1 : Nat) : Int) then s
      else if !gEnabled e then
        { s with bal := { s.bal with groups := eraseKey g s.bal.groups, series := s.bal.series.filter (fun p => p.1 ≠ g) } }
      else if gLen e ≠ gLen grp.entry ∨ gCheckSupply e ≠ gCheckSupply grp.entry then
        (s.updGroup g (fun _ => Group.start e (intervalOf s.utcNow (max 1 (gLen e))) grp.runs grp.alerts)).assignSeries g e
      else if gCascade e ∧ s.leafPresent ∧ !(grp.opens.any (fun o => o.id == grp.lastClosed + 1 && o.accumulated)) then closeSilently g grp e s
      else closeInterval g grp e s

/-- GROUP_INTERVAL_CLOSE as a command. -/
def execGroupIntervalClose (group : Fin 4096) (s : State) : Res := s.whenLive (groupIntervalClose group)

/-- R679: at the engine's return to service, intervals that were open during the fence are not published. -/
def State.balanceReturned (s : State) : State :=
  { s with bal := { s.bal with groups := s.bal.groups.map (fun p =>
    (p.1, { p.2 with opens := [], lastClosed := max p.2.lastClosed (intervalOf s.utcNow (max 1 (gLen p.2.entry))) })) } }

/-! ### UTC_DAY_CLOSE (R267 to R269) -/

/-- R268: whether a day of a member is judged. -/
def dayJudged (minC len : Nat) (d : Int × Nat) : Bool := decide (minC * (1440 / max 1 len) ≤ d.2 * 10000)

/-- R268: the day of one member. -/
def collapseTest (day i : Nat) (s : State) : State :=
  match s.meter i with
  | none => s
  | some m =>
    match s.homeSet (s.settingsFor .balance) m with
    | none => s
    | some set =>
      let b := s.meterBal i
      let len := s.lenOf m
      let ok := dayJudged (s.param set 4) len
      let prior := (b.days.filter (fun p => decide (p.1 < day ∧ day ≤ p.1 + 28) && ok p.2)).map (·.2.1)
      match (lookupKey day b.days).filter ok with
      | none => s
      | some (energy, _) =>
        if prior.length < 14 then s
        else
          let sum := prior.foldl (· + ·) 0
          let n : Int := (prior.length : Int)
          let below := decide (energy * 100 * n < (s.param set 5 : Int) * sum)
          let enough := decide ((s.param set 6 : Int) * 1000 * n ≤ sum)
          if below && enough then
            let k := b.lowDays + 1
            let s1 := s.updMeterBal i (fun x => { x with lowDays := k })
            if s.param set 7 ≤ k ∧ !bit b.mask 3 then let f := s1.freeNat; f.1.alertRaised balCell 3 i f.2 (toWh energy) else s1
          else
            let s1 := s.updMeterBal i (fun x => { x with lowDays := 0 })
            if bit b.mask 3 ∧ !below then let f := s1.freeNat; f.1.alertCleared balCell 3 i f.2 0 else s1

/-- R267: VOLTAGE cleared by a day without an outlier. -/
def voltageDay (day i : Nat) (s : State) : State :=
  let b := s.meterBal i
  if bit b.mask 5 ∧ b.voltDay < day then let f := s.freeNat; f.1.alertCleared balCell 5 i f.2 0 else s

/-- UTC_DAY_CLOSE (R267, R268, R454): the index of the day before this one is closed, and that day is judged once. -/
def utcDayClose (s0 : State) : State :=
  let s := s0.closeDay
  let day := s.utcDay - 1
  if !s.inService balCell ∨ day ≤ s.bal.dayClosed then s
  else
    (s.mtr.table.map (·.1)).foldl (fun st i => voltageDay day i (collapseTest day i st)) { s with bal := { s.bal with dayClosed := day } }

/-- UTC_DAY_CLOSE as a command. -/
def execUtcDayClose (s : State) : Res := s.whenLive utcDayClose

/-! ### Phase identification (R273 to R275) -/

/-- R233: a record of Q51 as the cell keeps it. -/
def crossingOf (b : Bytes) : Crossing51 :=
  { phase := fieldLE b 12 1, stamp := ofTime80 (slice b 0 12), period := fieldLE b 16 4, lost := bit (fieldLE b 13 1) 0 }

/-- The records of Q51 are taken, the last 512 kept. -/
def State.takeCrossings : Nat → State → State
  | 0, s => s
  | n + 1, s =>
    match s.popPacket 51 with
    | none => s
    | some (s1, b, abort) =>
      if abort then s1.takeCrossings n
      else if !s1.inService phaseCell then (s1.drain 1).takeCrossings n
      else
        let l := s1.bal.crossings ++ [crossingOf b]
        State.takeCrossings n { s1 with bal := { s1.bal with crossings := l.drop (l.length - 512) } }

/-- R274: the latest record of a phase at or before an instant. -/
def State.crossingBefore (s : State) (p : Nat) (t : Int) : Option Crossing51 :=
  (s.bal.crossings.filter (fun c => c.phase == p && decide (c.stamp ≤ t))).getLast?

/-- R274: θ from local crossings, in 0.01°, rounded down; none where the report is discarded. -/
def State.thetaLocal (s : State) (t : Int) : Option Nat :=
  let use := [1, 2, 3].findSome? (fun p => (s.crossingBefore p t).bind (fun c => if c.lost then none else some (p, c)))
  use.bind (fun u =>
    let d := t - u.2.stamp
    let per : Int := (u.2.period * 65536 : Nat)
    if 2000000000 * 65536 < d ∨ per = 0 then none
    else some (((36000 * (d % per) / per + 12000 * ((u.1 : Int) - 1)) % 36000).toNat))

/-- R274: θ from the reference meter. -/
def State.thetaMeter (s : State) (e : Bytes) (t : Int) : Option Nat :=
  let b := s.meterBal (gRef e)
  match b.lastTm with
  | none => none
  | some r =>
    if b.config = 0 ∨ 3 < b.config then none
    else if (s.cfgB .balance 0x2400 3 : Int) * 1000000000 * 65536 < t - r then none
    else
      let v1 := s.crossingBefore 1 t
      let nominal : Nat := if s.cfgN 0x2000 2 = 60 then 16666667 else 20000000
      let per : Int := ((match v1 with | some c => if c.lost ∨ c.period = 0 then nominal else c.period | none => nominal) * 65536 : Nat)
      some (((36000 * ((t - r) % per) / per + 12000 * ((b.config : Int) - 1)) % 36000).toNat)

/-- R275: d[p] in 0.01°. -/
def angleTo (theta : Nat) (offset : Int) (p : Nat) : Int := ((theta : Int) - offset - 12000 * ((p : Int) - 1) + 18000) % 36000 - 18000

/-- R275: the phase with the smallest distance, the lowest of equals. -/
def nearest (theta : Nat) (offset : Int) : Nat :=
  [2, 3].foldl (fun q p => if (angleTo theta offset p).natAbs < (angleTo theta offset q).natAbs then p else q) 1

/-- R273: whether a decided phase agrees with the configured one. -/
def phaseAgrees (config decided : Nat) : Bool := if config = 4 then decided == 1 else config == decided

/-- R267: the PHASE detector. The events name no interval: a free value stands there. -/
def State.phaseDetector (s : State) (i : Nat) : State :=
  let b := s.meterBal i
  if b.config = 0 ∨ b.decided = 0 then s
  else if phaseAgrees b.config b.decided then
    (if bit b.mask 4 then let f := s.freeNat; f.1.alertCleared phaseCell 4 i f.2 0 else s)
  else if bit b.mask 4 then s
  else
    let f := s.freeNat
    (f.1.alertRaised phaseCell 4 i f.2 b.theta).emit 0x2406 phaseCell i ([byte b.config, byte b.decided, 0, 0] ++ leBytes 2 b.theta)

/-- R278: a phase-change record. Within Q18 its last reserved byte marks it (log entry 26). -/
def State.phaseRecord (s : State) (i : Nat) (m : Meter) (old : Nat) (b : MeterBal) : Bytes :=
  time80 s.td0 ++ leBytes 4 i ++ leBytes 8 m.eui ++ [byte old, byte b.decided, byte b.config, byte b.run] ++ leBytes 2 b.theta ++ [0, 0] ++
    leBytes 2 (m.groups.getD 0 0xFFFF) ++ zeros 29 ++ [1]

/-- R275: a report with its angle. -/
def State.phaseAngle (s : State) (i : Nat) (m : Meter) (e : Bytes) (theta : Nat) : State :=
  let b := s.meterBal i
  let q := nearest theta (gOffset e)
  if 3000 < (angleTo theta (gOffset e) q).natAbs then
    (s.updMeterBal i (fun x => { x with theta := theta, cand := 0, run := 0 })).balCount 5 1
  else
    let run := if q = b.cand then min 255 (b.run + 1) else 1
    let b1 : MeterBal := { b with theta := theta, cand := q, run := run }
    let s1 := (s.updMeterBal i (fun _ => b1)).balCount 4 1
    if s.cfgB .balance 0x2400 4 ≤ run ∧ q ≠ b.decided then
      let b2 : MeterBal := { b1 with decided := q }
      let s2 := (s1.updMeterBal i (fun _ => b2)).emit 0x2405 phaseCell i ([byte b.decided, byte q, byte b.config, byte run] ++ leBytes 2 theta)
      (s2.sendPacket 18 phaseCell (s.phaseRecord i m b.decided b2)).1.phaseDetector i
    else s1

/-- PHASE_REPORT (R273 to R275): the oldest report, in commit order. -/
def phaseReportApply (s0 : State) : State :=
  let s := s0.takeCrossings (at' s0.queue.queues 51).level
  match s.bal.reports with
  | [] => s
  | r :: rest =>
    let s1 := { s with bal := { s.bal with reports := rest } }
    if !s.inService phaseCell then s1.drain 1
    else if (s.pushPacket 18 phaseCell (zeros 64)).isNone then s.backpressure 18
    else
      let s2 := s1.updMeterBal r.meter (fun b => { b with lastTm := some r.tm })
      match s1.meter r.meter with
      | none => s1
      | some m =>
        let g := m.groups.getD 0 0xFFFF
        let e := s1.groupIn g
        let theta := if g = 0xFFFF then none else if gPhaseRef e then s1.thetaMeter e r.tm else s1.thetaLocal r.tm
        match theta with
        | none => s2.balCount 6 1
        | some t => s2.phaseAngle r.meter m e t

/-- PHASE_REPORT as a command. -/
def execPhaseReport (s : State) : Res := s.whenLive phaseReportApply

/-! ### Commands (R273, R279) -/

/-- A membership command's answer, and what 0x2480.5 and .6 show of it; a value out of its range changes neither (R744). -/
def memberAnswer (r : State × Nat) : State × Nat :=
  if r.2 = Abort.valueRange then r
  else ({ r.1 with bal := { r.1.bal with cmdState := if r.2 = 0 then 1 else 3, cmdAbort := if r.2 = 0 then r.1.bal.cmdAbort else r.2 } }, r.2)

/-- ADD_GROUP (R279). -/
def addGroup (g : Nat) (s : State) : State × Nat :=
  if 4095 < g then (s, Abort.valueRange) else memberAnswer (s.ctlForSelected 4 g (fun m => s.addRefusal m g))

/-- ADD_GROUP as a command. -/
def execAddGroup (role v : Nat) (s : State) : Res := s.command 0x2480 1 role .operator (addGroup v)

/-- REMOVE_GROUP (R279). -/
def removeGroup (g : Nat) (s : State) : State × Nat :=
  if 4095 < g then (s, Abort.valueRange) else memberAnswer (s.ctlForSelected 5 g (fun m => removeRefusal m g))

/-- REMOVE_GROUP as a command. -/
def execRemoveGroup (role v : Nat) (s : State) : Res := s.command 0x2480 2 role .operator (removeGroup v)

/-- A command on the balance engine's own state: done at once. -/
def memberDone (r : State × Nat) : State × Nat :=
  ({ r.1 with bal := { r.1.bal with cmdState := if r.2 = 0 then 2 else 3, cmdAbort := if r.2 = 0 then r.1.bal.cmdAbort else r.2 } }, r.2)

/-- R267: a change of the configured phase clears the PHASE detector, and a new disagreement raises it. -/
def State.phaseConfigured (s : State) (i v : Nat) : State :=
  let b := s.meterBal i
  let s1 := s.updMeterBal i (fun x => { x with config := v })
  if v = b.config then s1
  else if bit b.mask 4 then (let f := s1.freeNat; f.1.alertCleared phaseCell 4 i f.2 1).phaseDetector i
  else s1.phaseDetector i

/-- CONFIG_PHASE (R273). A value beyond 4 changes nothing (R744). -/
def configPhase (v : Nat) (s : State) : State × Nat :=
  if 4 < v then (s, Abort.valueRange)
  else memberDone (match s.selected with
    | none => (s, Abort.unknownMeter)
    | some (i, _) => (s.phaseConfigured i v, Abort.ok))

/-- CONFIG_PHASE as a command. -/
def execConfigPhase (role v : Nat) (s : State) : Res := s.command 0x2480 3 role .operator (configPhase v)

/-- CLEAR_DETECTORS (R267): detectors 3 to 5 at once, 0 to 2 through the meter's lane. -/
def clearDetectorsCmd (v : Nat) (s : State) : State × Nat :=
  match s.selected with
  | none => memberDone (s, Abort.unknownMeter)
  | some (i, _) =>
    let hit := [3, 4, 5].filter (fun d => bit v d && bit (s.meterBal i).mask d)
    let now := fun (st : State) => hit.foldl (fun t d =>
      let f := t.freeNat
      (f.1.alertCleared (if d = 4 then phaseCell else balCell) d i f.2 1).updMeterBal i (fun b => if d = 3 then { b with lowDays := 0 } else b)) st
    if v % 8 = 0 then memberDone (now s, Abort.ok)
    else
      let r := s.ctlForSelected 7 (v % 8) (fun _ => 0)
      memberAnswer (if r.2 = 0 then now r.1 else r.1, r.2)

/-- CLEAR_DETECTORS as a command. -/
def execClearDetectors (role v : Nat) (s : State) : Res := s.command 0x2480 4 role .operator (clearDetectorsCmd v)

/-- R279: one entry of the list, as a control item; none while Q37 has no room. -/
def bulkEntry (b : Bytes) (s : Option State) (k : Nat) : Option State :=
  s.bind (fun st =>
    let meter := fieldLE b (8 * k) 4
    let g := fieldLE b (8 * k + 4) 2
    let action := fieldLE b (8 * k + 6) 1
    match st.meter meter with
    | none => some (st.memberOutcome (k + 1) Abort.unknownMeter)
    | some _ =>
      if 1 < action then some (st.memberOutcome (k + 1) Abort.valueRange)
      else st.sendCtl dictCell meter (if action = 0 then 4 else 5) g (k + 1) [])

/-- MEMBER_BULK (R279): the list becomes control items in its order, or BUSY while Q37 cannot take them all. -/
def memberBulk (b : Bytes) (s : State) : State × Nat :=
  if b.length % 8 ≠ 0 ∨ 65536 < b.length then (s, Abort.valueRange)
  else
    match (List.range (b.length / 8)).foldl (bulkEntry b) (some { s with bal := { s.bal with bulk := [0, 0, maxU32] } }) with
    | none => (s, Abort.busy)
    | some s1 => (s1, Abort.ok)

/-- MEMBER_BULK as a command. -/
def execMemberBulk (role : Nat) (list : Bytes) (s : State) : Res := s.command 0x2481 0 role .operator (memberBulk list)

end Sys2Proof.Machine
end

