-- ==== Sys2Proof/Machine/Sense.lean ====
section
/-!
DEFINITION. The sensing front-end (chapter 6): sync events and resets, measurement blocks, zero crossings, voltage events
and energy registers.
-/
namespace Sys2Proof.Machine

/-! ### Chains -/

/-- R210: the cell of a channel, and of its FIR cell. -/
def senseCell (c : Nat) : Nat := 0x0100 + c
def firCellAddr (c : Nat) : Nat := 0x0200 + c

/-- Whether a channel or its FIR cell is fenced or retired. -/
def State.chanFenced (s : State) (c : Nat) : Bool := !s.inService (senseCell c) || !s.inService (firCellAddr c)

/-- R236: whether a channel is enabled and not fenced. -/
def State.chanOn (s : State) (c : Nat) : Bool := bit (s.cfgN 0x2000 1) c && !s.chanFenced c

/-- The set in the active bank of a FIR cell. -/
def FirCell.active (f : FirCell) : List Int := at' f.coefs f.bank

/-- R228: outputs of a FIR cell of a sensing chain, with a set of `taps` taps, that carry SETTLING after a reset: ceil((T + 12) / 2) − 1. -/
def firSettle (taps : Nat) : Nat := (taps + 13) / 2 - 1

/-- R228: measurement samples that carry SETTLING after a reset of a chain with a set of `taps` taps. -/
def settleCount (taps : Nat) : Nat := firSettle taps + 71

/-- R223, R228: a chain after a synchronising reset: 3 CIC outputs, 12 half-band outputs and 1 coarse output will carry SETTLING. -/
def Chain.reset (c : Chain) (taps : Nat) : Chain :=
  { c with integ := [0, 0, 0, 0], comb := [0, 0, 0, 0], cicOut := [], hbOut := [], firOut := [], comp := [], coarse := List.replicate 31 0
           cicSettle := 3, hbSettle := 12, settle := settleCount taps, coarseSettle := 1, overHist := List.replicate 37 false
           pendingReset := false }

/-- One more on count `i` (from 1) of 0x2110. -/
def State.senseCount (s : State) (i n : Nat) : State :=
  { s with sense := { s.sense with counters := upd s.sense.counters (i - 1) (· + n) } }

/-- Taps of the active set of chain `c`. -/
def State.chainTaps (s : State) (c : Nat) : Nat := (at' s.sense.fir c).active.length

/-- R223: a reset of chain `c`. -/
def State.resetChain (s : State) (c : Nat) : State :=
  { s with sense := { s.sense with
      chains := upd s.sense.chains c (fun x => x.reset (s.chainTaps c))
      fir := upd s.sense.fir c (fun f => { f with settle := firSettle (s.chainTaps c) }) } }

/-- R212: 125 µs, the step of the 8 kS/s grid, in units of 2^-16 ns. -/
def gridStep : Int := 8192000000

/-- R212: the TD0 time of a grid instant, with what an unlocked PLL has lagged behind since. -/
def State.gridNow (s : State) : Int :=
  s.sense.gridOfs + s.sense.gridDrift * (((s.now - s.sense.gridRef) * 131072 : Nat) : Int) / 100000000

/-- R225: the signed distance in ns from now to the nearest 8 kS/s grid instant. -/
def State.gridErrorNow (s : State) : Int :=
  let e := (s.td0 - s.gridNow) % gridStep
  if 2 * e ≤ gridStep then -(e / 65536) else (gridStep - e) / 65536

/-- The newest instant of a division of the grid by `step` that is not after now, in TD0. -/
def State.instantNow (s : State) (step : Int) : Int := s.td0 - (s.td0 - s.gridNow) % step

/-- R225: the first 4.096 MHz edge at or after now, in TD0: 512 edges make a grid step. -/
def State.edgeNow (s : State) : Int := s.td0 + (s.gridNow - s.td0) % 16000000

/-- R223, R225: an aligning reset of all chains, with its event; `cause` as 0x2001 codes it. -/
def State.align (s : State) (cause : Nat) (err : Int) : State :=
  let s1 := (List.range 8).foldl (fun st c => st.resetChain c) s
  let s2 := { s1 with sense := { s1.sense with
                gridOfs := s.edgeNow, gridRef := s.now, needAlign := none, syncNow := false, resets := s.sense.resets + 1 } }
  (s2.senseCount 1 1).event 0x2001 0x0100 ([byte cause, byte (s.cfgN 0x2000 4), 0, 0] ++ leInt 4 err)

/-- R224: the cause for which an aligning reset is due, if one is. -/
def State.alignCause (s : State) (source : Nat) (err : Int) : Option Nat :=
  match s.sense.needAlign with
  | some c => some c
  | none =>
    if s.sense.syncNow then some 1
    else if source ≠ 2 ∧ (s.cfgN 0x2000 5 : Int) < (if err < 0 then -err else err) then some 2
    else none

/-- R640: while a cascade is formed, SAMPLE_SYNC gives no sync event of its own: the sample epoch whose instant has come does, and
is used up by it. -/
def State.takeEpoch (s : State) (source : Nat) : Option State :=
  if source = 1 ∧ s.inCascade then
    match s.casc.epochs with
    | t :: r => if t ≤ s.td0 then some { s with casc := { s.casc with epochs := r } } else none
    | [] => none
  else some s

/-- SYNC_EVENT (R224, R225, R227): a sync event of the selected source (0 a TD0 second boundary, 1 a rising edge of
SAMPLE_SYNC or the instant of a sample epoch, 2 the next 8 kS/s output instant) measures the grid error and realigns the grid
where that is due. -/
def syncEvent (source : Nat) (s0 : State) : State :=
  match (if s0.cfgN 0x2000 4 ≠ source then none else s0.takeEpoch source) with
  | none => s0
  | some s =>
    let err := s.gridErrorNow
    let s1 := if source = 2 then s else { s with sense := { s.sense with gridError := err } }
    match s1.alignCause source err with
    | some c => s1.align c err
    | none => s1

/-- SYNC_EVENT as a command. -/
def execSyncEvent (source : Fin 3) (s : State) : Res := s.whenLive (syncEvent source)

/-- SYNC_NOW (R224, R248): a write of 1 to 0x2000.6 asks for an aligning reset. -/
def syncNow (v : Nat) : State → State × Nat :=
  one v (fun s => if s.sense.syncNow then (s, Abort.busy)
                  else ({ s with sense := { s.sense with syncNow := true } }, Abort.ok))

/-- SYNC_NOW as a command. -/
def execSyncNow (role v : Nat) (s : State) : Res := s.command 0x2000 6 role .operator (syncNow v)

/-- LOCAL_RESET (R226): a chain that a local reset is due for makes it at its output instant. -/
def localReset (c : Nat) (s : State) : State :=
  if (at' s.sense.chains c).pendingReset then (s.resetChain c).senseCount 1 1 else s

/-- LOCAL_RESET as a command. -/
def execLocalReset (c : Fin 8) (s : State) : Res := s.whenLive (localReset c)

/-- R212: the grid under another lack of steering, in 0.01 ppm. -/
def State.gridSteered (s : State) (lack : Int) : State :=
  { s with sense := { s.sense with gridOfs := s.gridNow, gridRef := s.now, gridDrift := lack } }

/-- GRID_UNLOCKED (R212): the steering that the sensing PLL needs, in 0.01 ppm. Beyond ±200 ppm LOCKED clears, 0x2009 is raised and the grid
runs at the limit of its range; within the range LOCKED is set. -/
def gridUnlocked (steer : Int) (s0 : State) : State :=
  let s := s0.gridSteered (steer - clampInt steer (-20000) 20000)
  if -20000 ≤ steer ∧ steer ≤ 20000 then { s with sense := { s.sense with locked := true } }
  else if s.sense.locked then
    ({ s with sense := { s.sense with locked := false } }).event 0x2009 0x0100 (leInt 4 steer)
  else s

/-- GRID_UNLOCKED as a command. -/
def execGridUnlocked (steer : Int) (s : State) : Res := s.whenLive (gridUnlocked steer)

/-! ### Calibration (R244 to R247) -/

/-- R245: the temperature factor in units of 10^-11; the die temperature is in 0.1 °C. -/
def tempFactor (c : Nat) (dieTemp : Int) : Int :=
  let d := dieTemp - 250
  100000000000 + 100 * Config.factoryTemp 1 c * d + Config.factoryTemp 2 c * d * d

/-- R245: the numerator of G_f × G_u × temperature factor; its denominator is `gainDen`. -/
def State.gainNum (s : State) (c : Nat) (dieTemp : Int) : Int :=
  (Config.factoryGain c : Int) * s.cfgI (0x2001 + c) 6 * tempFactor c dieTemp

/-- R245: 2^30 (Q2.30) × 2^32 (FIX64) × 10^11 × 2^23 codes. -/
def gainDen : Nat := 2 ^ 62 * 100000000000 * 2 ^ 23

/-- R246: the effective gain as FIX64 (0x2010.6 to 0x2017.6). -/
def State.effectiveGain (s : State) (c : Nat) : Int := s.gainNum c s.sense.dieTemp / (2 ^ 30 * 100000000000)

/-- R237, R246: the effective delay τ of a channel in units of 2^-16 ns. -/
def State.tau (s : State) (c : Nat) : Int :=
  Config.factoryDelay c + s.cfgI (0x2001 + c) 7 * 1000000000 / (360 * s.cfgN 0x2000 2)

/-- R246: the effective phase as FIX32 degrees at the nominal frequency. -/
def State.effectivePhase (s : State) (c : Nat) : Int :=
  Config.factoryDelay c * (360 * s.cfgN 0x2000 2 : Nat) / 1000000000 + s.cfgI (0x2001 + c) 7

/-! ### The fine path (R213) -/

/-- What one chain gives at an output instant: the sample delayed by the Hilbert filter's 32 samples, the Hilbert filter's
output, and whether it counts for a measurement (R240). -/
structure ChainOut where
  x : Int
  xh : Int
  good : Bool
deriving DecidableEq, Repr, Inhabited

/-- R213: four CIC outputs from 512 modulator bits, after the shift; results newest first, and how many saturated. -/
def cicFour : Nat → Nat → Nat → List Int → List Int → List Int → Nat → List Int × (List Int × (List Int × Nat))
  | 0, _, _, integ, comb, outs, n => (integ, comb, outs, n)
  | k + 1, w, sh, integ, comb, outs, n =>
    let r := cicStep w integ comb
    let y := shiftSat r.1 sh
    cicFour k (w / 2 ^ 128) sh r.2.1 r.2.2 (y.1 :: outs) (n + b2n y.2)

/-- R213 to R217: one 8 kS/s instant of a chain: 512 modulator bits through the CIC, the half-band filter, the FIR cell and
the compensator. `sh` are CicShift, HalfBandShift and FirShift; `coef` the active set. A sample saturated in any stage is flagged; the flag
stays with the sample through the compensator's delay of 4 samples and the 32 of R238 (log entry 79). -/
def Chain.instant (c : Chain) (sh : List Nat) (coef : List Int) (offset tau : Int) (bits : Nat) : Chain × (ChainOut × Bool) :=
  let ci := cicFour 4 bits (at' sh 0) c.integ c.comb [] 0
  let cic := (ci.2.2.1 ++ c.cicOut).take 25
  let h1 := shiftSat (dot halfBandTaps (cic.drop 2)) (at' sh 1)
  let h2 := shiftSat (dot halfBandTaps cic) (at' sh 1)
  let hb := (h2.1 :: h1.1 :: c.hbOut).take 384
  let acc := firAcc coef hb 0 false
  let f := shiftSat acc.1 (at' sh 2)
  let fir := ((f.1 - offset) :: c.firOut).take 8
  let comp := (Config.compensator tau fir :: c.comp).take 65
  let overs := [ci.2.2.2, b2n h1.2 + b2n h2.2, b2n f.2, b2n acc.2]
  let any := overs.any (· != 0)
  let hist := (any :: c.overHist).take 37
  ({ c with integ := ci.1, comb := ci.2.1, cicOut := cic, hbOut := hb, firOut := fir, comp := comp
            cicSettle := c.cicSettle - 4, hbSettle := c.hbSettle - 2, settle := c.settle - 1
            overs := List.zipWith (· + ·) c.overs overs, overHist := hist, overBlock := c.overBlock || any },
   { x := at' comp 32, xh := Config.hilbert comp, good := c.settle == 0 && !at' hist 36 }, acc.2)

/-- R239, R240: one instant added to a phase's sums, under the gain numerators in force. -/
def PhaseSums.add (a : PhaseSums) (v i : ChainOut) (gv gi : Int) (on settling : Bool) : PhaseSums :=
  if on && v.good && i.good then
    let x := v.x * gv
    let y := i.x * gi
    { a with vv := a.vv + x * x, ii := a.ii + y * y, vi := a.vi + x * y, hi := a.hi + v.xh * gv * y, n := a.n + 1 }
  else { a with settling := a.settling || (on && settling) }

/-- One instant of all eight chains, which take `bits`: what each puts out. -/
def State.chainOuts (s : State) (bits : List Nat) : List (Chain × (ChainOut × Bool)) :=
  (List.range 8).map (fun c =>
    let f := at' s.sense.fir c
    (at' s.sense.chains c).instant [s.cfgN (0x2001 + c) 2, s.cfgN (0x2001 + c) 3, at' f.shifts f.bank] f.active
      (Config.factoryOffset c) (s.tau c) (at' bits c))

/-- R236, R239, R242: the sums of the block with the outputs of one instant. -/
def State.sumsWith (s : State) (outs : List (Chain × (ChainOut × Bool))) : BlockSums :=
  let a := s.sense.sums
  let g := fun c => s.gainNum c s.sense.dieTemp
  let settling := fun c => (at' s.sense.chains c).settle != 0
  let o := fun c => (at' outs c).2.1
  let on := fun c => s.chanOn c && (o c).good
  let sum3 := [3, 4, 5].filter s.chanOn
  let vec := sum3.foldl (fun t c => t + (o c).x * g c) 0
  let vecOn := sum3 != [] && sum3.all (fun c => (o c).good)
  { ph := (List.range 3).map (fun p =>
      (at' a.ph p).add (o p) (o (p + 3)) (g p) (g (p + 3)) (s.chanOn p && s.chanOn (p + 3)) (settling p || settling (p + 3)))
    inSq := if on 6 then a.inSq + ((o 6).x * g 6) ^ 2 else a.inSq
    inN := a.inN + b2n (on 6)
    vecSq := if vecOn then a.vecSq + vec * vec else a.vecSq
    vecN := a.vecN + b2n vecOn
    auxSq := if on 7 then a.auxSq + ((o 7).x * g 7) ^ 2 else a.auxSq
    auxSum := if on 7 then a.auxSum + (o 7).x * g 7 else a.auxSum
    auxN := a.auxN + b2n (on 7) }

/-- One instant of all eight chains: the chains and FIR cells run, and the block's sums take the outputs. -/
def senseInstant (bits : List Nat) (s : State) : State :=
  let outs := s.chainOuts bits
  let overs := fun (c : Chain) => c.overs.foldl (· + ·) 0
  let chains : List Chain := outs.map (fun o => o.1)
  ({ s with sense := { s.sense with
      chains := chains
      fir := s.sense.fir.mapIdx (fun c (f : FirCell) =>
        if c < 8 then { f with accSat := f.accSat || (at' outs c).2.2, settle := f.settle - 1 } else f)
      sums := s.sumsWith outs } }).senseCount 2
    ((chains.map overs).foldl (· + ·) 0 - (s.sense.chains.map overs).foldl (· + ·) 0)

/-- A sum of squares under gain numerators as an RMS in FIX32. -/
def rmsFix (sq : Int) (n : Nat) : Nat :=
  if n = 0 then 0 else isqrt ((sq * 2 ^ 32 / ((n : Int) * (gainDen : Int) ^ 2)).toNat)

/-- A sum of products under gain numerators as a power in FIX64. -/
def powFix (sum : Int) (n : Nat) : Int :=
  if n = 0 then 0 else sum * 2 ^ 32 / ((n : Int) * (gainDen : Int) ^ 2)

/-- R239: atan2(q, p) in degrees as FIX32, within −180 to 180; which neighbour of the exact angle is left open. -/
def angleFix (q p : Int) : Int := clampInt (atan2Fine q p / 2 ^ 32 + b2n (Config.angleUp q p)) (-11796480) 11796480

/-- R239, R240: the measures of a phase from its sums; those of the previous block when no sample counts. -/
def PhaseM.take (m : PhaseM) (a : PhaseSums) : PhaseM :=
  if a.n = 0 then m
  else
    let v := rmsFix a.vv a.n
    let i := rmsFix a.ii a.n
    let p := powFix a.vi a.n
    let q := powFix a.hi a.n
    { m with vrms := v, irms := i, p := p, q := q, s := ((v * i : Nat) : Int), angle := angleFix q p }

/-- R241: the energy registers that a block's powers add to, and the magnitudes, in register order. -/
def energyAdds (p q sv : Int) : List Nat :=
  let a := fun (c : Bool) (v : Int) => if c then v.toNat else 0
  [a (decide (0 ≤ p)) p, a (decide (p < 0)) (-p), a (decide (0 ≤ p ∧ 0 ≤ q)) q, a (decide (p < 0 ∧ 0 ≤ q)) q,
   a (decide (p < 0 ∧ q < 0)) (-q), a (decide (0 ≤ p ∧ q < 0)) (-q), a true sv]

/-- R241: 0.2 s of a power in FIX64 W as µWh: × 500 / (9 × 2^32), with the fraction carried. -/
def energyStep (frac add : Nat) : Nat × Nat :=
  let t := frac + add * 500
  (t / (9 * 2 ^ 32), t % (9 * 2 ^ 32))

/-- R241: the energy registers after a block. -/
def addEnergy (regs fracs adds : List Nat) : List Nat × List Nat :=
  let l := List.zipWith energyStep fracs adds
  (List.zipWith (fun r x => (r + x.1) % 2 ^ 64) regs l, l.map (·.2))

/-- R243: a record of a non-stalling producer into Q50 to Q52: dropped and counted when the queue cannot take it. -/
def State.sensePush (s : State) (q : Nat) (b : Bytes) : State :=
  let r := s.pushOrDrop q 0x0100 b
  if r.2 then r.1
  else
    let s1 := r.1.senseCount 3 1
    let n := s1.sense.overruns + 1
    if s1.perSecond s1.sense.overrunAt then
      ({ s1 with sense := { s1.sense with overrunAt := some s1.now, overruns := 0 } }).event 0x2008 0x0100
        ([byte q, 0, 0, 0] ++ leBytes 4 n)
    else { s1 with sense := { s1.sense with overruns := n } }

/-- R242: the phase whose crossings give the frequency: the first of V1 to V3 not lost. -/
def State.freqPhase (s : State) : Option Nat := (List.range 3).find? (fun p => !(at' s.sense.phases p).lost)

/-- R242: the frequency in µHz over the block's periods; the previous value when none ended in it. -/
def State.blockFreq (s : State) : Nat :=
  match s.freqPhase with
  | none => 0
  | some p =>
    let v := at' s.sense.phases p
    if v.periods = 0 ∨ v.span = 0 then s.sense.freq else v.periods * 10 ^ 15 / v.span

/-- R242: the angle of phase `p` (0 to 2) from the latest crossings, FIX32 degrees. -/
def State.channelAngle (s : State) (p : Nat) : Int :=
  let v1 := at' s.sense.phases 0
  let v := at' s.sense.phases p
  match v1.last, v.last with
  | some t1, some t2 =>
    if v1.period = 0 then 0
    else 360 * 65536 * ((t2 - t1) % (v1.period * 65536 : Nat)) / (v1.period * 65536 : Nat)
  | _, _ => 0

/-- A power in FIX64 units as an I32 in thousandths, saturating. -/
def milli32 (v : Int) : Int := clampInt (v * 1000 / 2 ^ 32) (-2147483648) 2147483647

/-- R243: the block record; `t` is the TD0 time of the block's last grid instant. -/
def blockRecord (t : Int) (meas : List PhaseM) (freq inRms flags : Nat) : Bytes :=
  time80 t ++ (meas.map (fun m => leInt 4 (milli32 m.p) ++ leInt 4 (milli32 m.q) ++ leBytes 4 (min maxU32 (m.s * 1000 / 2 ^ 32).toNat))).flatten ++
    leBytes 4 freq ++ leBytes 4 (min maxU32 (inRms * 1000 / 65536)) ++ leBytes 2 flags ++ zeros 6

/-- R239 to R243: the block whose last grid instant lies at `t` ends: powers, RMS values, energies, frequency and the block record. -/
def State.closeBlock (t : Int) (s : State) : State :=
  let a := s.sense.sums
  let enabled := fun p => bit (s.cfgN 0x2000 1) p && bit (s.cfgN 0x2000 1) (p + 3)
  let meas : List PhaseM := s.sense.meas.mapIdx (fun p m =>
    if enabled p then m.take (at' a.ph p) else { m with p := 0, q := 0, s := 0, vrms := 0, irms := 0, angle := 0 })
  let held := (List.range 3).any (fun p => enabled p && (at' a.ph p).n == 0)
  let en := (List.range 3).map (fun p =>
    let m := at' meas p
    addEnergy (at' s.sense.energy p) m.fracs (energyAdds m.p m.q m.s))
  let zeroed := fun p => bit s.sense.resetMask p
  let freq := s.blockFreq
  let nom := s.cfgN 0x2000 2 * 1000000
  let out := decide (freq * 100 < nom * 85 ∨ nom * 115 < freq * 100)
  let aux := s.cfgN 0x2000 7
  let flags := ofBits ([(at' a.ph 0).settling, (at' a.ph 1).settling, (at' a.ph 2).settling] ++
    (List.range 3).map (fun p => (at' s.sense.phases p).lostInBlock || (at' s.sense.phases p).lost) ++
    (List.range 3).map (fun p => s.chanFenced p || s.chanFenced (p + 3)) ++
    [held, s.sense.calChanged, s.sense.chains.any (·.overBlock), out])
  let s2 := { s with
      sense := { s.sense with
        energy := (List.range 3).map (fun p => if zeroed p then List.replicate 7 0 else (at' en p).1)
        meas := meas.mapIdx (fun p (m : PhaseM) => { m with fracs := if zeroed p then List.replicate 7 0 else (at' en p).2 })
        phases := s.sense.phases.map (fun (v : PhaseV) => { v with periods := 0, span := 0, lostInBlock := v.lost })
        grid := [freq * 65536 / 1000000, s.channelAngle 1, s.channelAngle 2, rmsFix a.inSq a.inN, rmsFix a.vecSq a.vecN,
                 (if aux = 0 then 0 else (rmsFix a.auxSq a.auxN : Int)),
                 (if aux = 0 ∨ a.auxN = 0 then 0 else a.auxSum * 65536 / ((a.auxN : Int) * gainDen))]
        chains := s.sense.chains.map (fun (c : Chain) => { c with overBlock := false })
        sums := { ph := List.replicate 3 default, inSq := 0, inN := 0, vecSq := 0, vecN := 0, auxSq := 0, auxSum := 0, auxN := 0 }
        overLast := s.sense.chains.map (fun (c : Chain) => c.overBlock), freq := freq, freqOut := out, resetMask := 0, calChanged := false } }
  let s3 := if out && !s.sense.freqOut then s2.event 0x2007 0x0100 (leBytes 4 (freq * 65536 / 1000000)) else s2
  s3.sensePush 52 (blockRecord t meas freq (rmsFix a.inSq a.inN) flags)

/-- R239: the number of a grid instant within its block of 1,600: blocks begin at the TD0 second and 200, 400, 600 and 800 ms after it. -/
def blockIndex (t : Int) : Int := ((t + gridStep / 2) / gridStep) % 1600

/-- One grid instant at `t`, which ends its block if it is the last of the 1,600. -/
def State.gridInstant (s : State) (t : Int) (bits : List Nat) : State :=
  let s1 := senseInstant bits s
  if blockIndex t = 1599 then s1.closeBlock t else s1

/-- Grid instants one after another, the first at `t`. -/
def State.gridInstants : List (List Nat) → Int → State → State
  | [], _, s => s
  | b :: r, t, s => State.gridInstants r (t + gridStep) (s.gridInstant t b)

/-- MEASUREMENT_BLOCK (R239 to R243): the modulator bits of the 8 kS/s instants since the last such command, up to the newest one now: per
instant and channel 512 bits, the oldest in bit 0. They run through the chains; each block that ends in them gives powers, RMS values,
energies, frequency and its record (log entry 79). -/
def measurementBlock (instants : List (List Nat)) (dieTemp : Int) (s : State) : State :=
  State.gridInstants instants (s.instantNow gridStep - ((instants.length : Int) - 1) * gridStep)
    { s with sense := { s.sense with dieTemp := dieTemp } }

/-- MEASUREMENT_BLOCK as a command. -/
def execMeasurementBlock (instants : List (List Nat)) (dieTemp : Int) (s : State) : Res :=
  s.whenLive (measurementBlock instants dieTemp)

/-- CHANNEL_OVERRANGE (R214): once per second with saturated samples, per channel, with the count of the second. -/
def channelOverrange (c : Nat) (s : State) : State :=
  let ch := at' s.sense.chains c
  let n := ch.overs.foldl (· + ·) 0
  if n = 0 ∨ !s.perSecond ch.overAt then s
  else
    let stage := ch.overs.findIdx (· != 0) + 1
    ({ s with sense := { s.sense with
        chains := upd s.sense.chains c (fun x => { x with overs := [0, 0, 0, 0], overAt := some s.now }) } }).event 0x2002
      (senseCell c) ([byte c, byte stage] ++ leBytes 2 (min n maxU16))

/-- CHANNEL_OVERRANGE as a command. -/
def execChannelOverrange (c : Fin 8) (s : State) : Res := s.whenLive (channelOverrange c)

/-! ### Zero crossings and voltage events -/

/-- R233: a zero-crossing record. -/
def zcRecord (time : Int) (phase flags period seq : Nat) : Bytes :=
  time80 time ++ [byte phase, byte flags, 0, 0] ++ leBytes 4 period ++ leBytes 4 seq ++ zeros 40

/-- R233: a record to Q51, and to Q50 for V1. -/
def State.zcSend (s : State) (p : Nat) (b : Bytes) : State :=
  (if p = 0 then s.sensePush 50 b else s).sensePush 51 b

/-- Phase voltage `p` replaced. -/
def State.setPhaseV (s : State) (p : Nat) (v : PhaseV) : State :=
  { s with sense := { s.sense with phases := s.sense.phases.set p v } }

/-- Milliseconds between two times in units of 2^-16 ns. -/
def msBetween (a b : Int) : Nat := ((b - a) / 65536 / 1000000).toNat

/-- R235: an event of a sag that ends now. -/
def State.endSag (s : State) (p : Nat) : State :=
  let v := at' s.sense.phases p
  match v.sag with
  | none => s
  | some (t, ext) =>
    ((s.setPhaseV p { v with sag := none }).senseCount 4 1).event 0x2003 (senseCell p)
      ([byte (p + 1), 0, 0, 0] ++ leBytes 4 ext ++ leBytes 4 (msBetween t s.td0))

/-- R235: an event of a swell that ends now. -/
def State.endSwell (s : State) (p : Nat) : State :=
  let v := at' s.sense.phases p
  match v.swell with
  | none => s
  | some (t, ext) =>
    ((s.setPhaseV p { v with swell := none }).senseCount 5 1).event 0x2004 (senseCell p)
      ([byte (p + 1), 0, 0, 0] ++ leBytes 4 ext ++ leBytes 4 (msBetween t s.td0))

/-- R235: the half-cycle test of phase `p` with an RMS in FIX32. -/
def State.halfCycle (s : State) (p rms : Nat) : State :=
  let vn := s.cfgN 0x2000 3
  let sagT := s.cfgN 0x2111 1
  let swT := s.cfgN 0x2111 2
  let hy := s.cfgN 0x2111 3
  let v := at' s.sense.phases p
  let s1 := match v.sag with
    | none => if rms * 100 < sagT * vn then s.setPhaseV p { v with sag := some (s.td0, rms) } else s
    | some (t, e) =>
      if (sagT + hy) * vn < rms * 100 then s.endSag p
      else s.setPhaseV p { v with sag := some (t, min e rms) }
  let w := at' s1.sense.phases p
  match w.swell with
  | none => if swT * vn < rms * 100 then s1.setPhaseV p { w with swell := some (s1.td0, rms) } else s1
  | some (t, e) =>
    if rms * 100 < (swT - hy) * vn then s1.endSwell p
    else s1.setPhaseV p { w with swell := some (t, max e rms) }

/-- R231, R233, R234: a stamped rising crossing of phase `p`. -/
def State.risingCrossing (s : State) (p : Nat) (stamp : Int) : State :=
  let v := at' s.sense.phases p
  let period := match v.last with | some t => (nsOf (stamp - t)).toNat | none => 0
  let seq := (v.seq + 1) % 2 ^ 32
  let cyc := period * s.cfgN 0x2000 2
  let normal := decide (900000000 ≤ cyc ∧ cyc ≤ 1100000000)
  let good := if v.lost then (if normal then v.good + 1 else 0) else 0
  let back := v.lost && decide (8 ≤ good)
  let v1 := { v with last := some stamp, period := period, seq := seq, since := s.now, good := if back then 0 else good
                     lost := v.lost && !back
                     periods := if period = 0 then v.periods else v.periods + 1, span := v.span + period }
  let s1 := s.setPhaseV p v1
  if back then
    (s1.zcSend p (zcRecord stamp (p + 1) 2 period seq)).event 0x2006 (senseCell p)
      ([byte (p + 1), 0, 0, 0] ++ leBytes 4 period)
  else if v.lost then s1
  else s1.zcSend p (zcRecord stamp (p + 1) 0 period seq)

/-- R230: one coarse output of a chain, from 32 modulator bits, the oldest in bit 0, with whether it carries SETTLING (R228). -/
def Chain.coarseStep (c : Chain) (w : Nat) : Chain × (Int × Bool) :=
  let all := c.coarse ++ modSamples 32 w
  ({ c with coarse := all.drop 32, coarseSettle := c.coarseSettle - 1 }, coarseOut all, c.coarseSettle != 0)

/-- R231: 7.8125 µs in units of 2^-16 ns. -/
def coarseStepTime : Int := 512000000

/-- R231, R232, R235: a crossing of phase voltage `p` at the sample at `t`: stamped, but while the coarse path is settling, and the half
cycle that ends is judged. A line that neither rises nor falls has no zero: the stamp is then open. -/
def State.crossed (s : State) (p : Nat) (rising settling : Bool) (t : Int) (ys : List Int) : State :=
  let v := at' s.sense.phases p
  let s0 := s.setPhaseV p { v with armed := if rising then false else v.armed, armedDown := if rising then v.armedDown else false, half := some (0, 0) }
  let z : State × Int := match fitZero ys with
    | some z => (s0, z)
    | none => let f := s0.freeNat; (f.1, (f.2 : Int))
  let s1 := if rising && !settling then z.1.risingCrossing p (t + z.2 - 7568 * 65536 + s.tau p) else s0
  match v.half with
  | none => s1
  | some (sq, n) => if n = 0 ∨ (at' s1.sense.phases p).lost then s1 else s1.halfCycle p (rmsFix (sq * s.gainNum p s.sense.dieTemp ^ 2) n)

/-- R231: a sample of phase voltage `p` arms the crossings, and counts for its half cycle. -/
def PhaseV.sampled (v : PhaseV) (h y : Int) : PhaseV :=
  { v with armed := v.armed || decide (y * 100 ≤ -h), armedDown := v.armedDown || decide (h ≤ y * 100)
           half := v.half.map (fun a => (a.1 + y * y, a.2 + 1)) }

/-- R231, R235: a coarse sample of phase voltage `p` at TD0 time `t`. The sample y[k] is judged once y[k + 3] has come. -/
def State.coarseSample (s : State) (p : Nat) (t : Int) (y : Int × Bool) : State :=
  let v := { at' s.sense.phases p with ys := (y :: (at' s.sense.phases p).ys).take 8 }
  let s0 := s.setPhaseV p v
  if v.ys.length < 8 then s0
  else
    let prev := (at' v.ys 4).1
    let this := (at' v.ys 3).1
    let up := v.armed && decide (prev < 0 ∧ 0 ≤ this)
    let down := v.armedDown && decide (0 < prev ∧ this ≤ 0)
    let s1 := if up || down then s0.crossed p up (at' v.ys 3).2 (t - 3 * coarseStepTime) (v.ys.map (·.1)).reverse else s0
    s1.setPhaseV p ((at' s1.sense.phases p).sampled ((s.cfgN (0x2001 + p) 8 : Int) * 8388608) this)

/-- R230: `n` coarse samples of channel `c` from a word of modulator bits, the first at `t`. Those of V1 to V3 serve the crossings. -/
def State.coarseRun (c : Nat) : Nat → Nat → Int → State → State
  | 0, _, _, s => s
  | n + 1, w, t, s =>
    let r := (at' s.sense.chains c).coarseStep w
    let s1 := { s with sense := { s.sense with chains := upd s.sense.chains c (fun _ => r.1) } }
    State.coarseRun c n (w / 2 ^ 32) (t + coarseStepTime) (if c < 3 then s1.coarseSample c t r.2 else s1)

/-- ZERO_CROSSING (R230 to R235): the modulator bits of channel `c` since the last such command, up to the newest coarse sample now: 32
bits for each of `n` coarse samples, the oldest in bit 0 (log entry 79). -/
def zeroCrossing (c : Nat) (bits n : Nat) (s : State) : State :=
  if s.chanOn c then State.coarseRun c n bits (s.instantNow coarseStepTime - ((n : Int) - 1) * coarseStepTime) s else s

/-- ZERO_CROSSING as a command. -/
def execZeroCrossing (c : Fin 8) (bits n : Nat) (_u _v _w _x : Unit) (s : State) : Res := s.whenLive (zeroCrossing c bits n)

/-- VOLTAGE_LOST (R234, R235): no rising crossing for 3 nominal periods, or the channel fenced. -/
def voltageLost (p : Nat) (s : State) : State :=
  let v := at' s.sense.phases p
  if v.lost ∨ (s.now < v.since + cNs (3000000000 / s.cfgN 0x2000 2) ∧ !s.chanFenced p) then s
  else
    let s1 := s.setPhaseV p { v with lost := true, lostInBlock := true, good := 0, half := none }
    ((s1.zcSend p (zcRecord s.td0 (p + 1) 1 0 v.seq)).event 0x2005 (senseCell p) [byte (p + 1)]).endSag p

/-- VOLTAGE_LOST as a command. -/
def execVoltageLost (p : Fin 3) (s : State) : Res := s.whenLive (voltageLost p)

/-- ENERGY_RESET (R241, R248): a mask of phases to zero at the next block boundary. -/
def energyReset (mask : Nat) (s : State) : State × Nat :=
  if mask = 0 ∨ 7 < mask then (s, Abort.valueRange)
  else ({ s with sense := { s.sense with resetMask := orBits 3 s.sense.resetMask mask } }, Abort.ok)

/-- ENERGY_RESET as a command. -/
def execEnergyReset (role mask : Nat) (s : State) : Res := s.command 0x2105 0 role .operator (energyReset mask)

/-- R218, R219, R221: the set that a chain names: taps with decimation, KIND and GROUP_DELAY. The delay of the minimum-phase set is the one
of R222's table at the nominal frequency. -/
def State.firSet (s : State) (set : Nat) : List Int × (Nat × (Nat × Nat)) :=
  match set with
  | 0 => (symmetric 255 (Config.factoryFir 0), 2, 0, 254 * 32768)
  | 1 => ((List.range 96).map (fun k => coef18 (Config.factoryFir 1 k)), 2, 1, (if s.cfgN 0x2000 2 = 60 then 981 else 980) * 65536 / 100)
  | _ =>
    let b := s.valB .sensing 0x2020 (set - 1)
    ((List.range (fieldLE b 0 2)).map (fun k => fieldInt b (8 + 4 * k) 4), fieldLE b 2 1, fieldLE b 3 1, fieldLE b 4 4)

/-- R220, R283, R346: the set of FIR cell `c`: a chain's; the factory set of an engine's band; the channelizer's prototype. -/
def State.cellSet (s : State) (c : Nat) : List Int × (Nat × (Nat × Nat)) :=
  if c < 8 then s.firSet (s.cfgN (0x2001 + c) 5)
  else if c ≤ 10 then
    (if s.cfgN (0x2801 + (c - 8)) 1 = 0 then (symmetric 191 (Config.plcFir 0), 8, 1, 0) else (symmetric 127 (Config.plcFir 1), 2, 1, 0))
  else (symmetric 384 Config.channelFir, 32, 1, 0)

/-- R218: a set loaded into the other bank of a cell, and the banks swapped. -/
def FirCell.load (f : FirCell) (taps : List Int) (decim shift kind delay : Nat) (poly : Bool) : FirCell :=
  let b := 1 - f.bank
  { f with bank := b, coefs := f.coefs.set b taps, decim := f.decim.set b decim, shifts := f.shifts.set b shift
           kinds := f.kinds.set b kind, delays := f.delays.set b delay, poly := f.poly.set b poly }

/-- R218: FIR cell `c` takes the set and the shift that the settings give it. -/
def State.loadFir (s : State) (c : Nat) : State :=
  let fs := s.cellSet c
  { s with sense := { s.sense with
      fir := upd s.sense.fir c (fun f =>
        f.load fs.1 fs.2.1 (if c < 8 then s.cfgN (0x2001 + c) 4 else 17) fs.2.2.1 fs.2.2.2 (decide (11 ≤ c))) } }

/-- R34, R218, R226, R246: the sensing chains after their epoch switch: a chain whose gain, shifts or set changed loads its
bank and makes a local reset, as does one that was enabled; changed calibration values mark the block. -/
def senseSwitched (before : State) (s : State) : State :=
  (List.range 8).foldl (fun st c =>
    let ch := fun sub => before.cfgN (0x2001 + c) sub != st.cfgN (0x2001 + c) sub
    let set := st.cfgN (0x2001 + c) 5
    let setChanged := ch 5 || (decide (2 ≤ set) && before.valB .sensing 0x2020 (set - 1) != st.valB .sensing 0x2020 (set - 1))
    let enabled := !bit (before.cfgN 0x2000 1) c && bit (st.cfgN 0x2000 1) c
    let st1 := if setChanged || ch 4 then st.loadFir c else st
    { st1 with sense := { st1.sense with
        chains := upd st1.sense.chains c (fun x =>
          { x with pendingReset := x.pendingReset || ch 1 || ch 2 || ch 3 || ch 4 || setChanged || enabled })
        calChanged := st1.sense.calChanged || ch 6 || ch 7 } }) s

end Sys2Proof.Machine
end

