-- ==== Sys2Proof/Machine/Time.lean ====
section
/-!
DEFINITION. Time domains and time-stamping (chapter 16, R517 to R549): samples and the servo, steps, pairs, the backup anchor, UTC, and
the stamps of Ethernet, Ihlost and PPS.
-/
namespace Sys2Proof.Machine

/-- R520: 2 ns per count in units of 2^-40 ns. -/
def nominalPeriod : Nat := 2199023255552

/-- R520: ±500 ppm of it. -/
def periodOk (p : Nat) : Bool := decide (nominalPeriod - 1099511627 ≤ p ∧ p ≤ nominalPeriod + 1099511627)

/-- A count of nanoseconds in units of 2^-16 ns. -/
def nsUnits (n : Int) : Int := n * 65536

/-- A domain. -/
def State.dom (s : State) (k : Nat) : Domain := at' s.time.domains k

/-- A domain changed. -/
def State.updDom (s : State) (k : Nat) (f : Domain → Domain) : State :=
  { s with time := { s.time with domains := upd s.time.domains k f } }

/-- A pair changed. -/
def State.updPair (s : State) (k : Nat) (f : PairOut → PairOut) : State :=
  { s with time := { s.time with pairs := upd s.time.pairs k f } }

/-- The cell of a domain. -/
def domCell (k : Nat) : Nat := 0x6401 + k

/-- 0x5401 + k DomainConfig. -/
def State.domCfg (s : State) (k i : Nat) : Nat := s.cfgN (0x5401 + k) i

/-- R524: the source of a domain. -/
def State.source (s : State) (k : Nat) : Nat := s.domCfg k 1

/-- R524: whether a source gives samples. -/
def sampled (src : Nat) : Bool := decide (src = 1 ∨ src = 2 ∨ src = 3 ∨ src = 6)

/-- R527: whether the hardware servo acts on the samples of a domain. -/
def State.hardwareServo (s : State) (k : Nat) : Bool :=
  let m := s.domCfg k 3
  m == 0 || (m == 3 && !(s.board.cascMaster && decide (8 < s.casc.nodes.length)))

/-! ### Arithmetic of a domain (R521 to R523) -/

/-- R522: a new period, the time unchanged. -/
def Domain.setPeriod (d : Domain) (now p : Nat) : Domain := { d with offset := d.at now, anchor := now, period := p }

/-- The member that a pair has selected. -/
def State.selectedMember (s : State) (k : Nat) : Nat := 2 * k + b2n (at' s.time.pairs k).partner

/-- R533: a pair's output: whether it is enabled and tied to member `k`. -/
def State.tiedTo (s : State) (k : Nat) : Bool :=
  decide (k < 4) && (let p := at' s.time.pairs (k / 2); p.enabled && !p.slewing && decide (s.selectedMember (k / 2) = k))

/-- R532, R533: the period of TDk as its consumers read it. -/
def State.outPeriod (s : State) (k : Nat) : Nat :=
  if (k = 0 ∨ k = 2) ∧ (at' s.time.pairs (k / 2)).enabled then
    (let p := at' s.time.pairs (k / 2); if p.slewing then p.period else (s.dom (s.selectedMember (k / 2))).period)
  else (s.dom k).period

/-- R532: the domain whose state TDk shows to a follower. -/
def State.outMember (s : State) (k : Nat) : Nat :=
  if (k = 0 ∨ k = 2) ∧ (at' s.time.pairs (k / 2)).enabled then s.selectedMember (k / 2) else k

/-- R524, R525: a Follow domain takes period, state and SYNC of the domain it follows. -/
def State.follow (s : State) (k : Nat) : State :=
  if s.source k ≠ 5 then s
  else
    let f := s.domCfg k 2 % 8
    let p := s.outPeriod f
    let m := s.dom (s.outMember f)
    s.updDom k (fun d =>
      let d1 := if d.period = p then d else d.setPeriod s.now p
      { d1 with state := m.state, sync := m.sync })

/-- R534: the period of a slewing output: that of the new member, PairSlew ppm faster while D is positive, slower while it is negative. -/
def State.slewPeriod (s : State) (k : Nat) (d : Int) : Nat :=
  let p := (s.dom (s.selectedMember k)).period
  let q := s.cfgN 0x5430 2
  if 0 < d then p * (1000000 + q) / 1000000 else p * (1000000 - q) / 1000000

/-- R533, R534: a slewing output goes on at the rate of the member as it now stands. -/
def State.settlePair (s : State) (k : Nat) : State :=
  let p := at' s.time.pairs k
  if !p.enabled || !p.slewing then s
  else
    let out := s.pairAt k s.now
    let d := (s.dom (s.selectedMember k)).at s.now - out
    let per := s.slewPeriod k d
    if per = p.period then s
    else s.updPair k (fun x => { x with offset := out, anchor := s.now, period := per, slewD := d })

/-- What follows a change of a domain: slewing outputs, then Follow domains, as far as the chain goes. -/
def State.settleTime (s : State) : State :=
  (List.range 8).foldl (fun st _ => (List.range 8).foldl State.follow st) ((s.settlePair 0).settlePair 1)

/-- R522: a period written to a domain. -/
def State.setPeriod (s : State) (k p : Nat) : State := (s.updDom k (fun d => d.setPeriod s.now p)).settleTime

/-- R539: a pending leap is applied once the TD0 seconds reach it. -/
def State.leapCheck (s : State) : State :=
  let leap := s.cfgI 0x5440 2
  if leap = 0 ∨ secOf s.td0 < ((s.cfgN 0x5440 3 : Nat) : Int) then s
  else
    let o := s.utcOffset + leap
    ((s.setRw 0x5440 1 (leInt 2 o)).setRw 0x5440 2 [0]).event 0x540A 0x6400 (leInt 2 o ++ leInt 1 leap)

/-- R530: whether a step of member `k` is a step of TD2. -/
def State.stepsTd2 (s : State) (k : Nat) : Bool :=
  if (at' s.time.pairs 1).enabled then s.tiedTo k && decide (2 ≤ k) else decide (k = 2)

/-- R227: a jump of TD0 leaves the sample grid where it is: its instants have other TD0 times. -/
def State.gridKept (s before : State) : State :=
  { s with sense := { s.sense with gridOfs := s.sense.gridOfs + (s.td0 - before.td0) } }

/-- R523, R530: a step of `delta` (units of 2^-16 ns), counted. -/
def State.stepDom (s : State) (k : Nat) (delta : Int) : State :=
  let s1 := (s.updDom k (fun d => { d with offset := d.offset + delta, steps := sat32 d.steps, timeUnknown := false })).timeCount 1
  let s2 := if s.stepsTd2 k then { s1 with radio := { s1.radio with stepped := [true, true] } } else s1
  (s2.settleTime.gridKept s).leapCheck

/-! ### States (R525) -/

/-- 0x5411.1. -/
def DomState.code : DomState → Nat
  | .free => 0 | .unsync => 1 | .locking => 2 | .locked => 3 | .holdover => 4

/-- SYNC comes with a step of `delta` ns, told when it was clear. SourceTimeout runs anew for a domain that comes out of UNSYNCHRONISED or
HOLDOVER (log entry 55). -/
def State.synchronise (s : State) (k : Nat) (delta : Int) (st : DomState) : State :=
  let was := (s.dom k).sync
  let s1 := s.updDom k (fun d => { d with
    sync := true, state := st, lastSampleAt := if d.state = .unsync ∨ d.state = .holdover then s.now else d.lastSampleAt })
  if was then s1 else s1.event 0x5401 (domCell k) ([byte k, byte (s.source k), 0, 0] ++ leInt 8 delta)

/-- R526: 2 ns × (1 + y × 10^-9), with y in units of 2^-16 ppb. -/
def periodOf (y : Int) : Nat := ((nominalPeriod : Int) + y * 33554432 / 1000000000).toNat

/-- R525, R526, R528: HOLDOVER begins; a domain that is in HOLDOVER stays in it. Samples that count towards LOCKED start anew (log entry 55). -/
def State.enterHoldover (s : State) (k : Nat) (cause : Nat) : State :=
  let d := s.dom k
  if d.state = .holdover then s else
  let s1 := (s.updDom k (fun x => { x with state := .holdover, holdoverAt := s.now, good := 0, badSince := none })).timeCount 5
  let s2 := if sampled (s.source k) ∧ s.hardwareServo k then s1.setPeriod k (periodOf d.integ) else s1
  s2.settleTime.event 0x5404 (domCell k) ([byte k, byte cause, 0, 0] ++ leInt 8 d.lastOffset)

/-- R528: a refused jump. -/
def State.refuseJump (s : State) (k cause : Nat) (theta : Int) : State :=
  ((s.updDom k (fun d => { d with jumpRefused := true, refused := sat32 d.refused })).timeCount 2).event 0x5402 (domCell k)
    ([byte k, byte cause, 0, 0] ++ leInt 8 theta)

/-- R525: the state after an accepted sample that made no step: LOCKING out of HOLDOVER or UNSYNCHRONISED, LOCKED after LockCount good samples,
LOCKING after QualityHold seconds of bad ones. -/
def State.judgeSample (s : State) (k : Nat) (theta : Int) : State :=
  let d := s.dom k
  let ok := decide (theta.natAbs ≤ s.domCfg k 11)
  let good := if ok then d.good + 1 else 0
  let bad := if ok then none else some (d.badSince.getD s.now)
  let stale := match bad with | some t => decide (t + cSec (s.domCfg k 12) ≤ s.now) | none => false
  let st := if s.domCfg k 13 ≤ good then DomState.locked
    else if d.state = .locked ∧ !stale then .locked else .locking
  let at' := if st = .locked ∧ d.state ≠ .locked then s.now else d.lockedAt
  (s.updDom k (fun x => { x with good := good, badSince := bad, lockedAt := at' })).synchronise k 0 st

/-- R526: a step by the servo. -/
def State.servoStep (s : State) (k : Nat) (theta : Int) : State :=
  let s1 := (s.stepDom k (nsUnits theta)).event 0x5403 (domCell k) ([byte k, 0, 0, 0] ++ leInt 8 theta)
  (s1.updDom k (fun d => { d with good := 0, badSince := none })).synchronise k theta .locking

/-- R526: the servo's frequency from a sample. -/
def State.servoFreq (s : State) (k : Nat) (theta : Int) : State :=
  let d := s.dom k
  let top : Int := (s.domCfg k 6 * 65536 : Nat)
  let integ := clampInt (d.integ + (s.domCfg k 5 : Int) * theta) (-top) top
  let y := clampInt ((s.domCfg k 4 : Int) * theta + integ) (-top) top
  ((s.updDom k (fun x => { x with integ := integ })).setPeriod k (periodOf y)).judgeSample k theta

/-- R525 to R528: an offset sample of `theta` ns reaches a domain. -/
def State.sample (s : State) (k : Nat) (theta : Int) : State :=
  let s1 := s.updDom k (fun d => { d with lastOffset := theta, lastSampleAt := s.now })
  let d := s.dom k
  let s2 := if s.hardwareServo k then
      (if d.sync ∧ s.domCfg k 8 < theta.natAbs then (s1.refuseJump k 0 theta).enterHoldover k 2
       else if !d.sync ∨ s.domCfg k 7 < theta.natAbs then s1.servoStep k theta
       else s1.servoFreq k theta)
    else s1.judgeSample k theta
  s2.settleTime

/-- OFFSET_SAMPLE (R525 to R528): sources that give samples alone take them. -/
def offsetSample (k : Nat) (theta : Int) (s : State) : State := if sampled (s.source k) then s.sample k theta else s

/-- OFFSET_SAMPLE as a command. -/
def execOffsetSample (domain : Fin 8) (theta : Int) (s : State) : Res := s.whenLive (offsetSample domain theta)

/-- SOURCE_LOST (R525): no sample, or no PeriodWrite on a Software domain, for SourceTimeout. -/
def sourceLost (k : Nat) (s : State) : State :=
  let d := s.dom k
  let src := s.source k
  if (sampled src ∨ src = 4) ∧ (d.state = .locking ∨ d.state = .locked) ∧ d.lastSampleAt + cMs (s.domCfg k 9) ≤ s.now then s.enterHoldover k 1 else s

/-- SOURCE_LOST as a command. -/
def execSourceLost (domain : Fin 8) (s : State) : Res := s.whenLive (sourceLost domain)

/-- SYNC_LOST (R525): HoldoverLimit seconds in HOLDOVER. -/
def syncLost (k : Nat) (s : State) : State :=
  let d := s.dom k
  if d.state ≠ .holdover ∨ s.source k = 5 ∨ s.now < d.holdoverAt + cSec (s.domCfg k 10) then s
  else ((s.updDom k (fun x => { x with state := .unsync, sync := false })).settleTime).event 0x5405 (domCell k)
    ([byte k, 0, 0, 0] ++ leBytes 4 ((s.now - d.holdoverAt) / cSec 1))

/-- SYNC_LOST as a command. -/
def execSyncLost (domain : Fin 8) (s : State) : Res := s.whenLive (syncLost domain)

/-! ### Commands on a domain (R522, R528 to R531) -/

/-- PERIOD_WRITE (R522, R525, R548). -/
def periodWrite (k p : Nat) (s : State) : State × Nat :=
  let src := s.source k
  if src = 5 ∨ (sampled src ∧ s.hardwareServo k) then (s, Abort.notInState)
  else if !periodOk p then (s, Abort.valueRange)
  else
    let s1 := s.setPeriod k p
    if src = 4 then
      ((s1.updDom k (fun d => { d with lastSampleAt := s.now, state := if d.state = .holdover then .locked else d.state
                                       lockedAt := if d.state = .holdover then s.now else d.lockedAt })).settleTime, Abort.ok)
    else (s1, Abort.ok)

/-- PERIOD_WRITE as a command. -/
def execPeriodWrite (domain : Fin 8) (role v : Nat) (s : State) : Res :=
  s.command (0x5421 + domain) 1 role .operator (periodWrite domain v)

/-- STEP_REQUEST (R528): nanoseconds. -/
def stepRequest (k : Nat) (delta : Int) (s : State) : State × Nat :=
  let d := s.dom k
  if d.sync ∧ s.domCfg k 8 < delta.natAbs then (s.refuseJump k 1 delta, Abort.valueRange)
  else
    let s1 := (s.stepDom k (nsUnits delta)).event 0x5403 (domCell k) ([byte k, 1, 0, 0] ++ leInt 8 delta)
    (if sampled (s.source k) ∧ !d.sync then (s1.synchronise k delta .locking).settleTime else s1, Abort.ok)

/-- STEP_REQUEST as a command. -/
def execStepRequest (domain : Fin 8) (role : Nat) (delta : Int) (s : State) : Res :=
  s.command (0x5421 + domain) 2 role .operator (stepRequest domain delta)

/-- R525, R529: the state after a deliberate step. -/
def State.afterForced (s : State) (k : Nat) (delta : Int) : State :=
  let src := s.source k
  let d := s.dom k
  if sampled src then
    s.synchronise k delta (if d.state = .unsync ∨ d.state = .holdover then .locking else d.state)
  else if src = 4 then
    (s.updDom k (fun x => { x with lastSampleAt := s.now, lockedAt := if d.state = .locked then x.lockedAt else s.now })).synchronise k delta .locked
  else s

/-- R529, R535: a deliberate step of `delta` (units of 2^-16 ns); both members and the output of an enabled pair step together. -/
def State.forceStep (s : State) (k cause : Nat) (delta : Int) : State :=
  let paired := decide (k < 4) && (at' s.time.pairs (k / 2)).enabled
  let s1 := if paired then
      (let t := (s.updPair (k / 2) (fun p => { p with offset := p.offset + delta })).gridKept s
       (t.stepDom k delta).stepDom (if k % 2 = 0 then k + 1 else k - 1) delta)
    else s.stepDom k delta
  let s2 := ((s1.timeCount 3).event 0x5403 (domCell k) ([byte k, byte cause, 0, 0] ++ leInt 8 (delta / 65536)))
  ((if paired then { s2 with radio := { s2.radio with stepped := if k / 2 = 1 then [true, true] else s2.radio.stepped } } else s2).afterForced k
    (delta / 65536)).settleTime

/-- FORCED_STEP (R529): nanoseconds. -/
def forcedStep (k : Nat) (delta : Int) (s : State) : State × Nat := (s.forceStep k 2 (nsUnits delta), Abort.ok)

/-- FORCED_STEP as a command. -/
def execForcedStep (domain : Fin 8) (role : Nat) (delta : Int) (s : State) : Res :=
  s.command (0x5421 + domain) 3 role .operator (forcedStep domain delta)

/-- SET_TIME (R529). -/
def setTime (k : Nat) (b : Bytes) (s : State) : State × Nat :=
  if b.length ≠ 12 then (s, Abort.typeLength)
  else if !timeOk b then (s, Abort.valueRange)
  else (s.forceStep k 3 (ofTime80 b - (s.dom k).at s.now), Abort.ok)

/-- SET_TIME as a command. -/
def execSetTime (domain : Fin 8) (role : Nat) (time : Bytes) (s : State) : Res :=
  s.command (0x5421 + domain) 4 role .operator (setTime domain time)

/-- CLEAR_STICKY (R531). -/
def clearStickyTime (k v : Nat) : State → State × Nat :=
  one v (fun s => (s.updDom k (fun d => { d with jumpRefused := false, freezeGap := false }), Abort.ok))

/-- CLEAR_STICKY as a command. -/
def execClearSticky (domain : Fin 8) (role v : Nat) (s : State) : Res :=
  s.command (0x5421 + domain) 5 role .operator (clearStickyTime domain v)

/-! ### Redundant pairs (R532 to R535) -/

/-- R534, R535: the output of a pair goes over to the other member, by a slew; a difference beyond its JumpThreshold refuses it. -/
def State.switchPair (s : State) (k cause : Nat) : State :=
  let p := at' s.time.pairs k
  let other := 2 * k + b2n (!p.partner)
  let out := s.pairAt k s.now
  let d := (s.dom other).at s.now - out
  if nsUnits (s.domCfg other 8) < (d.natAbs : Int) then
    if p.refusedNow then s
    else (s.updPair k (fun x => { x with refusedNow := true })).event 0x5408 (domCell (2 * k)) ([byte k, 0, 0, 0] ++ leInt 8 (d / 65536))
  else
    let s1 := s.updPair k (fun x => { x with partner := !x.partner, refusedNow := false })
    let s2 := s1.updPair k (fun x => { x with
      offset := out, anchor := s.now, period := s1.slewPeriod k d, slewing := d != 0, slewD := d, slewFrom := s.now })
    ((s2.timeCount 4).settleTime).event 0x5406 (domCell (2 * k)) ([byte k, byte (b2n (!p.partner)), byte cause, 0] ++ leInt 8 (d / 65536))

/-- Whether a member is LOCKED. -/
def State.lockedDom (s : State) (k : Nat) : Bool := (s.dom k).state == .locked

/-- PAIR_SWITCHED (R534): the selected member is not LOCKED and the other one is. -/
def pairSwitched (k : Nat) (s : State) : State :=
  let p := at' s.time.pairs k
  let m := s.selectedMember k
  if !p.enabled then s
  else if !s.lockedDom m && s.lockedDom (2 * k + b2n (!p.partner)) then s.switchPair k 1
  else s.updPair k (fun x => { x with refusedNow := false })

/-- PAIR_SWITCHED as a command. -/
def execPairSwitched (pair : Fin 2) (s : State) : Res := s.whenLive (pairSwitched pair)

/-- PAIR_REVERT (R534): the primary member has been LOCKED for RevertHold. -/
def pairRevert (k : Nat) (s : State) : State :=
  let p := at' s.time.pairs k
  let d := s.dom (2 * k)
  if !p.enabled || !p.partner || s.cfgN 0x5430 3 != 1 || d.state != .locked || decide (s.now < d.lockedAt + cSec (s.cfgN 0x5430 4)) then s
  else s.switchPair k 2

/-- PAIR_REVERT as a command. -/
def execPairRevert (pair : Fin 2) (s : State) : Res := s.whenLive (pairRevert pair)

/-- SLEW_COMPLETE (R534): the difference has reached zero, and the output ties to its member. -/
def slewComplete (k : Nat) (s : State) : State :=
  let p := at' s.time.pairs k
  let left := (s.dom (s.selectedMember k)).at s.now - s.pairAt k s.now
  if !p.enabled || !p.slewing || decide (0 < p.slewD ∧ 0 < left) || decide (p.slewD < 0 ∧ left < 0) then s
  else ((s.updPair k (fun x => { x with slewing := false, slewD := 0 })).settleTime).event 0x5407 (domCell (2 * k))
    ([byte k, 0, 0, 0] ++ leBytes 4 (min maxU32 ((s.now - p.slewFrom) / cUs 1)))

/-- SLEW_COMPLETE as a command. -/
def execSlewComplete (pair : Fin 2) (s : State) : Res := s.whenLive (slewComplete pair)

/-- What the time unit does at its switch to an epoch (R524, R525, R532): sources that changed start anew; a pair enabled selects its primary
member, tied at once. -/
def timeSwitched (before s : State) : State :=
  let s1 := (List.range 8).foldl (fun st k =>
    if before.source k = st.source k ∧ (st.source k ≠ 5 ∧ st.source k ≠ 6 ∨ before.domCfg k 2 = st.domCfg k 2) then st
    else
      let free := st.source k == 0
      let st1 := st.updDom k (fun d => { d with
        state := if free then .free else .unsync, sync := false, good := 0, badSince := none, lastSampleAt := st.now })
      if free then st1.setPeriod k nominalPeriod else st1) s
  let s2 := [0, 1].foldl (fun st k =>
    let on := bit (st.cfgN 0x5430 1) k
    if (at' st.time.pairs k).enabled == on then st
    else st.updPair k (fun p => { p with enabled := on, partner := false, slewing := false, slewD := 0, refusedNow := false })) s1
  s2.settleTime.gridKept s

/-! ### Backup and UTC (R536, R539) -/

/-- R536: the vault keeps TD0 and the backup count. -/
def State.takeAnchor (s : State) : State :=
  { s with time := { s.time with anchorTime := s.td0, anchorCount := s.time.backup, anchorValid := true, lastAnchorAt := s.now } }

/-- BACKUP_ANCHOR (R536): once per 60 s while TD0 is SYNC. -/
def backupAnchor (s : State) : State := if !s.syncOf 0 ∨ s.now < s.time.lastAnchorAt + cSec 60 then s else s.takeAnchor

/-- BACKUP_ANCHOR as a command. -/
def execBackupAnchor (s : State) : Res := s.whenLive backupAnchor

/-- LEAP_APPLIED (R539). -/
def execLeapApplied (s : State) : Res := s.whenLive State.leapCheck

/-- R539: what an Announce of the port that drives TD0's selected member carries: UtcOffset and the pending leap. -/
def State.learnUtc (s : State) (offset : Int) (leap61 leap59 : Bool) : State :=
  let s1 := { s with time := { s.time with utcLearned := true } }
  let s2 := s1.setRw 0x5440 1 (leInt 2 offset)
  if leap61 || leap59 then
    (s2.setRw 0x5440 3 (leInt 8 ((s2.utcNow / 86400 + 1) * 86400 + offset))).setRw 0x5440 2 (leInt 1 (if leap61 then 1 else -1))
  else s2

/-! ### Stamps (R540, R542, R544, R547) -/

/-- R540: the receive correction of a link in ns, by speed. -/
def ethRxCorrection (speed : Nat) : Nat := if speed = 0 then 41 else if speed = 1 then 52 else 88

/-- R540: the counter value at which a frame crossed the reference point of a port, from its capture. -/
def State.ethStamp (s : State) (p capture : Nat) : Nat :=
  (((capture : Nat) : Int) - (((ethRxCorrection (s.cfgN (0x5000 + p) 2) : Nat) : Int) + s.cfgI 0x5460 (3 + p)) / 2).toNat

/-- R540: the transmit correction of a link in ns, by speed. -/
def ethTxCorrection (speed : Nat) : Nat := if speed = 0 then 28 else if speed = 1 then 38 else 64

/-- R540: the counter value at which a frame that leaves crosses the reference point of a port, from its capture. -/
def State.ethTxStamp (s : State) (p capture : Nat) : Nat :=
  (((capture : Nat) : Int) + (((ethTxCorrection (s.cfgN (0x5000 + p) 2) : Nat) : Int) + s.cfgI 0x5460 (1 + p)) / 2).toNat

/-- R542: the domain that a port drives, or else distributes. -/
def State.portDomain (s : State) (p : Nat) : Nat :=
  ((List.range 8).find? (fun k => s.source k == p + 1)).getD (s.cfgN (0x5450 + p) 12 % 8)

/-- The offset of the PTP message in a frame from its destination address: after a VLAN tag, IPv4 or IPv6 and UDP, if they are there. -/
def ptpOffset (f : Bytes) : Nat :=
  let t := if beNat (slice f 12 2) = 0x8100 then 16 else 12
  let et := beNat (slice f t 2)
  if et = 0x0800 then t + 2 + 4 * (fieldLE f (t + 2) 1 % 16) + 8 else if et = 0x86DD then t + 2 + 48 else t + 2

/-- R539: an Announce with currentUtcOffsetValid, as IEEE 1588 lays it out. -/
def State.announce (s : State) (p : Nat) (f : Bytes) : State :=
  let m := f.drop (ptpOffset f)
  let flags := fieldLE m 7 1
  let offset := untwos 2 (beNat (slice m 44 2))
  if s.source (s.outMember 0) = p + 1 ∧ fieldLE m 0 1 % 16 = 0xB ∧ bit flags 2 then s.learnUtc offset (bit flags 0) (bit flags 1) else s

/-- PTP_FRAME_RECEIVED (R539, R542): a frame from its destination address, with its capture. -/
def ptpFrameReceived (p capture : Nat) (frame : Bytes) (s : State) : State :=
  let meta' := leBytes 8 capture ++ time80 (s.tdAt (s.portDomain p) (s.ethStamp p capture)) ++ [byte p] ++ zeros 43
  let r := (s.timeCount 6).pushOrDrop 55 (0x6000 + p) (meta' ++ frame)
  if r.2 then r.1.announce p frame else r.1.timeCount 8

/-- PTP_FRAME_RECEIVED as a command. -/
def execPtpFrameReceived (port : Fin 2) (capture : Nat) (frame : Bytes) (s : State) : Res :=
  s.whenLive (ptpFrameReceived port capture frame)

/-- IHLOST_TIME_EXCHANGE (R541, R544): four stamps of an exchange with the upstream neighbour on port `p`: `t1` and `t4` its own, in units of
2^-16 ns, `c2` and `c3` the captures here. -/
def ihlostTimeExchange (p : Nat) (t1 : Int) (c2 c3 : Nat) (t4 : Int) (s : State) : State :=
  if s.board.cascMaster ∨ s.casc.upstream ≠ p then s
  else
    (List.range 8).foldl (fun st k =>
      if s.source k ≠ 3 then st
      else
        let t2 := (s.dom k).at c2 - nsUnits 37
        let t3 := (s.dom k).at c3 + nsUnits 24
        let delay := ((t2 - t1) + (t4 - t3)) / 2 + nsUnits (s.cfgI 0x5460 (5 + p))
        (st.updDom k (fun d => { d with pathDelay := delay / 65536 })).sample k ((t1 + delay - t2) / 65536)) s

/-- IHLOST_TIME_EXCHANGE as a command. -/
def execIhlostTimeExchange (port : Fin 2) (t1 : Int) (c2 c3 : Nat) (t4 : Int) (s : State) : Res :=
  s.whenLive (ihlostTimeExchange port t1 c2 c3 t4)

/-- PPS_EDGE (R547): an edge on a GPIO, at the counter value to which its stamp has been corrected. -/
def ppsEdge (gpio stamp : Nat) (s : State) : State :=
  (List.range 8).foldl (fun st k =>
    if s.source k ≠ 6 ∨ s.domCfg k 2 ≠ gpio then st
    else
      let t := (s.dom k).at stamp
      let theta := (((t + nsUnits 500000000) / nsUnits 1000000000) * nsUnits 1000000000 - t) / 65536
      if 500000000 ≤ theta.natAbs then st else st.sample k theta) s

/-- PPS_EDGE as a command. -/
def execPpsEdge (gpio : Fin 16) (stamp : Nat) (s : State) : Res := s.whenLive (ppsEdge gpio stamp)

/-! ### Freeze (R538) -/

/-- R538: every domain and every output steps by the gap in ns. -/
def State.freezeGapSteps (s : State) (gap : Nat) : State :=
  let g := nsUnits gap
  let s1 := (List.range 8).foldl (fun st k =>
    (st.updDom k (fun d => { d with offset := d.offset + g, steps := sat32 d.steps, freezeGap := true, timeUnknown := false })).timeCount 1) s
  let s2 := [0, 1].foldl (fun st k => st.updPair k (fun p => { p with offset := p.offset + g })) s1
  let s3 : State := { s2 with
    time := { s2.time with frozenNs := s2.time.frozenNs + gap }
    radio := { s2.radio with stepped := [true, true] } }
  (s3.settleTime.leapCheck).event 0x5409 0x6400 (leBytes 8 gap)

end Sys2Proof.Machine
end

