-- ==== Sys2Proof/Machine/Uplink.lean ====
section
/-!
DEFINITION. The export stream, frame import and the Ethernet ports (chapter 15, R490 to R516), but for the distribution of received
frames (Eth.lean).
-/
namespace Sys2Proof.Machine

def exportCell : Nat := 0x6100
def importCell : Nat := 0x6200

/-- The cell of an Ethernet port. -/
def ethCell (p : Nat) : Nat := 0x6000 + p

/-- One more on count `i` (from 1) of 0x5030 + port. -/
def State.ethCount (s : State) (p i : Nat) : State :=
  { s with up := { s.up with eth := upd s.up.eth p (fun x => { x with counters := upd x.counters (i - 1) (· + 1) }) } }

/-- Whether a port can send and receive. -/
def State.ethUsable (s : State) (p : Nat) : Bool :=
  decide (p < 2) && (at' s.up.eth p).up && s.cfgN (0x5000 + p) 1 == 1 && s.inService (ethCell p)

/-- A UDP datagram of the device's own; it is lost where its port cannot send. -/
def State.udpSend (s : State) (v : Via) (source : Nat) (payload : Bytes) : State :=
  if s.ethUsable v.port then (s.ethCount v.port 8).put (.udp (s.cfgN (0x5000 + v.port) 6) v source payload) else s

/-! ### The export engine's own state -/

/-- The export engine's state changed. -/
def State.updExp (s : State) (f : ExportState → ExportState) : State := { s with up := { s.up with exp := f s.up.exp } }

/-- `n` more on count `i` (from 1) of 0x5013. -/
def State.expCount (s : State) (i n : Nat) : State := s.updExp (fun x => { x with counters := upd x.counters (i - 1) (· + n) })

/-- R494: a target as 20 bytes. -/
def targetVia (vlan : Nat) (b : Bytes) : Via :=
  { transport := fieldLE b 0 1, port := fieldLE b 1 1, vlan := vlan, udpPort := fieldLE b 2 2, address := slice b 4 16 }

/-- R494: the target in use; none where it is unset. -/
def State.exportTarget (s : State) : Option Via :=
  let b := s.val 0x5011 (if s.up.exp.secondary then 2 else 1)
  if fieldLE b 2 2 = 0 then none else some (targetVia (s.cfgN (0x5000 + fieldLE b 1 1 % 2) 5) b)

/-- R496: the slot that the configuration names, and its generation. -/
def State.exportSlot (s : State) : Nat × Nat := let k := s.cfgN 0x5010 1; (k, polGen (s.slot k).policy)

/-- R506: whether the key in use is no longer the one that the configuration names. -/
def State.keyStale (s : State) : Bool := s.exportSlot != (s.up.exp.slot, s.up.exp.gen)

/-- R506, R562: the key in use: that of the working register, which until the switch holds the key under which datagrams are outstanding. -/
def State.keyInUse (s : State) : Option Bytes :=
  let r := s.reg .exporter
  if r.slot = s.up.exp.slot ∧ r.gen = s.up.exp.gen ∧ r.key ≠ [] then some r.key else none

/-- R506: the export key from the vault, none where the slot is BAD, revoked or empty; the first lack is told by 0x5008, and its queues then behave
as in STALLED. -/
def State.exportKey (s : State) : State × Option Bytes :=
  let slot := s.cfgN 0x5010 1
  let r := s.deliverKey .exporter slot (.raw 1)
  if r.2 = 0 then (r.1.updExp (fun x => { x with keyRaised := false, state := if x.state = 3 then 0 else x.state }), some (r.1.reg .exporter).key)
  else
    let s1 := r.1.updExp (fun x => { x with
      state := if x.state = 0 then 3 else x.state, stalledAt := if x.state = 0 then s.now else x.stalledAt, keyRaised := true })
    if s.up.exp.keyRaised then (s1, none)
    else (s1.event 0x5008 exportCell [byte slot, byte (polState (s.slot slot).policy)], none)

/-- R506: whether there is a key to export under; until a switch the working register keeps the key in use. -/
def State.exportKeyHeld (s : State) : State × Option Bytes :=
  let r := s.exportKey
  if r.2.isSome ∧ s.keyStale ∧ s.keyInUse.isSome then
    ({ r.1 with vault := { r.1.vault with regs := r.1.vault.regs.set Consumer.exporter.index (s.reg .exporter) } }, r.2)
  else r

/-- R495: the header of a datagram. -/
def exportHeader (kind seq count gen : Nat) : Bytes :=
  [0x01, byte kind, 0, 0] ++ leBytes 8 seq ++ leBytes 2 count ++ leBytes 2 gen ++ leBytes 8 Config.deviceEui

/-- R496: the IV. -/
def exportIv (ack seq : Nat) : Bytes := [byte ack, 0, 0, 0] ++ leBytes 8 seq

/-- R496: a sealed datagram. -/
def sealDatagram (key : Bytes) (seq count gen : Nat) (area : Bytes) : Bytes :=
  let h := exportHeader 0x10 seq count gen
  let c := gcmCrypt key (exportIv 0 seq) area
  h ++ c ++ gcmTag key (exportIv 0 seq) h c

/-- R498: a record as it stands in a record area. -/
def exportRecord (typ node : Nat) (body : Bytes) : Bytes := [byte typ, byte node] ++ leBytes 2 body.length ++ body

/-- R498: the body of a SESSION record. -/
def State.sessionBody (s : State) (reason : Nat) : Bytes :=
  [byte reason, 0, 0, 0] ++ leBytes 8 s.upNv.cum ++ leBytes 4 s.cfg.applied ++ [byte (b2n (decide (2 ≤ s.powerNv.lastGaspResult)))] ++ zeros 7

/-- R502: the most datagrams that may be outstanding. -/
def State.exportLimit (s : State) : Nat :=
  let w := s.cfgN 0x5010 2
  if s.up.exp.ackHigh.isNone then w else min w s.up.exp.window

/-- R502, R506: whether a new datagram may start. -/
def State.mayStart (s : State) : Bool :=
  s.exportTarget.isSome && !s.keyStale && decide (s.up.exp.outstanding.length < s.exportLimit)

/-! ### Sending -/

/-- R497: the next sequence; its floor is written first. -/
def State.takeSeq (s : State) : State × Nat :=
  let n := s.up.exp.next
  ({ s.updExp (fun x => { x with next := n + 1 }) with
     upNv := if s.upNv.floor < n + 1 then { s.upNv with floor := n + 1 + 65536 } else s.upNv }, n)

/-- R502: a datagram given to its port. -/
def State.sendDatagram (s : State) (b : Bytes) : State :=
  match s.exportTarget with
  | none => s
  | some v => s.udpSend v (s.cfgN 0x5002 2) b

/-- R498, R500, R502: the datagram in the making is sealed under the next sequence, sent and kept. Nothing without a key. -/
def State.closeDatagram (s : State) : State :=
  let k := s.exportKey
  match k.2 with
  | none => k.1
  | some key =>
    let x := s.up.exp
    let q := k.1.takeSeq
    let pre := match x.session with | some r => exportRecord 0x0A 0 (s.sessionBody r) | none => []
    let area := pre ++ x.building
    let count := x.buildCount + b2n x.session.isSome
    let b := sealDatagram key q.2 count x.gen area
    let d : Datagram := ⟨q.2, area, count, b, s.now, cMs (s.cfgN 0x5010 4)⟩
    let s1 := q.1.updExp (fun y => { y with
      outstanding := y.outstanding ++ [d], building := [], buildCount := 0, session := none, lastSentAt := s.now
      lastAckAt := if y.outstanding = [] then s.now else y.lastAckAt, prevCum := if x.session.isSome then s.upNv.cum else y.prevCum })
    let s2 := ((s1.expCount 1 1).expCount 3 count).sendDatagram b
    match x.session with
    | some r => s2.event 0x5002 exportCell ([byte r, byte (b2n x.secondary), 0, 0] ++ leBytes 8 q.2)
    | none => s2

/-! ### Taking records (R498, R499) -/

/-- R498: type, node and body of a packet of an export queue. A record of a leaf carries its node in one byte more, or in the lane byte of
Q16 and Q19; in Q18 a phase change is marked in its last reserved byte (log entry 26). -/
def exportOf (q : Nat) (b : Bytes) : Nat × Nat × Bytes :=
  let extra := fun (n : Nat) => if n < b.length then fieldLE b n 1 else 0
  let lane := fieldLE b 8 1
  let node := if 0x80 ≤ lane then lane - 0x80 else 0
  if q = 16 then (1, node, b.drop 9)
  else if q = 19 then (7, node, b.drop 9)
  else if 24 ≤ q ∧ q ≤ 31 then (2, extra 32, b.take 32)
  else if q = 17 then (if b.length ≤ 33 then (1, extra 32, b.take 32) else (3, extra 64, b.take 64))
  else if q = 18 then
    (if (b.length - 16) % 12 ≤ 1 ∧ (b.length ≠ 64 ∨ fieldLE b 6 1 = 4) ∧ (b.length ≠ 65 ∨ fieldLE b 6 1 = 4) then
      (let n := 16 + 12 * fieldLE b 6 1; (5, extra n, b.take n))
     else if fieldLE b 63 1 = 1 then (6, extra 64, b.take 63 ++ [0]) else (4, extra 64, b.take 64))
  else if q = 34 then (9, extra 32, b.take 32)
  else (let n := 32 + fieldLE b 15 1; (8, extra n, b.take n))

/-- R499: whether a packet is popped and discarded, its kind not being exported. -/
def State.kindOff (s : State) (q : Nat) : Bool :=
  let k := s.cfgN 0x5010 9
  match q with
  | 32 => !bit k 0 | 33 => !bit k 1 | 36 => !bit k 2 | 34 => !bit k 3 | _ => false

/-- R633: a packet of Q33 that is forwarded in place of exported. -/
def State.forwardable (s : State) (b : Bytes) : Bool :=
  s.inCascade && s.cfgN 0x5E00 4 == 1 && decide (fieldLE b 13 1 ≤ 4) && s.casc.noted.any (fun n => n.1 == b.drop 32)

/-- Whether a queue has a record for the export engine. -/
def State.hasExport (s : State) (q : Nat) : Bool :=
  match s.peekPacket q with
  | none => false
  | some b => !(q == 33 && s.forwardable b)

/-- R499: the queues of the four classes. -/
def exportClass (c : Nat) : List Nat :=
  match c with | 0 => [16, 19] | 1 => [17] | 2 => [18] | _ => [32, 33, 34, 36]

/-- R499: the queue that a class takes from: of Q16 and Q19 the one with the lower commit number, when both come from one lane. -/
def State.classQueue (s : State) (c : Nat) : Option Nat :=
  if c = 0 then
    match s.peekPacket 16, s.peekPacket 19 with
    | some a, some b => if fieldLE a 8 1 = fieldLE b 8 1 ∧ fieldLE b 0 8 < fieldLE a 0 8 then some 19 else some 16
    | some _, none => some 16
    | none, some _ => some 19
    | none, none => none
  else (exportClass c).find? s.hasExport

/-- R16, R499, R507: the queue of the next record, with the arbiter after it. In a last gasp records that are not events leave only
with 0x6802.2 ExportAll at 1 (R710). -/
def State.pickExport (s : State) : Option (Nat × ExportState) :=
  let x := s.up.exp
  match ([24, 25, 26, 27, 28, 29, 30, 31].find? s.hasExport) with
  | some q => some (q, x)
  | none =>
    if s.power.phase = .lastGasp ∧ s.cfgN 0x6802 2 = 0 then none
    else
    let fresh := (s.val 0x5010 8).map (·.toNat)
    let order := (List.range 4).map (fun k => (x.turn + k) % 4)
    let pick := fun (cr : List Nat) => order.findSome? (fun c => if 0 < cr.getD c 0 then (s.classQueue c).map (fun q => (c, q)) else none)
    let cr := if (pick x.credits).isSome then x.credits else fresh
    (pick cr).map (fun p => (p.2, { x with credits := cr.set p.1 (cr.getD p.1 1 - 1), turn := p.1 }))

/-- R508: records of Q20 leave for the master while fewer than 1,024 are unacknowledged (R636). -/
def State.drainQ20 : Nat → State → State
  | 0, s => s
  | n + 1, s =>
    if !s.leafPresent ∨ 1024 ≤ s.casc.records.length then s
    else match s.popPacket 20 with
      | none => s
      | some (s1, b, abort) =>
        if abort then s1.drainQ20 n
        else
          let q := s1.casc.rseq
          let s2 := { s1 with casc := { s1.casc with rseq := (q + 1) % 2 ^ 32, records := s1.casc.records ++ [(q, b)] } }
          (s2.toMaster 3 1 (leBytes 4 q ++ b)).drainQ20 n

/-- Everything of Q20 that can leave. -/
def State.drainToMaster (s : State) : State := s.drainQ20 (at' s.queue.queues 20).level

/-- R508: whether records go into Q20: on a leaf whose master is present, and on one that has lost it and has no target of its own. -/
def State.exportsToQ20 (s : State) : Bool :=
  !s.board.cascMaster && s.casc.formed && s.casc.own != 0xFF && (!s.casc.masterLost || s.exportTarget.isNone)

/-- A record taken from its queue into Q20 (R508). -/
def State.takeToQ20 (s : State) (q : Nat) (ls : ExportState) : State :=
  match ({ s with up := { s.up with exp := ls } } : State).popPacket q with
  | none => s
  | some (s1, b, abort) =>
    if abort ∨ s.kindOff q then s1
    else
      let r := exportOf q b
      match s1.pushPacket 20 exportCell (exportRecord r.1 0 r.2.2) with
      | none => s.backpressure 20
      | some s2 => (s2.expCount 3 1).drainToMaster

/-- A record taken into the datagram in the making; a datagram that it would not fit is sent first. -/
def State.takeToDatagram (s0 : State) (q : Nat) (ls : ExportState) : State :=
  let s := { s0 with up := { s0.up with exp := ls } }
  match s.peekPacket q with
  | none => s0
  | some b =>
    let r := exportOf q b
    let rec' := exportRecord r.1 r.2.1 r.2.2
    let x := s.up.exp
    let room := 1360 - (if x.session.isSome then 28 else 0)
    let pop := fun (t : State) => match t.popPacket q with | some (t1, _, _) => t1 | none => t
    if s.kindOff q then pop s
    else
      let s1 := if x.building ≠ [] ∧ room < x.building.length + rec'.length ∧ !s.keyStale then s.closeDatagram else s
      if s1.up.exp.building = [] ∧ !s1.mayStart then (if s1.up.exp.next = x.next then s0 else s1)
      else if s1.up.exp.building ≠ [] ∧ room < s1.up.exp.building.length + rec'.length then s1
      else
        let first := s1.up.exp.building = []
        (pop s1).updExp (fun y => { y with
          building := y.building ++ rec', buildCount := y.buildCount + 1, buildAt := if first then s.now else y.buildAt })

/-- EXPORT_RECORD_TAKE (R498 to R500, R508). A packet cut short is discarded (R427). -/
def exportRecordTake (s : State) : State :=
  if !s.inService exportCell then s
  else match s.pickExport with
    | none => s
    | some (q, ls) =>
      if s.exportsToQ20 then s.takeToQ20 q ls
      else if s.exportTarget.isNone then s
      else
        let k := s.exportKeyHeld
        if k.2.isNone then k.1
        else
          let cut := ((at' s.queue.queues q).cells.take ((at' s.queue.queues q).cells.findIdx (·.last) + 1)).any (·.abort)
          if cut then (match s.popPacket q with | some (s1, _, _) => s1 | none => s) else k.1.takeToDatagram q { ls with keyRaised := k.1.up.exp.keyRaised, state := k.1.up.exp.state }

/-- EXPORT_RECORD_TAKE as a command. -/
def execExportRecordTake (s : State) : Res := s.whenLive exportRecordTake

/-- EXPORT_HOLDOFF (R500). -/
def exportHoldoff (s : State) : State :=
  let x := s.up.exp
  if x.building = [] ∨ s.now < x.buildAt + cUs (s.cfgN 0x5010 3) ∨ !s.inService exportCell ∨ s.keyStale then s else s.closeDatagram

/-- EXPORT_HOLDOFF as a command. -/
def execExportHoldoff (s : State) : Res := s.whenLive exportHoldoff

/-- KEEP_ALIVE (R505): an empty datagram after silence. -/
def keepAlive (s : State) : State :=
  let x := s.up.exp
  if x.building ≠ [] ∨ s.now < x.lastSentAt + cSec (s.cfgN 0x5010 6) ∨ !s.inService exportCell ∨ !s.mayStart then s else s.closeDatagram

/-- KEEP_ALIVE as a command. -/
def execKeepAlive (s : State) : Res := s.whenLive keepAlive

/-! ### Acknowledgement (R501, R502) -/

/-- R501: why an acknowledgement is dropped: true when it is. -/
def State.ackBad (s : State) (v : Via) (b : Bytes) : Bool :=
  let src := match s.exportTarget with
    | none => false
    | some t => v.transport == t.transport && v.port == t.port && v.udpPort == t.udpPort && padTo 16 v.address == t.address
  !src || b.length != 60 || fieldLE b 0 1 != 1 || fieldLE b 1 1 != 0x20 || fieldLE b 12 2 != 0 || fieldLE b 16 8 != Config.deviceEui ||
    fieldLE b 14 2 != s.up.exp.gen || decide (fieldLE b 4 8 ≤ s.up.exp.ackHigh.getD 0 ∧ s.up.exp.ackHigh.isSome) ||
    decide (s.up.exp.next ≤ fieldLE b 24 8)

/-- R501, R502: the datagrams that an acknowledgement leaves outstanding. -/
def unacked (l : List Datagram) (cum bitmap : Nat) : List Datagram :=
  l.filter (fun d => decide (cum < d.seq) && !(decide (d.seq ≤ cum + 64) && bit bitmap (d.seq - cum - 1)))

/-- EXPORT_ACK (R501 to R503). -/
def exportAck (v : Via) (b : Bytes) (s : State) : State :=
  if !s.inService exportCell then s
  else
    let r := match s.keyInUse with | some _ => (s, 0) | none => s.deliverKey .exporter s.up.exp.slot (.raw 3)
    let key := (r.1.reg .exporter).key
    if s.ackBad v b || r.2 != 0 || gmac key (exportIv 1 (fieldLE b 4 8)) (b.take 44) != b.drop 44 then r.1.expCount 5 1
    else
      let x := s.up.exp
      let cum := max x.cum (fieldLE b 24 8)
      let s1 := (r.1.expCount 4 1).updExp (fun y => { y with
        cum := cum, window := fieldLE b 40 2, ackHigh := some (fieldLE b 4 8), outstanding := unacked y.outstanding (fieldLE b 24 8) (fieldLE b 32 8)
        lastAckAt := s.now, state := 0, shedAt := none, shedSince := 0 })
      if x.state = 1 ∨ x.state = 2 then
        s1.event 0x5004 exportCell (leBytes 4 ((s.now - x.stalledAt) / cSec 1) ++ leBytes 8 cum)
      else s1

/-- EXPORT_ACK as a command. -/
def execExportAck (via : Via) (datagram : Bytes) (s : State) : Res := s.whenLive (exportAck via datagram)

/-- A datagram sent again. -/
def State.resend (s : State) (d : Datagram) : State :=
  let top := cMs (s.cfgN 0x5010 5)
  ((s.updExp (fun y => { y with
      outstanding := y.outstanding.map (fun e => if e.seq = d.seq then { e with sentAt := s.now, rto := min (2 * e.rto) top } else e)
      lastSentAt := s.now })).expCount 2 1).sendDatagram d.bytes

/-- EXPORT_RETRANSMIT (R502): datagrams whose timers have run out; while WINDOW is 0 only the oldest, once per RtoMax. -/
def exportRetransmit (s : State) : State :=
  let x := s.up.exp
  let k := s.exportKeyHeld
  if !s.inService exportCell ∨ s.exportTarget.isNone then s
  else if k.2.isNone then k.1
  else if x.ackHigh.isSome ∧ x.window = 0 then
    match x.outstanding with
    | [] => k.1
    | d :: _ => if s.now < x.probeAt then k.1 else (k.1.updExp (fun y => { y with probeAt := s.now + cMs (s.cfgN 0x5010 5) })).resend d
  else (x.outstanding.filter (fun d => decide (d.sentAt + d.rto ≤ s.now))).foldl State.resend k.1

/-- EXPORT_RETRANSMIT as a command. -/
def execExportRetransmit (s : State) : Res := s.whenLive exportRetransmit

/-! ### States (R503, R504) -/

/-- R504: the other target takes over: a new session with REASON 2, and every outstanding datagram at once. -/
def State.switchTarget (s : State) : State :=
  let s1 := (s.updExp (fun x => { x with secondary := !x.secondary, session := some 2 })).event 0x5005 exportCell
    [byte (b2n (!s.up.exp.secondary)), 0, 0, 0]
  s1.up.exp.outstanding.foldl State.resend s1

/-- EXPORT_STALLED (R503, R504, R679): a fenced engine is as STALLED, and does not switch. -/
def exportStalled (s : State) : State :=
  let x := s.up.exp
  let silent := x.outstanding ≠ [] ∧ x.lastAckAt + cSec (s.cfgN 0x5010 7) ≤ s.now
  let fenced := !s.inService exportCell
  let unset := s.exportTarget.isNone && !s.leafPresent
  if x.state = 1 ∨ x.state = 2 ∨ (!silent ∧ !unset ∧ !fenced) then s
  else
    let s1 := (s.updExp (fun y => { y with state := 1, stalledAt := s.now })).event 0x5003 exportCell
      (leBytes 4 x.outstanding.length ++ leBytes 8 x.cum)
    let other := s.val 0x5011 (if x.secondary then 1 else 2)
    if silent ∧ !fenced ∧ fieldLE other 2 2 ≠ 0 then s1.switchTarget else s1

/-- EXPORT_STALLED as a command. -/
def execExportStalled (s : State) : Res := s.whenLive exportStalled

/-- R503: the oldest records of a queue at its skein limit are discarded; `n` bounds them. -/
def State.shedQueue : Nat → Nat → State → State
  | 0, _, s => s
  | n + 1, q, s =>
    if 8 * (at' s.queue.queues q).skein.length < s.skeinLimit q then s
    else match s.popPacket q with
      | none => s
      | some (s1, _, _) =>
        let k := s1.up.exp.shedSince + 1
        let s2 := (s1.expCount 6 1).updExp (fun x => { x with shedSince := k })
        let due := match s2.up.exp.shedAt with | none => true | some t => decide (t + cSec 60 ≤ s2.now)
        State.shedQueue n q (if due then
          (s2.updExp (fun x => { x with shedAt := some s2.now, shedSince := 0 })).event 0x5006 exportCell ([byte q, 0, 0, 0] ++ leBytes 4 k) else s2)

/-- EXPORT_SHED (R503, R506): SHEDDING begins, or goes on. -/
def exportShed (s : State) : State :=
  let x := s.up.exp
  let on := x.state = 2 ∨ ((x.state = 1 ∨ x.state = 3) ∧ s.cfgN 0x5010 10 = 1 ∧ x.stalledAt + cSec (s.cfgN 0x5010 11) ≤ s.now)
  if !on then s
  else
    [16, 17, 18, 19].foldl (fun st q => st.shedQueue (at' st.queue.queues q).level q) (s.updExp (fun y => { y with state := 2 }))

/-- EXPORT_SHED as a command. -/
def execExportShed (s : State) : Res := s.whenLive exportShed

/-! ### Keys, sessions, persistence (R498, R506, R507) -/

/-- The key that the configuration names comes into use, and a session with it. -/
def State.useKey (s : State) : State :=
  s.updExp (fun x => { x with slot := s.exportSlot.1, gen := s.exportSlot.2, keyWaitAt := none, session := some 1 })

/-- EXPORT_KEY_SWITCH (R506). -/
def exportKeySwitch (s : State) : State :=
  if !s.keyStale ∨ !s.inService exportCell then s
  else
    let k := s.exportKey
    let held := s.exportKeyHeld.1
    match k.2 with
    | none => k.1
    | some key =>
      let x := s.up.exp
      if x.outstanding = [] then k.1.useKey
      else match x.keyWaitAt with
        | none => held.updExp (fun y => { y with keyWaitAt := some s.now })
        | some t =>
          if s.now < t + cSec (s.cfgN 0x5010 7) then held
          else
            let s1 := k.1.useKey
            let again := x.outstanding.map (fun d => { d with bytes := sealDatagram key d.seq d.count s1.up.exp.gen d.area, sentAt := s.now })
            again.foldl (fun st d => (st.expCount 2 1).sendDatagram d.bytes) (s1.updExp (fun y => { y with outstanding := again, lastSentAt := s.now }))

/-- EXPORT_KEY_SWITCH as a command. -/
def execExportKeySwitch (s : State) : Res := s.whenLive exportKeySwitch

/-- CUM_PERSIST (R507): at most once per second. -/
def cumPersist (s : State) : State :=
  let x := s.up.exp
  if s.now < x.persistAt + cSec 1 ∨ s.upNv.cum = x.cum then s
  else { s.updExp (fun y => { y with persistAt := s.now }) with upNv := { s.upNv with cum := x.cum } }

/-- CUM_PERSIST as a command. -/
def execCumPersist (s : State) : Res := s.whenLive cumPersist

/-- EXPORT_SESSION_START (R498). -/
def exportSessionStart (v : Nat) : State → State × Nat :=
  one v (fun s => if !s.inService exportCell then (s, Abort.fenced) else (s.updExp (fun x => { x with session := some 3 }), Abort.ok))

/-- EXPORT_SESSION_START as a command. -/
def execExportSessionStart (role v : Nat) (s : State) : Res := s.command 0x5011 3 role .operator (exportSessionStart v)

/-! ### Frame import (R509 to R513) -/

/-- One more on count `i` (from 1) of 0x5023. -/
def State.impCount (s : State) (i : Nat) : State :=
  { s with up := { s.up with imp := { s.up.imp with counters := upd s.up.imp.counters (i - 1) (· + 1) } } }

/-- R511: a datagram dropped; 0x5007 at most once per second. -/
def State.impReject (s : State) (cause eui : Nat) : State :=
  let s1 := s.impCount (if cause = 4 then 3 else 2)
  if s1.perSecond s1.up.imp.rejectAt then
    ({ s1 with up := { s1.up with imp := { s1.up.imp with rejectAt := some s1.now } } }).event 0x5007 importCell ([byte cause, 0, 0, 0] ++ leBytes 8 eui)
  else s1

/-- An entry of an import datagram: LINK_TYPE, LINKQ, TIME, TIME_VALID, the frame. -/
structure ImportEntry where
  linkType : Nat
  linkq : Int
  time : Bytes
  valid : Bool
  frame : Bytes
deriving DecidableEq, Repr

/-- R509, R511: `n` entries that fill the bytes exactly; none when they do not, or a reserved bit is set. -/
def importEntries : Nat → Bytes → Option (List ImportEntry)
  | 0, b => if b = [] then some [] else none
  | n + 1, b =>
    let len := fieldLE b 0 1
    if b.length < 20 + len ∨ len = 0 ∨ 1 < fieldLE b 16 1 ∨ fieldLE b 17 3 ≠ 0 then none
    else (importEntries n (b.drop (20 + len))).map (fun l =>
      ⟨fieldLE b 1 1, fieldInt b 2 2, slice b 4 12, bit (fieldLE b 16 1) 0, slice b 20 len⟩ :: l)

/-- R509: the entries of a datagram; none when it is malformed. -/
def importBody (b : Bytes) : Option (List ImportEntry) :=
  let tag := if bit (fieldLE b 3 1) 0 then 16 else 0
  let n := fieldLE b 2 1
  if b.length < 16 + tag ∨ 1472 < b.length ∨ fieldLE b 0 1 ≠ 1 ∨ fieldLE b 1 1 ≠ 0x30 ∨ n = 0 ∨ 64 < n ∨ 1 < fieldLE b 3 1 then none
  else importEntries n ((b.take (b.length - tag)).drop 16)

/-- R510, R562: the import key, loaded into the dictionary authenticator's register. -/
def State.gatewayKey (s : State) : State × Option Bytes :=
  let r := s.deliverKey .dictAuth (s.cfgN 0x5020 3) (.raw 3)
  (r.1, if r.2 = 0 then some (r.1.reg .dictAuth).key else none)

/-- R510, R511: whether the tag of a datagram is as it must be. -/
def State.importTagOk (s : State) (b : Bytes) : State × Bool :=
  if bit (fieldLE b 3 1) 0 then
    let k := s.gatewayKey
    (k.1, match k.2 with
      | none => false
      | some key => gmac key (slice b 4 12) (b.take (b.length - 16)) == b.drop (b.length - 16))
  else (s, s.cfgN 0x5020 2 == 0)

/-- R511: whether a gateway is listed. -/
def State.gatewayListed (s : State) (eui : Nat) : Bool :=
  let t := s.val 0x5021 0
  (List.range (t.length / 8)).any (fun k => fieldLE t (8 * k) 8 == eui)

/-- R511, R513: a gateway's address as its latest datagram shows it. -/
def State.noteGateway (s : State) (eui : Nat) (v : Via) : State :=
  let g : Gateway := ⟨eui, v.address, v.udpPort, if v.transport = 0 then 4 else 6, v.port, v.vlan, s.now⟩
  let i := s.up.imp
  { s with up := { s.up with imp := { i with
    gateways := if i.gateways.any (fun x => x.eui == eui) then i.gateways.map (fun x => if x.eui = eui then g else x) else i.gateways ++ [g] } } }

/-- R513: the return table after an imported frame. -/
def State.noteReturn (s : State) (gateway : Nat) (e : ImportEntry) : State :=
  let eui := fEui e.frame
  let r : ReturnEntry := ⟨eui, gateway, e.linkType, e.linkq, s.now⟩
  let i := s.up.imp
  if e.frame.length < fEnvOff e.frame + 8 then s
  else
    let l := match i.returns.find? (fun x => x.eui == eui) with
      | none => i.returns ++ [r]
      | some o => if o.at' + cMs (s.cfgN 0x5020 5) < s.now ∨ o.linkq < e.linkq then i.returns.map (fun x => if x.eui = eui then r else x) else i.returns
    { s with up := { s.up with imp := { i with returns := l } } }

/-- R441, R512: the packet of an entry in Q6. -/
def importPacket (sender : Nat) (stamp : Int) (e : ImportEntry) : Bytes :=
  padTo 64 ((if e.valid then padTo 12 e.time else time80 stamp) ++ [6, byte e.frame.length] ++ leInt 2 e.linkq ++ zeros 24 ++
    leBytes 8 sender ++ [byte e.linkType]) ++ e.frame

/-- R512: an entry enters Q6, or is dropped. -/
def State.importEntry (s : State) (sender : Nat) (stamp : Int) (e : ImportEntry) : State :=
  let r := s.pushOrDrop 6 importCell (importPacket sender stamp e)
  if r.2 then (r.1.impCount 1).noteReturn sender e else r.1.impCount 4

/-- IMPORT_DATAGRAM (R509 to R513, R679): a datagram at ImportPort with its receive stamp. -/
def importDatagram (v : Via) (stamp : Int) (b : Bytes) (s : State) : State :=
  let sender := fieldLE b 4 8
  if s.cfgN 0x5020 1 = 0 then s
  else if !s.inService importCell then s.impCount 2
  else match importBody b with
    | none => s.impReject 1 sender
    | some es =>
      let t := s.importTagOk b
      let listed := s.gatewayListed sender
      let known := listed || (s.cfgN 0x5020 4 == 1 && s.up.imp.gateways.any (fun g => g.eui == sender))
      let held := (s.val 0x5021 0).length / 8 + (s.up.imp.gateways.filter (fun g => !s.gatewayListed g.eui)).length
      if !t.2 then t.1.impReject 2 sender
      else if !known ∧ s.cfgN 0x5020 4 = 0 then t.1.impReject 3 sender
      else if !known ∧ 256 ≤ held then t.1.impReject 4 sender
      else es.foldl (fun st e => st.importEntry sender stamp e) (t.1.noteGateway sender v)

/-- IMPORT_DATAGRAM as a command. -/
def execImportDatagram (via : Via) (stamp : Int) (datagram : Bytes) (s : State) : Res := s.whenRunning (importDatagram via stamp datagram)

/-- R513: the next sequence of return datagrams; its floor is written first. -/
def State.takeImportSeq (s : State) : State × Nat :=
  let n := s.up.imp.seq
  ({ s with up := { s.up with imp := { s.up.imp with seq := (n + 1) % 2 ^ 32 } }
            upNv := if s.upNv.importFloor < n + 1 then { s.upNv with importFloor := n + 1 + 65536 } else s.upNv }, n)

/-- R513: a return datagram. -/
def returnBytes (seq linkType meter eui : Nat) (frame : Bytes) (key : Option Bytes) : Bytes :=
  let head := [0x01, 0x31, 1, byte (b2n key.isSome)] ++ leBytes 8 Config.deviceEui ++ leBytes 4 seq
  let b := head ++ [byte frame.length, byte linkType, 0, 0] ++ leBytes 4 meter ++ leBytes 8 eui ++ frame
  match key with
  | none => b
  | some k => b ++ gmac k (slice head 4 12) b

/-- RETURN_DATAGRAM (R513): the oldest packet of Q14. -/
def returnDatagram (s : State) : State :=
  if !s.inService importCell then s
  else match s.popPacket 14 with
    | none => s
    | some (s1, b, abort) =>
      if abort then s1
      else
        let eui := fieldLE b 0 8
        match s1.up.imp.returns.find? (fun r => r.eui == eui) with
        | none => s1.impCount 6
        | some r =>
          match s1.up.imp.gateways.find? (fun g => g.eui == r.gateway) with
          | none => s1.impCount 6
          | some g =>
            let auth := s1.cfgN 0x5020 2 == 1
            let k := if auth then s1.gatewayKey else (s1, none)
            if auth ∧ k.2.isNone then k.1
            else
              let q := k.1.takeImportSeq
              let v : Via := { transport := if g.family = 4 then 0 else 1, port := g.ethPort, vlan := g.vlan, udpPort := g.udpPort, address := g.address }
              (q.1.impCount 5).udpSend v (s1.cfgN 0x5002 3) (returnBytes q.2 r.linkType (fieldLE b 8 4) eui (b.drop 64) k.2)

/-- RETURN_DATAGRAM as a command: with the room made in Q14 re-acknowledgements go on from Q35 (R161). -/
def execReturnDatagram (s : State) : Res := s.whenLive (fun t => (returnDatagram t).passReacks)

/-! ### Ports (R490, R514) -/

/-- DEPARTURE_ECHO (R514, R540): a frame of the firmware has left, with its capture; its echo goes into Q53. -/
def departureEcho (p capture tag : Nat) (frame : Bytes) (s : State) : State :=
  if !s.ethUsable p then s
  else
    let s1 := (s.ethCount p 8).put (.eth p frame)
    let r := s1.pushOrDrop 53 (ethCell p) (padTo 64 (time80 (s.tdAt 0 (s.ethTxStamp p capture)) ++ [byte p, 0] ++ leBytes 2 tag ++ leBytes 2 frame.length) ++ frame)
    if r.2 then r.1 else r.1.ethCount p 9

/-- DEPARTURE_ECHO as a command. -/
def execDepartureEcho (port : Fin 2) (capture tag : Nat) (frame : Bytes) (s : State) : Res :=
  s.whenLive (departureEcho port capture tag frame)

/-- ETH_LINK_CHANGED (R490): a port that is not in use does not come up. Loss of lock is reported (R672). -/
def ethLinkChanged (p : Nat) (linkUp : Bool) (s : State) : State :=
  let x := at' s.up.eth p
  let ok := linkUp && s.cfgN (0x5000 + p) 1 == 1 && s.inService (ethCell p)
  if x.up = ok then s
  else
    let speed := s.cfgN (0x5000 + p) 2
    let s1 := { s with up := { s.up with eth := upd s.up.eth p (fun y => { y with up := ok, speed := speed }) } }
    let s2 := s1.event 0x5001 (ethCell p) [byte p, byte (b2n ok), byte speed]
    if ok then s2 else s2.raiseError (ethCell p) 0x0016

/-- ETH_LINK_CHANGED as a command. -/
def execEthLinkChanged (port : Fin 2) (linkUp : Bool) (s : State) : Res := s.whenLive (ethLinkChanged port linkUp)

/-- R490: a change of speed at the port's switch makes the link retrain. -/
def ethSwitched (before s : State) : State :=
  [0, 1].foldl (fun st p =>
    if before.cfgN (0x5000 + p) 2 ≠ st.cfgN (0x5000 + p) 2 ∨ st.cfgN (0x5000 + p) 1 = 0 then ethLinkChanged p false st else st) s

end Sys2Proof.Machine
end

