-- ==== Sys2Proof/Machine/Cascade.lean ====
section
/-!
DEFINITION. The cascade (chapter 19, R621 to R646): formation, messages, the directory, forwarded frames, records, breaks and a lost
master. The codes of KIND and the payloads are the model's own (log entry 25).
-/
namespace Sys2Proof.Machine

/-! ### Ports and paths -/

/-- R622: whether a port is in use. -/
def State.ihUsed (s : State) (p : Nat) : Bool := bit (s.cfgN 0x5E00 1) p && s.inService (ihCell p)

/-- The cascade's state changed. -/
def State.updCasc (s : State) (f : CascState → CascState) : State := { s with casc := f s.casc }

/-- One port changed. -/
def State.updIh (s : State) (p : Nat) (f : IhPort → IhPort) : State := s.updCasc (fun c => { c with ports := upd c.ports p f })

/-- An event of the cascade as a whole. -/
def State.cascEvent (s : State) (code : Nat) (data : Bytes) : State := s.event code (ihCell 0) data

/-- R629, R642: in a ring of `n` leaves, whether the leaf of place `h` is reached from the side on which it was enumerated. The last
argument says that Ihlost 0 of the one who sends lies on that side. -/
def nearSide (n : Nat) (brk : Option Nat) (h : Nat) (zero : Bool) : Bool :=
  match brk with
  | some b => decide (h ≤ b)
  | none => decide (h < n + 1 - h) || (decide (h = n + 1 - h) && zero)

/-- R629: the node of the master's table as it is reached now. -/
def CascNode.routed (x : CascNode) (topology n : Nat) (brk : Option Nat) : CascNode :=
  if topology < 2 ∨ nearSide n brk x.pos (x.side == 0) then { x with port := x.side, hops := x.pos }
  else { x with port := 1 - x.side, hops := n + 1 - x.pos }

/-- R629: a leaf's port towards its master. -/
def CascState.wayUp (c : CascState) : Nat :=
  if c.topology < 2 ∨ nearSide c.leaves c.breakIdx c.hops (c.enumPort == 0) then c.enumPort else 1 - c.enumPort

/-- R645: hops from this node to its master. -/
def CascState.hopsUp (c : CascState) : Nat :=
  if c.own = 0 ∨ c.own = 0xFF then 0
  else if c.topology < 2 ∨ nearSide c.leaves c.breakIdx c.hops (c.enumPort == 0) then c.hops
  else c.leaves + 1 - c.hops

/-- R645: 0x5E01.1. -/
def State.cascMode (s : State) : Nat :=
  if s.casc.conflict then 3
  else if s.board.cascMaster then (if s.masterFormed then 1 else 0)
  else if s.casc.own = 0xFF then 5
  else if s.casc.masterLost then 4
  else if s.casc.formed then 2 else 5

/-! ### Records of a leaf (R636) -/

/-- R636: a leaf's unacknowledged records sent again, in order. -/
def State.resendRecords (s : State) : State :=
  let n := s.casc.records.length
  let s1 := s.casc.records.foldl (fun st r => st.toMaster 3 1 (leBytes 4 r.1 ++ r.2)) s
  { s1 with casc := { s1.casc with resent := n, counters := upd s1.casc.counters 8 (· + n) } }

/-- A leaf's upstream port as it is now; after a change its records go the new way (R636). -/
def State.takeWayUp (s : State) : State :=
  let p := s.casc.wayUp
  if s.board.cascMaster ∨ s.casc.own = 0xFF ∨ s.casc.upstream = p then s
  else (s.updCasc (fun c => { c with upstream := p })).resendRecords

/-- R631: a node tells the master the EUIs of all its records. -/
def State.sendDirectory (s : State) : State := s.mtr.table.foldl (fun st p => st.reportDir p.2.eui p.1 true) s

/-- R638: the member counts of a node's CASCADE groups, by group and interval length. -/
def State.cascadeCounts (s : State) : List LeafCount :=
  let groups := (s.bal.groups.filter (fun g => gCascade g.2.entry)).map (·.1)
  groups.foldl (fun acc g =>
    let lens := (s.members g).map (fun p => s.lenOf p.2)
    acc ++ lens.eraseDups.map (fun l => LeafCount.mk s.casc.own g l (lens.filter (· == l)).length)) []

/-- R638: a leaf reports its member counts that have changed. -/
def State.reportCounts (s : State) : State :=
  if !s.leafPresent then s
  else
    let now := s.cascadeCounts
    let gone := (s.casc.counted.filter (fun c => !now.any (fun d => d.group == c.group && d.len == c.len))).map (fun c => { c with count := 0 })
    let new := now.filter (fun c => !s.casc.counted.contains c)
    let s1 := (gone ++ new).foldl (fun st c => st.toMaster 1 10 (leBytes 2 c.group ++ [byte c.len] ++ leBytes 4 c.count)) s
    s1.updCasc (fun c => { c with counted := now })

/-- R644: what a leaf sends when it meets its master: its records' sequence, its directory, its records, what waits in Q20. -/
def State.greetMaster (s : State) : State :=
  let first := match s.casc.records with | r :: _ => r.1 | [] => s.casc.rseq
  let s1 := s.toMaster 1 12 (leBytes 4 first ++ leBytes 4 s.casc.rseq)
  let s2 := s1.casc.reports.foldl (fun st u => st.toMaster 1 (if u.add then 4 else 5) u.bytes) s1
  let s3 := (s2.updCasc (fun c => { c with reports := [], counted := [] })).sendDirectory
  s3.resendRecords.drainToMaster.reportCounts

/-! ### Formation (R623 to R625) -/

/-- An entry of the list that ENUMERATE carries: number, EUI, port and place; port 0xFF in one that this pass has not reached. -/
def enumEntry (node eui port pos : Nat) : Bytes := [byte node] ++ leBytes 8 eui ++ [byte port, byte pos]

/-- The entries of such a list: number, EUI, port, place. -/
def enumEntries (b : Bytes) : List (Nat × Nat × Nat × Nat) :=
  (List.range (b.length / 11)).map (fun k => (fieldLE b (11 * k) 1, fieldLE b (11 * k + 1) 8, fieldLE b (11 * k + 9) 1, fieldLE b (11 * k + 10) 1))

/-- The bytes of a list. -/
def enumBytes (l : List (Nat × Nat × Nat × Nat)) : Bytes := (l.map (fun e => enumEntry e.1 e.2.1 e.2.2.1 e.2.2.2)).flatten

/-- R623: the lowest number that no entry has; 64 when all are taken. -/
def nextNumber (l : List (Nat × Nat × Nat × Nat)) : Nat :=
  ((List.range 63).map (· + 1)).find? (fun k => !l.any (fun e => e.1 == k)) |>.getD 64

/-- R623: ENUMERATE sent out of a port: the master's EUI, the next free number, hops, the list. -/
def State.sendEnumerate (s : State) (p eui hops : Nat) (l : List (Nat × Nat × Nat × Nat)) : State :=
  s.hopSend p 1 1 s.casc.own 0xFF (leBytes 8 eui ++ [byte (nextNumber l), byte hops] ++ enumBytes l) s.now

/-- The master's list: what its node table holds, the leaves that the present passes have reached with their port. -/
def State.enumList (s : State) (all : Bool) : List (Nat × Nat × Nat × Nat) :=
  s.casc.nodes.map (fun n => (n.node, n.eui, if all ∧ !n.lost then n.side else 0xFF, n.pos))

/-- R623 steps 1 and 4: a pass out of port `p`. -/
def State.enumPass (s : State) (p : Nat) : State :=
  (s.updCasc (fun c => { c with enumPort := p })).sendEnumerate p Config.deviceEui 1 (s.enumList false)

/-- R623: the master enumerates, out of Ihlost 0 first. -/
def State.startEnum (s : State) : State :=
  if !s.board.cascMaster ∨ s.casc.conflict then s
  else if (at' s.casc.ports 0).up then s.enumPass 0
  else if (at' s.casc.ports 1).up then s.enumPass 1
  else s

/-- R642: what a leaf must know of the cascade: whether it forms now, topology, leaves, place of the break, and its neighbours towards and away
from the side on which it was enumerated. -/
def State.pathBytes (s : State) (x : CascNode) (forms : Bool) : Bytes :=
  let c := s.casc
  let near := c.nodes.find? (fun y => y.side == x.side && y.pos + 1 == x.pos)
  let far := c.nodes.find? (fun y => y.side == x.side && y.pos == x.pos + 1)
  let last := decide (c.topology ≥ 2 ∧ x.pos = c.leaves)
  let pair := fun (y : Option CascNode) (master : Bool) =>
    match y with
    | some z => [byte z.node] ++ leBytes 8 z.eui
    | none => if master then [0] ++ leBytes 8 Config.deviceEui else [0xFF] ++ leBytes 8 0
  [byte (b2n forms), byte c.topology, byte c.leaves, byte (c.breakIdx.getD 0xFF)] ++ pair near (x.pos == 1) ++ pair far last

/-- The master tells every node of the cascade how it stands. -/
def State.tellPaths (s : State) (forms : Bool) : State :=
  s.casc.nodes.foldl (fun st x => if (at' st.casc.ports x.port).up then st.hopSend x.port 1 13 0 x.node (s.pathBytes x forms) st.now else st) s

/-- The master's routes as its topology and the break give them (R629). -/
def State.reroute (s : State) : State :=
  s.updCasc (fun c => { c with nodes := c.nodes.map (fun x => x.routed c.topology c.leaves c.breakIdx) })

/-- R623: the cascade is formed. -/
def State.formDone (s : State) (topology : Nat) : State :=
  let s0 := s.updCasc (fun c => { c with
    formed := c.nodes != [], topology := if c.nodes = [] then 0 else topology, leaves := c.nodes.length, breakIdx := none
    enumPort := 2, own := 0 })
  let s1 := s0.reroute
  let near := fun (p : Nat) => s1.casc.nodes.find? (fun x => (x.side == p && x.pos == 1) || (decide (topology = 2) && p == 1 && x.pos == s1.casc.leaves))
  let s2 := [0, 1].foldl (fun st p => st.updIh p (fun x =>
    match near p with | some y => { x with neighbour := y.node, neighbourEui := y.eui } | none => { x with neighbour := 0xFF, neighbourEui := 0 })) s1
  if s2.casc.nodes = [] then s2
  else (((s2.cascEvent 0x5E01 [byte (s2.casc.nodes.filter (fun x => !x.lost)).length, byte s2.casc.topology]).tellPaths true).sendDirectory)

/-- R623, R645: leaves entered in the node table as a pass found them; a leaf keeps its number. -/
def State.enterNodes (s : State) (side : Nat) (l : List (Nat × Nat × Nat × Nat)) : State :=
  s.updCasc (fun c => { c with nodes := l.foldl (fun ns e =>
    if e.2.2.1 = 0xFF then ns
    else if ns.any (fun x => x.eui == e.2.1) then ns.map (fun x => if x.eui = e.2.1 then { x with node := e.1, side := side, pos := e.2.2.2 } else x)
    else ns ++ [⟨e.1, side, e.2.2.2, side, e.2.2.2, false, 0, e.2.1, none, none⟩]) c.nodes })

/-- CASCADE_FORMED (R623, R624): the report of a pass: the EUI of the device that could not be numbered, or 0, and the list. After the pass out of
Ihlost 1 the cascade is formed. -/
def cascadeFormed (p : Nat) (b : Bytes) (s : State) : State :=
  if !s.board.cascMaster ∨ s.casc.conflict ∨ s.casc.enumPort ≠ p then s
  else
    let refused := fieldLE b 0 8
    let s1 := s.enterNodes p (enumEntries (b.drop 8))
    let s2 := if refused = 0 then s1 else s1.cascEvent 0x5E02 ([2, 0, 0, 0] ++ leBytes 8 refused)
    if p = 0 ∧ (at' s2.casc.ports 1).up then s2.enumPass 1 else s2.formDone 1

/-- CASCADE_FORMED as a command. -/
def execCascadeFormed (port : Fin 2) (report : Bytes) (s : State) : Res :=
  s.whenLive (fun s => if (at' s.casc.ports port).up then cascadeFormed port report s else s)

/-- R625: a conflict reported out of a port, naming the other master. -/
def State.sendConflict (s : State) (p other : Nat) : State := s.hopSend p 1 3 s.casc.own 0 (leBytes 8 other) s.now

/-- R625: a leaf that takes part in no cascade. -/
def State.unnumbered (s : State) : State :=
  s.updCasc (fun c => { c with own := 0xFF, formed := false, conflict := true, masterEui := 0, upstream := 0xFF, hops := 0, topology := 0
                               leaves := 0, breakIdx := none, masterLost := false })

/-- R625: a report of a conflict: the master stops forming; a leaf stays unnumbered and passes the report on. -/
def State.takeConflict (s : State) (p : Nat) (b : Bytes) : State :=
  if s.casc.conflict then s
  else if s.board.cascMaster then
    (s.updCasc (fun c => { c with formed := false, conflict := true, topology := 0, enumPort := 2 })).cascEvent 0x5E02
      ([1, 0, 0, 0] ++ leBytes 8 (fieldLE b 0 8))
  else
    let s1 := if (at' s.casc.ports (1 - p)).up then s.hopSend (1 - p) 1 3 s.casc.own 0 b s.now else s
    s1.unnumbered

/-- R623 step 2, R624: a leaf takes a number and passes ENUMERATE on; the last one, or one that gets no number, reports. -/
def State.takeNumber (s : State) (p : Nat) (b : Bytes) : State :=
  let l := enumEntries (b.drop 10)
  let hops := fieldLE b 9 1
  let mine := l.find? (fun e => e.2.1 == Config.deviceEui)
  let k := match mine with | some e => e.1 | none => fieldLE b 8 1
  let listed := fun (x : List (Nat × Nat × Nat × Nat)) => enumBytes (x.filter (fun e => e.2.2.1 != 0xFF))
  if 63 < k then s.hopSend p 1 2 s.casc.own 0 (leBytes 8 Config.deviceEui ++ listed l) s.now
  else
    let me := (k, Config.deviceEui, p, hops)
    let l' := if mine.isSome then l.map (fun e => if e.2.1 = Config.deviceEui then me else e) else l ++ [me]
    let s1 := s.updCasc (fun c => { c with own := k, masterEui := fieldLE b 0 8, enumPort := p, hops := hops, upstream := p })
    if (at' s.casc.ports (1 - p)).up then s1.sendEnumerate (1 - p) (fieldLE b 0 8) (hops + 1) l'
    else s1.hopSend p 1 2 k 0 (leBytes 8 0 ++ listed l') s.now

/-- ENUMERATE (R623 to R625): an ENUMERATE that arrives: the master's EUI, the next free number, hops, and the list of leaves. -/
def enumerate (p : Nat) (b : Bytes) (s : State) : State :=
  let eui := fieldLE b 0 8
  if s.board.cascMaster then
    if eui = Config.deviceEui then
      (if p = 1 ∧ s.casc.enumPort = 0 ∧ !s.casc.conflict then (s.enterNodes 0 (enumEntries (b.drop 10))).formDone 2 else s)
    else s.sendConflict p Config.deviceEui
  else
    let s1 := s.updCasc (fun c => { c with heard := c.heard.filter (fun h => h.1 != eui) ++ [(eui, p)] })
    if s.casc.conflict then s1
    else match s1.casc.heard with
      | a :: c :: _ => ((s1.sendConflict a.2 c.1).sendConflict c.2 a.1).unnumbered
      | _ => s1.takeNumber p b

/-- ENUMERATE as a command. -/
def execEnumerate (port : Fin 2) (payload : Bytes) (s : State) : Res :=
  s.whenLive (fun s => if (at' s.casc.ports port).up then enumerate port payload s else s)

/-- R639, R642: a leaf learns how the cascade stands. When it forms, the leaf sends its directory (R631). -/
def State.takePaths (s : State) (b : Bytes) : State :=
  if s.board.cascMaster ∨ s.casc.own = 0xFF then s
  else
    let brk := fieldLE b 3 1
    let forms := fieldLE b 0 1 = 1
    let e := s.casc.enumPort
    let s1 := s.updCasc (fun c => { c with
      topology := fieldLE b 1 1, leaves := fieldLE b 2 1, breakIdx := if brk = 0xFF then none else some brk
      formed := c.formed || forms, seenAt := s.now })
    let s2 := (s1.updIh e (fun x => { x with neighbour := fieldLE b 4 1, neighbourEui := fieldLE b 5 8 })).updIh (1 - e)
      (fun x => { x with neighbour := fieldLE b 13 1, neighbourEui := fieldLE b 14 8 })
    let s3 := s2.takeWayUp
    if forms ∧ s3.leafPresent then s3.greetMaster else s3

/-! ### Links (R622, R642) -/

/-- R642: messages held for a hop that broke leave by the other port: of classes 1 and 2 those less than 1 ms old, of class 3 all. -/
def State.moveUnacked (s : State) (p : Nat) : State :=
  let held := (at' s.casc.ports p).unacked
  let s1 := s.updIh p (fun x => { x with unacked := [] })
  if s.casc.topology < 2 ∨ !(at' s.casc.ports (1 - p)).up then s1
  else (held.filter (fun m => fieldLE m.bytes 0 1 == 3 || decide (s.now < m.madeAt + cMs 1))).foldl (fun st m =>
    let b := m.bytes
    st.hopSend (1 - p) (fieldLE b 0 1) (fieldLE b 1 1) (fieldLE b 2 1) (fieldLE b 3 1) (slice b 8 (fieldLE b 4 2)) m.madeAt) s1

/-- R642: the place of a break at a port of this node. -/
def State.breakPlace (s : State) (p : Nat) : Nat :=
  let c := s.casc
  if s.board.cascMaster then (if p = 0 then 0 else c.leaves) else if p = c.enumPort then c.hops - 1 else c.hops

/-- R642: the master takes a break or its end into its routes and tells the leaves. -/
def State.masterBreak (s : State) (brk : Option Nat) : State :=
  ((s.updCasc (fun c => { c with topology := if brk.isSome then 3 else 2, breakIdx := brk, brokenAt := if brk.isSome then s.now else c.brokenAt })).reroute).tellPaths false

/-- R642: a ring breaks at a port of this node. -/
def State.ringBroken (s : State) (p : Nat) : State :=
  if s.casc.topology ≠ 2 then s
  else
    let k := s.breakPlace p
    let s1 := s.event 0x5E04 (ihCell p) [byte p]
    if s.board.cascMaster then s1.masterBreak (some k)
    else
      ((s1.updCasc (fun c => { c with topology := 3, breakIdx := some k, brokenAt := s.now })).takeWayUp).toMaster 1 14 [byte k]

/-- R642: the broken link of a ring comes up again. -/
def State.ringRestored (s : State) (p : Nat) : State :=
  let k := s.breakPlace p
  if s.casc.topology ≠ 3 ∨ s.casc.breakIdx ≠ some k then s
  else
    let s1 := s.event 0x5E05 (ihCell p) ([byte p, 0, 0, 0] ++ leBytes 4 ((s.now - s.casc.brokenAt) / cMs 1))
    if s.board.cascMaster then s1.masterBreak none
    else
      ((s1.updCasc (fun c => { c with topology := 2, breakIdx := none })).takeWayUp).toMaster 1 15 [byte k]

/-- A link that goes down (R622, R642). -/
def State.linkDown (s : State) (p : Nat) : State :=
  if !(at' s.casc.ports p).up then s
  else
    let s1 := (s.updIh p (fun x => { x with up := false })).event 0x5E03 (ihCell p) [byte p, 0]
    ((s1.ringBroken p).moveUnacked p).updIh p (fun x => { x with neighbour := 0xFF, neighbourEui := 0 })

/-- R625: a leaf tells along the chain that formation is to be tried again. -/
def State.recheck (s : State) (from' : Nat) : State :=
  if s.board.cascMaster then (s.updCasc (fun c => { c with conflict := false, heard := [] })).startEnum
  else
    let s1 := s.updCasc (fun c => { c with conflict := false, heard := [] })
    if (at' s1.casc.ports (1 - from')).up then s1.hopSend (1 - from') 1 16 s1.casc.own 0xFF [] s1.now else s1

/-- A link that comes up: both directions count their messages anew; the master enumerates (R623), and a conflict is looked at again
(R625). -/
def State.linkUp (s : State) (p : Nat) : State :=
  if (at' s.casc.ports p).up ∨ !s.ihUsed p then s
  else
    let s1 := (s.updIh p (fun x => { x with up := true, txSeq := 0, rx := none, unacked := [] })).event 0x5E03 (ihCell p) [byte p, 1]
    let s2 := s1.ringRestored p
    if s2.board.cascMaster then (s2.updCasc (fun c => { c with conflict := false, heard := [] })).startEnum
    else if s2.casc.conflict then s2.recheck p
    else s2

/-- R622, R672: a port whose receiver loses lock goes down, with a LINK_FAULT. -/
def State.lockLost (s : State) (p : Nat) : State :=
  if (at' s.casc.ports p).up then (s.raiseError (ihCell p) 0x0016).linkDown p else s

/-- IHLOST_LINK_CHANGED (R622). -/
def ihlostLinkChanged (p : Nat) (up : Bool) (s : State) : State := if up then s.linkUp p else s.lockLost p

/-- IHLOST_LINK_CHANGED as a command. -/
def execIhlostLinkChanged (port : Fin 2) (linkUp : Bool) (s : State) : Res := s.whenLive (ihlostLinkChanged port linkUp)

/-! ### The directory (R631, R632) -/

/-- R631: entries that the directory can hold. -/
def dirMax : Nat := 16777216

/-- R632: the owner of an EUI that lost it to another node removes its record; false where its control queue is full. -/
def State.dropMeter (s : State) (eui : Nat) : State × Bool :=
  match s.indexOf eui with
  | none => (s, true)
  | some i => match s.sendCtl (ihCell 0) i 2 0 0 [] with
    | some s1 => (s1, true)
    | none => (s, false)

/-- R632: a registration refused: the provisional record goes through its lane, and 0x3802 is raised with reason 3. -/
def State.registrationRefused (s : State) (eui : Nat) : State :=
  match s.indexOf eui with
  | none => s
  | some i => s.oweCtl (ihCell 0) i 15 0 0 []

/-- One registration or removal. None where the removal that it causes cannot be sent yet. -/
def State.register (s : State) (u : DirUpdate) : Option State :=
  let old := lookupKey u.eui s.casc.dir
  let set := fun (st : State) => st.updCasc (fun c => { c with dir := insertKey u.eui u.node c.dir })
  if !u.add then
    some (if old = some u.node then s.updCasc (fun c => { c with dir := eraseKey u.eui c.dir }) else s)
  else match old with
    | none =>
      if dirMax ≤ s.casc.dir.length then
        some (if u.node = 0 then s.registrationRefused u.eui else (s.cascSend 1 7 u.node (leBytes 8 u.eui)).getD s)
      else some (set s)
    | some o =>
      if o = u.node then some s
      else
        let moved := fun (st : State) => (set st).emit 0x5E0A (ihCell 0) u.meter (leBytes 8 u.eui ++ [byte o, byte u.node])
        if o = 0 then (let r := s.dropMeter u.eui; if r.2 then some (moved r.1) else none)
        else some (moved ((s.cascSend 1 6 o (leBytes 8 u.eui)).getD s))

/-- DIRECTORY_UPDATE (R631, R632): the master takes the oldest registration or removal. -/
def directoryUpdate (s : State) : State :=
  match s.casc.updates with
  | [] => s
  | u :: _ =>
    if !s.board.cascMaster then s
    else match s.register u with
      | none => s
      | some s1 => s1.updCasc (fun c => { c with updates := c.updates.drop 1 })

/-- DIRECTORY_UPDATE as a command. -/
def execDirectoryUpdate (s : State) : Res := s.whenLive directoryUpdate

/-! ### Forwarded frames (R633 to R635) -/

/-- R646: 0x5E0B, at most once per second, with the drops of the second. -/
def State.forwardDropped (s : State) (cause : Nat) : State :=
  let n := s.casc.drops + 1
  if s.perSecond s.casc.dropAt then
    (s.updCasc (fun c => { c with dropAt := some s.now, drops := 0 })).cascEvent 0x5E0B ([byte cause, 0, 0, 0] ++ leBytes 4 n)
  else s.updCasc (fun c => { c with drops := n })

/-- R634: the metadata of a forwarded frame at its owner. -/
def ownerInfo (node : Nat) (info : Bytes) : Bytes :=
  slice info 0 12 ++ [5, byte (fieldLE info 13 1)] ++ slice info 14 2 ++ zeros 8 ++ slice info 24 8 ++ zeros 8 ++
    padTo 24 [byte node, byte (fieldLE info 12 1)]

/-- R634, R326: a forwarded frame enters its owner's Q5; the return table takes where it was heard. None while Q5 is full. -/
def State.takeForwarded (s : State) (node : Nat) (b : Bytes) : Option State :=
  let info := b.take 64
  let frame := b.drop 64
  (s.pushPacket 5 (ihCell 0) (ownerInfo node info ++ frame)).map (fun t =>
    let t1 := t.updCasc (fun c => { c with returns := insertKey (fEui frame) (node, fieldLE info 12 1) c.returns })
    if fieldLE info 12 1 ≤ 2 then { t1 with plc := { t1.plc with lastRoute := insertKey (fSrc frame) (fRoute frame).reverse t1.plc.lastRoute } } else t1)

/-- R633: a frame that nobody owns: exported by the master as FRAME_COPY with outcome 4. None while Q33 is full. -/
def State.exportForwarded (s : State) (node : Nat) (b : Bytes) : Option State :=
  let info := b.take 64
  let frame := b.drop 64
  let copy := slice info 0 12 ++ [4, byte (fieldLE info 12 1), 0, byte frame.length] ++ leBytes 4 noMeter ++ leBytes 4 s.cfg.applied ++
    leBytes 2 0 ++ slice info 14 2 ++ zeros 4 ++ frame ++ [byte node]
  (s.pushPacket 33 (ihCell 0) copy).map (fun t => (t.cascCount 6).forwardDropped 1)

/-- R633: the master routes a FORWARD message by the directory. None where it cannot leave yet. -/
def State.routeForward (s : State) (origin : Nat) (b : Bytes) : Option State :=
  match lookupKey (fEui (b.drop 64)) s.casc.dir with
  | none => s.exportForwarded origin b
  | some o =>
    if o = origin then s.exportForwarded origin b
    else if o = 0 then s.takeForwarded origin b
    else some ((s.cascSend 2 2 o ([byte origin] ++ b)).getD s)

/-- R635: a packet of Q13 goes to the node and route that the return table names. -/
def State.sendReturn (s : State) (b : Bytes) : State :=
  match lookupKey (fieldLE b 0 8) s.casc.returns with
  | none => (s.cascCount 6).forwardDropped 1
  | some (n, r) => (s.cascSend 2 (if fieldLE b 12 1 = 0xA1 then 3 else 4) n ([byte r] ++ b)).getD s

/-- R635: what waits in Q13 leaves. -/
def State.drainReturnsN : Nat → State → State
  | 0, s => s
  | n + 1, s => match s.popPacket 13 with
    | none => s
    | some (s1, b, abort) => State.drainReturnsN n (if abort then s1 else s1.sendReturn b)

def State.drainReturns (s : State) : State := s.drainReturnsN (at' s.queue.queues 13).level

/-- R635: the receiving node matches an acknowledgement request to a kept entry; the MAC of the frame's route then sends the
ACK. -/
def State.takeAckRequest (s : State) (b : Bytes) : State :=
  let a := ackOf b
  let drop := fun (cause : Nat) => (s.cascCount 8).forwardDropped cause
  match s.casc.kept.find? (fun k => k.eui == a.eui && k.fc == a.fc) with
  | none => drop 2
  | some k =>
    if k.deadline < s.now then drop 4
    else
      let slot := s.familySlot a.family
      if s.slotRefusal slot .downlink (.down a.eui a.gen) ≠ 0 then drop 3
      else
        let a' : AckReq := { a with route := k.route, deadline := k.deadline, meter := noMeter, flood := fFp k.frame }
        (s.macTake k.route a'.bytes).cascCount 7

/-- R635: a downlink frame of another node goes out on the route named. -/
def State.takeReturnFrame (s : State) (route : Nat) (b : Bytes) : State :=
  if 4 < route then s else s.macTake route (MacFrame.bytes (fieldLE b 0 8) { macFrameOf b with meter := noMeter, ident := 0 })

/-- FORWARD (R633, R635): a leaf sends the front packet of Q33 to its master; the master routes the oldest FORWARD message, its own
frames among them. What waits in Q13 leaves as well. -/
def forwardFrame (s : State) : State :=
  let s0 := s.drainReturns
  let own : Option Bytes := match s0.peekPacket 33 with
    | some b => if s0.forwardable b then (s0.casc.noted.find? (fun (n : Bytes × Bytes) => n.1 == b.drop 32)).map (fun n => n.2 ++ b.drop 32) else none
    | none => none
  let unnote := fun (st : State) (frame : Bytes) => st.updCasc (fun c => { c with noted := c.noted.eraseP (fun n => n.1 == frame) })
  let pop := fun (st : State) => match st.popPacket 33 with | some (t, _, _) => t | none => st
  match s0.casc.forwards, own with
  | f :: r, _ => (match s0.routeForward f.1 f.2 with
      | some s1 => s1.updCasc (fun c => { c with forwards := r })
      | none => s0)
  | [], some b =>
    if s0.board.cascMaster then
      (match lookupKey (fEui (b.drop 64)) s0.casc.dir with
       | none => unnote ((s0.cascCount 6).forwardDropped 1) (b.drop 64)
       | some 0 => unnote ((s0.cascCount 6).forwardDropped 1) (b.drop 64)
       | some o => unnote (pop (((s0.cascSend 2 2 o ([0] ++ b)).getD s0).cascCount 5)) (b.drop 64))
    else unnote (pop ((s0.toMaster 2 1 b).cascCount 5)) (b.drop 64)
  | [], none => s0

/-- FORWARD as a command. -/
def execForward (s : State) : Res := s.whenLive forwardFrame

/-- FORWARD_ENTRY_EXPIRE (R633): a kept entry is freed at its deadline. -/
def forwardEntryExpire (eui fc : Nat) (s : State) : State :=
  s.updCasc (fun c => { c with kept := c.kept.filter (fun k => !(k.eui == eui && k.fc == fc && decide (k.deadline ≤ s.now))) })

/-- FORWARD_ENTRY_EXPIRE as a command. -/
def execForwardEntryExpire (eui fc : Nat) (s : State) : Res := s.whenLive (forwardEntryExpire eui fc)

/-! ### Records and balance (R636 to R638) -/

/-- RSEQ serial comparison. -/
def rseqAfter (a b : Nat) : Bool := let d := (a + 2 ^ 32 - b) % 2 ^ 32; decide (0 < d ∧ d < 2 ^ 31)

/-- R637: an event of a leaf for the subscriptions that name its node. -/
def State.deliverFrom (s : State) (node : Nat) (rec' : Bytes) : State :=
  let e : EventRec := ⟨ofTime80 (rec'.take 12), fieldLE rec' 12 2, fieldLE rec' 14 2, fieldLE rec' 16 4, slice rec' 20 12⟩
  { s with dict := { s.dict with
      subs := s.dict.subs.map (Option.map (fun u => if u.node = node ∧ ({ u with node := 0 }).matches e then u.take s.now rec' else u)) } }

/-- R636: a leaf's record in the master's own export queues; none while its queue is full. -/
def State.takeLeafRecord (s : State) (node rseq : Nat) (b : Bytes) : Option State :=
  let typ := fieldLE b 0 1
  let body := slice b 4 (fieldLE b 2 2)
  let tail := body ++ [byte node]
  let lane := leBytes 8 rseq ++ [byte (0x80 + node)] ++ body
  let push := fun (q : Nat) (x : Bytes) => s.pushPacket q (ihCell 0) x
  match typ with
  | 1 => push 16 lane
  | 2 => (push (eventQueue (fieldLE body 12 2) (fieldLE body 14 2)) tail).map (·.deliverFrom node body)
  | 3 => push 17 tail
  | 4 => push 18 tail
  | 5 => push 18 tail
  | 6 => push 18 (body.take 63 ++ [1, byte node])
  | 7 => push 19 lane
  | 8 => push (copyQueue (fieldLE body 12 1)) tail
  | 9 => push 34 tail
  | _ => some s

/-- R636: the record of a message, taken once and in order. -/
def State.takeRecord (s : State) (node : Nat) (b : Bytes) : Option State :=
  match s.casc.nodes.find? (fun n => n.node == node) with
  | none => some s
  | some n =>
    let r := fieldLE b 0 4
    let due := match n.taken with | none => true | some t => r == (t + 1) % 2 ^ 32
    if !due then some s
    else (s.takeLeafRecord node r (b.drop 4)).map (fun t =>
      t.updCasc (fun c => { c with nodes := c.nodes.map (fun x => if x.node = node then { x with taken := some r } else x) }))

/-- R636: the leaf says with which record it goes on; a sequence that began anew is followed. -/
def State.takeGreeting (s : State) (node : Nat) (b : Bytes) : State :=
  let first := fieldLE b 0 4
  let next := fieldLE b 4 4
  s.updCasc (fun c => { c with nodes := c.nodes.map (fun x =>
    if x.node = node ∧ ((x.taken.map (fun t => rseqAfter next t)).getD false) = false then { x with taken := some ((first + 2 ^ 32 - 1) % 2 ^ 32), acked := none }
    else x) })

/-- RECORD_ACK (R636): once per millisecond the master acknowledges what it has taken from each leaf. -/
def recordAck (s : State) : State :=
  if !s.masterFormed then s
  else s.casc.nodes.foldl (fun st n =>
    match n.taken with
    | none => st
    | some t =>
      if n.acked = some t then st
      else match st.cascSend 1 11 n.node (leBytes 4 t) with
        | none => st
        | some st1 => st1.updCasc (fun c => { c with nodes := c.nodes.map (fun x => if x.node = n.node then { x with acked := some t } else x) })) s

/-- RECORD_ACK as a command. -/
def execRecordAck (s : State) : Res := s.whenLive recordAck

/-- R636: the leaf forgets what is acknowledged, and takes more from Q20. -/
def State.takeRecordAck (s : State) (t : Nat) : State :=
  (s.updCasc (fun c => { c with records := c.records.filter (fun r => rseqAfter r.1 t) })).drainToMaster

/-- R270, R638: a leaf's member of a CORRELATE group holds a series of the master's pool, from its first contribution on. -/
def State.leafSeries (s : State) (c : Contribution) : State :=
  match lookupKey c.group s.bal.groups with
  | none => s
  | some g =>
    if !gCorrelate g.entry ∨ c.supply ∨ (g.opens ++ g.ring).any (fun o => (lookupKey c.meter o.xs).isSome) then s
    else s.takeSeries c.group c.meter

/-! ### Messages (R626, R627) -/

/-- R644: a node that the master had marked lost is heard again. -/
def State.nodeHeard (s : State) (node : Nat) : State :=
  match s.casc.nodes.find? (fun n => n.node == node && n.lost) with
  | none => s
  | some n =>
    (s.updCasc (fun c => { c with nodes := c.nodes.map (fun x => if x.node = node then { x with lost := false } else x) })).cascEvent 0x5E09
      ([byte node, 0, 0, 0] ++ leBytes 4 ((s.now - n.lostAt) / cSec 1))

/-- A control message for this node. None where it cannot be taken yet. -/
def State.takeControl (s : State) (p kind src : Nat) (b : Bytes) : Option State :=
  let master := s.board.cascMaster
  let upd' := fun (add : Bool) => some (if master then
    s.updCasc (fun c => { c with updates := c.updates ++ [⟨src, fieldLE b 0 8, fieldLE b 8 4, add⟩] }) else s)
  match kind with
  | 1 => some (enumerate p b s)
  | 2 => some (cascadeFormed p b s)
  | 3 => some (s.takeConflict p b)
  | 4 => upd' true
  | 5 => upd' false
  | 6 => let r := s.dropMeter (fieldLE b 0 8); if r.2 then some r.1 else none
  | 7 => some (s.registrationRefused (fieldLE b 0 8))
  | 8 => some (if master then s else s.updCasc (fun c => { c with requests := c.requests ++ [b] }))
  | 9 => some (if master then s.updCasc (fun c => { c with results := c.results ++ [(src, b)] }) else s)
  | 10 =>
    let g := fieldLE b 0 2
    let l := fieldLE b 2 1
    some (if master then s.updCasc (fun c => { c with
      leafCounts := c.leafCounts.filter (fun x => !(x.node == src && x.group == g && x.len == l)) ++ [⟨src, g, l, fieldLE b 3 4⟩] }) else s)
  | 11 => some (if master then s else s.takeRecordAck (fieldLE b 0 4))
  | 12 => some (if master then s.takeGreeting src b else s)
  | 13 => some (s.takePaths b)
  | 14 => some (if master ∧ s.casc.topology = 2 then s.masterBreak (some (fieldLE b 0 1)) else s)
  | 15 => some (if master ∧ s.casc.breakIdx = some (fieldLE b 0 1) then s.masterBreak none else s)
  | 16 => some (s.recheck p)
  | _ => some s

/-- A message for this node. None where it cannot be taken yet. -/
def State.takeMessage (s0 : State) (p cls kind src : Nat) (b : Bytes) : Option State :=
  let s := if s0.board.cascMaster ∧ src ≠ 0xFF then s0.nodeHeard src else s0
  if cls = 1 then s.takeControl p kind src b
  else if cls = 2 then
    match kind with
    | 1 => some (s.updCasc (fun c => { c with forwards := c.forwards ++ [(src, b)] }))
    | 2 => s.takeForwarded (fieldLE b 0 1) (b.drop 1)
    | 3 => some (s.takeAckRequest (b.drop 1))
    | 4 => some (s.takeReturnFrame (fieldLE b 0 1) (b.drop 1))
    | _ => some s
  else if !s.board.cascMaster then some s
  else
    match kind with
    | 1 => s.takeRecord src b
    | 3 => (let c := contributionOf src b; some ((s.leafSeries c).contribute c))
    | 4 => some (s.blockTo (fieldLE b 0 2) (b.drop 2))
    | _ => some s

/-- R627: bytes of a class that a port's transit buffer holds: what it has sent and its neighbour has not acknowledged. -/
def IhPort.transit (x : IhPort) (cls : Nat) : Nat := ((x.unacked.filter (fun u => fieldLE u.bytes 0 1 == cls)).map (·.bytes.length)).foldl (· + ·) 0

/-- A message for another node passes through: at the master by the node's port, at a leaf out of the other port. None while the transit buffer
of 32 KiB of its class and port has no room (R627). -/
def State.passOn (s : State) (p : Nat) (m : Bytes) : Option State :=
  let dst := fieldLE m 3 1
  let q := if s.board.cascMaster then s.portTo dst else some (1 - p)
  match q with
  | none => some s
  | some o =>
    let port := at' s.casc.ports o
    if !port.up then some s
    else if 32768 < port.transit (fieldLE m 0 1) + m.length then none
    else some (s.hopSend o (fieldLE m 0 1) (fieldLE m 1 1) (fieldLE m 2 1) dst (slice m 8 (fieldLE m 4 2)) s.now)

/-- R626: whether a message is whole and its CRC right. -/
def ihWhole (m : Bytes) : Bool :=
  let n := fieldLE m 4 2
  decide (m.length = n + 12 ∧ n ≤ 1088) && crc32 (m.take (8 + n)) == fieldLE m (8 + n) 4

/-- R627: one message received on port `p`: delivered or passed on, and acknowledged on its hop; a message already taken is
acknowledged again, one out of order is not taken. -/
def State.hopTake (s : State) (p : Nat) (m : Bytes) : State :=
  if !ihWhole m then s.cascCount 3
  else
    let h := fieldLE m 6 2
    let port := at' s.casc.ports p
    let ahead := match port.rx with | none => 1 | some r => (h + 65536 - r) % 65536
    let ackNow := fun (st : State) => st.put (.beat p 3 h)
    if ahead ≠ 1 then (if ahead = 0 ∨ 32768 ≤ ahead then ackNow s else s)
    else
      let dst := fieldLE m 3 1
      let b := slice m 8 (fieldLE m 4 2)
      let here := dst = 0xFF ∨ dst = 0xFE ∨ dst = s.casc.own ∨ (dst = 0 ∧ s.board.cascMaster)
      let s1 := (s.updIh p (fun x => { x with rx := some h })).cascCount 2
      let done := if here then s1.takeMessage p (fieldLE m 0 1) (fieldLE m 1 1) (fieldLE m 2 1) b else s1.passOn p m
      match done with
      | none => s
      | some s2 => ackNow (if dst = 0xFE ∧ !s.board.cascMaster then (s2.passOn p m).getD s2 else s2)

/-- IHLOST_MESSAGE (R626, R627): what arrives on a port: an acknowledgement of HSEQ, a message, or both. -/
def ihlostMessage (p : Nat) (ack : Option Nat) (m : Bytes) (s : State) : State :=
  if !(at' s.casc.ports p).up then s
  else
    let s1 := match ack with
      | some h => s.updIh p (fun x => { x with unacked := x.unacked.filter (fun u => u.hseq ≠ h) })
      | none => s
    if m = [] then s1 else s1.hopTake p m

/-- IHLOST_MESSAGE as a command. -/
def execIhlostMessage (port : Fin 2) (ack : Option Nat) (message : Bytes) (s : State) : Res :=
  s.whenLive (ihlostMessage port ack message)

/-- HOP_RESEND (R622, R627): what is not acknowledged within 20 µs goes again, in order; after 8 resends the link is down. -/
def hopResend (p : Nat) (s : State) : State :=
  let port := at' s.casc.ports p
  let old := fun (m : HopMsg) => decide (m.sentAt + cUs 20 ≤ s.now)
  if !port.up ∨ !port.unacked.any old then s
  else if port.unacked.any (fun m => old m && decide (8 ≤ m.resends)) then s.linkDown p
  else
    let s1 := s.updIh p (fun x => { x with unacked := x.unacked.map (fun m => { m with resends := m.resends + 1, sentAt := s.now }) })
    port.unacked.foldl (fun st m => (st.put (.ihlost p m.bytes)).cascCount 4) s1

/-- HOP_RESEND as a command. -/
def execHopResend (port : Fin 2) (s : State) : Res := s.whenLive (hopResend port)

/-! ### Heartbeats and losses (R628, R643, R644) -/

/-- R628: a time-control block out of a port that is up. -/
def State.beatOut (s : State) (p kind : Nat) (t : Int) : State := if (at' s.casc.ports p).up then s.put (.beat p kind t) else s

/-- MASTER_HEARTBEAT (R628): the master sends its heartbeat; a leaf takes one that arrives by its upstream port (`none` at the
master) and relays it. -/
def masterHeartbeat (arrival : Option (Fin 2)) (s : State) : State :=
  match arrival with
  | none => if s.masterFormed then (s.beatOut 0 1 0).beatOut 1 1 0 else s
  | some p =>
    if s.board.cascMaster ∨ s.casc.own = 0xFF ∨ s.casc.upstream ≠ p.val then s
    else ((s.updCasc (fun c => { c with seenAt := s.now })).beatOut (1 - p) 1 0).reportCounts

/-- MASTER_HEARTBEAT as a command. -/
def execMasterHeartbeat (arrival : Option (Fin 2)) (s : State) : Res := s.whenLive (masterHeartbeat arrival)

/-- MASTER_LOST (R643). -/
def masterLost (s : State) : State :=
  if !s.leafPresent ∨ s.now < s.casc.seenAt + cMs (s.cfgN 0x5E00 3) then s
  else (s.updCasc (fun c => { c with masterLost := true, lostAt := s.now })).cascEvent 0x5E06 [byte s.casc.hopsUp]

/-- MASTER_LOST as a command. -/
def execMasterLost (s : State) : Res := s.whenLive masterLost

/-- LEAF_LOST (R643): the master marks a leaf lost, unreachable from then on. -/
def leafLost (node : Nat) (s : State) : State :=
  if !s.board.cascMaster ∨ !s.casc.nodes.any (fun n => n.node == node && !n.lost) then s
  else
    (s.updCasc (fun c => { c with
      nodes := c.nodes.map (fun x => if x.node = node then { x with lost := true, lostAt := s.now } else x) })).cascEvent 0x5E08 [byte node]

/-- LEAF_LOST as a command. -/
def execLeafLost (node : Fin 64) (s : State) : Res := s.whenLive (leafLost node)

/-- MASTER_REGAINED (R644): once heartbeats have returned the leaf sends its directory and its records, and forwards again. -/
def masterRegained (s : State) : State :=
  if s.board.cascMaster ∨ !s.casc.masterLost ∨ s.casc.seenAt ≤ s.casc.lostAt then s
  else
    let s1 := (s.updCasc (fun c => { c with masterLost := false })).greetMaster
    s1.cascEvent 0x5E07 (zeros 4 ++ leBytes 4 ((s.now - s.casc.lostAt) / cSec 1) ++ leBytes 4 s1.casc.resent)

/-- MASTER_REGAINED as a command. -/
def execMasterRegained (s : State) : Res := s.whenLive masterRegained

/-- SAMPLE_SYNC_EPOCH (R640): at the master a rising edge of SAMPLE_SYNC now (`none`) makes an epoch of now + SyncLead for all; at a
leaf an epoch arrives by its upstream port. An epoch past its instant is counted and discarded. -/
def sampleSyncEpoch (arrival : Option (Fin 2 × Int)) (s : State) : State :=
  match arrival with
  | none =>
    if !s.masterFormed ∨ s.cfgN 0x2000 4 ≠ 1 then s
    else
      let t := s.td0 + nsUnits (s.cfgN 0x5E00 2 * 1000)
      ((s.updCasc (fun c => { c with epochs := c.epochs ++ [t] })).beatOut 0 2 t).beatOut 1 2 t
  | some (p, t) =>
    if !s.leafPresent ∨ s.casc.upstream ≠ p.val then s
    else
      let s1 := s.beatOut (1 - p) 2 t
      if t < s.td0 then s1.cascCount 10
      else if s.cfgN 0x2000 4 = 1 then s1.updCasc (fun c => { c with epochs := c.epochs ++ [t] }) else s1

/-- SAMPLE_SYNC_EPOCH as a command. -/
def execSampleSyncEpoch (arrival : Option (Fin 2 × Int)) (s : State) : Res := s.whenLive (sampleSyncEpoch arrival)

/-- R622: a port whose enable or cell changed goes down with it; its receiver may come up again when it is in use. -/
def State.cascadeSwitched (s : State) : State :=
  [0, 1].foldl (fun st p => if (at' st.casc.ports p).up && !st.ihUsed p then st.linkDown p else st) s

end Sys2Proof.Machine
end

