-- ==== Sys2Proof/Machine/Fabric.lean ====
section
/-!
DEFINITION. The arbiters of a block, a region and the chip fabric (R16 to R21).
-/
namespace Sys2Proof.Machine

/-- R16, R18: the weight of a cell. -/
def State.cellWeight (s : State) (a : Nat) : Nat :=
  let t := s.val 0x6012 0
  match (List.range (t.length / 4)).find? (fun i => fieldLE t (4 * i) 2 == a) with
  | some i => max 1 (fieldLE t (4 * i + 2) 1)
  | none => 1

/-- R17, R18: the quantum of a block in bytes. -/
def State.blockQuantum (s : State) (b : Nat) : Nat :=
  let t := s.val 0x6013 0
  match (List.range (t.length / 4)).find? (fun i => fieldLE t (4 * i) 2 == b * 256 + 0xFF) with
  | some i => fieldLE t (4 * i + 2) 2
  | none => 1024

/-- R16: the waiting transactions that an arbiter serves: those of fenced cells are skipped. -/
def State.served (s : State) : List (Nat × Nat) := s.fabric.waiting.filter (fun p => s.inService p.1)

/-- R16: the cell of a block whose turn it is, and the turns it has left: the cell being served while it has work and turns left,
else the next one with work. -/
def State.cellTurn (s : State) (b : Nat) : Nat × Nat :=
  let work := (s.served.filter (fun p => p.1 / 256 == b)).map (·.1)
  let t := (lookupKey b s.fabric.turns).getD (b * 256 + 255, 0)
  if 0 < t.2 ∧ work.contains t.1 then t
  else
    let c := match (List.range 256).find? (fun k => work.contains (b * 256 + (t.1 + 1 + k) % 256)) with
      | some k => b * 256 + (t.1 + 1 + k) % 256
      | none => t.1
    (c, s.cellWeight c)

/-- The oldest transaction of a cell taken from those waiting. -/
def dropFirst (c : Nat) : List (Nat × Nat) → List (Nat × Nat)
  | [] => []
  | p :: r => if p.1 = c then r else p :: dropFirst c r

/-- The block after `b` in a region, by number, among those with work. -/
def nextBlock (work : List Nat) (region b : Nat) : Nat :=
  match (List.range 32).find? (fun k => work.contains (region * 32 + (b + 1 + k) % 32)) with
  | some k => region * 32 + (b + 1 + k) % 32
  | none => b

/-- R17: a region's arbiter sends up to `n` requests; the second result counts those sent. The fuel bounds the visits. -/
def State.serveRegion : Nat → Nat → Nat → State → State × Nat
  | 0, _, _, s => (s, 0)
  | fuel + 1, r, n, s =>
    let work := (s.served.filter (fun p => p.1 / 8192 == r)).map (fun p => p.1 / 256)
    let s0 := { s with fabric := { s.fabric with deficits := s.fabric.deficits.filter (fun d => d.1 / 32 != r || work.contains d.1) } }
    if n = 0 ∨ work = [] then (s0, 0)
    else
      let v := at' s0.fabric.visits r
      if !work.contains v.1 then
        State.serveRegion fuel r n { s0 with fabric := { s0.fabric with visits := s0.fabric.visits.set r (nextBlock work r v.1, false) } }
      else
        let old := (lookupKey v.1 s0.fabric.deficits).getD 0
        let d := if v.2 then old else old + s0.blockQuantum v.1
        let t := s0.cellTurn v.1
        let size := match s0.fabric.waiting.find? (fun p => p.1 == t.1) with | some p => p.2 | none => 0
        if size ≤ d then
          let s1 := { s0 with fabric := { s0.fabric with
            waiting := dropFirst t.1 s0.fabric.waiting, deficits := insertKey v.1 (d - size) s0.fabric.deficits
            visits := s0.fabric.visits.set r (v.1, true), turns := insertKey v.1 (t.1, t.2 - 1) s0.fabric.turns } }
          let rest := State.serveRegion fuel r (n - 1) s1
          (rest.1, rest.2 + 1)
        else
          State.serveRegion fuel r n { s0 with fabric := { s0.fabric with
            deficits := insertKey v.1 d s0.fabric.deficits, visits := s0.fabric.visits.set r (nextBlock work r v.1, false) } }

/-- Enough visits for a window. -/
def State.fabricFuel (s : State) : Nat := 256 + 33 * (s.fabric.waiting.map (fun p => p.2 / 64 + 1)).foldl (· + ·) 0

/-- R19, R21: the share of a region in cycles of a window. -/
def State.share (s : State) (r : Nat) : Nat := if r = 5 then 1 else s.cfgN 0x6010 (r + 1)

/-- One region served, its grants noted. -/
def State.grantRegion (s : State) (r n : Nat) : State :=
  let x := s.serveRegion s.fabricFuel r n
  { x.1 with fabric := { x.1.fabric with granted := upd x.1.fabric.granted r (· + x.2) } }

/-- R20: unused cycles lent one by one, in round robin among the regions with requests. -/
def State.lend (s : State) : Nat → State
  | 0 => s
  | n + 1 =>
    let want := fun r => s.served.any (fun p => p.1 / 8192 == r)
    match (List.range 6).find? (fun k => want ((s.fabric.lendAt + 1 + k) % 6)) with
    | none => s
    | some k =>
      let r := (s.fabric.lendAt + 1 + k) % 6
      State.lend ({ s with fabric := { s.fabric with lendAt := r } }.grantRegion r 1) n

/-- Transactions that have come to wait. -/
def State.enqueueTx (s : State) (requests : List (Nat × Nat)) : State :=
  { s with fabric := { s.fabric with
      waiting := s.fabric.waiting ++ requests.filter (fun p => cellDefined p.1 && p.1 < 0xC000), granted := noCounts 6 } }

/-- The cycles of the window that its guaranteed shares leave unused. -/
def State.spareCycles (s : State) : Nat := 64 - s.fabric.granted.foldl (· + ·) 0

/-- FABRIC_WINDOW (R19, R20): one window of 64 cycles, with the transactions that have come to wait since the last: each region has its
share, and with FabricBorrow what is left is lent. -/
def fabricWindow (requests : List (Nat × Nat)) (s : State) : State :=
  let s1 := (List.range 6).foldl (fun st r => st.grantRegion r (s.share r)) (s.enqueueTx requests)
  if s1.cfgN 0x6011 0 = 1 then s1.lend s1.spareCycles else s1

/-- FABRIC_WINDOW as a command. -/
def execFabricWindow (requests : List (Nat × Nat)) (s : State) : Res := s.whenLive (fabricWindow requests)

end Sys2Proof.Machine
end

