-- ==== Sys2Proof/Machine/Islands.lean ====
section
/-!
DEFINITION. Clock islands, crossings and filtered inputs (chapter 20, R647 to R671).
-/
namespace Sys2Proof.Machine

/-! ### Islands -/

/-- The cell of events about islands and crossings (R671). -/
def islandCell : Nat := 0xE000

/-- R647: the island of a cell. -/
def islandOf (a : Nat) : Nat :=
  let c := a % 256
  match a / 8192, a / 256 % 32 with
  | 0, 0 => 19 | 0, 1 => 20 | 0, 2 => if c ≤ 7 then 20 else if c ≤ 10 then 19 else 4 + c | 0, 3 => 15 | 0, 4 => 15 | 0, 5 => 16 | 0, 6 => 16
  | 0, _ => if c ≤ 2 then 19 else 12 + c
  | 1, 1 => 1 + c | 1, _ => 5
  | 2, 1 => 8 | 2, 3 => 10 | 2, _ => 6
  | 3, 0 => 11 + c | 3, 1 => 21 | 3, 2 => 21 | 3, 3 => 13 + c | 3, _ => 9
  | 4, _ => 0
  | 5, 0 => 7 | 5, _ => 23
  | _, _ => 6

/-- The region of an island. -/
def islandRegion (i : Nat) : Nat :=
  if i = 0 ∨ i = 22 ∨ i = 24 then 4 else if i ≤ 5 then 1 else if i = 6 ∨ i = 8 ∨ i = 10 then 2 else if i = 7 ∨ i = 23 then 5
  else if i = 9 ∨ i = 21 ∨ (11 ≤ i ∧ i ≤ 14) then 3 else 0

/-- The first cell of R14 that an island holds (R647). The debug island holds none; the chip fabric stands for it (log entry 42). -/
def islandUnit (i : Nat) : Nat :=
  match i with
  | 0 => 0x8000 | 5 => 0x2000 | 6 => 0x4000 | 7 => 0xA000 | 8 => 0x4100 | 9 => 0x6400 | 10 => 0x4300
  | 11 => 0x6000 | 12 => 0x6001 | 13 => 0x6300 | 14 => 0x6301 | 15 => 0x0400 | 16 => 0x0600 | 17 => 0x0300 | 18 => 0x0500
  | 19 => 0x0000 | 20 => 0x0100 | 21 => 0x6100 | 22 => 0x8200 | 23 => 0xA100 | 24 => 0xE000
  | _ => 0x2100 + (i - 1)

/-- R648: the collector of an island's region. -/
def islandCollector (i : Nat) : Nat := cellAddr (islandRegion i) 31 0

/-- R654: the collector of an island's block. -/
def islandBlockCollector (i : Nat) : Nat := if i = 24 then 0xE000 else islandUnit i / 256 * 256 + 0xFF

/-- R647: the rate of an Ethernet island at its port's speed. -/
def State.ethHz (s : State) (p : Nat) : Nat := match (at' s.up.eth p).speed with | 0 => 322265625 | 1 => 312500000 | _ => 125000000

/-- R647: the nominal rate of an island in Hz; 0 for those that are not measured. -/
def State.nominalHz (s : State) (i : Nat) : Nat :=
  match i with
  | 0 => 1200000000
  | 8 => 533000000 | 9 => 500000000 | 10 => 400000000
  | 11 => s.ethHz 0 | 12 => s.ethHz 1
  | 13 => 156250000 | 14 => 156250000 | 15 => 153600000 | 16 => 153600000 | 17 => 76800000 | 18 => 76800000
  | 19 => 58982400 | 20 => 49152000
  | 22 => 0 | 23 => 0 | 24 => 0
  | _ => 800000000

/-- One island changed. -/
def State.updIsland (s : State) (i : Nat) (f : Island → Island) : State :=
  { s with isl := { s.isl with islands := upd s.isl.islands i f } }

/-- R648, R649: why an island is faulty: 1 lock lost, 2 rate out of range, 3 an external clock absent or more than 50 ppm off; 0 when it is not. Loss of
lock is judged only while the reference is present, and islands 22 to 24 are not judged at all. -/
def State.islandCause (s : State) (i : Nat) (locked : Bool) (kHz : Nat) : Nat :=
  let n := s.nominalHz i
  let off := ((kHz * 1000 : Nat) - n : Int).natAbs
  if n = 0 then 0
  else if i = 17 ∨ i = 18 then (if !locked ∨ n * 50 < off * 1000000 then 3 else 0)
  else if !locked then (if s.power.refLostAt.isNone then 1 else 0)
  else if n < off * 1000 then 2
  else 0

/-- What the reset of an island does to its blocks: links go down, receptions end (R648, R666). -/
def State.islandReset (s : State) (i : Nat) : State :=
  match i with
  | 11 => ethLinkChanged 0 false s
  | 12 => ethLinkChanged 1 false s
  | 13 => s.linkDown 0
  | 14 => s.linkDown 1
  | 15 => s.stopDemods 0 0
  | 16 => s.stopDemods 1 0
  | 19 => { s with plc := { s.plc with engines := s.plc.engines.map (fun e => { e with rx := .search, txReq := none }) } }
  | 20 => { s with sense := { s.sense with chains := s.sense.chains.map (fun c => { c with pendingReset := true }) } }
  | _ => s

/-- R648, R671: an island becomes faulty and is held in reset. -/
def State.islandFault (s : State) (i cause : Nat) : State :=
  let x := at' s.isl.islands i
  if x.fault then s
  else
    let s1 := s.updIsland i (fun y => { y with
      fault := true, inReset := true, faults := satAdd maxU8 y.faults 1, faultAt := s.now, faultTimes := y.faultTimes ++ [s.now] })
    ((s1.event 0x6001 islandCell [byte i, byte cause]).raiseErrorAt (islandCollector i) (islandUnit i) 0x0015).islandReset i

/-- ISLAND_FREQUENCY_CHECK (R648): the millisecond's measure of an island: whether its PLL reports lock, and its rate. -/
def islandFrequencyCheck (i : Nat) (locked : Bool) (kHz : Nat) (s : State) : State :=
  let c := s.islandCause i locked kHz
  let s1 := s.updIsland i (fun x => { x with locked := locked, kHz := if s.nominalHz i = 0 ∨ x.inReset then 0 else kHz })
  if c = 0 then s1 else s1.islandFault i c

/-- ISLAND_FREQUENCY_CHECK as a command. -/
def execIslandFrequencyCheck (island : Fin 25) (locked : Bool) (kHz : Nat) (s : State) : Res :=
  s.whenLive (islandFrequencyCheck island locked kHz)

/-- Crossings of an island open again once both their sides are out of reset (R667, R668). -/
def State.openCrossings (s : State) (i : Nat) : State :=
  let up := fun (k : Nat) => !(at' s.isl.islands k).inReset
  { s with isl := { s.isl with crossings := s.isl.crossings.map (fun c =>
      if (c.dst = i ∨ c.src = i) ∧ c.fenced ∧ up c.dst ∧ up c.src then { c with fenced := false, toggle := false, invertedAt := none } else c) } }

/-- ISLAND_CLOCK_RESTORED (R648): an island whose PLL has held lock for 100 µs leaves reset. -/
def islandClockRestored (i : Nat) (s : State) : State :=
  let x := at' s.isl.islands i
  if !x.fault then s
  else
    let s1 := s.updIsland i (fun y => { y with fault := false, inReset := false, locked := true })
    (s1.event 0x6002 islandCell ([byte i, 0, 0, 0] ++ leBytes 4 (min maxU32 ((s.now - x.faultAt) / cUs 1)))).openCrossings i

/-- ISLAND_CLOCK_RESTORED as a command. -/
def execIslandClockRestored (island : Fin 25) (s : State) : Res := s.whenLive (islandClockRestored island)

/-- ISLAND_GATE (R651): an island with no work has its clock gated. The time, battery, service and debug islands keep theirs. -/
def islandGate (i : Nat) (s : State) : State :=
  if (at' s.isl.islands i).inReset ∨ s.power.phase ≠ .run ∨ i = 9 ∨ 22 ≤ i then s else s.updIsland i (fun x => { x with gated := true })

/-- ISLAND_GATE as a command. -/
def execIslandGate (island : Fin 25) (s : State) : Res := s.whenLive (islandGate island)

/-- ISLAND_UNGATE (R651). -/
def islandUngate (i : Nat) (s : State) : State := s.updIsland i (fun x => { x with gated := false })

/-- ISLAND_UNGATE as a command. -/
def execIslandUngate (island : Fin 25) (s : State) : Res := s.whenLive (islandUngate island)

/-- R670: the status word of an island. -/
def State.islandWord (s : State) (i : Nat) : Nat :=
  let x := at' s.isl.islands i
  let frozen := s.health.frozen && i != 23
  b2n x.locked + 2 * b2n (!x.gated && !x.inReset && !frozen) + 4 * b2n x.gated + 8 * b2n frozen + 16 * b2n x.inReset +
    32 * b2n (x.fault || (i == 17 && (s.port 0).iqCause != 0) || (i == 18 && (s.port 1).iqCause != 0)) + 256 * x.faults

/-! ### Crossings -/

/-- The crossing of a pair; one not met before has lost nothing. -/
def State.crossing (s : State) (dst src : Nat) : Crossing :=
  (s.isl.crossings.find? (fun c => c.dst == dst && c.src == src)).getD
    { dst := dst, src := src, toggle := false, invertedAt := none, held := false, delivered := 0, overrun := false, fenced := false, merged := 0
      lostAtReset := 0, eventAt := none, mergedSince := 0 }

/-- A crossing put in its place. -/
def State.putCrossing (s : State) (x : Crossing) : State :=
  { s with isl := { s.isl with crossings := s.isl.crossings.filter (fun c => !(c.dst == x.dst && c.src == x.src)) ++ [x] } }

/-- R653: the lowest nominal rate of an island in Hz. Islands with a pin clock take the highest rate of their pin, and the battery island its crystal
(log entry 73). -/
def islandHz (i : Nat) : Nat :=
  match i with
  | 0 => 1200000000
  | 8 => 533000000 | 9 => 500000000 | 10 => 400000000
  | 11 => 125000000 | 12 => 125000000
  | 13 => 156250000 | 14 => 156250000 | 15 => 153600000 | 16 => 153600000 | 17 => 76800000 | 18 => 76800000
  | 19 => 58982400 | 20 => 49152000
  | 22 => 50000000 | 23 => 32768 | 24 => 50000000
  | _ => 800000000

/-- R653: the spacing S of a crossing in source cycles: 2 of them and 3 destination cycles, rounded up. -/
def spacingCycles (dst src : Nat) : Nat := 2 + (3 * islandHz src + islandHz dst - 1) / islandHz dst

/-- R653: the spacing S in counts of the free-running counter, rounded up. -/
def spacing (dst src : Nat) : Nat := (spacingCycles dst src * 500000000 + islandHz src - 1) / islandHz src

/-- R653: the source inverts the toggle; the destination emits one pulse. -/
def Crossing.invert (x : Crossing) (at_ : Nat) : Crossing :=
  { x with toggle := !x.toggle, invertedAt := some at_, held := false, delivered := x.delivered + 1 }

/-- R654: a pending event has inverted the toggle once S has passed. -/
def Crossing.settle (x : Crossing) (now : Nat) : Crossing :=
  match x.invertedAt with
  | some t => if x.held ∧ t + spacing x.dst x.src ≤ now then x.invert (t + spacing x.dst x.src) else x
  | none => x

/-- R653, R654: an event of the source: it inverts the toggle, waits as the pending one, or finds one pending (the second result). -/
def Crossing.arrive (x : Crossing) (now : Nat) : Crossing × Bool :=
  let y := x.settle now
  match y.invertedAt with
  | some t =>
    if t + spacing y.dst y.src ≤ now then (y.invert now, false)
    else if y.held then (y, true) else ({ y with held := true }, false)
  | none => (y.invert now, false)

/-- R654: an event of the source of a crossing; it ungates the destination (R651). One merged into the pending event is counted lost, OVERRUN set, reported to the destination block's
collector, and told at most once per second. While the crossing is fenced its toggle stands still (R667). -/
def State.crossEvent (s : State) (dst src : Nat) : State :=
  let x := s.crossing dst src
  if x.fenced then s
  else
    let r := x.arrive s.now
    if !r.2 then (s.putCrossing r.1).updIsland dst (fun i => { i with gated := false })
    else
      let y := { r.1 with overrun := true, merged := sat32 x.merged, mergedSince := x.mergedSince + 1 }
      let s1 := s.raiseErrorAt (islandBlockCollector dst) (islandUnit dst) 0x0002
      if s.perSecond x.eventAt then
        (s1.putCrossing { y with eventAt := some s.now, mergedSince := 0 }).event 0x6003 islandCell
          ([byte dst, byte src, 0, 0] ++ leBytes 4 y.mergedSince)
      else s1.putCrossing y

/-- CROSSING_OVERRUN (R653, R654): an event reaches a pulse-toggle crossing, and is merged where another one is pending there. -/
def crossingOverrun (dst src : Nat) (s : State) : State := s.crossEvent dst src

/-- CROSSING_OVERRUN as a command. -/
def execCrossingOverrun (dst src : Fin 25) (s : State) : Res := s.whenLive (crossingOverrun dst src)

/-- R427: the cell that closes the packet of a producer that is fenced or reset. -/
def abortCell : QCell := { data := zeros 64, first := false, last := true, abort := true, valid := 0, pushedAt := 0 }

/-- R427: the packets that producers have open are closed by an ABORT cell, counted in 0x48D0.5. -/
def State.abortProducers (s : State) (mine : Nat → Bool) : State :=
  (List.range 64).foldl (fun st i =>
    let q := at' st.queue.queues i
    match q.owner with
    | none => st
    | some p =>
      if !mine p then st
      else if q.cutting ∨ q.losing then
        { st with queue := { st.queue with queues := st.queue.queues.set i { q with owner := none, openCells := 0, cutting := false, losing := false } } }
      else
        let q1 := { q with owner := none, openCells := 0, dropPending := false, dropDone := q.dropDone || q.dropPending }
        if q.dropPending then
          ({ st with queue := { st.queue with queues := st.queue.queues.set i { q1 with discarded := q.discarded + 1 } } }).queueTotal 5 1
        else
          let q2 := if q1.skein = [] ∧ q1.tail = [] ∧ q1.head.length < 16 then { q1 with head := q1.head ++ [abortCell] }
            else { q1 with tail := q1.tail ++ [abortCell] }
          let r := st.putQueue i q2
          (r.1.queueTotal 5 1).emitAll r.2) s

/-- CROSSING_FENCED (R667): a reset of one side (0 destination, 1 source, 2 both) closes the crossing; `items` in flight and a pending event are discarded
and counted. It opens again, with its toggle at 0, at once where the reset is short, and otherwise when the island leaves reset. A producer of the side
that was reset has its open packets aborted. -/
def crossingFenced (dst src side items : Nat) (s : State) : State :=
  let x := (s.crossing dst src).settle s.now
  let n := items + b2n x.held
  let down := (side != 1 && (at' s.isl.islands dst).inReset) || (side != 0 && (at' s.isl.islands src).inReset)
  let s1 := s.putCrossing { x with fenced := down, toggle := false, invertedAt := none, held := false, lostAtReset := satAdd maxU32 x.lostAtReset n }
  let s2 := s1.event 0x6004 islandCell ([byte dst, byte src, byte side, 0] ++ leBytes 4 n)
  s2.abortProducers (fun p => (side != 1 && islandOf p == dst) || (side != 0 && islandOf p == src))

/-- CROSSING_FENCED as a command. -/
def execCrossingFenced (dst src : Fin 25) (side : Fin 3) (items : Nat) (s : State) : Res := s.whenLive (crossingFenced dst src side items)

/-- CROSSING_CLEAR (R670). -/
def crossingClear (v : Nat) : State → State × Nat :=
  one v (fun s => ({ s with isl := { s.isl with crossings := s.isl.crossings.map (fun c =>
    { c with overrun := false, merged := 0, lostAtReset := 0 }) } }, Abort.ok))

/-- CROSSING_CLEAR as a command. -/
def execCrossingClear (role v : Nat) (s : State) : Res := s.command 0x6021 0 role .operator (crossingClear v)

/-- R670: 0x6020. -/
def State.crossingBytes (s : State) : Bytes :=
  (s.isl.crossings.map (fun c => [byte c.dst, byte c.src, byte (b2n c.overrun + 2 * b2n c.fenced), 0] ++ leBytes 4 c.merged ++ leBytes 4 c.lostAtReset)).flatten

/-! ### Filtered inputs (R661 to R665) -/

/-- One input changed. -/
def State.updInput (s : State) (i : Nat) (f : Input → Input) : State := { s with isl := { s.isl with inputs := upd s.isl.inputs i f } }

/-- R661: whether a signal is an input: an RF control line is one while CtlDirection says so. -/
def State.isInput (s : State) (i : Nat) : Bool :=
  if 17 ≤ i ∧ i ≤ 24 then !bit (s.portN ((i - 17) / 4) 21) ((i - 17) % 4) else true

/-- Object `n` of an input's filter. -/
def State.inputCfg (s : State) (i n : Nat) : Nat := s.cfgN (0x6040 + i) n

/-- R664: an input becomes CHATTERING. -/
def State.inputChatters (s : State) (i : Nat) : State :=
  (s.updInput i (fun x => { x with mask := .chattering, maskedAt := s.now, chatterCount := sat32 x.chatterCount, windowAt := none
                                   inWindow := 0 })).event 0x6006 0x6400
    ([byte i, 0] ++ leBytes 2 (s.inputCfg i 4) ++ leBytes 4 (s.inputCfg i 5))

/-- R662, R664: an activation, stamped: delivered, or the one too many of its window. SAMPLE_SYNC edges cross to the sensing island as events (R653). -/
def State.activation (s : State) (i stamp : Nat) : State :=
  let x := at' s.isl.inputs i
  let n := s.inputCfg i 4
  let opened := match x.windowAt with | some t => decide (s.now < t + cMs (s.inputCfg i 5)) | none => false
  let s1 := s.updInput i (fun y => { y with active := true, activeSince := stamp })
  let give := fun (w : Option Nat) (k : Nat) =>
    let s2 := s1.updInput i (fun y => { y with delivered := y.delivered + 1, windowAt := w, inWindow := k })
    if i = 0 then s2.crossEvent 20 9 else s2
  if x.mask ≠ .none then s1
  else if n = 0 then give none 0
  else if !opened then give (some s.now) 1
  else if x.inWindow < n then give x.windowAt (x.inWindow + 1)
  else s1.inputChatters i

/-- INPUT_CHANGE (R662): the level at the ball has changed to `level` and held for `heldNs` so far: a glitch while that is less than
GlitchWidth, otherwise accepted. -/
def inputChange (i : Nat) (level : Bool) (heldNs : Nat) (s : State) : State :=
  if !s.isInput i then s
  else if heldNs < s.inputCfg i 1 then s.updInput i (fun x => { x with glitches := x.glitches + 1 })
  else
    let x := at' s.isl.inputs i
    let act := level == (s.inputCfg i 2 == 1)
    let since := s.now - heldNs / 2
    let s1 := s.updInput i (fun y => { y with raw := level })
    if act == x.active then s1
    else if act then s1.activation i (since - 2)
    else s1.updInput i (fun y => { y with active := false })

/-- INPUT_CHANGE as a command. -/
def execInputChange (input : Fin 25) (level : Bool) (heldNs : Nat) (s : State) : Res := s.whenLive (inputChange input level heldNs)

/-- INPUT_STUCK (R663). -/
def inputStuck (i : Nat) (s : State) : State :=
  let x := at' s.isl.inputs i
  let t := s.inputCfg i 3
  if !s.isInput i ∨ t = 0 ∨ x.mask ≠ .none ∨ !x.active ∨ s.now < x.activeSince + cMs t then s
  else
    (s.updInput i (fun y => { y with mask := .stuck, maskedAt := s.now, stuckCount := sat32 y.stuckCount })).event 0x6005 0x6400
      ([byte i, 0, 0, 0] ++ leBytes 4 t)

/-- INPUT_STUCK as a command. -/
def execInputStuck (input : Fin 25) (s : State) : Res := s.whenLive (inputStuck input)

/-- INPUT_REARMED (R663, R664): the mask of an inactive input is lifted, of a chattering one only after HoldOff. -/
def inputRearmed (i : Nat) (s : State) : State :=
  let x := at' s.isl.inputs i
  let lift := fun (cause : Nat) =>
    (s.updInput i (fun y => { y with mask := .none, windowAt := if cause = 2 then none else y.windowAt, inWindow := if cause = 2 then 0 else y.inWindow })).event
      0x6007 0x6400 ([byte i, byte cause, 0, 0] ++ leBytes 4 (min maxU32 ((s.now - x.maskedAt) / cMs 1)))
  if x.active then s
  else match x.mask with
    | .none => s
    | .stuck => lift 1
    | .chattering => if s.now < x.maskedAt + cMs (s.inputCfg i 6) then s else lift 2

/-- INPUT_REARMED as a command. -/
def execInputRearmed (input : Fin 25) (s : State) : Res := s.whenLive (inputRearmed input)

/-- R670: 0x6060.1: 0 inactive, 1 active, 2 STUCK, 3 CHATTERING, 4 not an input. -/
def State.inputCode (s : State) (i : Nat) : Nat :=
  let x := at' s.isl.inputs i
  if !s.isInput i then 4
  else match x.mask with | .none => b2n x.active | .stuck => 2 | .chattering => 3

end Sys2Proof.Machine
end

