-- ==== Sys2Proof/Machine/Dram.lean ====
section
/-!
DEFINITION. Uncorrectable DRAM reads (R682, R684).
-/
namespace Sys2Proof.Machine

/-- The DRAM controller. -/
def dramCell : Nat := 0x4100

/-- R684: a second uncorrectable error within 86,400 s in a page of 4 KiB retires the page, up to 256 pages. -/
def State.pageError (s : State) (addr : Nat) : State :=
  let page := addr / 4096
  let old := ((lookupKey page s.health.pageErrs).getD []).filter (fun t => decide (s.now < t + cSec 86400))
  let hits := old ++ [s.now]
  if 2 ≤ hits.length ∧ s.health.pagesRetired.length < 256 then
    let s1 := { s with health := { s.health with
      pageErrs := eraseKey page s.health.pageErrs, pagesRetired := s.health.pagesRetired ++ [page] } }
    s1.event 0x6409 dramCell (leBytes 2 s1.health.pagesRetired.length ++ [0, 0] ++ leBytes 8 addr)
  else { s with health := { s.health with pageErrs := insertKey page hits s.health.pageErrs } }

/-- R682: an uncorrectable read in an area (R683, in table order from 0) of a region: reported, and RegionFault raised. -/
def State.dramFault (s : State) (region area addr : Nat) : State :=
  let s1 := (s.raiseError dramCell 0x0020).pageError addr
  ({ s1 with health := { s1.health with regionFaults := setBit s1.health.regionFaults region } }).event 0x6404 dramCell
    ([byte region, byte area, 0, 0] ++ leBytes 8 addr)

end Sys2Proof.Machine
end

