-- ==== Sys2Proof/Machine/Queues.lean ====
section
/-!
DEFINITION. The queue manager's commands (chapter 13): pushes, pops, DROP_PACKET, reservations, moves between SRAM and DRAM, the
status word, the host's port, and events that find no place (R81).
-/
namespace Sys2Proof.Machine

/-- The dictionary engine, which carries the host's queue commands (R442). -/
def hostProducer : Nat := 0x8100

/-! ### Pushes -/

/-- QUEUE_PUSH (R425 to R428, R437): a cell of an internal producer, or, from a producer that cannot stall, a whole packet. -/
def queuePush (q producer : Nat) (nonStalling : Bool) (tag : Nat) (data : Bytes) (s : State) : State :=
  if nonStalling then (s.pushOrDrop q producer data).1
  else match s.pushCell q producer false (cellOf tag data) with
    | some s1 => s1
    | none => s.backpressure q

/-- QUEUE_PUSH as a command. -/
def execQueuePush (queue : Fin 64) (producer : Nat) (nonStalling : Bool) (tag : Nat) (data : Bytes) (s : State) : Res :=
  s.whenLive (queuePush queue producer nonStalling tag data)

/-- QUEUE_RESERVE (R438): cells for a producer, or it waits. -/
def queueReserve (q cells : Nat) (s : State) : State := (s.reserve q cells).getD (s.backpressure q)

/-- QUEUE_RESERVE as a command. -/
def execQueueReserve (queue : Fin 64) (cells : Nat) (s : State) : Res := s.whenLive (queueReserve queue cells)

/-! ### Pops (R433, R434) -/

/-- QUEUE_POP (R433). The cell stands in the queue's last pop. -/
def queuePop (q : Nat) (s : State) : State := ((s.refillHead q).popCell q).1

/-- QUEUE_POP as a command. -/
def execQueuePop (queue : Fin 64) (s : State) : Res := s.whenLive (queuePop queue)

/-- The first `n` cells of a queue taken away without being popped. -/
def Queue.discard : Nat → Queue → Queue
  | 0, q => q.tailToHead
  | n + 1, q =>
    let q1 := (if q.head = [] then q.refill else q).tailToHead
    Queue.discard n { q1 with head := q1.head.drop 1 }

/-- R434: DROP_PACKET on a queue. -/
def Queue.dropPacket (q : Queue) : Queue :=
  if !q.popped || q.lastPop.last || q.dropPending || q.dropDone then q
  else
    let cs := q.cells
    let k := cs.findIdx (·.last)
    if k < cs.length then { q.discard (k + 1) with discarded := q.discarded + k + 1, dropDone := true }
    else { q.discard cs.length with discarded := q.discarded + cs.length, dropPending := true }

/-- DROP_PACKET (R434). -/
def dropPacket (q : Nat) (s : State) : State :=
  let r := s.putQueue q (at' s.queue.queues q).dropPacket
  (r.1.emitAll r.2).placeWaiting q

/-- DROP_PACKET as a command. -/
def execDropPacket (queue : Fin 64) (s : State) : Res := s.whenLive (dropPacket queue)

/-! ### Moves between SRAM and DRAM (R428, R429, R432) -/

/-- R428: whether a queue needs to spill, the pool aside. -/
def State.wantsSpill (s : State) (q : Nat) : Bool := (at' s.queue.queues q).canSpill (s.skeinLimit q) true

/-- SKEIN_SPILL (R428, R429): a block to DRAM; an exhausted pool is told once for each exhaustion. -/
def skeinSpill (q : Nat) (s : State) : State :=
  if !s.wantsSpill q then s
  else if s.queue.poolFree then
    ({ s with queue := { s.queue with queues := upd s.queue.queues q Queue.spill, exhausted := false } }).queueTotal 2 1
  else if s.queue.exhausted then s
  else
    ({ s with queue := { s.queue with exhausted := true } }).event 0x4806 0x4000 ([byte q, 0, 0, 0] ++ leBytes 4 s.queue.poolMiB)

/-- SKEIN_SPILL as a command. -/
def execSkeinSpill (queue : Fin 64) (s : State) : Res := s.whenLive (skeinSpill queue)

/-- R432: cells after a lost block, without the rest of a packet that had a cell in it. The Bool says that the rest is still to come. -/
def afterLoss (b rest : List QCell) : List QCell × Bool :=
  match b.getLast? with
  | some c =>
    if c.last then (rest, false)
    else
      let k := rest.findIdx (·.last)
      if k < rest.length then (rest.drop (k + 1), false) else ([], true)
  | none => (rest, false)

/-- R432: the head before a lost block, without the cells of a packet that goes on into the block; a packet already partly popped gets an
ABORT cell. -/
def beforeLoss (b head : List QCell) : List QCell :=
  match b.head? with
  | some c =>
    if c.first then head
    else
      let open' := (head.reverse.takeWhile (fun x => !x.last)).length
      let kept := head.take (head.length - open')
      let cut := head.drop (head.length - open')
      if (cut.head?.map (·.first)) = some true then kept
      else kept ++ [{ data := zeros 64, first := false, last := true, abort := true, valid := 0, pushedAt := 0 }]
  | none => head

/-- Cells laid into blocks of 8. -/
def blocksOf8 : Nat → List QCell → List (List QCell)
  | 0, _ => []
  | n + 1, l => l.take 8 :: blocksOf8 n (l.drop 8)

/-- R432: the oldest skein block of a queue is lost, with its packets; their number. What stays keeps its order. -/
def Queue.loseBlock (q : Queue) : Queue × Nat :=
  match q.skein with
  | [] => (q, 0)
  | b :: r =>
    let n := (b.filter (·.first)).length + b2n (!((b.head?.map (·.first)).getD true))
    let a := afterLoss b (r.flatten ++ q.tail)
    let front := beforeLoss b q.head
    let rest := a.1.drop (16 - front.length)
    let m := (rest.length - 16 + 7) / 8
    ({ q with head := front ++ a.1.take (16 - front.length), skein := blocksOf8 m rest, tail := rest.drop (8 * m), losing := a.2 }, n)

/-- R428, R430: the oldest skein block of a queue moves to the head, and an exhaustion of the pool ends (R429). -/
def State.refillHeadNow (s : State) (q : Nat) : State :=
  let x := (at' s.queue.queues q).refill.tailToHead
  { s with queue := { s.queue with queues := s.queue.queues.set q { x with aboveLimit := x.aboveFor (s.skeinLimit q) }, exhausted := false } }

/-- SKEIN_REFILL (R428, R431, R432): a block back from DRAM. `lost` says that it fails ECC beyond correction, at DRAM address `addr`. -/
def skeinRefill (q : Nat) (lost : Bool) (addr : Nat) (s : State) : State :=
  let x := at' s.queue.queues q
  if !x.canRefill then s
  else if lost then
    let r := x.loseBlock
    let y := r.1
    let s1 := s.putQueue q y.tailToHead
    let s2 := (s1.1.emitAll s1.2).dramFault 2 1 addr
    (s2.event 0x4805 x.servedBy ([byte q, 0, 0, 0] ++ leBytes 4 r.2)).placeWaiting q
  else
    ((s.refillHeadNow q).queueTotal 3 1).placeWaiting q

/-- SKEIN_REFILL as a command. -/
def execSkeinRefill (queue : Fin 64) (lost : Bool) (addr : Nat) (s : State) : Res := s.whenLive (skeinRefill queue lost addr)

/-! ### Status (R435, R444) -/

/-- The status word of a queue. -/
def Queue.status (q : Queue) (number : Nat) : Nat :=
  let empty := q.fenced || q.dropPending || (q.head == [] && q.skein == [] && q.tail == [])
  b2n empty + 2 * b2n q.highLive + 4 * b2n q.lowLive + 8 * b2n q.highCrossed + 16 * b2n q.lowCrossed + 32 * b2n q.underrun +
    64 * b2n q.overrun + 128 * b2n q.backpressured + 256 * q.highCount + 65536 * q.lowCount + 16777216 * b2n q.fenced +
    33554432 * b2n (decide (q.servedBy ≠ 0x4000 + number)) + 67108864 * b2n q.dropPending

/-- R435: what a read of the status word clears. -/
def Queue.clearSticky (q : Queue) : Queue :=
  { q with highCrossed := false, lowCrossed := false, highCount := 0, lowCount := 0, underrun := false, overrun := false
           backpressured := false }

/-- QUEUE_STATUS_READ (R435): the word, and what the read clears. -/
def queueStatusRead (q : Nat) (s : State) : State × Bytes :=
  ({ s with queue := { s.queue with queues := upd s.queue.queues q Queue.clearSticky } }, leBytes 4 ((at' s.queue.queues q).status q))

/-- QUEUE_STATUS_READ as a command. -/
def execQueueStatusRead (queue : Fin 64) (s : State) : Res :=
  s.whenLive (fun st => let r := queueStatusRead queue st; r.1.put (.value (0x4850 + queue) 2 r.2))

/-! ### The host's port (R442, R443) -/

/-- 0x48C0.1: the queue that the host has selected. -/
def State.hostQueue (s : State) : Nat := s.cfgN 0x48C0 1

/-- HOST_POP (R442). -/
def hostPop (v : Nat) : State → State × Nat :=
  one v (fun s =>
    let q := s.hostQueue
    if q = 7 then (s, Abort.valueInconsistent)
    else if (at' s.queue.queues q).fenced then (s, Abort.fenced)
    else
      let r := (s.refillHead q).popCell q
      ({ r.1 with queue := { r.1.queue with hostPop := leBytes 2 r.2.1.tag ++ r.2.1.data } }, Abort.ok))

/-- HOST_POP as a command. -/
def execHostPop (role v : Nat) (s : State) : Res := s.command 0x48C0 2 role .operator (hostPop v)

/-- R443: the metadata cell of a loopback frame as the queue manager completes it. -/
def State.loopbackCell (s : State) (data : Bytes) : Bytes :=
  time80 s.td0 ++ [7] ++ slice data 13 3 ++ zeros 8 ++ zeros 16 ++ data.drop 40

/-- R425, R426, R442: whether a tag breaks the packet that the host has open in a queue. -/
def tagBad (q : Queue) (tag : Nat) : Bool :=
  let c := cellOf tag []
  c.abort || decide (511 < tag) || (c.first == (q.owner == some hostProducer)) || (!c.last && c.valid != 63)

/-- HOST_PUSH (R442, R443, R710): tag and data of one cell. -/
def hostPush (b : Bytes) (s : State) : State × Nat :=
  let q := s.hostQueue
  let x := at' s.queue.queues q
  let tag := fieldLE b 0 2
  if b.length ≠ 66 then (s, Abort.typeLength)
  else if q = 7 ∧ s.power.phase = .lastGasp then (s, Abort.busy)
  else if q = 15 ∨ tagBad x tag then (s, Abort.valueInconsistent)
  else if x.fenced then (s, Abort.fenced)
  else
    let data := if q = 7 ∧ bit tag 0 then s.loopbackCell (b.drop 2) else b.drop 2
    match s.pushCell q hostProducer false (cellOf tag data) with
    | some s1 => (s1, Abort.ok)
    | none => (s, Abort.busy)

/-- HOST_PUSH as a command. -/
def execHostPush (role : Nat) (cell : Bytes) (s : State) : Res := s.command 0x48C0 4 role .operator (hostPush cell)

/-- HOST_DROP_PACKET (R442). -/
def hostDropPacket (v : Nat) : State → State × Nat :=
  one v (fun s => if s.hostQueue = 7 then (s, Abort.valueInconsistent) else (dropPacket s.hostQueue s, Abort.ok))

/-- HOST_DROP_PACKET as a command. -/
def execHostDropPacket (role v : Nat) (s : State) : Res := s.command 0x48C0 5 role .operator (hostDropPacket v)

/-! ### Events that find no place (R81) -/

/-- EVENT_PLACE_TIMEOUT (R81): events that have waited 1 ms are counted as lost against their sources. -/
def eventPlaceTimeout (s : State) : State :=
  let late := s.queue.waiting.filter (fun w => decide (w.since + cMs 1 ≤ s.now))
  { s with
    queue := { s.queue with waiting := s.queue.waiting.filter (fun w => !decide (w.since + cMs 1 ≤ s.now)) }
    dict := { s.dict with lostEvents := late.foldl (fun l w =>
      insertKey w.record.cell (sat32 ((lookupKey w.record.cell l).getD 0)) l) s.dict.lostEvents } }

/-- EVENT_PLACE_TIMEOUT as a command. -/
def execEventPlaceTimeout (s : State) : Res := s.whenLive eventPlaceTimeout

/-- EVENTS_LOST (R81): once the event queue of a source has room, its losses are told. -/
def eventsLost (s : State) : State :=
  s.dict.lostEvents.foldl (fun st p =>
    let q := eventQueue 0x1008 p.1
    if (at' st.queue.queues q).level + (at' st.queue.queues q).reserved < st.queueCap q ∧ !(st.queue.waiting.any (fun w => w.queue == q)) then
      ({ st with dict := { st.dict with lostEvents := eraseKey p.1 st.dict.lostEvents } }).event 0x1008 p.1 (leBytes 4 p.2)
    else st) s

/-- EVENTS_LOST as a command. -/
def execEventsLost (s : State) : Res := s.whenLive eventsLost

end Sys2Proof.Machine
end

