-- ==== Sys2Proof/Machine/Freeze.lean ====
section
/-!
DEFINITION. Freeze (R538, R689 to R692) and the swatch (R693, R694).
-/
namespace Sys2Proof.Machine

/-- R689: whether a requester (0 the FREEZE_N pin, 1 the debug mailbox) may freeze the device now; in a last gasp the pin is ignored
(R712), and a device held in reset does not freeze. -/
def State.mayFreeze (s : State) (requester : Nat) : Bool :=
  s.power.phase != .lastGasp && s.power.phase != .held && s.power.phase != .refHeld &&
    (if requester = 0 then s.cfgN 0x6441 1 == 1 else s.debugGrants 0)

/-- R690: transmissions of the radio ports and power-line engines are cut off. -/
def State.cutSending (s : State) : State :=
  { s with
    radio := { s.radio with ports := s.radio.ports.map (fun p => { p with tx := p.tx.filter (fun j => j.phase != .sending), air := none }) }
    plc := { s.plc with engines := s.plc.engines.map (fun e => { e with txReq := none, sendUntil := min e.sendUntil s.now }) } }

/-- FREEZE (R689, R690): the first request stops every island but the battery island, and with them the free-running counter. -/
def freeze (requester : Nat) (s : State) : State :=
  if !s.mayFreeze requester then s
  else
    let h := s.health
    let h1 := { h with freezePin := h.freezePin || requester == 0, freezeDebug := h.freezeDebug || requester == 1 }
    if h.frozen then { s with health := h1 }
    else
      ({ s with health := { h1 with
          frozen := true, frozenBackup := s.time.backup, freezes := sat32 h.freezes
          lastRequester := b2n (requester == 0) + 2 * b2n (requester == 1) } }).cutSending

/-- FREEZE as a command. -/
def execFreeze (requester : Fin 2) (s : State) : Res := .next (freeze requester s)

/-- R538: the gap in ns, from the backup counts elapsed. -/
def gapNs (counts : Nat) : Nat := counts * 30517578125 / 1000000

/-- R691 step 3: whether a packet of a link queue asks for the ACK of a link-timed frame, which has a deadline. -/
def linkAck (b : Bytes) : Bool := fieldLE b 12 1 == 0xA1

/-- R691 step 3: acknowledgement requests of link-timed frames still pending are dropped and counted in 0x4010.14; receptions in
progress are abandoned. -/
def State.dropPendingAcks (s : State) : State :=
  let drain := fun (st : State) (q : Nat) =>
    let cs := (at' st.queue.queues q).cells
    let n := (cs.filter (fun c => c.first && linkAck c.data)).length
    let keep := cs.filter (fun c => !(c.first && c.last && linkAck c.data))
    ({ st with queue := { st.queue with queues := upd st.queue.queues q (fun x =>
        if n = 0 then x else { x with head := keep.take 16, skein := [], tail := keep.drop 16 }) } }, n)
  let q := (List.range 5).foldl (fun (a : State × Nat) k => let r := drain a.1 (8 + k); (r.1, a.2 + r.2)) (s, 0)
  let plcN := (s.plc.engines.map (fun e => e.acks.length)).foldl (· + ·) 0
  let radN := (s.radio.macs.map (fun m => m.acks.length + m.floodAcks.length)).foldl (· + ·) 0
  let s1 := q.1
  { s1 with
    lane := { s1.lane with counters := upd s1.lane.counters 13 (· + (q.2 + plcN + radN)) }
    plc := { s1.plc with engines := s1.plc.engines.map (fun e => { e with acks := [], rx := .search, unknownEnd := false }) }
    radio := { s1.radio with
      macs := s1.radio.macs.map (fun m => { m with acks := [], floodAcks := [] })
      ports := s1.radio.ports.map (fun p => { p with demods := p.demods.map (fun d => if d.state = 2 then { d with state := 1 } else d) }) } }

/-- R691: what happens when the last requester has released. -/
def State.thaw (s : State) : State :=
  let counts := s.time.backup - s.health.frozenBackup
  let gap := gapNs counts
  let req := s.health.lastRequester
  let s1 := { s with health := { s.health with frozen := false, freezePin := false, freezeDebug := false, lastGap := gap } }
  let s2 := (s1.freezeGapSteps gap).dropPendingAcks
  let s3 : State := { s2 with
    sense := { s2.sense with chains := s2.sense.chains.map (fun c => { c with pendingReset := true }), needAlign := some 3 }
    plc := { s2.plc with engines := s2.plc.engines.map (fun e => e.runFree s2.td0 s2.nominalPeriod) } }
  s3.event 0x6408 0xE100 ([byte req, 0, 0, 0] ++ leBytes 8 gap)

/-- FREEZE_RELEASED (R689, R691): a requester releases; the last one ends the freeze. -/
def freezeReleased (requester : Nat) (s : State) : State :=
  let h := s.health
  if !h.frozen then s
  else
    let h1 := { h with freezePin := h.freezePin && requester != 0, freezeDebug := h.freezeDebug && requester != 1
                       lastRequester := b2n (requester == 0) + 2 * b2n (requester == 1) }
    let s1 := { s with health := h1 }
    if h1.freezePin || h1.freezeDebug then s1 else s1.thaw

/-- FREEZE_RELEASED as a command. -/
def execFreezeReleased (requester : Fin 2) (s : State) : Res := .next (freezeReleased requester s)

/-! ### The swatch -/

/-- R694: whether a cell is a key slot, all of whose words read as masked 0. -/
def secretCell (a : Nat) : Bool := decide (0xA000 ≤ a ∧ a ≤ 0xA01F)

/-- R693, R694: why a read of the swatch gives no word: 1 ERROR, 2 DENIED, 0 when it does. `present` says whether the space has the word. -/
def State.swatchRefusal (s : State) (present : Bool) : Nat :=
  if !s.debugGrants 0 then 2
  else if !s.health.frozen || !cellDefined s.health.swatch.cell || decide (1 < s.health.swatch.space) || !present then 1
  else 0

/-- SW_DATA (R693, R694): the word at SW_ADDR, whose contents the manual does not lay out: a free value, or 0 where nothing may be read. Each
read adds 1 to SW_ADDR. -/
def swData (cell space addr : Nat) (present secret : Bool) (s : State) : State :=
  let w := { s.health.swatch with cell := cell, space := space, addr := addr }
  let s0 := { s with health := { s.health with swatch := w } }
  let r := s0.swatchRefusal present
  let masked := r == 0 && (secretCell cell || secret)
  let s1 := { s0 with health := { s0.health with swatch :=
    { w with addr := (addr + 1) % 2 ^ 32, error := w.error || r == 1, denied := r == 2, masked := masked } } }
  if r ≠ 0 ∨ masked then s1.put (.value cell addr (zeros 4))
  else
    let f := s1.freeBytes 4
    f.1.put (.value cell addr f.2)

/-- SW_DATA as a command: SW_CELL, SW_SPACE and SW_ADDR as they stand, whether that space has such a word, and whether the word holds a
secret: HUK, a working key or a key schedule. -/
def execSwData (cell space addr : Nat) (present secret : Bool) (s : State) : Res := s.whenPowered (swData cell space addr present secret)

/-- SW_STATUS (R693): the status word; the read clears ERROR. -/
def swStatus (s : State) : State :=
  let w := s.health.swatch
  let v := b2n s.health.frozen + 2 * b2n w.error + 4 * b2n w.masked + 8 * b2n (w.denied || !s.debugGrants 0)
  ({ s with health := { s.health with swatch := { w with error := false } } }).put (.value 0 0x14 (leBytes 4 v))

/-- SW_STATUS as a command. -/
def execSwStatus (s : State) : Res := s.whenPowered swStatus

end Sys2Proof.Machine
end

