-- ==== Sys2Proof/Machine/Vee.lean ====
section
/-!
DEFINITION. The VEE engine (chapter 5, R192 to R207): records from Q40, sweeps, corrections, edits, rebuild.
-/
namespace Sys2Proof.Machine

/-- One more on count `i` (from 1) of 0x4412. -/
def State.veeCount (s : State) (i : Nat) : State := { s with vee := { s.vee with counters := upd s.vee.counters (i - 1) (· + 1) } }

/-! ### History (R194) and current records (R195) -/

/-- The history of a meter. -/
def State.histOf (s : State) (m : Nat) : Hist := (lookupKey m s.vee.hist).getD ⟨none, [], none, none, none, []⟩

/-- The same put in its place. -/
def State.putHist (s : State) (m : Nat) (h : Hist) : State := { s with vee := { s.vee with hist := insertKey m h s.vee.hist } }

/-- The state of an interval. -/
def Hist.at (h : Hist) (i : Nat) : HistState := (lookupKey i h.states).getD .missing

/-- An interval takes a state. -/
def Hist.set (h : Hist) (i : Nat) (x : HistState) : Hist :=
  { h with states := if x = .missing then eraseKey i h.states else insertKey i x h.states
           firstReal := if x = .real then some (match h.firstReal with | some f => min f i | none => i) else h.firstReal }

/-- R194: a record of an interval moves HIGH_ID, and the entries that leave the window are lost. -/
def Hist.raise (h : Hist) (i : Nat) : Hist :=
  if (h.high.map (fun x => decide (i ≤ x))).getD false then h
  else { h with high := some i, states := h.states.filter (fun p => decide (i ≤ p.1 + 2047)), noRef := h.noRef.filter (fun j => decide (i ≤ j + 2047)) }

/-- R194: whether an interval lies below the window. -/
def Hist.below (h : Hist) (i : Nat) : Bool := (h.high.map (fun x => decide (i + 2047 < x))).getD false

/-- R194: whether an interval lies in the window. -/
def Hist.inWindow (h : Hist) (i : Nat) : Bool := (h.high.map (fun x => decide (i ≤ x ∧ x ≤ i + 2047))).getD false

/-- What a step of the VEE engine puts out: records for Q41, exports for Q17, corrections for Q39. -/
structure VeeOut where
  recs : List Bytes
  exps : List Bytes
  corrs : List Bytes
deriving Repr, Inhabited

/-- A step of the VEE engine under way. -/
abbrev VeeWork := State × VeeOut

/-- The class of a meter as the VEE engine has it. -/
def State.veeClass (s : State) (m : Meter) : ClassCfg := s.classIn (s.settingsFor .vee) m.cls

/-- The latest of two lists of records of an interval that is not INVALID, otherwise the latest (R195). -/
def pickCurrent (l : List Bytes) : Option Bytes :=
  match (l.filter (fun r => decide (rOutcome r ≠ 2))).getLast? with
  | some r => some r
  | none => l.getLast?

/-- The days of which the store holds records, in order. -/
def State.recordDays (s : State) : List Nat :=
  let l := s.storeNv.days.map (·.day) ++ [s.store.openDay] ++ (s.unitsInDram.filter (fun u => u.kind == 0)).map (·.day)
  (sortInts (l.eraseDups.map Int.ofNat)).map Int.toNat

/-- All interval records of a meter, in the order in which they were appended: the store, then those on their way in Q41. -/
def State.recordsOf (s : State) (m : Nat) : List Bytes :=
  let q := (at' s.queue.queues 41).cells.map (fun c => c.bytes)
  let st := if s.storeReads then (s.recordDays.map s.dayRecords).flatten else []
  (st ++ q).filter (fun r => r.length == 32 && rMeter r == m && !rIsState r)

/-- R195: the current record of a meter's interval, with those of this step. -/
def VeeWork.current (w : VeeWork) (m i : Nat) : Option Bytes :=
  pickCurrent ((w.1.recordsOf m ++ w.2.recs.filter (fun r => rMeter r == m && !rIsState r)).filter (fun r => rInterval r == i))

/-- R257: the consumption of a member interval, and whether it is real. -/
def VeeWork.x (w : VeeWork) (k : ClassCfg) (m i : Nat) : Option (Int × Bool) :=
  if i = 0 then none
  else match w.current m (i - 1), w.current m i with
    | some a, some b =>
      if rOutcome a = 2 ∨ rOutcome b = 2 then none
      else (k.consumption (rVals a) (rVals b)).map (fun x => (x, rMethod b == 0 || rMethod b == 3))
    | _, _ => none

/-! ### Outputs -/

/-- R259: a packet of Q39. -/
def corrPacket (m i cause : Nat) (real count x : Int) : Bytes :=
  leBytes 4 m ++ leBytes 4 i ++ [byte cause] ++ leInt 1 real ++ leInt 1 count ++ [0] ++ leInt 8 x ++ zeros 44

/-- R259: consumption, real count and contribution count of an interval. -/
def contribution (o : Option (Int × Bool)) : Int × (Int × Int) :=
  ((o.map (·.1)).getD 0, ((b2n ((o.map (·.2)).getD false) : Nat) : Int), ((b2n o.isSome : Nat) : Int))

/-- R205, R259: the correction for an interval whose consumption changed from `a` to `b`, less what stage 8 has contributed for it (`c8`), if anything
is left. -/
def VeeWork.correctBy (w : VeeWork) (m i cause : Nat) (a b c8 : Option (Int × Bool)) : VeeWork :=
  let old := contribution a
  let new := contribution b
  let had := contribution c8
  let d : Int × (Int × Int) := (new.1 - old.1 - had.1, new.2.1 - old.2.1 - had.2.1, new.2.2 - old.2.2 - had.2.2)
  if d = (0, 0, 0) then w else (w.1, { w.2 with corrs := w.2.corrs ++ [corrPacket m i cause d.2.1 d.2.2 d.1] })

/-- The same where stage 8 has contributed nothing. -/
def VeeWork.correct (w : VeeWork) (m i cause : Nat) (a b : Option (Int × Bool)) : VeeWork := w.correctBy m i cause a b none

/-- R204: a correction record. `old` is the record it replaces. -/
def corrRecord (new : Bytes) (old : Option Bytes) (cause editId : Nat) : Bytes :=
  let o := match old with
    | some r => slice r 12 20 ++ [byte cause, byte (rMethod r), byte (rOutcome r), 0]
    | none => List.replicate 20 0xFF ++ [byte cause, 0xFF, 0xFF, 0]
  new ++ o ++ leBytes 4 editId ++ zeros 4

/-- A record appended. -/
def VeeWork.append (w : VeeWork) (r : Bytes) : VeeWork := (w.1, { w.2 with recs := w.2.recs ++ [r] })

/-- A record or correction exported. -/
def VeeWork.sendOut (w : VeeWork) (r : Bytes) : VeeWork := (w.1, { w.2 with exps := w.2.exps ++ [r] })

/-- The history of a meter changed. -/
def VeeWork.hist (w : VeeWork) (m : Nat) (f : Hist → Hist) : VeeWork := (w.1.putHist m (f (w.1.histOf m)), w.2)

def VeeWork.count (w : VeeWork) (i : Nat) : VeeWork := (w.1.veeCount i, w.2)

/-- Packets pushed one after another; none when one of them has to wait. -/
def State.pushPackets (s : State) (q producer : Nat) : List Bytes → Option State
  | [] => some s
  | b :: r => (s.pushPacket q producer b).bind (fun t => t.pushPackets q producer r)

/-- R192, R193, R198: all outputs of a step enter their queues, or the engine waits: the step then has not happened. -/
def VeeWork.finish (w : VeeWork) (before : State) : State :=
  match ((w.1.pushPackets 41 veeCell w.2.recs).bind (fun t => t.pushPackets 17 veeCell w.2.exps)).bind (fun t => t.pushPackets 39 veeCell w.2.corrs) with
  | some s => s
  | none => before.backpressure 41

/-! ### Replacements (R195, R205) -/

/-- What stage 8 contributed for a record of Q40: `x`, real for a real reading. -/
def stage8 (r : Bytes) (x : Option Int) : Option (Int × Bool) := x.map (fun v => (v, rMethod r == 0))

/-- A record that becomes the current one of its interval by a correction of cause 1 to 4, with its balance corrections. -/
def VeeWork.replace (w : VeeWork) (k : ClassCfg) (m : Nat) (r : Bytes) (cause editId : Nat) (c8 : Option Int) : VeeWork :=
  let i := rInterval r
  let old := w.current m i
  let a := w.x k m i
  let a1 := w.x k m (i + 1)
  let w1 := ((w.append r).sendOut (corrRecord r old cause editId)).count 6
  (w1.correctBy m i cause a (w1.x k m i) (stage8 r c8)).correct m (i + 1) cause a1 (w1.x k m (i + 1))

/-- R259: a record that becomes the first of its interval; `c8` says what stage 8 has contributed already. Changes of
consumption that stage 8 has not brought go with cause 0. -/
def VeeWork.first (w : VeeWork) (k : ClassCfg) (m : Nat) (r : Bytes) (c8 : Option Int) : VeeWork :=
  let i := rInterval r
  let a := w.x k m i
  let a1 := w.x k m (i + 1)
  let w1 := w.append r
  (w1.correctBy m i 0 a (w1.x k m i) (stage8 r c8)).correct m (i + 1) 0 a1 (w1.x k m (i + 1))

/-- R195, R205: what stage 8 contributed for a record that is not kept is taken back. -/
def VeeWork.takeBack (w : VeeWork) (m i cause : Nat) (real : Bool) (c8 : Option Int) : VeeWork :=
  match c8 with
  | none => w
  | some x => w.correctBy m i cause none none (some (x, real))

/-- R195, R448 rule 4: a record rewritten INVALID with a reason. -/
def rewriteInvalid (r : Bytes) (reason : Nat) : Bytes :=
  r.take 7 ++ [byte (rFlags r / 4 * 4 + 2)] ++ slice r 8 2 ++ leBytes 2 (setBit (rReasons r) reason) ++ r.drop 12

/-- R195: a real reading rejected with cause 5 or 6. -/
def VeeWork.reject (w : VeeWork) (m : Nat) (r : Bytes) (reason cause : Nat) (c8 : Option Int) : VeeWork :=
  let n := rewriteInvalid r reason
  (((w.append n).sendOut (corrRecord n (some r) cause 0)).count 7).takeBack m (rInterval r) cause true c8

/-! ### Profiles (R201, R202) -/

/-- The newest real or edited interval before `i`. -/
def Hist.lastReal (h : Hist) (i : Nat) : Option Nat :=
  ((h.states.filter (fun p => decide (p.1 < i) && (p.2 == .real || p.2 == .edited))).map (·.1)).foldl
    (fun a j => some (match a with | some x => max x j | none => j)) none

/-- R202: the consumption of a channel in an interval whose records, and its predecessor's, are real or edited. -/
def VeeWork.xc (w : VeeWork) (k : ClassCfg) (m j c : Nat) : Option Nat :=
  if j = 0 then none
  else match w.current m (j - 1), w.current m j with
    | some a, some b =>
      let ok := fun r => rOutcome r != 2 && (rMethod r == 0 || rMethod r == 3)
      if ok a && ok b then k.adv (rVals a) (rVals b) c else none
    | _, _ => none

/-- R202: sum and number of the references of an interval: the same interval of the four weeks before. -/
def VeeWork.refs (w : VeeWork) (k : ClassCfg) (m i c : Nat) : Nat × Nat :=
  let week := 10080 / k.len
  let xs := (List.range 4).filterMap (fun n => if (n + 1) * week ≤ i then w.xc k m (i - (n + 1) * week) c else none)
  (xs.foldl (· + ·) 0, xs.length)

/-- R202: the real intervals of the UTC day of `i` before it, with consumption and mean (numerator over 12) defined. -/
def VeeWork.dayPairs (w : VeeWork) (k : ClassCfg) (m i c : Nat) : List (Nat × Nat) :=
  let first := i * k.len / 1440 * 1440 / k.len
  ((List.range (i - first)).map (first + ·)).filterMap (fun j =>
    let real := match w.current m j with | some r => rOutcome r != 2 && rMethod r == 0 | none => false
    let rf := w.refs k m j c
    if real && rf.2 != 0 then (w.xc k m j c).map (fun x => (x, rf.1 * (12 / rf.2))) else none)

/-- R202: round half up of S × m, where m = sum / n and S = a / b clamped to 1/4 to 4 (b 0: S is 1). -/
def scaled (sum n a b : Nat) : Nat :=
  let p : Nat × Nat := if b = 0 then (1, 1) else if a * 4 < b then (1, 4) else if b * 4 < a then (4, 1) else (a, b)
  (2 * p.1 * sum + p.2 * n) / (2 * p.2 * n)

/-- R202: the profile estimate of a channel of an interval. -/
def VeeWork.profile (w : VeeWork) (k : ClassCfg) (m i c : Nat) (prev : List Nat) : Nat :=
  let rf := w.refs k m i c
  let v := prev.getD c absentVal
  if k.kinds.getD c 0 ≠ 1 ∨ rf.2 = 0 ∨ v = absentVal then absentVal
  else
    let d := w.dayPairs k m i c
    let sx := d.foldl (fun a p => a + p.1) 0
    let sm := d.foldl (fun a p => a + p.2) 0
    let r := if k.scaleMin ≤ d.length ∧ 0 < sm then scaled rf.1 rf.2 (12 * sx) sm else scaled rf.1 rf.2 1 0
    let md := k.roll.getD c 0
    if md = 0 then v + r else (v + r) % md

/-- R189, R202: the estimate of an interval, none when no channel can be estimated; and the mask of channels that cannot. -/
def VeeWork.profileRecord (w : VeeWork) (k : ClassCfg) (m i : Nat) : Option Bytes × Nat :=
  match (if i = 0 then none else w.current m (i - 1)) with
  | none => (none, 15)
  | some p =>
    let vs := (List.range 4).map (fun c => w.profile k m i c (rVals p))
    let miss := ofBits ((List.range 4).map (fun c => k.kinds.getD c 0 == 1 && vs.getD c absentVal == absentVal))
    if vs.all (· == absentVal) then (none, miss) else (some (intervalRecord i m (recordFlags 0 2 false) 0 0 vs), miss)

/-- R202, R208: an interval left unestimated: counted once, 0x4401 at most once per meter and UTC day. -/
def VeeWork.unavailable (w : VeeWork) (m i miss : Nat) : VeeWork :=
  let h := w.1.histOf m
  let w1 : VeeWork := if h.noRef.contains i then w else (w.hist m (fun x => { x with noRef := x.noRef ++ [i] })).count 9
  if h.profDay = some w.1.utcDay then w1
  else
    let w2 := w1.hist m (fun x => { x with profDay := some w.1.utcDay })
    (w2.1.emit 0x4401 veeCell m (leBytes 4 i ++ [byte miss]), w2.2)

/-! ### Re-estimation (R197) -/

/-- The run of estimated intervals beside `i`, going down or up. -/
def Hist.run (h : Hist) (up : Bool) : Nat → Nat → List Nat
  | _, 0 => []
  | i, n + 1 =>
    if !up && i == 0 then []
    else
      let j := if up then i + 1 else i - 1
      if h.at j = .estimated then j :: h.run up j n else []

/-- R197: an estimate made anew: kept when its value does not change, otherwise appended with cause 3 and exported. -/
def VeeWork.reestimate (w : VeeWork) (k : ClassCfg) (m : Nat) (r : Bytes) : VeeWork :=
  if (w.current m (rInterval r)).map rVals = some (rVals r) then w
  else ((w.replace k m r 3 0 none).sendOut r).count (if rMethod r = 1 then 4 else 5)

/-- R197: the run is interpolated between its bounds. -/
def VeeWork.interpolateRun (w : VeeWork) (k : ClassCfg) (m a b : Nat) (run : List Nat) : VeeWork :=
  match w.current m a, w.current m b with
  | some ra, some rb =>
    run.foldl (fun x j =>
      let v := k.interpolate a (rVals ra) b (rVals rb) j
      if v.any (· != absentVal) then x.reestimate k m (intervalRecord j m (recordFlags 0 1 false) 0 0 v) else x) w
  | _, _ => w

/-- R201: whether an interval lies within ProfileMax of the newest real or edited interval before it. -/
def VeeWork.nearReal (w : VeeWork) (k : ClassCfg) (m i : Nat) : Bool :=
  k.profMax != 0 && (((w.1.histOf m).lastReal i).map (fun r => decide (i ≤ r + k.profMax))).getD false

/-- R197, R201, R202: the run is estimated by profile from its left neighbour, up to the first interval that cannot be. -/
def VeeWork.profileRun (w : VeeWork) (k : ClassCfg) (m : Nat) : List Nat → VeeWork
  | [] => w
  | j :: r =>
    if !w.nearReal k m j then w
    else match w.profileRecord k m j with
    | (some e, _) => (w.reestimate k m e).profileRun k m r
    | (none, miss) => w.unavailable m j miss

/-- R197: whether an interval's current record can bound a run: a real reading or an edit that is not INVALID. -/
def VeeWork.bounds (w : VeeWork) (m j : Nat) : Bool :=
  ((w.current m j).map (fun r => rOutcome r != 2 && (rMethod r == 0 || rMethod r == 3))).getD false

/-- R197: the runs on each side of an interval that a real reading has replaced. -/
def VeeWork.reestimateAround (w : VeeWork) (k : ClassCfg) (m i : Nat) : VeeWork :=
  let h := w.1.histOf m
  let one := fun (x : VeeWork) (up : Bool) =>
    let run := h.run up i 2048
    if run = [] then x
    else
      let sorted := if up then run else run.reverse
      let far := if up then i + run.length + 1 else i - run.length - 1
      let lim := if up then true else decide (run.length + 1 ≤ i)
      if lim ∧ x.bounds m far ∧ run.length ≤ k.interpMax then x.interpolateRun k m (if up then i else far) (if up then far else i) sorted
      else x.profileRun k m sorted
  one (one w false) true

/-! ### VEE_RECORD -/

/-- R196: whether a real reading of an interval is within the late window. -/
def State.lateOk (s : State) (k : ClassCfg) (h : Hist) (i : Nat) : Bool :=
  decide ((s.utcNow : Int) - ((i + 1) * k.len * 60 : Nat) ≤ (s.cfgB .vee 0x4410 0 : Nat)) && h.inWindow i

/-- R195: a record of a meter handled by the state of its interval. -/
def veeAct (w0 : VeeWork) (k : ClassCfg) (m : Nat) (r : Bytes) (c8 : Option Int) : VeeWork :=
  let i := rInterval r
  let w := w0.hist m (fun h => h.raise i)
  let h := w.1.histOf m
  let st := h.at i
  if rMethod r = 0 then
    let w1 := w.count (1 + rOutcome r)
    if rOutcome r = 2 then w1.append r
    else match st with
      | .missing => (w1.first k m r c8).hist m (fun x => x.set i .real)
      | .estimated =>
        if w.1.lateOk k h i then
          (((w1.replace k m r 1 0 c8).hist m (fun x => x.set i .real)).reestimateAround k m i)
        else w1.reject m r 15 6 c8
      | .real => w1.reject m r 11 5 c8
      | .edited => w1.reject m r 14 5 c8
  else
    match st with
    | .missing => (((w.first k m r c8).hist m (fun x => x.set i .estimated)).sendOut r).count 4
    | .estimated => ((w.replace k m r 2 0 c8).sendOut r).count 4
    | _ => (w.count 10).takeBack m i 0 false c8

/-- R199: the queue manager moves a packet of Q40 to Q41 while the engine is fenced. -/
def veeBypass (s before : State) (rec : Bytes) : State :=
  match s.pushPacket 41 0x4000 rec with
  | none => before.backpressure 41
  | some s1 => { s1 with vee := { s1.vee with bypassed := s1.vee.bypassed + 1 } }

/-- R200: the history that a meter's records give: the latest record of method 3 or 4 decides an interval, otherwise a real
reading that is not INVALID, otherwise an estimate. -/
def rebuildHist (rs : List Bytes) : Hist :=
  let h0 : Hist := rs.foldl (fun h r => h.raise (rInterval r)) ⟨none, [], none, none, none, []⟩
  let ok := rs.filter (fun r => !h0.below (rInterval r))
  let state := fun (l : List Bytes) =>
    match (l.filter (fun r => decide (rMethod r = 3 ∨ rMethod r = 4))).getLast? with
    | some r => if rMethod r = 3 then HistState.edited else .missing
    | none =>
      if l.any (fun r => rMethod r == 0 && rOutcome r != 2) then .real
      else if l.any (fun r => decide (rMethod r ≠ 0) && rOutcome r != 2) then .estimated else .missing
  let ids := (ok.map rInterval).eraseDups
  let h1 := ids.foldl (fun h i => h.set i (state (ok.filter (fun r => rInterval r == i)))) h0
  let reals := (rs.filter (fun r => rMethod r == 0 && rOutcome r != 2)).map rInterval
  { h1 with firstReal := match reals with | [] => none | x :: l => some (l.foldl min x) }

/-- R200: the history of a meter rebuilt from the record store, unless it has been. -/
def State.rebuildMeter (s : State) (m : Nat) : State :=
  if s.vee.toRebuild.contains m then
    let s1 := s.putHist m (rebuildHist (s.recordsOf m))
    { s1 with vee := { s1.vee with toRebuild := s1.vee.toRebuild.filter (· ≠ m) } }
  else s

/-- VEE_RECORD (R192 to R199, R448): the oldest record of Q40. -/
def veeRecord (s : State) : State :=
  match s.popPacket 40 with
  | none => s
  | some (s1, b, ab) =>
    let rec32 := b.take 32
    if ab then s1
    else if !s.inService veeCell then veeBypass s1 s rec32
    else
      let m := rMeter rec32
      match (if rIsState rec32 then none else s1.meter m) with
      | none => VeeWork.finish (s1, ⟨[rec32], [], []⟩) s
      | some mr =>
        let s2 := s1.rebuildMeter m
        if (s2.histOf m).below (rInterval rec32) then VeeWork.finish (s2.veeCount 11, ⟨[rec32], [], []⟩) s
        else (veeAct (s2, ⟨[], [], []⟩) (s2.veeClass mr) m rec32 (packetX b)).finish s

/-- VEE_RECORD as a command. -/
def execVeeRecord (s : State) : Res := s.whenLive veeRecord

/-! ### SWEEP_STEP (R201 to R203) -/

/-- R201: whether an interval is due for a profile estimate. -/
def VeeWork.due (w : VeeWork) (k : ClassCfg) (m cur i : Nat) : Bool :=
  let h := w.1.histOf m
  h.at i == .missing && decide (i + 1 + k.estDelay ≤ cur) && w.nearReal k m i && (h.firstReal.map (fun f => decide (f < i))).getD false &&
    (i != 0 && h.inWindow (i - 1) && ((w.current m (i - 1)).map (fun r => rOutcome r != 2)).getD false)

/-- R201: the due intervals in ascending order, up to the first that cannot be estimated. -/
def VeeWork.sweep (w : VeeWork) (k : ClassCfg) (m cur : Nat) : List Nat → VeeWork
  | [] => w
  | i :: r =>
    if w.due k m cur i then
      match w.profileRecord k m i with
      | (some e, _) =>
        let w1 := w.hist m (fun h => h.raise i)
        ((((w1.first k m e none).hist m (fun h => h.set i .estimated)).sendOut e).count 5).sweep k m cur r
      | (none, miss) => w.unavailable m i miss
    else w.sweep k m cur r

/-- R203: 0x4402 MeterSilent, once for each r. -/
def VeeWork.silent (w : VeeWork) (k : ClassCfg) (m cur : Nat) : VeeWork :=
  let h := w.1.histOf m
  match h.lastReal cur with
  | none => w
  | some r =>
    let top := cur - 1 - k.estDelay
    let missing := (List.range (min (top - r) 4096)).any (fun j => h.at (r + 1 + j) == .missing)
    if k.profMax = 0 ∨ top < r + k.profMax ∨ !missing ∨ h.silentFor = some r then w
    else
      let w1 := w.hist m (fun x => { x with silentFor := some r })
      (w1.1.emit 0x4402 veeCell m (leBytes 4 r ++ leBytes 2 k.profMax), w1.2)

/-- SWEEP_STEP: the VEE engine visits a meter, when Q40 is empty and the meter's history has been rebuilt. -/
def sweepStep (m : Nat) (s : State) : State :=
  match s.meter m with
  | none => s
  | some mr =>
    if s.hasPacket 40 ∨ !s.inService veeCell ∨ s.vee.toRebuild.contains m then s
    else
      let k := s.veeClass mr
      let cur := intervalOf s.utcNow k.len
      let h := s.histOf m
      match h.high with
      | some hi =>
        let lo := max ((h.firstReal.map (· + 1)).getD cur) (hi - 2047)
        let w := VeeWork.sweep (s, ⟨[], [], []⟩) k m cur ((List.range (min (cur - lo) 4200)).map (lo + ·))
        (w.silent k m cur).finish s
      | none => s

/-- SWEEP_STEP as a command. -/
def execSweepStep (meter : Nat) (s : State) : Res := s.whenRunning (sweepStep meter)

/-- HISTORY_REBUILD (R200, R456): the history of a meter is rebuilt in the background, from a read that goes through Q43. -/
def historyRebuild (m : Nat) (s : State) : State :=
  if s.inService veeCell ∧ s.storeReads ∧ s.vee.toRebuild.contains m then
    (match s.askStore 43 veeCell m 0 with
     | some s1 => s1.rebuildMeter m
     | none => s.backpressure 43)
  else s

/-- HISTORY_REBUILD as a command. -/
def execHistoryRebuild (meter : Nat) (s : State) : Res := s.whenRunning (historyRebuild meter)

/-! ### Edits (R206, R207) -/

/-- An edit as a packet of Q44; the layout is the model's (log entry 22). -/
def Edit.bytes (e : Edit) : Bytes :=
  leBytes 4 e.meter ++ leBytes 4 e.interval ++ [byte e.mask, byte e.outcome] ++ leBytes 4 e.editId ++ padTo 20 e.vals

/-- The edit that a packet holds. -/
def editOf (b : Bytes) : Edit :=
  { meter := fieldLE b 0 4, interval := fieldLE b 4 4, mask := fieldLE b 8 1, outcome := fieldLE b 9 1, editId := fieldLE b 10 4, vals := slice b 14 20 }

/-- R206: the checks of an edit, in their order. -/
def State.editCheck (s : State) : Nat :=
  match s.selected with
  | none => Abort.unknownMeter
  | some (m, mr) =>
    let i := s.cfgN 0x4420 1
    let h := s.histOf m
    let cur := intervalOf s.utcNow (s.veeClass mr).len
    if cur ≤ i ∨ (h.high.isSome ∧ !h.inWindow i) then Abort.valueRange
    else if s.cfgN 0x4420 2 % 16 = 0 then Abort.valueRange
    else if s.vee.edit.isSome then Abort.busy
    else if !s.inService veeCell then Abort.fenced else Abort.ok

/-- R206: a refused apply is told in 0x4420.8 and .9; BUSY leaves .8 as it is. -/
def State.editRefused (s : State) (code : Nat) : State :=
  { s with vee := { s.vee with editState := if code = Abort.busy then s.vee.editState else 3, editAbort := code } }

/-- EDIT_APPLY (R206). -/
def editApply (v : Nat) : State → State × Nat := one v (fun s0 =>
  let s := match s0.selected with | some (m, _) => s0.rebuildMeter m | none => s0
  let c := s.editCheck
  if c ≠ 0 then (s.editRefused c, c)
  else
    let e : Edit := { meter := (s.selected.map (·.1)).getD 0, interval := s.cfgN 0x4420 1, mask := s.cfgN 0x4420 2 % 16
                      vals := s.val 0x4420 3, outcome := s.cfgN 0x4420 4, editId := s.cfgN 0x4420 5 }
    match s.pushPacket 44 dictCell e.bytes with
    | none => (s.editRefused Abort.busy, Abort.busy)
    | some s1 => ({ s1 with vee := { s1.vee with editState := 1, edit := some e } }, Abort.ok))

/-- EDIT_APPLY as a command. -/
def execEditApply (role v : Nat) (s : State) : Res := s.command 0x4420 6 role .operator (editApply v)

/-- EDIT_APPLIED (R192, R206): with Q40 empty, the edit in Q44 is applied. -/
def editApplied (s : State) : State :=
  if s.hasPacket 40 ∨ !s.inService veeCell then s
  else match s.popPacket 44 with
    | none => s
    | some (s1, b, _) =>
      let e := editOf b
      let s2 := { s1 with vee := { s1.vee with edit := none } }
      match s2.meter e.meter with
      | none => { s2 with vee := { s2.vee with editState := 3, editAbort := Abort.unknownMeter } }
      | some mr =>
        if (s2.histOf e.meter).below e.interval then { s2 with vee := { s2.vee with editState := 3, editAbort := Abort.valueRange } }
        else
          let k := s2.veeClass mr
          let vals := (List.range 4).map (fun c => if bit e.mask c then fieldLE e.vals (5 * c) 5 else absentVal)
          let r := intervalRecord e.interval e.meter (recordFlags e.outcome 3 false) 0 (2 ^ 14) vals
          let w : VeeWork := (s2, ⟨[], [], []⟩)
          let old := w.current e.meter e.interval
          let w1 := (w.replace k e.meter r 4 e.editId none).hist e.meter (fun h => (h.raise e.interval).set e.interval .edited)
          let w2 := w1.count 8
          let w3 : VeeWork := ({ w2.1 with vee := { w2.1.vee with editState := 2 } }, w2.2)
          VeeWork.finish (w3.1.emit 0x4403 veeCell e.meter (leBytes 4 e.interval ++ leBytes 4 e.editId ++
            [byte ((old.map rMethod).getD 0xFF), byte e.outcome]), w3.2) s

/-- EDIT_APPLIED as a command. -/
def execEditApplied (s : State) : Res := s.whenRunning editApplied

/-- EDIT_RELEASE (R207). -/
def editRelease (v : Nat) : State → State × Nat := one v (fun s0 =>
  match s0.selected with
  | none => (s0, Abort.unknownMeter)
  | some (m, _) =>
    let s := s0.rebuildMeter m
    let i := s.cfgN 0x4420 1
    let h := s.histOf m
    if !s.inService veeCell then (s, Abort.fenced)
    else if !h.inWindow i then (s, Abort.valueRange)
    else if h.at i ≠ .edited then (s, Abort.valueInconsistent)
    else
      let r := intervalRecord i m (recordFlags 2 4 false) 0 (2 ^ 14) (List.replicate 4 absentVal)
      match ((s.putHist m (h.set i .missing)).pushPacket 41 veeCell r).bind (fun t => t.pushPacket 17 veeCell r) with
      | none => (s.backpressure 41, Abort.busy)
      | some s1 => (s1, Abort.ok))

/-- EDIT_RELEASE as a command. -/
def execEditRelease (role v : Nat) (s : State) : Res := s.command 0x4420 7 role .operator (editRelease v)

/-- R199: the VEE engine returns to service: 0x4405 tells of the bypass, from the fence to the return. -/
def State.veeReturned (s : State) : State :=
  ({ s with vee := { s.vee with bypassed := 0 } }).event 0x4405 veeCell
    (leBytes 4 (s.cellRec veeCell).retiredAt ++ leBytes 4 s.secs32 ++ leBytes 4 s.vee.bypassed)

end Sys2Proof.Machine
end

