-- ==== Sys2Proof/Machine/Flush.lean ====
section
/-!
DEFINITION. Saves to MRAM, the last gasp and the flush (R709 to R713), and the cold reset (R705).
-/
namespace Sys2Proof.Machine

/-- The cell of power and reset events that name no time unit (R716). -/
def powerCell : Nat := 0xE100

/-! ### Saves (R709) -/

/-- R709: energy registers, TD0 time and the differences of the other domains are written. -/
def State.saveTimes (s : State) : State :=
  let t := s.td0
  { s with
    senseNv := { s.senseNv with saved := s.sense.energy }
    time := { s.time with savedTd0 := t, savedDiffs := (List.range 8).map (fun k => if k = 0 then none else some (s.td k - t)) }
    power := { s.power with lastSaveAt := s.now } }

/-- PERIODIC_SAVE (R709): every 60 s. -/
def periodicSave (s : State) : State := if s.now < s.power.lastSaveAt + cSec 60 then s else s.saveTimes

/-- PERIODIC_SAVE as a command. -/
def execPeriodicSave (s : State) : Res := s.whenRunning periodicSave

/-! ### The last gasp -/

/-- Whole packets in a queue. -/
def State.packetCount (s : State) (q : Nat) : Nat := ((at' s.queue.queues q).cells.filter (·.last)).length

/-- R710 steps 1 to 4: PowerState is LAST_GASP, PowerFail is raised with its trigger, ingest stops (the gates of the links), and energy
registers, times and the anchor are written. -/
def State.gaspStart (s : State) (trigger : Nat) : State :=
  let s1 := { s with power := { s.power with phase := .lastGasp, gaspAt := s.now, gaspStep := 4, pfailLow := trigger == 1 } }
  let s2 := s1.event 0x6801 powerCell ([byte trigger, 0, 0, 0] ++ leBytes 4 (s1.packetCount 40 + s1.packetCount 41))
  let s3 := s2.saveTimes
  if s3.syncOf 0 then s3.takeAnchor else s3

/-- LAST_GASP (R692, R710): PFAIL_N falls; a freeze is released first. -/
def lastGasp (s : State) : State :=
  if s.power.phase ≠ .run then s
  else
    let s1 := if s.health.frozen then s.thaw else s
    s1.gaspStart 1

/-- LAST_GASP as a command. -/
def execLastGasp (s : State) : Res := .next (lastGasp s)

/-- R710 steps 6 to 8; the last `late` records of Q41 were committed after step 6 and are not durable. -/
def State.gaspEnd (s : State) (late : Nat) : State :=
  let s1 := s.storeGasp true late
  { s1 with
    upNv := { s1.upNv with cum := s1.up.exp.cum }
    power := { s1.power with phase := .flushed, gaspStep := 8 }
    powerNv := { s1.powerNv with lastGaspResult := 1 } }

/-! ### The flush (R713) -/

/-- One round of a lane: every item takes its next stage. -/
def State.laneRound (s : State) (l : Nat) : State :=
  let ids := (s.laneOf l).items.map (·.ident) ++ (s.laneOf l).done.map (·.ident)
  let s1 := fetchItem l (generationNotice l s)
  ids.foldl (fun st i =>
    exportEnqueue l i (recordAndAcknowledge l i (commitOrSquash l i (verify l i (balanceItem l i (estimateItem l i (validateItem l i
      (decodeItem l i (decrypt l i (derive l i (identify l i st))))))))))) s1

/-- R713: rounds in which the lanes commit the frames already queued, VEE takes their records, and event records are exported. -/
def State.flushRounds : Nat → State → State
  | 0, s => s
  | n + 1, s =>
    let s1 := (List.range 4).foldl State.laneRound (dispatch s)
    let s2 := exportRecordTake (veeRecord (veeRecord (veeRecord s1)))
    s2.flushRounds n

/-- How many rounds empty the queues. -/
def State.flushFuel (s : State) : Nat :=
  16 + 4 * ((List.range 64).map s.packetCount).foldl (· + ·) 0 + 16 * (s.lane.lanes.map (fun x => x.input.length + x.items.length)).foldl (· + ·) 0

/-- R713: the last gasp's steps 1 to 6, with no ingest and only event records sent. -/
def State.flush (s : State) (trigger : Nat) : State :=
  let s1 := s.gaspStart trigger
  let s2 := { s1 with cfg := { s1.cfg with active := insertKey (objKey 0x6802 2) [0] s1.cfg.active } }
  let s3 := (s2.flushRounds s2.flushFuel).storeGasp true 0
  { s3 with cfg := { s3.cfg with active := s.cfg.active } }

/-! ### The cold reset -/

/-- R705, R707 step 3 and step 6: what is volatile takes its value at reset; `cause` is as 0x6800.2 codes it. The times of automatic
restarts are kept (R680), as backup counts. -/
def State.coldReset (s : State) (cause : Nat) : State :=
  { s with
    cfg := { initCfg with copies := s.cfg.copies, active := s.vaultNv.settings }
    dict := initDict (s.dict.roles.map (fun r => (r.floor, r.notifyFloor)))
    queue := initQueues
    time := initTime s.time.backup s.time.backupPart s.time.anchorTime s.time.anchorCount s.time.anchorValid s.time.savedTd0 s.time.savedDiffs
    health := { initHealth with restarts := s.health.restarts }
    fabric := initFabric
    isl := initIslands
    power := initPower cause
    powerNv := { s.powerNv with resetCause := cause }
    vault := initVault
    mtr := initMeters
    net := { s.net with mc := s.net.mcFloor, join := s.net.joinFloor }
    dist := initDist
    lane := initLanes
    vee := initVee
    bal := initBal
    sense := initSense s.senseNv.saved
    plc := initPlc
    radio := initRadio
    store := initStore
    up := initUplink s.upNv
    fw := initUpdate
    casc := initCasc }

/-- LAST_GASP_STOP (R710, R711): 180 ms after PFAIL_N fell; where PFAIL_N has risen meanwhile, the cold reset follows step 8. -/
def lastGaspStop (late : Nat) (s : State) : State :=
  if s.power.phase ≠ .lastGasp ∨ s.now < s.power.gaspAt + cMs 180 then s
  else
    let s1 := s.gaspEnd late
    if s1.power.pfailLow then s1 else s1.coldReset 3

/-- LAST_GASP_STOP as a command. -/
def execLastGaspStop (late : Nat) (s : State) : Res := .next (lastGaspStop late s)

/-- R705: a restart: the flush, then the cold reset. -/
def State.restart (s : State) (cause : Nat) : State :=
  let s1 := if s.power.phase = .run then s.flush 2 else s
  { s1.coldReset cause with powerNv := { s1.powerNv with resetCause := cause, lastGaspResult := 0 } }

/-- DEVICE_RESTART (R713, R715). -/
def deviceRestart (v : Nat) (s : State) : State × Nat :=
  if v ≠ 1 then (s, Abort.valueRange)
  else if s.power.phase = .lastGasp then (s, Abort.busy)
  else (s.restart 4, Abort.ok)

/-- DEVICE_RESTART as a command. -/
def execDeviceRestart (role v : Nat) (s : State) : Res := s.command 0x6810 0 role .operator (deviceRestart v)

/-- R680: the flush and restart of a device in DEVICE_FAULT, unless AutoRestart is 0 or 3 such restarts came within 3,600 s. -/
def State.autoRestart (s : State) : State :=
  let recent := s.health.restarts.filter (fun t => decide (s.time.backup < t + 3600 * 32768))
  if s.cfgN 0x6401 1 = 0 ∨ 3 ≤ recent.length then s
  else
    let s1 := s.restart 8
    { s1 with health := { s1.health with restarts := recent ++ [s.time.backup] } }

/-- R680: a permanent error in a critical unit. -/
def State.deviceFaulted (s : State) (cell code : Nat) : State :=
  if s.health.deviceFault then s
  else
    let recent := s.health.restarts.filter (fun t => decide (s.time.backup < t + 3600 * 32768))
    let s1 := { s with health := { s.health with deviceFault := true } }
    (s1.event 0x6405 cell (leBytes 2 cell ++ leBytes 2 code ++ [byte recent.length])).autoRestart

end Sys2Proof.Machine
end

