-- ==== Sys2Proof/Machine/Tamper.lean ====
section
/-!
DEFINITION. Tamper responses (R571 to R576), life-cycle transitions (R580 to R584), and the debug authorisation that ends in one
(R588).
-/
namespace Sys2Proof.Machine

/-! ### Zeroise and Erase (R572, R574, R575) -/

/-- R574: a pending import is caught: it reports TAMPER, unless its record write has begun. -/
def State.abortImport (s : State) : State :=
  match s.vault.pending with
  | none => s
  | some _ => s.importResult 3 0 Abort.tamper

/-- R572: a live slot that is cleared; slots 0 and 1 stay FIXED (R554). -/
def clearedSlot (i : Nat) : KeySlot := if i < 2 then { emptySlot with policy := 2 ^ 15 } else emptySlot

/-- R572: working registers and live slots are cleared; `all` takes the SURVIVE_ZEROISE slots too. The NAND engine keeps its key through
a last gasp (R712). -/
def State.clearKeys (s : State) (all : Bool) : State :=
  let keep := fun (i : Nat) => s.power.phase == .lastGasp && i == Consumer.nandXts.index
  { s with vault := { s.vault with
      regs := s.vault.regs.mapIdx (fun i r => if keep i then r else { r with key := [] })
      slots := s.vault.slots.mapIdx (fun i k => if !all && polSurvive k.policy then k else clearedSlot i)
      attestAsked := none
      dataKey := if s.power.phase = .lastGasp then s.vault.dataKey else [] } }

/-- R575: lockdown begins; a Zeroise response sets ZEROISE_OWED (R576), an Erase does not. -/
def State.enterLockdown (s : State) (source response : Nat) : State :=
  let s1 := { s with
    vault := { s.vault with lockdown := true }
    vaultNv := { s.vaultNv with
      battery := { s.vaultNv.battery with zeroiseOwed := s.vaultNv.battery.zeroiseOwed || response == 2 }, wasLockdown := true
      lockdownSince := if s.vaultNv.wasLockdown then s.vaultNv.lockdownSince else s.td0 } }
  s1.event 0x5802 (tamperCell source) [byte source, byte response]

/-- R572: the Zeroise response. -/
def State.zeroise (s : State) (source response : Nat) : State :=
  let s1 := (s.abortImport.clearKeys false).enterLockdown source response
  if s1.power.phase = .lastGasp then s1 else s1.storeOffline 2

/-- R559: the bank with a record of slot 1 alone, under a label. -/
def bankOfSlot1 (seq : Nat) (m : Bytes) (lcs : Nat) (k : KeySlot) : Bank :=
  let b : Bank := { written := true, labelM := m, labelLcs := lcs, seq := seq, records := [], keyId := 0, storeKey := [] }
  bankPut 1 k b

/-- R559: the sequence of the next bank written. -/
def State.nextBankSeq (s : State) : Nat := (s.vaultNv.banks.map (·.seq)).foldl max 0 + 1

/-- R572, R581: the Erase response's part in the vault region: both banks are replaced by one that holds slot 1, sealed to LOCKED, and a LOCK
fuse is blown unless the device is LOCKED or 8 are blown; a device that is LOCKED already makes no transition. `k` is slot 1 as it was. -/
def State.eraseBanks (s : State) (k : KeySlot) : State :=
  let f := s.vaultNv.fuses
  let was := s.lcs
  let f1 := if was = .locked ∨ 8 ≤ f.lock then f else { f with lock := f.lock + 1 }
  let b := bankOfSlot1 s.nextBankSeq s.vault.measurement 4 k
  { s with vaultNv := { s.vaultNv with
      banks := [b, initBank], fuses := f1
      battery := { s.vaultNv.battery with eraseOwed := false }
      intent := if was = .locked then none
                else some { source := was.code, target := 4, cause := 1, startedAt := s.now, bankDone := true, fusesDone := true } } }

/-- R580, R591: the data of 0x5808. -/
def State.lifeEvent (s : State) (old new cause : Nat) : State :=
  s.event 0x5808 0xA300 [byte old, byte new, byte cause, byte (s.vaultNv.fuses.ownerField.getD 0xFF)]

/-- R583 step 4: 0x5808 as the vault log takes it before the restart; it is raised at the cast-on that follows. -/
def State.lifeLogged (s : State) (old new cause : Nat) : State :=
  s.vaultLogTake ⟨s.td0, 0x5808, 0xA300, noMeter, [byte old, byte new, byte cause, byte (s.vaultNv.fuses.ownerField.getD 0xFF)]⟩

/-- R572: the Erase response while running: as Zeroise, with every slot; then the banks and the fuse, and the restart into LOCKED. -/
def State.eraseAll (s : State) (source : Nat) : State :=
  let k := s.slot 1
  let old := s.lcs.code
  let s1 := (s.abortImport.clearKeys true).enterLockdown source 3
  let s2 := s1.eraseBanks k
  (if s.lcs = .locked then s2 else s2.lifeLogged old 4 1).restart 5

/-! ### Firing (R571, R573) -/

/-- R591: the firing of a source is recorded, with its cause. -/
def State.noteFiring (s : State) (source response cause count : Nat) : State :=
  let s1 := { s with vault := { s.vault with sticky := setBit s.vault.sticky source } }
  (s1.vaultCount 6 1).event 0x5801 (tamperCell source) ([byte source, byte response, byte cause, 0] ++ leBytes 6 count)

/-- R550, R579: a firing in Hold: the Hold log takes it, and what it owes is set. -/
def State.holdFire (s : State) (source response : Nat) : State :=
  let b := s.vaultNv.battery
  let b1 := if b.log.length < 16 then { b with log := b.log ++ [⟨source, s.time.backup⟩] } else { b with overflow := b.overflow + 1 }
  { s with vaultNv := { s.vaultNv with battery :=
      { b1 with zeroiseOwed := b1.zeroiseOwed || response == 2, eraseOwed := b1.eraseOwed || response == 3 } } }

/-- Whether the key engine runs, so that a response is applied at once. -/
def State.vaultRuns (s : State) : Bool :=
  match s.power.phase with
  | .run | .lastGasp | .flushed | .stopped => true
  | _ => false

/-- R571 to R573: a qualified source fires once until it rearms; one whose response is Off is not sampled. -/
def State.tamperFire (s : State) (source : Nat) : State :=
  let r := s.tamperResponse source
  if r = 0 ∨ !(at' s.vaultNv.sources source).armed then s
  else
    let s1 := { s with vaultNv := { s.vaultNv with
      sources := upd s.vaultNv.sources source (fun t => { t with active := true, armed := false }) } }
    if !s1.vaultRuns then s1.holdFire source r
    else
      let s2 := s1.noteFiring source r 0 s1.time.backup
      match r with
      | 1 => s2
      | 2 => s2.zeroise source r
      | _ => s2.eraseAll source

/-- TAMPER_DETECTED (R571 to R573): a source other than the mesh and VBAT loss has qualified. -/
def tamperDetected (source : Nat) (s : State) : State := if source < 2 ∨ source = 11 then s else s.tamperFire source

/-- TAMPER_DETECTED as a command: the battery island runs in every state. -/
def execTamperDetected (source : Fin 12) (s : State) : Res := .next (tamperDetected source s)

/-- MESH_SAMPLE (R571): one sample of pair `p`; the pair fires on the second disagreement in a row. -/
def State.meshPair (s : State) (p : Nat) (disagrees : Bool) : State :=
  if s.tamperResponse p = 0 then s
  else
    let n := if disagrees then (at' s.vaultNv.sources p).misses + 1 else 0
    let s1 := { s with vaultNv := { s.vaultNv with sources := upd s.vaultNv.sources p (fun t => { t with misses := n }) } }
    if 2 ≤ n then s1.tamperFire p else s1

/-- MESH_SAMPLE as a command: whether the sense balls of each pair disagree with their drives. -/
def execMeshSample (first second : Bool) (s : State) : Res := .next ((s.meshPair 0 first).meshPair 1 second)

/-- LOCKDOWN_RELEASE (R575, R576): ZEROISE_OWED is cleared just before the restart. -/
def lockdownRelease (v : Nat) (s : State) : State × Nat :=
  if v ≠ 1 then (s, Abort.valueRange)
  else if s.power.phase = .lastGasp then (s, Abort.busy)
  else (({ s with vaultNv := { s.vaultNv with battery := { s.vaultNv.battery with zeroiseOwed := false } } }).restart 5, Abort.ok)

/-- LOCKDOWN_RELEASE as a command. -/
def execLockdownRelease (role v : Nat) (s : State) : Res := s.command 0x5833 0 role .keyholder (lockdownRelease v)

/-! ### Life-cycle transitions (R580 to R583) -/

/-- R583: the fuses of a transition to a target state. -/
def Fuses.advance (f : Fuses) (target : Nat) (owner : Bytes) : Fuses :=
  match target with
  | 1 => { f with stage := f.stage + 1, owners := f.owners.set (f.stage / 3) owner }
  | 2 => { f with stage := f.stage + 1 }
  | 3 =>
    if f.unlock < f.lock then { f with stage := max 3 ((f.stage + 2) / 3 * 3), unlock := f.unlock + 1 }
    else { f with stage := (f.stage + 2) / 3 * 3 }
  | _ => { f with lock := f.lock + 1 }

/-- R583 step 2, R585: the spare bank, sealed to the new state, with the slots that survive and no data key. -/
def State.spareBank (s : State) (target : Nat) : State :=
  let lcs := target
  let b : Bank := { written := true, labelM := s.vault.measurement, labelLcs := lcs, seq := s.nextBankSeq, records := []
                    keyId := 0, storeKey := [] }
  let slots := if target = 1 ∨ target = 2 then (List.range 31).map (· + 1) else [1]
  let full := slots.foldl (fun acc i => bankPut i (s.slot i) acc) b
  { s with vaultNv := { s.vaultNv with
      banks := s.vaultNv.banks.set (1 - s.vault.bankInUse) full, intent := s.vaultNv.intent.map (fun i => { i with bankDone := true }) } }

/-- R583 step 1: a transition accepted. -/
def State.startTransition (s : State) (target cause : Nat) : State :=
  { s with
    vaultNv := { s.vaultNv with intent := some { source := s.lcs.code, target := target, cause := cause, startedAt := s.now, bankDone := false, fusesDone := false } }
    vault := { s.vault with lifeStatus := 1, lifeAbort := 0 } }

/-- R582: the owner key hash that the bundle on its way brings. -/
def State.bundleOwner (s : State) : Bytes := sha384 (slice s.vaultNv.bundle 4 97)

/-- R583 steps 2 to 4, as time passes: the spare bank by 50 ms, the fuses by 60 ms, and by 70 ms 0x5808 and the restart (log entry 41). -/
def State.transitionTick (s : State) : State :=
  match s.vaultNv.intent with
  | none => s
  | some i =>
    if s.vault.lifeStatus ≠ 1 then s
    else if !i.bankDone ∧ i.startedAt + cMs 50 ≤ s.now then s.spareBank i.target
    else if i.bankDone ∧ !i.fusesDone ∧ i.startedAt + cMs 60 ≤ s.now then
      { s with vaultNv := { s.vaultNv with
          fuses := s.vaultNv.fuses.advance i.target s.bundleOwner, intent := some { i with fusesDone := true } } }
    else if i.fusesDone ∧ i.startedAt + cMs 70 ≤ s.now then (s.lifeLogged i.source i.target i.cause).restart 5
    else s

/-- A refusal of 0x5840, kept in .6, and in .5 unless a transition is in progress. -/
def State.lifeRefused (s : State) (code : Nat) : State × Nat :=
  ({ s with vault := { s.vault with lifeStatus := if s.vault.lifeStatus = 1 then 1 else 2, lifeAbort := code } }, code)

/-- R561, R583: why no transition can start now: one is under way, or both banks are in use. -/
def State.lifeBusy (s : State) : Bool := s.vault.lifeStatus == 1 || s.vault.bothBanks

/-- R582: the entries of a bundle, from offset 108. -/
def bundleEntries : Nat → Bytes → List Bytes
  | 0, _ => []
  | n + 1, b => let len := fieldLE b 0 2; slice b 4 len :: bundleEntries n (b.drop (4 + len))

/-- R582: one entry of a bundle installed in a slot, if its blob passes the checks of R567; the slot is added to those filled. -/
def installBlob (acc : Option (State × List Nat)) (blob : Bytes) : Option (State × List Nat) :=
  match acc with
  | none => none
  | some (s, filled) =>
    if fieldLE blob 2 1 ≠ 0 ∨ s.importCheck blob ≠ 0 then none
    else
      match s.importKey blob with
      | none => none
      | some key =>
        let slot := s.importSlot blob
        let p := importedPolicy (s.slot slot).policy (fieldLE blob 8 8) 0 0
        some (s.fillSlot slot p key, filled ++ [slot])

/-- R582: all entries of a bundle installed. -/
def State.installBundle (s : State) (b : Bytes) : Option (State × List Nat) :=
  (bundleEntries (fieldLE b 1 1) (b.drop 108)).foldl installBlob (some (s, []))

/-- R582: whether a bundle for a STAGE count is good. -/
def State.bundleOk (s : State) (b : Bytes) (stage : Nat) : Bool :=
  let body := b.take (b.length - 96)
  let roles := [104, 105, 106, 107].map (fun o => fieldLE b o 1)
  decide (204 ≤ b.length ∧ fieldLE b 0 1 = 1 ∧ 1 ≤ fieldLE b 1 1 ∧ fieldLE b 1 1 ≤ 8 ∧ fieldLE b 2 2 = 0 ∧ fieldLE b 101 3 = 0) &&
  decide (108 + ((bundleEntries (fieldLE b 1 1) (b.drop 108)).map (fun e => 4 + e.length)).foldl (· + ·) 0 + 96 = b.length) &&
  ecdsaVerify (slice b 4 97) (euiBytes ++ [byte stage] ++ body) (b.drop (b.length - 96)) &&
  (match s.installBundle b with
   | none => false
   | some (_, filled) => decide (roles.getD 2 0xFF ≠ 0xFF) && roles.all (fun r => r == 0xFF || filled.contains r))

/-- PROVISION (R581 to R583). -/
def provision (b : Bytes) (s : State) : State × Nat :=
  let f := s.vaultNv.fuses
  if s.lcs ≠ .blank ∧ s.lcs ≠ .returned ∨ 12 ≤ f.stage then s.lifeRefused Abort.notInState
  else if s.lifeBusy then s.lifeRefused Abort.busy
  else if !s.bundleOk b (f.stage + 1) then s.lifeRefused Abort.valueInconsistent
  else (({ s with vaultNv := { s.vaultNv with bundle := b } }).startTransition 1 0, Abort.ok)

/-- PROVISION as a command. -/
def execProvision (role : Nat) (bundle : Bytes) (s : State) : Res := s.command 0x5840 1 role .vendor (provision bundle)

/-- R581: a transition that takes the device EUI as its value. -/
def State.euiTransition (s : State) (eui target : Nat) (from' : List LifeCycle) : State × Nat :=
  if !from'.contains s.lcs then s.lifeRefused Abort.notInState
  else if eui ≠ Config.deviceEui then s.lifeRefused Abort.valueInconsistent
  else if s.lifeBusy then s.lifeRefused Abort.busy
  else (s.startTransition target 0, Abort.ok)

/-- DEPLOY (R581). -/
def deploy (eui : Nat) (s : State) : State × Nat := s.euiTransition eui 2 [.provisioned]

/-- DEPLOY as a command. -/
def execDeploy (role eui : Nat) (s : State) : Res := s.command 0x5840 2 role .keyholder (deploy eui)

/-- RETURN (R581). -/
def returnToFactory (eui : Nat) (s : State) : State × Nat := s.euiTransition eui 3 [.provisioned, .deployed]

/-- RETURN as a command. -/
def execReturn (role eui : Nat) (s : State) : Res := s.command 0x5840 3 role .keyholder (returnToFactory eui)

/-- LOCK (R581). -/
def lockDevice (eui : Nat) (s : State) : State × Nat := s.euiTransition eui 4 [.provisioned, .deployed]

/-- LOCK as a command. -/
def execLock (role eui : Nat) (s : State) : Res := s.command 0x5840 4 role .keyholder (lockDevice eui)

/-! ### Debug authorisation (R581, R588) -/

/-- R581: a LOCKED device goes to RETURNED when the vendor key grants RETURN, unless 8 LOCK fuses are blown. -/
def State.debugReturn (s : State) : State :=
  if s.lcs = .locked ∧ s.vaultNv.fuses.lock < 8 ∧ !s.lifeBusy then s.startTransition 3 2 else s

/-- DEBUG_AUTHORISED (R586, R588): the signature check completes and grants or refuses the session. -/
def debugAuthorised (s : State) : State :=
  let d := s.vault.dbg
  if !d.busy then s
  else
    let sel := fieldLE d.response 0 1
    let scope := fieldLE d.response 1 1
    if scope < 16 ∧ s.responseAuthentic ∧ s.debugAllowed sel scope then
      let s1 := ({ s with vault := { s.vault with dbg := { d with busy := false, state := 2, scope := scope } } }).event 0x580C 0xA300
        [byte sel, byte scope]
      if bit scope 3 then s1.debugReturn else s1
    else
      let n := min 3 (d.failures + 1)
      let s1 := { s with vault := { s.vault with dbg := { d with busy := false, state := 3, scope := 0, failures := n } } }
      if n = 3 then s1.event 0x580D 0xA300 [byte n, byte sel] else s1

/-- DEBUG_AUTHORISED as a command. -/
def execDebugAuthorised (s : State) : Res := s.whenPowered debugAuthorised

end Sys2Proof.Machine
end

