-- ==== Sys2Proof/Machine/Update.lean ====
section
/-!
DEFINITION. The service port, staging of images, handover up to its forward seal, probation and reversion (chapter 18). BIND_OFF and
HANDOVER_ABANDONED, which run held requests, are in Handover.lean.
-/
namespace Sys2Proof.Machine

/-- The cells of the service port and of the update manager. -/
def servicePort : Nat := 0x8200
def updateCell : Nat := 0x8300

/-- R617: whether the device is in recovery. -/
def State.inRecovery (s : State) : Bool := s.fw.recovery.isSome

/-- Whether the service port runs (R596, R617, R679, R680, R690). -/
def State.portRuns (s : State) : Bool := !s.health.frozen && (s.live || s.inRecovery) && s.inService servicePort

/-- A step of the service port. -/
def State.whenPort (s : State) (f : State → State) : Res := .next (if s.portRuns then f s else s)

/-- The update unit changed. -/
def State.updFw (s : State) (f : UpdateState → UpdateState) : State := { s with fw := f s.fw }

/-- The port changed. -/
def State.updPortal (s : State) (f : ServicePort → ServicePort) : State := s.updFw (fun u => { u with port := f u.port })

/-- One more on count `i` (from 1) of 0x5C30. -/
def State.fwCount (s : State) (i : Nat) : State := s.updFw (fun u => { u with counters := upd u.counters (i - 1) (· + 1) })

/-! ### Frames (R593 to R596) -/

/-- R593: a frame of a type with its payload. -/
def portFrame (typ : Nat) (payload : Bytes) : Bytes :=
  let b := [0xA5] ++ leBytes 2 payload.length ++ [byte typ] ++ payload
  b ++ leBytes 4 (crc32 b)

/-- R593: the type and payload of a frame. -/
def portType (f : Bytes) : Nat := fieldLE f 3 1
def portPayload (f : Bytes) : Bytes := slice f 4 (fieldLE f 1 2)

/-- R593: the types. -/
def portTypes : List Nat := [0x01, 0x10, 0x11, 0x12, 0x20]

/-- R594: why a frame written is discarded: 8 no buffer, 9 malformed, 7 its CRC; 0 when it is taken. -/
def State.writeFault (s : State) (f : Bytes) : Nat :=
  let n := fieldLE f 1 2
  if 4 ≤ s.fw.port.inputs.length then 8
  else if fieldLE f 0 1 ≠ 0xA5 ∨ 1080 < n ∨ !portTypes.contains (portType f) ∨ f.length < n + 8 then 9
  else if fieldLE f (4 + n) 4 ≠ crc32 (f.take (4 + n)) then 7
  else 0

/-- R620: 0x5C08, at most once per second, with the errors since the last one. -/
def State.portError (s : State) (kind : Nat) : State :=
  let p := s.fw.port
  let e := upd p.errors kind (· + 1)
  let at16 := fun k => leBytes 2 (min maxU16 (e.getD k 0))
  if s.perSecond p.errorAt then
    (s.updPortal (fun x => { x with errors := noCounts 4, errorAt := some s.now })).event 0x5C08 servicePort (at16 0 ++ at16 1 ++ at16 2)
  else s.updPortal (fun x => { x with errors := e })

/-- SERVICE_WRITE (R592 to R594): the bytes of one WRITE transaction after its opcode. In recovery DICT frames are discarded (R617). -/
def serviceWrite (f : Bytes) (s : State) : State :=
  match s.writeFault f with
  | 0 =>
    if s.inRecovery ∧ portType f = 1 then s
    else s.updPortal (fun p => { p with inputs := p.inputs ++ [f.take (fieldLE f 1 2 + 8)] })
  | 7 => ((s.fwCount 7).updPortal (fun p => { p with crcErr := true })).portError 0
  | 8 => ((s.fwCount 8).updPortal (fun p => { p with overflow := true })).portError 1
  | _ => (s.fwCount 9).portError 2

/-- SERVICE_WRITE as a command. -/
def execServiceWrite (frame : Bytes) (s : State) : Res := s.whenPort (serviceWrite frame)

/-- SERVICE_READ (R592, R595): READ of `clocked` bytes after the dummy bytes: the oldest output frame, which leaves only when its last byte
has been clocked out. -/
def serviceRead (clocked : Nat) (s : State) : State :=
  match s.fw.port.outputs with
  | [] => s.put (.svc (zeros (min clocked 3)))
  | f :: r =>
    let s1 := s.put (.svc (f.take clocked))
    if f.length ≤ clocked then s1.updPortal (fun p => { p with outputs := r }) else s1

/-- SERVICE_READ as a command. -/
def execServiceRead (clocked : Nat) (s : State) : Res := s.whenPort (serviceRead clocked)

/-- R594: the flags byte. -/
def State.portFlags (s : State) : Nat :=
  let p := s.fw.port
  b2n (decide (p.inputs.length < 4)) + 2 * b2n (p.outputs != []) + 4 * b2n p.crcErr + 8 * b2n p.overflow + 16 * b2n s.inRecovery +
    32 * b2n s.vault.lockdown

/-- FLAGS (R594): the flags byte leaves, and its sticky bits are cleared. -/
def flagsRead (s : State) : State :=
  (s.put (.svc [byte s.portFlags])).updPortal (fun p => { p with crcErr := false, overflow := false })

/-- FLAGS as a command. -/
def execFlags (s : State) : Res := s.whenPort flagsRead

/-- R595: the oldest input frame, if it is of the type and the outputs have room. -/
def State.takeInput (s : State) (typ : Nat) : Option (State × Bytes) :=
  match s.fw.port.inputs with
  | [] => none
  | f :: r =>
    if portType f = typ ∧ s.fw.port.outputs.length < 16 then some (s.updPortal (fun p => { p with inputs := r }), portPayload f) else none

/-- A frame for the host. -/
def State.portOut (s : State) (typ : Nat) (payload : Bytes) : State :=
  s.updPortal (fun p => { p with outputs := p.outputs ++ [portFrame typ payload] })

/-- 0x5801.1 VaultStatus. -/
def State.vaultStatus (s : State) : Nat :=
  if s.lcs = .locked then 3 else if s.vault.lockdown then 1 else if s.vault.unsealFail ≠ 0 then 2 else 0

/-- The image slots. -/
def State.fwSlot (s : State) (i : Nat) : FwSlot := at' s.fwNv.slots i
def State.idleSlot (s : State) : Nat := 1 - s.fwNv.active

/-- R596: the VERSION of the staged image, or 0. -/
def State.stagedVersion (s : State) : Nat := if s.fwNv.staged then (s.fwSlot s.idleSlot).version else 0

/-- R596: the payload of a STATUS frame. -/
def State.statusPayload (s : State) : Bytes :=
  [byte s.fw.state, byte s.lcs.code, byte s.vaultStatus, byte s.fw.lastType] ++ leBytes 4 s.fw.result ++ leBytes 4 s.fw.next ++
    leBytes 4 (s.fwSlot s.fwNv.active).version ++ leBytes 4 s.stagedVersion ++ [byte s.fwNv.active, 0, 0, 0] ++ leBytes 8 Config.deviceEui

/-- A STATUS frame made. -/
def State.sendStatus (s : State) : State := s.portOut 0x20 s.statusPayload

/-- R596: an image frame has been handled, with its RESULT. -/
def State.frameDone (s : State) (typ code : Nat) : State :=
  (s.updFw (fun u => { u with lastType := typ, result := code, abort := code })).sendStatus

/-- STATUS (R596). -/
def statusFrame (s : State) : State :=
  match s.takeInput 0x20 with
  | none => s
  | some (s1, _) => s1.sendStatus

/-- STATUS as a command. -/
def execStatus (s : State) : Res := s.whenPort statusFrame

/-! ### Staging (R597 to R604) -/

/-- IMAGE_BEGIN (R601, R679). -/
def imageBegin (s : State) : State :=
  match s.takeInput 0x10 with
  | none => s
  | some (s1, p) =>
    let total := leNat p
    if !s1.inService updateCell then s1.frameDone 0x10 Abort.fenced
    else if p.length ≠ 4 then s1.frameDone 0x10 Abort.typeLength
    else if 3 ≤ s1.fw.state ∧ s1.fw.state ≤ 5 then s1.frameDone 0x10 Abort.busy
    else if total = 0 ∨ 4194304 < total then s1.frameDone 0x10 Abort.blockTooLarge
    else
      let s2 := { s1 with fwNv := { s1.fwNv with slots := s1.fwNv.slots.set s1.idleSlot emptyFw, staged := false } }
      (s2.updFw (fun u => { u with state := 1, total := total, next := 0, opened := true, hoVersion := 0 })).frameDone 0x10 0

/-- IMAGE_BEGIN as a command. -/
def execImageBegin (s : State) : Res := s.whenPort imageBegin

/-- IMAGE_DATA (R601). -/
def imageData (s : State) : State :=
  match s.takeInput 0x11 with
  | none => s
  | some (s1, p) =>
    let data := p.drop 4
    if !s1.inService updateCell then s1.frameDone 0x11 Abort.fenced
    else if p.length < 5 ∨ 1028 < p.length then s1.frameDone 0x11 Abort.typeLength
    else if !s1.fw.opened ∨ fieldLE p 0 4 ≠ s1.fw.next then s1.frameDone 0x11 Abort.blockSequence
    else if s1.fw.total < fieldLE p 0 4 + data.length then s1.frameDone 0x11 Abort.blockTooLarge
    else
      let s2 := { s1 with fwNv := { s1.fwNv with
        slots := upd s1.fwNv.slots s1.idleSlot (fun x => { x with image := x.image ++ data }) } }
      (s2.updFw (fun u => { u with next := u.next + data.length })).frameDone 0x11 0

/-- IMAGE_DATA as a command. -/
def execImageData (s : State) : Res := s.whenPort imageData

def labelImg : Bytes := [0x4F, 0x43, 0x54, 0x49, 0x4D, 0x47]
def labelBoot : Bytes := [0x4F, 0x43, 0x54, 0x42, 0x4F, 0x4F, 0x54]

/-- R597: fields of an image. -/
def imgOwner (b : Bytes) : Bool := bit (fieldLE b 5 1) 0
def imgWrap (b : Bytes) : Nat := b2n (bit (fieldLE b 5 1) 1)
def imgHead (b : Bytes) : Nat := 196 + 4 * fieldLE b 6 1
def imgVersion (b : Bytes) : Nat := fieldLE b 8 4
def imgFloor (b : Bytes) : Nat := fieldLE b 12 4
def imgTarget (b : Bytes) : Nat := fieldLE b 16 8
def imgLen (b : Bytes) : Nat := fieldLE b 32 4

/-- R598: the signed body, and the vendor and owner blocks (R599). -/
def imgBody (b : Bytes) : Bytes := b.take (imgHead b + imgLen b + 16)
def imgVendor (b : Bytes) : Bytes := slice b (imgHead b + imgLen b + 16) 196
def imgOwnerBlock (b : Bytes) : Bytes := slice b (imgHead b + imgLen b + 212) 196

/-- R597: the schema entries. -/
def imgSchemas (b : Bytes) : List (Nat × Nat) :=
  (List.range (fieldLE b 6 1)).map (fun i => (fieldLE b (196 + 4 * i) 2, fieldLE b (198 + 4 * i) 2))

/-- R602 check 2: whether the header is well formed and agrees with TOTAL. -/
def imgFormOk (b : Bytes) : Bool :=
  let zero := fun (o n : Nat) => fieldLE b o n == 0
  decide (b.length ≤ 4194304 ∧ 196 ≤ b.length) && fieldLE b 0 4 == leNat [0x4F, 0x43, 0x54, 0x46] && fieldLE b 4 1 == 1 &&
    decide (fieldLE b 5 1 < 4) && decide (1 ≤ fieldLE b 6 1 ∧ fieldLE b 6 1 ≤ 20) && zero 7 1 && zero 51 1 && zero 149 3 && zero 192 4 &&
    decide (1 ≤ imgLen b ∧ imgLen b ≤ 1048576) && (if imgWrap b = 1 then zero 52 97 else zero 48 3) &&
    b.length == imgHead b + imgLen b + 16 + 196 + 196 * b2n (imgOwner b) && fieldLE (imgVendor b) 97 3 == 0 &&
    (!imgOwner b || fieldLE (imgOwnerBlock b) 97 3 == 0)

/-- R602 check 3. -/
def imgTargetOk (b : Bytes) : Bool :=
  slice b 24 4 == [0x42, 0x30, 0, 0] && (imgTarget b == 0 || imgTarget b == Config.deviceEui) && !(imgWrap b == 0 && imgTarget b == 0)

/-- R599, R602 check 4. -/
def imgVendorOk (b : Bytes) : Bool :=
  let v := imgVendor b
  sha384 (v.take 97) == Config.vendorKeyHash && ecdsaVerify (v.take 97) (imgBody b) (slice v 100 96)

/-- R599, R602 check 5. -/
def State.imgOwnerOk (s : State) (b : Bytes) : Bool :=
  if imgOwner b then
    match s.vaultNv.fuses.ownerField with
    | none => false
    | some f =>
      let o := imgOwnerBlock b
      sha384 (o.take 97) == at' s.vaultNv.fuses.owners f && ecdsaVerify (o.take 97) (imgBody b ++ imgVendor b) (slice o 100 96)
  else s.cfgN 0x5C00 1 == 0

/-- R600, R602 check 7: the UPDATE slot with an image's KCV. -/
def State.updateSlot (s : State) (b : Bytes) : Option Nat :=
  (List.range 32).find? (fun i =>
    let k := s.slot i
    polKind k.policy == 6 && polState k.policy == 0 && bit (polConsumers k.policy) 4 && keyCheck k == slice b 48 3)

/-- R557: the slots whose key an image's unwrap would use are checked; one whose tag fails becomes BAD. -/
def State.checkImageSlot (s : State) (b : Bytes) : State :=
  let use := if imgWrap b = 1 then s.updateSlot b else some 0
  match use with
  | some i => if s.tagBroken i then s.slotBad i Consumer.image.code else s
  | none => s

/-- R600: the key-encryption key of an image. -/
def State.imageKek (s : State) (b : Bytes) : Bytes :=
  if imgWrap b = 1 then (match s.updateSlot b with | some i => (s.slot i).key | none => [])
  else match decodePoint (slice b 52 97) with
    | none => []
    | some q => kdf ((sha384 (ecdh identityKey q)).take 32) labelImg (euiBytes ++ leBytes 4 (imgVersion b)) 256

/-- R600: the image key. -/
def State.imageKey (s : State) (b : Bytes) : Option Bytes :=
  let k := s.imageKek b
  if k = [] then none else keyUnwrap k (slice b 152 40)

/-- R598, R602 check 9. -/
def imgTagOk (key b : Bytes) : Bool :=
  let h := imgHead b
  gcmTag key (slice b 36 12) (b.take h) (slice b h (imgLen b)) == slice b (h + imgLen b) 16

/-- R602: the first check that an image fails, with its RESULT; none when it passes all. -/
def State.imageFault (s : State) (b : Bytes) : Option (Nat × Nat) :=
  if s.vault.lockdown then some (1, Abort.lockdown)
  else if !imgFormOk b then some (2, Abort.valueRange)
  else if !imgTargetOk b then some (3, Abort.valueInconsistent)
  else if !imgVendorOk b then some (4, Abort.imageAuth)
  else if !s.imgOwnerOk b then some (5, Abort.imageAuth)
  else if imgVersion b < s.fwNv.floor ∨ imgVersion b < imgFloor b then some (6, Abort.rollback)
  else if imgWrap b = 1 ∧ s.updateSlot b = none then some (7, Abort.keyPolicy)
  else
    match s.imageKey b with
    | none => some (8, Abort.unwrapFail)
    | some key => if imgTagOk key b then none else some (9, Abort.imageAuth)

/-- R604: the handover version of two images, 0 for none. -/
def handoverVersion (a b : FwSlot) : Nat :=
  let hi := min a.hoMax b.hoMax
  if max a.hoMin b.hoMin ≤ hi then hi else 0

/-- R604: the groups whose schema version differs between two images, ascending. -/
def schemaChanges (a b : FwSlot) : List Nat :=
  let gs := (a.schemas ++ b.schemas).map (·.1)
  let diff := gs.filter (fun g => lookupKey g a.schemas != lookupKey g b.schemas)
  (diff.foldl (fun acc g => insertKey g () acc) []).map (·.1)

/-- R603: the descriptor of an image that has passed its checks, in slot `i`. -/
def State.stagedSlot (s : State) (i : Nat) (b : Bytes) : FwSlot :=
  let bk := kdf (padTo 32 Config.huk) labelBoot (euiBytes ++ [byte i]) 256
  { image := b, valid := true, version := imgVersion b, floor := imgFloor b, h := sha384 (imgBody b)
    wrap := keyWrap bk ((s.imageKey b).getD []), hoMin := fieldLE b 28 2, hoMax := fieldLE b 30 2, schemas := imgSchemas b }

/-- R602: an image refused. -/
def State.imageRefused (s : State) (check code version : Nat) : State :=
  let s1 := { s with fwNv := { s.fwNv with slots := s.fwNv.slots.set s.idleSlot emptyFw, staged := false } }
  let s2 := s1.updFw (fun u => { u with state := if s.inRecovery then 6 else 0, opened := false })
  (s2.fwCount 2).event 0x5C02 updateCell ([byte check, 0, 0, 0] ++ leBytes 4 code ++ leBytes 4 version)

/-- R562, R600: the vault delivers the unwrapped image key to the image decryptor's register. -/
def State.loadImageKey (s : State) (b : Bytes) : State :=
  match s.imageKey b with
  | none => s
  | some key =>
    let i := if imgWrap b = 1 then (s.updateSlot b).getD 0 else 0
    let reg : WorkReg := { slot := i, gen := polGen (s.slot i).policy, key := key }
    ({ s with vault := { s.vault with regs := s.vault.regs.set Consumer.image.index reg } }).vaultCount 2 1

/-- R602, R603: an image staged. -/
def State.imageStaged (s0 : State) (b : Bytes) : State :=
  let s := s0.loadImageKey b
  let i := s.idleSlot
  let slot := s.stagedSlot i b
  let old := s.fwSlot s.fwNv.active
  let s1 := { s with fwNv := { s.fwNv with slots := s.fwNv.slots.set i slot, staged := true } }
  let s2 := s1.updFw (fun u => { u with state := 2, opened := false, hoVersion := handoverVersion old slot })
  (s2.fwCount 1).event 0x5C01 updateCell
    (leBytes 4 slot.version ++ [byte i, byte (imgWrap b), byte (b2n (imgOwner b)), byte (schemaChanges old slot).length])

/-- R552: the measurement of a slot's image. -/
def FwSlot.measure (x : FwSlot) : Bytes := sha384 (zeros 48 ++ x.h)

/-- IMAGE_END (R601, R602, R617). -/
def imageEnd (s : State) : State :=
  match s.takeInput 0x12 with
  | none => s
  | some (s1, _) =>
    let b := (s1.fwSlot s1.idleSlot).image
    if !s1.inService updateCell then s1.frameDone 0x12 Abort.fenced
    else if !s1.fw.opened ∨ s1.fw.next ≠ s1.fw.total then s1.frameDone 0x12 Abort.blockSequence
    else
      let s0 := s1.checkImageSlot b
      match s0.imageFault b with
      | some (check, code) => (s0.imageRefused check code (imgVersion b)).frameDone 0x12 code
      | none =>
        let s2 := (s0.imageStaged b).frameDone 0x12 0
        if s1.inRecovery then
          ({ s2 with fwNv := { s2.fwNv with active := s1.idleSlot, previous := s1.fwNv.active, probation := false, boots := 0, staged := false } }).coldReset 6
        else s2

/-- IMAGE_END as a command. -/
def execImageEnd (s : State) : Res := s.whenPort imageEnd

/-! ### Handover, probation and reversion (R605 to R615) -/

/-- R605: what makes a handover or restart-mode update wait: an epoch pending, both banks in use, or a transition. -/
def State.updateBusy (s : State) : Bool := s.cfg.sets != [] || s.vault.bothBanks || s.vault.lifeStatus == 1

/-- R561: the bank in use rewrapped into the other bank, for the measurement of a staged image. -/
def State.forwardSeal (s : State) (m : Bytes) : State :=
  let old := at' s.vaultNv.banks s.vault.bankInUse
  let lcs := s.lcs.code
  let sk := sealingKey m lcs
  let osk := sealingKey old.labelM old.labelLcs
  let rewrap := fun (w : Bytes) => keyWrap sk ((keyUnwrap osk w).getD [])
  let seq := s.nextBankSeq
  let b : Bank := { written := true, labelM := m, labelLcs := lcs, seq := seq, keyId := old.keyId
                    storeKey := if old.storeKey = [] then [] else rewrap old.storeKey
                    records := old.records.map (fun r => { r with wrapped := rewrap r.wrapped, crcOk := true }) }
  let i := 1 - s.vault.bankInUse
  ({ s with vaultNv := { s.vaultNv with banks := s.vaultNv.banks.set i b }, vault := { s.vault with bothBanks := true } }).event
    0x580B 0xA300 ([byte i, 0, 0, 0] ++ leBytes 4 seq ++ m.take 4)

/-- R608, R613, R614: one bank destroyed. -/
def State.destroyBank (s : State) (i : Nat) : State :=
  { s with vaultNv := { s.vaultNv with banks := s.vaultNv.banks.set i { initBank with seq := (at' s.vaultNv.banks i).seq } }
           vault := { s.vault with bothBanks := false } }

/-- The answer to an update command, kept in 0x5C01.8. -/
def State.updateAnswer (s : State) (code : Nat) : State × Nat := (s.updFw (fun u => { u with abort := code }), code)

/-- R685: the control cores: 0 and 1 are set 0, 2 and 3 set 1. -/
def coreCell (k : Nat) : Nat := 0x8000 + k
def State.standbyWhole (s : State) : Bool :=
  let b := 2 * (1 - s.fw.activeSet)
  s.inService (coreCell b) && s.inService (coreCell (b + 1))

/-- HITLESS_HANDOVER (R605, R606 steps 1 to 3): the staged image is loaded, checked and measured, and the vault forward-seals. -/
def hitlessHandover (s : State) : State × Nat :=
  let slot := s.fwSlot s.idleSlot
  if !s.inService updateCell then s.updateAnswer Abort.fenced
  else if s.fw.state ≠ 2 then s.updateAnswer Abort.notInState
  else if s.fw.hoVersion = 0 then s.updateAnswer Abort.handoverRefused
  else if s.updateBusy then s.updateAnswer Abort.busy
  else if !s.standbyWhole then s.updateAnswer Abort.fenced
  else
    let s1 := s.forwardSeal slot.measure
    (s1.updFw (fun u => { u with state := 3, step := 3, startedAt := s.now, stepAt := s.now + cMs 80, pauseAt := none })).updateAnswer 0

/-- HITLESS_HANDOVER as a command. -/
def execHitlessHandover (role : Nat) (s : State) : Res := s.command 0x5C10 1 role .operator hitlessHandover

/-- RESTART_MODE_UPDATE (R615). -/
def restartModeUpdate (s : State) : State × Nat :=
  let slot := s.fwSlot s.idleSlot
  if !s.inService updateCell then s.updateAnswer Abort.fenced
  else if s.fw.state ≠ 2 then s.updateAnswer Abort.notInState
  else if s.updateBusy then s.updateAnswer Abort.busy
  else
    let changes := schemaChanges (s.fwSlot s.fwNv.active) slot
    let s1 := (s.forwardSeal slot.measure).fwCount 6
    let s2 := { s1 with fwNv := { s1.fwNv with
      active := s.idleSlot, previous := s.fwNv.active, probation := true, boots := 0, schemaDue := changes, staged := false } }
    (s2.restart 6, Abort.ok)

/-- RESTART_MODE_UPDATE as a command. -/
def execRestartModeUpdate (role : Nat) (s : State) : Res := s.command 0x5C10 1 role .operator restartModeUpdate

/-- R614: whether the old image may be booted: its slot is good and its VERSION at or above the floor. -/
def State.oldImageOk (s : State) : Bool :=
  let x := s.fwSlot s.fwNv.previous
  x.valid && decide (s.fwNv.floor ≤ x.version)

/-- R620: 0x5C06. -/
def State.revertEvent (s : State) (cause mode from' to' : Nat) : State :=
  s.event 0x5C06 updateCell ([byte cause, byte mode, 0, 0] ++ leBytes 4 from' ++ leBytes 4 to')

/-- R614: the boot record names the old slot without PROBATION, and the new bank is destroyed. -/
def State.bootOld (s : State) : State :=
  let s1 := { s with fwNv := { s.fwNv with active := s.fwNv.previous, previous := s.fwNv.active, probation := false, boots := 0 } }
  (s1.fwCount 5).destroyBank s.vault.bankInUse

/-- R614: a reversion while the new set still serves (cause 1 by the host, 2 by the fault of a core). -/
def State.revertHitless (s : State) (cause : Nat) : State :=
  let new := (s.fwSlot s.fwNv.active).version
  let old := (s.fwSlot s.fwNv.previous).version
  if !s.oldImageOk then s.revertEvent cause 2 new old
  else
    let s1 := s.bootOld
    let s2 := { s1 with vault := { s1.vault with bankInUse := 1 - s.vault.bankInUse, measurement := (s.fwSlot s.fwNv.previous).measure } }
    (s2.updFw (fun u => { u with state := 0, activeSet := 1 - u.activeSet })).revertEvent cause 0 new old

/-- REVERT (R612, R614). -/
def revert (s : State) : State × Nat :=
  if !s.inService updateCell then s.updateAnswer Abort.fenced
  else if s.fw.state ≠ 4 then s.updateAnswer Abort.notInState
  else (s.revertHitless 1).updateAnswer 0

/-- REVERT as a command. -/
def execRevert (role : Nat) (s : State) : Res := s.command 0x5C10 1 role .operator revert

/-- HEARTBEAT_LOST (R612, R614): the new set has failed to write its heartbeat for HeartbeatTimeout. -/
def heartbeatLost (s : State) : State :=
  let new := (s.fwSlot s.fwNv.active).version
  let old := (s.fwSlot s.fwNv.previous).version
  if s.fw.state ≠ 4 then s
  else if !s.oldImageOk then (s.revertEvent 3 2 new old).restart 6
  else
    let s1 := (s.revertEvent 3 1 new old).flush 2
    let s2 := s1.bootOld.coldReset 6
    { s2 with powerNv := { s2.powerNv with lastGaspResult := 0 } }

/-- HEARTBEAT_LOST as a command. -/
def execHeartbeatLost (s : State) : Res := s.whenRunning heartbeatLost

/-- R613: a probation that succeeds. -/
def State.probationDone (s : State) : State :=
  let x := s.fwSlot s.fwNv.active
  let floor := max s.fwNv.floor x.floor
  let s1 := s.destroyBank (1 - s.vault.bankInUse)
  let s2 := { s1 with fwNv := { s1.fwNv with floor := floor, probation := false, boots := 0 } }
  (s2.updFw (fun u => { u with state := 0 })).event 0x5C05 updateCell (leBytes 4 x.version ++ leBytes 4 floor)

/-- ACCEPT (R612, R613). -/
def accept (s : State) : State × Nat :=
  if !s.inService updateCell then s.updateAnswer Abort.fenced
  else if s.fw.state ≠ 4 then s.updateAnswer Abort.notInState else s.probationDone.updateAnswer 0

/-- ACCEPT as a command. -/
def execAccept (role : Nat) (s : State) : Res := s.command 0x5C10 1 role .operator accept

/-- PROBATION_ENDED (R612, R613): ProbationTime has passed. -/
def probationEnded (s : State) : State := if s.fw.state ≠ 4 ∨ s.now < s.fw.probationEnd then s else s.probationDone

/-- PROBATION_ENDED as a command. -/
def execProbationEnded (s : State) : Res := s.whenLive probationEnded

/-- DISCARD_STAGED (R615). -/
def discardStaged (s : State) : State × Nat :=
  if !s.inService updateCell then s.updateAnswer Abort.fenced
  else if s.fw.state ≠ 2 then s.updateAnswer Abort.notInState
  else
    let s1 := { s with fwNv := { s.fwNv with slots := s.fwNv.slots.set s.idleSlot emptyFw, staged := false } }
    (s1.updFw (fun u => { u with state := 0, hoVersion := 0 })).updateAnswer 0

/-- DISCARD_STAGED as a command. -/
def execDiscardStaged (role : Nat) (s : State) : Res := s.command 0x5C10 1 role .operator discardStaged

end Sys2Proof.Machine
end

