-- ==== Sys2Proof/Machine/Health.lean ====
section
/-!
DEFINITION. Containment and retirement (chapter 21, R672 to R688, R695, R696).
-/
namespace Sys2Proof.Machine

/-! ### Cells, kinds and collectors -/

/-- R695: the kind of a cell: 0 lane, 1 demodulator, 2 radio port, 3 power-line phase, 4 NAND die, 5 queue, 6 Ethernet port, 7 Ihlost port, 8 control
core, 9 key slot, 10 other. -/
def cellKind (a : Nat) : Nat :=
  match a / 256 with
  | 0x21 => 0 | 0x04 => 1 | 0x06 => 1 | 0x03 => 2 | 0x05 => 2 | 0x00 => 3 | 0x43 => 4 | 0x40 => 5 | 0x60 => 6 | 0x63 => 7 | 0x80 => 8 | 0xA0 => 9
  | _ => 10

/-- R677: the cell that a permanent error of a cell retires or fences: FIR cells and meter-link MACs stand for the unit that depends on
them. -/
def unitOf (a : Nat) : Nat :=
  if 0x0200 ≤ a ∧ a ≤ 0x0207 then a - 0x0100
  else if 0x0208 ≤ a ∧ a ≤ 0x020A then a - 0x0208
  else if 0x0700 ≤ a ∧ a ≤ 0x0702 then a - 0x0700
  else if a = 0x020B ∨ a = 0x0703 then spiCell 0
  else if a = 0x020C ∨ a = 0x0704 then spiCell 1
  else a

/-- R680: the critical units; a clock island that holds one stands among them (R681). -/
def critical (a : Nat) : Bool :=
  a == 0x2000 || a == 0x2200 || a == 0x2201 || a == 0x40FF || a == 0xE000 || a == 0xE100 || a == 0xE200 || a == 0x4100 ||
    a / 256 == 0x64 || a == 0xA0FF || a == 0x4200 || a == 0x4400 || a / 256 == 0x81

/-- R695: whether an address is that of a collector. -/
def collectorDefined (a : Nat) : Bool :=
  cellDefined a || (decide (a % 256 = 0xFF) && cellDefined (a / 256 * 256)) || (decide (a / 8192 ≤ 5) && a % 8192 == 0x1F00)

/-- What is kept of a cell changed. -/
def State.updCell (s : State) (a : Nat) (f : CellRec → CellRec) : State :=
  { s with health := { s.health with cells := insertKey a (f (s.cellRec a)) s.health.cells } }

/-- Object `n` of the policy of a cell's kind. -/
def State.kindPolicy (s : State) (a n : Nat) : Nat := s.cfgN (0x6410 + cellKind a) n

/-! ### Retirement of each kind (R677) -/

/-- The cells of a queue by packets, each with its place. -/
def packetsOf (l : List (Nat × QCell)) : List (List (Nat × QCell)) :=
  l.foldr (fun c acc =>
    if c.2.last then [c] :: acc
    else match acc with
      | g :: r => (c :: g) :: r
      | [] => [[c]]) []

/-- R432, R439: packets with an unreadable cell leave the queue; one already partly popped leaves an ABORT cell, one still being
pushed loses its rest. The second result is their number. -/
def Queue.loseCells (q : Queue) (bad : List Nat) : Queue × Nat :=
  let ps := packetsOf (q.cells.zipIdx.map (fun c => (c.2, c.1)))
  let hit := fun (p : List (Nat × QCell)) => p.any (fun c => bad.contains c.1)
  let keep := (ps.map (fun p =>
    if hit p then (if (p.head?.map (fun c => c.2.first)) = some false ∧ (p.getLast?.map (fun c => c.2.last)) = some true then [abortCell] else [])
    else p.map (·.2))).flatten
  let cut := match ps.getLast? with | some p => hit p && !((p.getLast?.map (fun c => c.2.last)).getD true) | none => false
  let rest := keep.drop 16
  let m := (rest.length - 16 + 7) / 8
  ({ q with head := keep.take 16, skein := blocksOf8 m rest, tail := rest.drop (8 * m), losing := q.losing || cut }, (ps.filter hit).length)

/-- R439: a queue cell is retired: its queue goes to the lowest free spare, or is fenced when there is none. -/
def State.retireQueue (s : State) (a : Nat) (bad : List Nat) : State :=
  match s.queue.queues.findIdx? (fun q => q.servedBy == a && !q.fenced) with
  | none => { s with queue := { s.queue with spares := s.queue.spares.filter (· ≠ a) } }
  | some i =>
    match s.queue.spares with
    | [] => { s with queue := { s.queue with queues := upd s.queue.queues i (fun q => { q with fenced := true }) } }
    | k :: r =>
      let l := (at' s.queue.queues i).loseCells bad
      let m := ({ s with queue := { s.queue with spares := r } }).putQueue i { l.1 with servedBy := k }
      ((m.1.event 0x4804 k ([byte i, byte (k - 0x4000), 0, 0] ++ leBytes 4 l.2)).emitAll m.2).placeWaiting i

/-- R336, R342, R677: a cell of a radio port goes out of use: with the IQ interface its receptions are lost, with the transmitter its
transmissions abandoned, with the SPI master both, and SHUTDOWN is raised. -/
def State.radioOut (s : State) (p cell : Nat) : State :=
  let s1 := if cell = txCell p then s else s.stopDemods p 0
  let s2 := if cell = iqCell p then s1 else (s1.port p).tx.foldl (fun st j => st.txAbandon p 3 j) s1
  if cell = spiCell p then (s2.updPort p (fun x => { x with inUse := false, ctl := s2.ctlIdle p x.ctl })).trigger 3 p 5 0 else s2

/-- R677: a key slot becomes BAD. -/
def State.slotOut (s : State) (i : Nat) : State :=
  let k := s.slot i
  ((s.setSlot i { k with policy := genUp (Machine.setField k.policy 3 2 2) }).clearRegs (s.family i)).notify i

/-- R677: what the retirement of a cell by an error of a code does to its work. `bad` are the unreadable cells of a queue. -/
def State.retireWork (s : State) (a code : Nat) (bad : List Nat) : State :=
  let c := a % 256
  match cellKind a with
  | 0 => s.laneOut c .retired (if code = 0x0036 then 0 else 1)
  | 1 =>
    let p := (a / 256 - 4) / 2
    let n := ((s.port p).demods.getD c default).state
    let s1 := if n = 2 then s.radioCount p 12 1 else s
    s1.updPort p (fun x => { x with demods := upd x.demods c (fun d => { d with state := 0, assigned := false }) })
  | 2 => s.radioOut ((a / 256 - 3) / 2) a
  | 3 => s.updEng c (fun e => { e with rx := .search, txReq := none, sendUntil := min e.sendUntil s.now, acks := [] })
  | 4 => s.retireDie c
  | 5 => s.retireQueue a bad
  | 6 =>
    if (at' s.up.eth c).up then
      ({ s with up := { s.up with eth := upd s.up.eth c (fun y => { y with up := false }) } }).event 0x5001 a [byte c, 0, byte (at' s.up.eth c).speed]
    else s
  | 7 => s.linkDown c
  | 9 => s.slotOut c
  | _ => s

/-- R685: what follows the retirement of a control core. -/
def State.coreOut (s : State) (a code : Nat) : State :=
  let k := a % 256
  let works := fun (set : Nat) => s.inService (coreCell (2 * set)) || s.inService (coreCell (2 * set + 1))
  let act := s.fw.activeSet
  if s.fw.state = 4 then
    (if k / 2 = act then s.revertHitless 2 else s)
  else if k / 2 ≠ act then s
  else if s.standbyWhole then { s with health := { s.health with failover := some k } }
  else if works act then s
  else if works (1 - act) then { s with health := { s.health with failover := some k } }
  else s.deviceFaulted a code

/-- R677, R678, R688: a cell retired. Its packets in the making are aborted (R427); a third retirement within 86,400 s holds it. -/
def State.retire (s : State) (a code : Nat) (bad : List Nat) : State :=
  let times := (s.cellRec a).retirements.filter (fun t => decide (s.now < t + cSec 86400)) ++ [s.now]
  let held := decide (3 ≤ times.length)
  let lost := match cellKind a with | 0 => (s.laneOf (a % 256)).items.length | _ => 0
  let s1 := s.updCell a (fun r => { r with
    status := if held then .held else .retired, retirements := times, retiredAt := (secOf s.td0).toNat, lastTest := 0, tested := false
    attempts := 0, returnAsked := false })
  let s2 := ((s1.retireWork a code bad).abortProducers (· == a)).event 0x6401 a
    (leBytes 2 code ++ [byte (cellKind a), byte times.length] ++ leBytes 4 lost)
  let s3 := if held then s2.event 0x640A a [byte (cellKind a), byte times.length] else s2
  if cellKind a = 8 then s3.coreOut a code else s3

/-- R679: a unit that cannot be retired is fenced. -/
def State.fence (s : State) (a code : Nat) : State :=
  let s1 := s.updCell a (fun r => { r with status := .fenced, retiredAt := (secOf s.td0).toNat, lastTest := 0, tested := false, attempts := 0, returnAsked := false })
  (s1.abortProducers (· == a)).event 0x6407 a (leBytes 2 code ++ [0, 0] ++ leBytes 4 0)

/-- R681: a clock fault that is permanent acts on the cells of its island. -/
def State.islandOut (s : State) (i code : Nat) : State :=
  let ret := fun (st : State) (a : Nat) => if st.inService a then st.retire a code [] else st
  if i = 0 then [0, 1, 2, 3].foldl (fun st k => ret st (coreCell k)) s
  else if i ≤ 4 then ret s (laneCell (i - 1))
  else if i = 15 ∨ i = 17 then ret s (spiCell 0)
  else if i = 16 ∨ i = 18 then ret s (spiCell 1)
  else if i = 11 ∨ i = 12 then ret s (ethCell (i - 11))
  else if i = 13 ∨ i = 14 then ret s (ihCell (i - 13))
  else if i = 19 then [0, 1, 2].foldl ret s
  else if i = 20 then (List.range 8).foldl (fun st c => if st.inService (senseCell c) then st.fence (senseCell c) code else st) s
  else s.deviceFaulted (islandUnit i) code

/-- R676, R681: a clock fault of an island noted: past the limit of the kind of other units within its window it is permanent. -/
def State.islandTransient (s : State) (i : Nat) : State :=
  let x := at' s.isl.islands i
  let times := x.faultTimes.filter (fun t => decide (s.now < t + cSec (s.cfgN 0x641A 2)))
  let s1 := s.updIsland i (fun y => { y with faultTimes := times })
  if s.cfgN 0x641A 1 < times.length then (s1.updIsland i (fun y => { y with faultTimes := [] })).islandOut i 0x0032 else s1

/-- R674, R677 to R681: a permanent error of a cell; further ones of a cell already retired or fenced have no effect. -/
def State.permanent (s : State) (cell code : Nat) (bad : List Nat) : State :=
  let a := unitOf cell
  if critical a then s.deviceFaulted a code
  else if !s.inService a then s
  else if cellKind a ≤ 9 then s.retire a code bad
  else s.fence a code

/-! ### ERROR_REPORT -/

/-- R675: whether a code is that of a failed operation that is retried. -/
def retried (code : Nat) : Bool := code == 0x0010 || code == 0x0011 || code == 0x0013 || code == 0x0014

/-- R673: whether a transient counts towards the limit of R676 at its cell; an uncorrectable NAND codeword does not (R672), and a clock fault counts
for its island (R681). -/
def limited (code : Nat) : Bool := code != 0x0017 && code != 0x0015

/-- R675, R676: a transient error of a cell: its history, its retries, and what becomes permanent. The second result is that permanent code,
0 for none. -/
def State.transient (s : State) (e : ErrReport) : State × Nat :=
  let r := s.cellRec e.cell
  let window := r.transients.filter (fun t => decide (s.now < t + cSec (s.kindPolicy e.cell 2))) ++ [s.now]
  let tries := if retried e.code then r.attempts + 1 else r.attempts
  let s1 := s.updCell e.cell (fun x => { x with
    transients := if limited e.code then window else x.transients, attempts := tries
    lastCode := if retried e.code then e.code else x.lastCode, failedAt := if retried e.code then s.now else x.failedAt })
  if limited e.code ∧ s.kindPolicy e.cell 1 < window.length then (s1, 0x0032)
  else if retried e.code ∧ 4 ≤ tries then (s1, 0x0031)
  else (s1, 0)

/-- The islands whose clock faults within the window of R676 stand for judgement: those that report to a region's collector. -/
def State.judgeIslands (s : State) (entry : Nat) : State :=
  ((List.range 25).filter (fun i => islandCollector i == entry)).foldl State.islandTransient s

/-- R673: one report handled by its class. A promotion is a report of its own, of the permanent class, at the same collector. -/
def State.handleError (s : State) (e : ErrReport) (bad : List Nat) : State :=
  if e.cls = 0 then s
  else if e.code = 0x0015 then s.judgeIslands e.entry
  else if e.cls = 1 then
    if !s.inService (unitOf e.cell) then s
    else
      let t := s.transient e
      if t.2 = 0 then t.1 else (t.1.reportTo e.entry { e with code := t.2, cls := 2 } 0).permanent e.cell t.2 bad
  else if e.code = 0x0020 then s
  else if e.code = 0x0030 ∧ cellKind e.cell = 0 then s.lanePlainFence (e.cell % 256)
  else if e.code = 0x0035 then s
  else s.permanent e.cell e.code bad

/-- R683: the area that an uncorrectable DRAM read struck is rebuilt: 0 meter table, 1 skein pool, 2 flash map, 3 VEE history (of the meters
given), 4 balance ring (group, then its intervals in the page), 5 link and return tables and directory (the EUIs given), 6 distribution bitmaps
(kind, slot, meter), 7 firmware memory. Areas 0 and 2 come back as they were, from what the store holds; area 1 is R432. -/
def State.rebuildArea (s : State) (area : Nat) (items : List Nat) : State :=
  match area with
  | 3 => { s with vee := { s.vee with
      hist := s.vee.hist.filter (fun h => !items.contains h.1), toRebuild := s.vee.toRebuild ++ items.filter (fun i => !s.vee.toRebuild.contains i) } }
  | 4 => s.updGroup (items.getD 0 0xFFFF) (fun g => { g with
      ring := (g.ring.filter (fun o => !(items.drop 1).contains o.id)).map (fun o => { o with xs := [] }) })
  | 5 =>
    { s with
      casc := { s.casc with
        returns := s.casc.returns.filter (fun r => !items.contains r.1), dir := s.casc.dir.filter (fun r => !items.contains r.1) }
      up := { s.up with imp := { s.up.imp with returns := s.up.imp.returns.filter (fun r => !items.contains r.eui) } }
      plc := { s.plc with links := s.plc.links.filter (fun l => !(s.mtr.table.any (fun m => items.contains m.2.eui && (m.2.short == l.a || m.2.short == l.b)))) } }
  | 6 =>
    let kind := items.getD 0 0
    let slot := items.getD 1 0
    (match (s.campaign kind slot).bind (fun c => c.targets.find? (fun t => t.meter == items.getD 2 noMeter)), s.objectOf kind slot with
     | some t, some (_, d) => s.setTarget kind slot ({ t with lacks := List.range (blockCount t.medium d.length) } : Target)
     | _, _ => s)
  | 7 => { s with health := { s.health with failover := some (2 * s.fw.activeSet) } }
  | _ => s

/-- ERROR_REPORT (R672 to R685): a unit detects an error, if one is given; reports move up through the collectors, and the oldest that is not yet
handled is, the permanent one first of two of a cell in the same cycle (R674). -/
def errorReport (new : Option NewError) (s : State) : State :=
  let sn := match new with
    | none => s
    | some e =>
      if e.code = 0x0020 then (s.dramFault e.region e.area e.addr).rebuildArea e.area e.items else s.raiseError e.cell e.code
  let s0 := sn.forwardReports
  match s0.health.raised with
  | [] => s0
  | e :: r =>
    let x := (r.find? (fun y => y.cell == e.cell && y.time == e.time && decide (e.cls < 2 ∧ y.cls = 2))).getD e
    let s1 := { s0 with health := { s0.health with raised := s0.health.raised.erase x } }
    let bad := match new with | some n => if n.cell = x.cell ∧ n.code ≠ 0x0020 then n.items else [] | none => []
    s1.handleError x bad

/-- ERROR_REPORT as a command. -/
def execErrorReport (new : Option NewError) (s : State) : Res := s.whenLive (errorReport new)

/-! ### RETRY (R675) -/

/-- R675: an item of a lane starts again from stage 2, its dependants from stage 5. -/
def State.restartItem (s : State) (l i : Nat) : State :=
  match (s.laneOf l).items.find? (fun y => y.ident == i) with
  | none => s
  | some it =>
    let w := (s.laneOf l).rewind it
    let s1 := ({ s with lane := { s.lane with counters := upd s.lane.counters 9 (· + w.2) } } : State).updLane l (fun _ => w.1)
    s1.updItem l i (fun y => { y with
      next := 2, held := false, rewinding := false, overtaken := true, producer := none, mark := none, badBody := false, undecodable := false, ests := [], deltas := [], alerts := []
      stalled := false, unknown := false })

/-- RETRY: retry k of a cell's failed operation, RetryBase × 4^(k − 1) µs after the failure. `item` is the item of a lane, `ok` says
whether the operation now succeeds; a failure is one more transient error. -/
def retry (cell item : Nat) (ok : Bool) (s : State) : State :=
  let r := s.cellRec cell
  if r.attempts = 0 ∨ 4 ≤ r.attempts ∨ s.now < r.failedAt + cUs (s.kindPolicy cell 3 * 4 ^ (r.attempts - 1)) then s
  else
    let s1 := match cellKind cell with
      | 0 => s.restartItem (cell % 256) item
      | 1 => s.updPort ((cell / 256 - 4) / 2) (fun x => { x with demods := upd x.demods (cell % 256) (fun d => if d.state = 2 then { d with state := 1 } else d) })
      | _ => s
    if ok then s1.updCell cell (fun x => { x with attempts := 0 })
    else s1.raiseError cell r.lastCode

/-- RETRY as a command. -/
def execRetry (cell item : Nat) (ok : Bool) (s : State) : Res := s.whenLive (retry cell item ok)

/-! ### Commands and the return to service -/

/-- RETIRE_CELL (R677, R678, R695). -/
def retireCell (v : Nat) (s : State) : State × Nat :=
  if !cellDefined v ∨ 9 < cellKind v then (s, Abort.valueInconsistent)
  else if !s.inService v then (s, Abort.fenced)
  else
    let e := ErrReport.mk v 0x0036 2 s.td0 v
    (((s.reportTo v e 0).forwardReports).handleError e [], Abort.ok)

/-- RETIRE_CELL as a command. -/
def execRetireCell (role v : Nat) (s : State) : Res := s.command 0x6422 1 role .operator (retireCell v)

/-- R685: what a cold failover loses: the staged set, block sessions and subscriptions; sequence numbers go on from their floors. -/
def State.coldControl (s : State) : State :=
  { s with
    cfg := { s.cfg with staged := [], sets := s.cfg.sets.filter (·.published) }
    dict := { initDict (s.dict.roles.map (fun r => (r.floor, r.notifyFloor))) with counters := s.dict.counters } }

/-- CONTROL_FAILOVER (R685): the standby set takes over, hitless when the surviving core wrote the handover record in time. -/
def controlFailover (hitless : Bool) (pauseUs : Nat) (s : State) : State :=
  match s.health.failover with
  | none => s
  | some k =>
    let s1 := if hitless then s else s.coldControl
    let s2 := { s1 with health := { s1.health with failover := none }, fw := { s1.fw with activeSet := 1 - s1.fw.activeSet } }
    s2.event 0x6406 (coreCell k) ([byte (b2n (!hitless)), byte k] ++ leBytes 2 (min maxU16 pauseUs))

/-- CONTROL_FAILOVER as a command. -/
def execControlFailover (hitless : Bool) (pauseUs : Nat) (s : State) : Res := s.whenLive (controlFailover hitless pauseUs)

/-- SELF_TEST (R686): the test of a fenced or retired cell, at once and then every SelfTestPeriod: passed, or failed in a space (0 scan, 1 SRAM) at
a word. -/
def selfTest (cell : Nat) (pass : Bool) (space word : Nat) (s : State) : State :=
  let r := s.cellRec cell
  let due := r.lastTest = 0 ∨ r.lastTest + cSec (s.kindPolicy cell 5) ≤ s.now
  if (r.status ≠ .fenced ∧ r.status ≠ .retired ∧ (r.status ≠ .held ∨ r.tested)) ∨ !due then s
  else if pass then s.updCell cell (fun x => { x with lastTest := s.now, tested := true, status := if x.status = .held then .held else .returnReady })
  else
    ((s.updCell cell (fun x => { x with lastTest := s.now })).raiseError cell 0x0035).event 0x6403 cell
      ([byte (cellKind cell), byte space, 0, 0] ++ leBytes 4 word)

/-- SELF_TEST as a command. -/
def execSelfTest (cell : Nat) (pass : Bool) (space : Fin 2) (word : Nat) (s : State) : Res := s.whenLive (selfTest cell pass space word)

/-- RETURN_CELL (R688). -/
def returnCell (v : Nat) (s : State) : State × Nat :=
  let st := s.cellStatus v
  if st ≠ .returnReady ∧ st ≠ .held then (s, Abort.valueInconsistent)
  else (s.updCell v (fun r => { r with returnAsked := true }), Abort.ok)

/-- RETURN_CELL as a command. -/
def execReturnCell (role v : Nat) (s : State) : Res := s.command 0x6422 2 role .operator (returnCell v)

/-- CLEAR_COLLECTOR (R695): the counts and first error of the selected collector. -/
def clearCollector (v : Nat) : State → State × Nat :=
  one v (fun s =>
    let a := s.cfgN 0x6420 0
    let s1 := s.updCollector a (fun c => { c with counts := [0, 0, 0], first := none })
    let faults := if a = healthCell then 0 else if a % 8192 = 0x1F00 then s.health.regionFaults - (if bit s.health.regionFaults (a / 8192) then 2 ^ (a / 8192) else 0)
      else s.health.regionFaults
    ({ s1 with health := { s1.health with regionFaults := faults } }, Abort.ok))

/-- CLEAR_COLLECTOR as a command. -/
def execClearCollector (role v : Nat) (s : State) : Res := s.command 0x6422 3 role .operator (clearCollector v)

/-- R34, R687: the block at whose switch a cell returns. -/
def blkOfCell (a : Nat) : Blk :=
  match a / 256 with
  | 0x00 => if a % 256 = 0 then .plc0 else if a % 256 = 1 then .plc1 else .plc2
  | 0x01 => .sensing | 0x02 => .sensing | 0x03 => .radio0 | 0x04 => .radio0 | 0x05 => .radio1 | 0x06 => .radio1
  | 0x20 => .lanes | 0x21 => .lanes | 0x22 => .lanes | 0x23 => .vee | 0x24 => .balance | 0x25 => .distribution
  | 0x40 => .queues | 0x41 => .queues | 0x42 => .store | 0x43 => .store | 0x44 => .store
  | 0x60 => .ethernet | 0x61 => .ethernet | 0x62 => .ethernet | 0x63 => .cascade | 0x64 => .time
  | 0xA0 => .vault | 0xA1 => .vault | 0xA2 => .vault | 0xA3 => .vault
  | _ => .control

/-- R687: what a cell's return brings with it. -/
def State.returnWork (s : State) (a : Nat) : State :=
  let c := a % 256
  match cellKind a with
  | 0 => s.laneReturns c
  | 2 => if a % 256 = 2 ∧ bit (s.cfgN 0x3000 1) ((a / 256 - 3) / 2) then s.portEnabled ((a / 256 - 3) / 2) true else s
  | 3 => s.bandChanged c
  | 5 =>
    (match s.queue.queues.findIdx? (fun q => q.servedBy == a && q.fenced) with
     | some i => { s with queue := { s.queue with queues := upd s.queue.queues i (fun q => { q with fenced := false }) } }.placeWaiting i
     | none => { s with queue := { s.queue with spares := (s.queue.spares ++ [a]).mergeSort } })
  | 9 => (s.setSlot c { emptySlot with policy := Machine.setField 0 32 16 (polGen (s.slot c).policy + 1) }).notify c
  | _ =>
    if a = veeCell then s.veeReturned
    else if a = balCell then s.balanceReturned
    else if a / 256 = 0x01 then { s with sense := { s.sense with chains := upd s.sense.chains c (fun x => { x with pendingReset := true }) } }
    else s

/-- CELL_RETURNED (R687, R688): a cell that may return at an epoch does. A NAND die waits for the next format (R484). -/
def State.returnOne (s : State) (a epoch : Nat) : State :=
  let r := s.cellRec a
  let may := (r.status == .returnReady && (r.returnAsked || s.kindPolicy a 4 == 1)) || (r.status == .held && r.tested && r.returnAsked)
  if !may ∨ cellKind a = 4 then s
  else
    let s1 := s.updCell a (fun x => { x with status := .inService, transients := [], attempts := 0, returnAsked := false, tested := false })
    (s1.returnWork a).event 0x6402 a ([byte (cellKind a), 0, 0, 0] ++ leBytes 4 epoch)

/-- R687: the cells of a block return as it switches. -/
def State.returnCells (s : State) (b : Blk) (epoch : Nat) : State :=
  (s.health.cells.filter (fun c => blkOfCell c.1 == b)).foldl (fun st c => st.returnOne c.1 epoch) s

/-- R695: 0x6400.1. -/
def State.healthState (s : State) : Nat :=
  if s.health.deviceFault then 2 else if s.health.cells.any (fun c => c.2.status != .inService) then 1 else 0

/-- R695: 0x6430. -/
def State.retiredBytes (s : State) : Bytes :=
  let code := fun (x : CellStatus) => match x with
    | .inService => 0 | .fenced => 1 | .retired => 2 | .selfTesting => 3 | .returnReady => 4 | .held => 5
  ((s.health.cells.filter (fun c => c.2.status != .inService)).map (fun c => leBytes 2 c.1 ++ [byte (code c.2.status), 0] ++ leBytes 4 c.2.retiredAt)).flatten

end Sys2Proof.Machine
end

