-- ==== Sys2Proof/Machine/ConfigCmd.lean ====
section
/-!
DEFINITION. Configuration epochs (R31 to R37), the checks across objects of R32 step 2, and RestoreDefaults (R69).
-/
namespace Sys2Proof.Machine

/-- The configuration commit unit (R90). -/
def commitCell : Nat := 0xE200

/-- Every block that switches epochs. -/
def allBlks : List Blk :=
  [.lanes, .vee, .balance, .plc0, .plc1, .plc2, .radio0, .radio1, .sensing, .queues, .store, .ethernet, .time, .vault, .fabric,
   .distribution, .cascade, .control]

/-- R35: the cell address of a block, that of its cell 0 where it has several (log entry 28). -/
def Blk.cell : Blk → Nat
  | .lanes => 0x2000 | .vee => 0x2300 | .balance => 0x2400 | .plc0 => 0x0000 | .plc1 => 0x0001 | .plc2 => 0x0002
  | .radio0 => 0x0300 | .radio1 => 0x0500 | .sensing => 0x0100 | .queues => 0x4000 | .store => 0x4200 | .ethernet => 0x6000
  | .time => 0x6400 | .vault => 0xA000 | .fabric => 0xE000 | .distribution => 0x2500 | .cascade => 0x6300 | .control => 0x8000

/-- R35: whether a block is fenced, so that an epoch does not wait for it. -/
def State.blkFenced (s : State) (b : Blk) : Bool :=
  let off := fun (l : List Nat) => l.all (fun a => !s.inService a)
  match b with
  | .lanes => off [0x2100, 0x2101, 0x2102, 0x2103]
  | .radio0 => !s.inService 0x0300 || !s.inService 0x0301 || !s.inService 0x0302
  | .radio1 => !s.inService 0x0500 || !s.inService 0x0501 || !s.inService 0x0502
  | .sensing => (List.range 8).all s.chanFenced
  | .ethernet => off [0x6000, 0x6001]
  | .cascade => off [0x6300, 0x6301]
  | .vee => off [0x2300] | .balance => off [0x2400] | .plc0 => off [0x0000] | .plc1 => off [0x0001] | .plc2 => off [0x0002]
  | .distribution => off [0x2500]
  | _ => false

/-! ### Sealing (R32 step 1, R36, R70) -/

/-- R36: the number of the latest set that has been applied or is pending (0x1010.2). -/
def State.pendingEpoch (s : State) : Nat :=
  match s.cfg.sets.getLast? with
  | some p => p.number
  | none => s.cfg.applied

/-- R32 step 1, R36: the staged set is sealed under the next provisional number. -/
def State.sealStaged (s : State) : State × Nat :=
  if 2 ≤ s.cfg.sets.length then (s, Abort.busy)
  else
    let p : Sealed := { values := s.cfg.staged, number := nextEpoch s.pendingEpoch, published := false, publishedAt := 0
                        lateRaised := [], switched := [] }
    ({ s with cfg := { s.cfg with staged := [], sets := s.cfg.sets ++ [p] } }, Abort.ok)

/-- CONFIG_COMMIT (R32 step 1). -/
def configCommit (v : Nat) : State → State × Nat := one v State.sealStaged

/-- CONFIG_COMMIT as a command. -/
def execConfigCommit (role v : Nat) (s : State) : Res := s.command 0x1010 1 role .operator (configCommit v)

/-- DISCARD_STAGED_SET (R88). -/
def discardStagedSet (v : Nat) : State → State × Nat :=
  one v (fun s => ({ s with cfg := { s.cfg with staged := [] } }, Abort.ok))

/-- DISCARD_STAGED_SET as a command. -/
def execDiscardStagedSet (role v : Nat) (s : State) : Res := s.command 0x1010 5 role .operator (discardStagedSet v)

/-- R88: the objects whose defaults RestoreDefaults stages. -/
def restorable : List (Nat × Nat) :=
  (objRows.filter (fun r => r.acc == .rwc && r.save == .s && r.role == .operator)).flatMap (fun r =>
    ((List.range (r.hi + 1 - r.lo)).flatMap (fun i => (List.range (r.shi + 1 - r.slo)).map (fun j => (r.lo + i, r.slo + j)))).filter
      (fun o => !namedInClasses o.1 o.2))

/-- R69: how many values a staged set may hold. -/
def stagedLimit : Nat := 4096

/-- RESTORE_DEFAULTS (R69, R88): all defaults are staged, or none. -/
def restoreDefaults (v : Nat) : State → State × Nat := one v (fun s =>
  let new := restorable.foldl (fun acc o => insertKey (objKey o.1 o.2) (defaultOf s.board.cascMaster o.1 o.2) acc) s.cfg.staged
  if stagedLimit < new.length then (s, Abort.stagedLimit)
  else (({ s with cfg := { s.cfg with staged := new } }).event 0x1007 0x8100 (leBytes 2 restorable.length), Abort.ok))

/-- RESTORE_DEFAULTS as a command. -/
def execRestoreDefaults (role v : Nat) (s : State) : Res := s.command 0x1011 0 role .operator (restoreDefaults v)

/-! ### The checks across objects (R32 step 2) -/

/-- A failed check: the object named and the abort code. -/
abbrev Failure := Nat × Nat

/-- A check that fails with VALUE_INCONSISTENT. -/
def inconsistent (idx sub : Nat) (bad : Bool) : List Failure := if bad then [(objKey idx sub, Abort.valueInconsistent)] else []

/-- R217, R219, and the rule that V and I of one phase use the same set: sensing channel `c` in the settings to be. -/
def State.checkChain (t : State) (c : Nat) : List Failure :=
  let set := t.cfgN (0x2001 + c) 5
  let fs := t.firSet set
  let user := decide (2 ≤ set)
  inconsistent (0x2001 + c) 5
      (user && (fs.1 == [] || fs.2.1 != 2)) ++
    inconsistent (0x2001 + c) 5 (decide (3 ≤ c ∧ c ≤ 5) && t.cfgN (0x2001 + c - 3) 5 != set) ++
    inconsistent (0x2001 + c) 7 (decide (327680 < (t.effectivePhase c).natAbs))

/-- R217, R219: a user set of its own in the settings to be: KIND 0 and not symmetric, or too long. -/
def State.checkUserSet (t : State) (k : Nat) : List Failure :=
  let fs := t.firSet (k + 1)
  inconsistent 0x2020 k ((fs.2.2.1 == 0 && fs.1.reverse != fs.1) || decide (384 < fs.1.length))

/-- R251: an enabled group entry that cannot stand. -/
def groupBad (e : Bytes) : Bool :=
  gEnabled e &&
    (!([15, 30, 60].contains (gLen e)) || (!gCheckSupply e && gPhases e == []) || (gCheckSupply e && gCheck e == noMeter) ||
      (gPerPhase e && gCheckSupply e) || (gPhaseRef e && gRef e == noMeter))

/-- The enabled group entries of the settings to be, with their numbers. -/
def State.groupEntries (t : State) : List (Nat × Bytes) :=
  ((List.range 4096).map (fun g => (g, t.groupEntry t.cfg.active g))).filter (fun p => gEnabled p.2)

/-- Whether a list has an element twice. -/
def hasTwice : List Nat → Bool
  | [] => false
  | a :: r => r.contains a || hasTwice r

/-- R251, R262, R270: the checks of the balance engine. -/
def State.checkBalance (t : State) (tables : Bool) : List Failure :=
  let es := t.groupEntries
  let delay := t.cfgN 0x2400 1
  inconsistent 0x2400 1 (es.any (fun p => decide (360 * gLen p.2 < delay))) ++
    inconsistent 0x2400 2 (decide (t.board.dramMiB * 1048576 * 7 / 8 < 4 * (t.cfgN 0x2400 2 * 1344))) ++
    (if tables then
      (match es.find? (fun p => groupBad p.2) with
       | some p => inconsistent (0x2410 + p.1 / 2048) 0 true
       | none => []) ++
      inconsistent 0x2410 0 (hasTwice ((es.filter (fun p => gCheckSupply p.2)).map (fun p => gCheck p.2)))
     else [])

/-- Ch. 8: ModeThreshold strictly ascends. -/
def State.checkEngine (t : State) (e : Nat) : List Failure :=
  let b := t.val (0x2801 + e) 7
  inconsistent (0x2801 + e) 7 (decide (fieldInt b 1 1 ≤ fieldInt b 0 1 ∨ fieldInt b 2 1 ≤ fieldInt b 1 1))

/-- R349: whether entry `c` of the channel table is wrong. -/
def State.channelBad (t : State) (c : Nat) : Bool :=
  let b := slice (t.val 0x3010 0) (8 * c) 8
  let ports := fieldLE b 4 1 % 4
  let modes := fieldLE b 5 1 % 8
  if fieldLE b 0 4 = 0 then b.any (· != 0)
  else ports == 0 || modes == 0 || (bit ports 0 && (t.channelBin 0 c).isNone) || (bit ports 1 && (t.channelBin 1 c).isNone)

/-- R371, R372: whether the fields of a schedule are in range and its length agrees. -/
def scheduleFields (b : Bytes) : Bool :=
  let n := schCells b
  let mode := fieldLE b 13 1
  let hop := fieldLE b 4 2
  let dwell := fieldLE b 21 1
  let cells := (List.range n).map (fun i => slice b (32 + 8 * i) 8)
  decide (16 ≤ fieldLE b 0 2 ∧ fieldLE b 0 2 ≤ 4096 ∧ 1 ≤ n ∧ n ≤ 256 ∧ mode ≤ 1) &&
    (if mode = 1 then decide (1 ≤ hop ∧ hop ≤ 256 ∧ fieldLE b 6 2 = 0) else decide (hop = 0 ∧ 1 ≤ fieldLE b 6 2)) &&
    decide (200 ≤ schGuardUs b ∧ schGuardUs b ≤ 5000 ∧ 1 ≤ schSpread b ∧ schSpread b ≤ 16 ∧ 1 ≤ schMeterTtl b ∧ schMeterTtl b ≤ 15) &&
    decide (1 ≤ schLife b ∧ 1 ≤ fieldLE b 19 1 ∧ 1 ≤ fieldLE b 20 1 ∧ dwell ≤ 3) &&
    (dwell != 3 || decide (20 ≤ fieldLE b 22 2 ∧ fieldLE b 22 2 ≤ 60000 ∧ fieldLE b 22 2 ≤ fieldLE b 24 4 ∧ 1 ≤ fieldLE b 28 2 ∧
      fieldLE b 28 2 ≤ 3600)) &&
    decide (b.length = 32 + 8 * n + hop) &&
    cells.all (fun c => decide (fieldLE c 0 2 < fieldLE b 0 2 ∧ fieldLE c 3 1 ≤ 4 ∧ fieldLE c 4 1 ≤ 2) &&
      (if fieldLE c 3 1 = 2 then decide (fieldLE c 6 1 < fieldLE c 5 1) else decide (fieldLE c 5 1 = 0 ∧ fieldLE c 6 1 = 0)))

/-- R376: whether the cells of a schedule clash, for a hop sequence of length `n`. -/
def cellsClash (b : Bytes) (n : Nat) : Bool :=
  let base := (cellsOfSchedule b).take (schCells b)
  let all := cellsOfSchedule b
  hasTwice (base.map (fun c => c.slot * 65536 + c.choff % max 1 n)) ||
    !base.any (fun c => c.kind == 0) ||
    base.any (fun c => (c.kind == 0 || c.kind == 3) && decide (1 < (all.filter (fun d => d.slot == c.slot)).length)) ||
    base.any (fun c => decide (16 < (listenCells b c.slot).length)) ||
    (base.any (fun c => c.mode == 2) && base.any (fun c => c.mode != 2))

/-- R376: whether the schedule of port `p` fails. An empty BLOB is no schedule. -/
def State.scheduleBad (t : State) (p : Nat) : Bool :=
  let b := t.val (0x3100 + p) 0
  if b = [] then false
  else
    !scheduleFields b ||
      (let seq := t.hopSeq p b
       seq == [] || cellsClash b seq.length || !seq.all (fun c => (schModes b).all (fun m => t.channelMode p c m)))

/-- R349, R361, R368, R376: the checks of radio port `p`. -/
def State.checkPort (t : State) (p : Nat) : List Failure :=
  let on := bit (t.cfgN 0x3000 1) p
  let steps := t.cfgN (0x3001 + p) 15
  let gains := (List.range steps).map (fun i => fieldInt (t.val (0x3001 + p) 14) (2 * i + 1) 1)
  let agc := t.cfgN (0x3001 + p) 16
  inconsistent 0x3000 2 (on && decide (24 < t.cfgN 0x3000 2 + t.cfgN (0x3001 + p) 10)) ++
    inconsistent (0x3001 + p) 1 (on && t.cfgN (0x3001 + p) 1 == 0) ++
    inconsistent (0x3001 + p) 8 (on && decide (t.cfgN 0x4004 2 < t.cfgN (0x3001 + p) 8)) ++
    inconsistent (0x3001 + p) 14 ((gains.zip (gains.drop 1)).any (fun g => decide (g.2 < g.1))) ++
    inconsistent (0x3001 + p) 16 (decide (agc ≠ 0xFF ∧ steps ≤ agc)) ++
    inconsistent (0x3100 + p) 0 (on && t.scheduleBad p)

/-- R178, R184: the checks of class `c`; `s` has the settings as they are. -/
def State.checkClass (t s : State) (c : Nat) : List Failure :=
  let k := t.classIn t.cfg.active c
  let i := 0x4400 + c
  inconsistent i 1 (k.len != (s.classIn s.cfg.active c).len && s.mtr.table.any (fun p => p.2.cls == c)) ++
    (List.range 4).flatMap (fun n => inconsistent i (8 + n) (decide (k.high.getD n 0 < k.low.getD n 0))) ++
    inconsistent i 20 (decide (k.total ≤ 3) && (bit k.parts k.total || k.kinds.getD k.total 0 != 1))

/-- R436: the marks of queue `q`. -/
def State.checkMarks (t : State) (q : Nat) : List Failure :=
  let h := t.cfgN (0x4810 + q) 2
  let l := t.cfgN (0x4810 + q) 3
  inconsistent (0x4810 + q) 2 (decide (h ≠ 0 ∧ (32 + t.skeinLimit q < h ∨ (l ≠ 0xFFFFFFFF ∧ h ≤ l))))

/-- R496, R502, and the objects of chapter 15 that name one another. -/
def State.checkUplink (t : State) : List Failure :=
  let ports := [1, 2, 3].map (t.cfgN 0x5002)
  let room := ([21, 22, 23].map (fun q => (32 + t.skeinLimit q) / 24)).foldl (· + ·) 0
  inconsistent 0x5002 1 (hasTwice ports || ports.any (fun p => p == 0 || p == 319 || p == 320)) ++
    inconsistent 0x5010 2 (decide (room < t.cfgN 0x5010 2)) ++
    inconsistent 0x5010 5 (decide (t.cfgN 0x5010 5 < t.cfgN 0x5010 4)) ++
    inconsistent 0x5020 3 (t.cfgN 0x5020 1 == 1 && t.cfgN 0x5020 2 == 1 && t.cfgN 0x5020 3 == 0xFF)

/-- R524: the sources of domain `k`, and JumpThreshold. Every GPIO is an input. -/
def State.checkDomain (t : State) (k : Nat) : List Failure :=
  let src := t.cfgN (0x5401 + k) 1
  let par := t.cfgN (0x5401 + k) 2
  inconsistent (0x5401 + k) 1
      ((src == 5 && (par == k || decide (7 < par) || (t.cfgN (0x5401 + par) 1 == 5 && t.cfgN (0x5401 + par) 2 == k))) ||
        (src == 1 && t.cfgN 0x5000 1 == 0) || (src == 2 && t.cfgN 0x5001 1 == 0) || (src == 3 && t.board.cascMaster)) ++
    inconsistent (0x5401 + k) 8 (decide (t.cfgN (0x5401 + k) 8 < t.cfgN (0x5401 + k) 7))

/-- R577: the response of source 11 is at least the strongest of the others. -/
def State.checkTamper (t : State) : List Failure :=
  inconsistent 0x5830 12 ((List.range 11).any (fun i => decide (t.cfgN 0x5830 12 < t.cfgN 0x5830 (i + 1))))

/-- R21: the shares of the five regions. -/
def State.checkShares (t : State) : List Failure :=
  let l := [1, 2, 3, 4, 5].map (t.cfgN 0x6010)
  inconsistent 0x6010 1 (l.any (· == 0) || l.foldl (· + ·) 0 != 63)

/-- R556: a slot that an object of the set binds must fit its use. -/
def State.checkSlot (t : State) (set : Settings) (idx sub kind : Nat) (sizes : List Nat) (consumers : List Nat) : List Failure :=
  match lookupKey (objKey idx sub) set with
  | some v => if consumers.all (t.slotFits (leNat v) kind sizes) then [] else [(objKey idx sub, Abort.keyPolicy)]
  | none => []

/-- Whether a set holds an object with an index from `lo` to `hi`. -/
def touches (set : Settings) (lo hi : Nat) : Bool := set.any (fun p => decide (lo ≤ p.1 / 256 ∧ p.1 / 256 ≤ hi))

/-- Checks that are made when the set touches a range of indices. -/
def whenTouched (set : Settings) (lo hi : Nat) (l : List Failure) : List Failure := if touches set lo hi then l else []

/-- R32 step 2: every check that the objects of a set call for. -/
def State.setFailures (s : State) (set : Settings) : List Failure :=
  let t : State := { s with cfg := { s.cfg with active := overlay set s.cfg.active, sets := [] } }
  let radio := touches set 0x3000 0x3010 || touches set 0x3100 0x3101 || touches set 0x4004 0x4004
  whenTouched set 0x2000 0x2020 ((List.range 8).flatMap t.checkChain) ++
    whenTouched set 0x2020 0x2020 ([1, 2].flatMap t.checkUserSet) ++
    whenTouched set 0x2400 0x2411 (t.checkBalance (touches set 0x2410 0x2411)) ++
    (List.range 3).flatMap (fun e => whenTouched set (0x2801 + e) (0x2801 + e) (t.checkEngine e)) ++
    (if radio then t.checkPort 0 ++ t.checkPort 1 ++ inconsistent 0x3010 0 ((List.range 256).any t.channelBad) else []) ++
    (List.range 16).flatMap (fun f => t.checkSlot set (0x3800 + f) 1 2 [0] [0, 1]) ++
    t.checkSlot set 0x3811 1 3 [0] [1] ++
    (List.range 64).flatMap (fun c => whenTouched set (0x4400 + c) (0x4400 + c) (t.checkClass s c)) ++
    (List.range 64).flatMap (fun q => whenTouched set (0x4810 + q) (0x4810 + q) (t.checkMarks q)) ++
    (if touches set 0x5002 0x5020 || touches set 0x4825 0x4827 then t.checkUplink else []) ++
    t.checkSlot set 0x5010 1 3 [1] [2] ++ t.checkSlot set 0x5020 3 3 [0] [3] ++
    (if touches set 0x5401 0x5408 || touches set 0x5000 0x5001 then (List.range 8).flatMap t.checkDomain else []) ++
    whenTouched set 0x5830 0x5830 t.checkTamper ++ whenTouched set 0x6010 0x6010 t.checkShares

/-- R90: the first failing object, by index and subindex. -/
def firstFailure (l : List Failure) : Option Failure :=
  l.foldl (fun acc f => match acc with | none => some f | some g => if f.1 < g.1 then some f else some g) none

/-! ### Steps 2 to 6 (R32 to R36) -/

/-- R36: a rejected set's values return to the staged set, but for those that the staged set or the later sealed set holds; the later set
takes its number. -/
def State.rejectSet (s : State) (p : Sealed) (rest : List Sealed) (f : Failure) : State :=
  let held := fun (k : Nat) => (lookupKey k s.cfg.staged).isSome || rest.any (fun q => (lookupKey k q.values).isSome)
  let back := p.values.filter (fun v => !held v.1)
  let renumber := fun (q : Sealed) => { q with number := p.number }
  ({ s with cfg := { s.cfg with staged := overlay back s.cfg.staged, sets := rest.map renumber } }).event 0x1002 commitCell
    (leBytes 4 p.number ++ leBytes 2 (f.1 / 256) ++ [byte (f.1 % 256), 0] ++ leBytes 4 f.2)

/-- R590: an object kept in the vault region. -/
def inVaultRegion (idx : Nat) : Bool := idx == 0x5830 || idx == 0x5831 || idx == 0x5850

/-- R33: which settings copy holds the current configuration. -/
def CfgState.current (c : CfgState) : Nat :=
  match c.copies with
  | [a, b] => if !b.crcOk then 0 else if !a.crcOk then 1 else if laterEpoch b.epoch a.epoch then 1 else 0
  | _ => 0

/-- R32 step 3: the S objects go into the settings copy that does not hold the current configuration, those of the vault region into the
vault region. The copies' own numbers run on over cast-ons. -/
def State.saveSet (s : State) (set : Settings) : State :=
  let i := s.cfg.current
  let old := at' s.cfg.copies i
  let kept := set.filter (fun v => persists (v.1 / 256) (v.1 % 256))
  let new : SettingsCopy :=
    { epoch := nextEpoch old.epoch, values := overlay (kept.filter (fun v => !inVaultRegion (v.1 / 256))) old.values, crcOk := true }
  { s with
    cfg := { s.cfg with copies := s.cfg.copies.set (1 - i) new }
    vaultNv := { s.vaultNv with settings := overlay (kept.filter (fun v => inVaultRegion (v.1 / 256))) s.vaultNv.settings } }

/-- R34, R436: the marks of every queue are taken again. -/
def State.remark (s : State) : State :=
  (List.range 64).foldl (fun st q => let r := st.putQueue q (at' st.queue.queues q); r.1.emitAll r.2) s

/-- R34: what a block does at its switch; `before` has the settings that it leaves. -/
def State.blockSwitched (s before : State) (b : Blk) : State :=
  let radio := fun (p : Nat) =>
    let s1 := s.radioSwitched before p
    if before.val (0x3100 + p) 0 = s.val (0x3100 + p) 0 then s1 else s1.scheduleChanged p
  let engine := fun (e : Nat) => if before.cfgN (0x2801 + e) 1 = s.cfgN (0x2801 + e) 1 then s else (s.loadFir (8 + e)).bandChanged e
  match b with
  | .time => timeSwitched before s
  | .ethernet => ethSwitched before s
  | .sensing => senseSwitched before s
  | .radio0 => radio 0
  | .radio1 => radio 1
  | .plc0 => engine 0
  | .plc1 => engine 1
  | .plc2 => engine 2
  | .lanes =>
    let s1 := s.lanesSwitched
    if before.cfgN 0x3811 1 = s.cfgN 0x3811 1 then s1 else s1.networkKeyChanged (before.cfgN 0x3811 1)
  | .cascade => s.cascadeSwitched
  | .queues => s.remark
  | .store => if before.cfgN 0x4C01 1 = s.cfgN 0x4C01 1 ∧ before.cfgN 0x4C01 2 = s.cfgN 0x4C01 2 then s else s.tryResume
  | _ => s

/-- R35: what a block that is fenced takes over from an epoch that completes without it; a radio port's enable and INIT run at its return
(R687). -/
def State.blockMissed (s before : State) (b : Blk) : State :=
  let radio := fun (p : Nat) => if before.val (0x3100 + p) 0 = s.val (0x3100 + p) 0 then s else s.scheduleChanged p
  match b with
  | .radio0 => radio 0
  | .radio1 => radio 1
  | _ => s.blockSwitched before b

/-- R32 step 6, R35: the epoch is applied once every block has switched or is fenced. -/
def State.settleEpoch (s : State) : State :=
  match s.cfg.publishing with
  | none => s
  | some p =>
    if allBlks.all (fun b => p.switched.contains b || s.blkFenced b) then
      let s1 : State := { s with cfg := { s.cfg with
          active := overlay p.values s.cfg.active, applied := p.number, sets := s.cfg.sets.drop 1 } }
      let s2 := (allBlks.filter (fun b => !p.switched.contains b)).foldl (fun st b => st.blockMissed s b) s1
      s2.event 0x1001 commitCell (leBytes 4 p.number)
    else s

/-- R34: whether a block stands at its boundary: an engine at a segment boundary, with no frame being sent or received; a radio port at a slot
boundary, likewise; the store with no batch begun. The other blocks come to theirs between any two commands (log entry 87). -/
def State.atBoundary (s : State) (b : Blk) : Bool :=
  let engine := fun (e : Nat) =>
    let x := s.eng e
    x.rx == .search && decide (x.sendUntil ≤ s.now) && (s.boundaryNow e).isSome
  let radio := fun (p : Nat) =>
    s.slotBoundaryNow && !(s.port p).demods.any (fun d => d.state == 2) && !(s.port p).tx.any (fun j => j.phase == .sending)
  match b with
  | .plc0 => engine 0
  | .plc1 => engine 1
  | .plc2 => engine 2
  | .radio0 => radio 0
  | .radio1 => radio 1
  | .store => s.store.mode != .ready || s.store.openRecs == []
  | _ => true

/-- R34, R37, R687: a block switches to the published epoch, and its ready cells return. -/
def State.switchBlock (s : State) (b : Blk) : State :=
  match s.cfg.sets with
  | [] => s
  | p :: rest =>
    if !p.published || p.switched.contains b then s
    else
      let s1 := { s with cfg := { s.cfg with sets := { p with switched := p.switched ++ [b] } :: rest } }
      ((s1.blockSwitched s b).returnCells b p.number)

/-- R32 steps 4 and 5: the set is loaded and published. Blocks with nothing new, and the time unit, switch at once. -/
def State.publishSet (s : State) (p : Sealed) (rest : List Sealed) : State :=
  let affected := (p.values.flatMap (fun v => blocksOf (v.1 / 256))).eraseDups
  let s1 := { s with cfg := { s.cfg with sets := { p with published := true, publishedAt := s.now } :: rest } }
  ((allBlks.filter (fun b => b == .time || !affected.contains b)).foldl State.switchBlock s1).settleEpoch

/-- CONFIG_SET_CHECK (R32 steps 2 to 5): the first sealed set, once its turn has come. -/
def configSetCheck (s : State) : State :=
  match s.cfg.sets with
  | [] => s
  | p :: rest =>
    if p.published then s
    else
      match firstFailure (s.setFailures p.values) with
      | some f => s.rejectSet p rest f
      | none => (s.saveSet p.values).publishSet p rest

/-- CONFIG_SET_CHECK as a command. -/
def execConfigSetCheck (s : State) : Res := s.whenRunning configSetCheck

/-- BLOCK_EPOCH_SWITCH (R34): a block that stands at its boundary switches; one that does not keeps its work and its configuration. -/
def blockEpochSwitch (b : Blk) (s : State) : State := if s.atBoundary b then (s.switchBlock b).settleEpoch else s.settleEpoch

/-- BLOCK_EPOCH_SWITCH as a command. -/
def execBlockEpochSwitch (b : Blk) (s : State) : Res := s.whenLive (blockEpochSwitch b)

/-- CONFIG_EPOCH_LATE (R35): 2 s after publication, once for each block that has not switched. -/
def configEpochLate (s : State) : State :=
  match s.settleEpoch.cfg.sets with
  | [] => s.settleEpoch
  | p :: rest =>
    let s0 := s.settleEpoch
    if !p.published || decide (s.now < p.publishedAt + cSec 2) then s0
    else
      let late := allBlks.filter (fun b => !p.switched.contains b && !s.blkFenced b && !p.lateRaised.contains b)
      late.foldl (fun st b => st.event 0x1003 b.cell (leBytes 4 p.number))
        { s0 with cfg := { s0.cfg with sets := { p with lateRaised := p.lateRaised ++ late } :: rest } }

/-- CONFIG_EPOCH_LATE as a command. -/
def execConfigEpochLate (s : State) : Res := s.whenLive configEpochLate

end Sys2Proof.Machine
end

