-- ==== Sys2Proof/Machine/CastOn.lean ====
section
/-!
DEFINITION. Cast-on (R707, R708), with the vault gate (R573), boot (R616), unsealing (R560), the completion of life-cycle transitions (R584,
R585), the settings (R33) and the seeding of time (R537).
-/
namespace Sys2Proof.Machine

/-! ### Settings (R33, R50, R610) -/

/-- R87, R597: the first indices of the ranges that schema entries name. -/
def schemaGroups : List Nat :=
  [0x1000, 0x2000, 0x2400, 0x2800, 0x3000, 0x3800, 0x3C00, 0x4000, 0x4400, 0x4800, 0x4C00, 0x5000, 0x5400, 0x5800, 0x5C00, 0x5E00,
   0x6000, 0x6400, 0x6800, 0x6C00]

/-- The group of an index. -/
def groupOf (idx : Nat) : Nat := (schemaGroups.filter (fun g => decide (g ≤ idx))).getLastD 0

/-- R610: whether a new image resets an object of a group that changed: neither of role KEYHOLDER nor in the vault region. -/
def schemaReset (groups : List Nat) (key : Nat) : Bool :=
  groups.contains (groupOf (key / 256)) && !inVaultRegion (key / 256) &&
    (match rowOf (key / 256) (key % 256) with
     | some r => r.save == .s && r.role != .keyholder
     | none => false)

/-- R615: the groups that the first cast-on of a new image resets lose their values. -/
def State.applySchemaDue (s : State) : State :=
  let g := s.fwNv.schemaDue
  let drop := fun (c : SettingsCopy) => { c with values := c.values.filter (fun v => !schemaReset g v.1) }
  { s with cfg := { s.cfg with copies := s.cfg.copies.map drop }, fwNv := { s.fwNv with schemaDue := [] } }

/-- R33: the settings of the copy with the later number among those whose CRC-32 is correct, and those of the vault region. -/
def State.loadSettings (s : State) : State :=
  let c := at' s.cfg.copies s.cfg.current
  { s with cfg := { s.cfg with active := overlay s.vaultNv.settings (if c.crcOk then c.values else []) } }

/-! ### Time (R537) -/

/-- R536: the time at a backup count, by the anchor: one count of the crystal is 2 × 10^9 units of 2^-16 ns. -/
def State.anchoredTime (s : State) (count : Nat) : Int :=
  s.time.anchorTime + ((count : Int) - (s.time.anchorCount : Int)) * 2000000000

/-- R537: every domain is seeded, and the pairs are enabled as configured. -/
def State.seedTime (s : State) (cause : Nat) : State :=
  let ok := decide (cause = 0) && s.time.anchorValid
  let t0 := if ok then s.anchoredTime s.time.backup else s.time.savedTd0
  let dom := fun (k : Nat) =>
    { initDomain with
      offset := t0 + (at' s.time.savedDiffs k).getD 0, anchor := s.now, state := if s.source k = 0 then .free else .unsync
      timeUnknown := !ok, lastSampleAt := s.now }
  let pair := fun (k : Nat) => { initPair with enabled := bit (s.cfgN 0x5430 1) k, anchor := s.now }
  let s1 := { s with time := { s.time with domains := (List.range 8).map dom, pairs := (List.range 2).map pair } }
  if ok then s1 else s1.event 0x540B 0x6400 [byte (if cause = 0 then 2 else cause)]

/-! ### The vault gate (R571, R573, R576, R579) -/

/-- The bank written last. -/
def State.newestBank (s : State) : Nat :=
  let a := at' s.vaultNv.banks 0
  let b := at' s.vaultNv.banks 1
  if b.written && (!a.written || decide (a.seq < b.seq)) then 1 else 0

/-- The key slot that a record of a bank holds; BAD where its CRC, its unwrap or its tag fails (R557, R560). -/
def Bank.open (b : Bank) (r : BankRecord) : KeySlot :=
  let bad : KeySlot := { policy := genUp (setField r.policy 3 2 2), key := [], tag := [] }
  if !r.crcOk then bad
  else
    match keyUnwrap (sealingKey b.labelM b.labelLcs) r.wrapped with
    | some k => if slotTag r.slot r.policy k = r.tag then { policy := r.policy, key := k, tag := r.tag } else bad
    | none => bad

/-- Slot 1 as a bank holds it. -/
def Bank.slot1 (b : Bank) : KeySlot :=
  match b.records.find? (fun r => r.slot == 1) with
  | some r => b.open r
  | none => emptySlot

/-- R579: an entry of the Hold log becomes a 0x5801 event with cause 2, its time by the anchor, or 0. -/
def State.holdEvent (s : State) (ok : Bool) (h : HoldEntry) : State :=
  let e : EventRec := ⟨if ok && s.time.anchorValid then s.anchoredTime h.count else 0, 0x5801, tamperCell h.source, noMeter,
    [byte h.source, byte (s.tamperResponse h.source), 2, 0] ++ leBytes 6 h.count⟩
  (s.vaultLogTake e).emitRec 4 e

/-- R573, R576: an Erase active or owed: both banks give way to one with slot 1 alone, sealed to LOCKED. -/
def State.gateErase (s : State) : State :=
  let b := at' s.vaultNv.banks s.newestBank
  ({ s with vault := { s.vault with measurement := b.labelM } }).eraseBanks b.slot1

/-- R575: a lockdown ends only where no source is active and nothing is owed. -/
def State.gateClear (s : State) (clear : Bool) : State :=
  if !s.vaultNv.wasLockdown then s
  else if !clear then { s with vault := { s.vault with lockdown := true } }
  else
    let s1 := { s with vaultNv := { s.vaultNv with wasLockdown := false } }
    s1.event 0x5803 0xA300 (leBytes 4 (secOf (s.td0 - s.vaultNv.lockdownSince)).toNat)

/-- R571, R573: a source found active at the gate: its firing is recorded, unless it has fired and not rearmed. -/
def State.gateFire (s : State) (source : Nat) : State :=
  if !(at' s.vaultNv.sources source).armed then s
  else
    let s1 := { s with vaultNv := { s.vaultNv with
      sources := upd s.vaultNv.sources source (fun t => { t with active := true, armed := false }) } }
    s1.noteFiring source (s.tamperResponse source) 1 s.time.backup

/-- Step 1 of cast-on: the vault gate. -/
def State.vaultGate (s : State) (sources : List Nat) (lost : Bool) : State :=
  let b := s.vaultNv.battery
  let active := (if lost then 11 :: sources else sources).filter (fun k => decide (k < 12) && s.tamperResponse k != 0)
  let s1 := (b.log.foldl (fun st h => st.holdEvent (!lost) h) s)
  let s2 := { s1 with vaultNv := { s1.vaultNv with battery := { b with valid := true, log := [], overflow := 0 } } }
  let s3 := active.foldl State.gateFire s2
  let worst := active.foldl (fun m k => if s.tamperResponse m < s.tamperResponse k then k else m) (active.headD 0xFF)
  let strength := if active = [] then 0 else s.tamperResponse worst
  let s4 := if strength = 3 ∨ b.eraseOwed then s3.gateErase else s3
  if strength = 2 ∨ b.zeroiseOwed then s4.enterLockdown (if strength = 2 then worst else 0xFF) 2
  else s4.gateClear (active.isEmpty && !b.eraseOwed)

/-- R700: a battery island that has lost its supply holds nothing: its counter, its register, its sources. -/
def State.islandLost (s : State) : State :=
  { s with
    time := { s.time with backup := 0, backupPart := 0, anchorValid := false }
    vaultNv := { s.vaultNv with battery := initVaultNv.battery, sources := initVaultNv.sources } }

/-! ### Boot (R616, R617) -/

/-- R616: whether a slot passes checks 4, 6 and 9 of R602. -/
def State.slotBoots (s : State) (i : Nat) : Bool := (s.fwSlot i).valid && decide (s.fwNv.floor ≤ (s.fwSlot i).version)

/-- R617, R620: why a slot does not boot, as a check of R602. -/
def State.slotResult (s : State) (i : Nat) : Nat := if !(s.fwSlot i).valid then 4 else if (s.fwSlot i).version < s.fwNv.floor then 6 else 0

/-- R617: recovery; 0x5C07 is kept in the vault log. -/
def State.enterRecovery (s : State) : State :=
  let r := (s.slotResult 0, s.slotResult 1)
  let e : EventRec := ⟨s.td0, 0x5C07, updateCell, noMeter, [byte r.1, byte r.2]⟩
  let l := s.vaultNv.log ++ [e.bytes]
  { s with vaultNv := { s.vaultNv with log := l.drop (l.length - 256) }, fw := { s.fw with state := 6, recovery := some r } }

/-- Step 4 of cast-on: the boot ROM picks a slot and measures its image. -/
def State.boot (s : State) : State :=
  let n := s.fwNv
  let boots := if n.probation then n.boots + 1 else n.boots
  let s1 : State :=
    if n.probation ∧ 3 ≤ boots then
      (({ s with fwNv := { n with active := n.previous, previous := n.active, probation := false, boots := 0 } }).fwCount 5).revertEvent 4 1
        (s.fwSlot n.active).version (s.fwSlot n.previous).version
    else { s with fwNv := { n with boots := boots } }
  let s2 :=
    if s1.slotBoots s1.fwNv.active then some s1
    else if s1.slotBoots s1.fwNv.previous then
      some { s1 with fwNv := { s1.fwNv with active := s1.fwNv.previous, previous := s1.fwNv.active, probation := false } }
    else none
  match s2 with
  | some t => { t with vault := { t.vault with measurement := (t.fwSlot t.fwNv.active).measure } }
  | none => s1.enterRecovery

/-! ### Unsealing (R551, R554, R560) -/

/-- R554: the policy of slot 0: IDENTITY, 384 bits, FIXED, SIGN and AGREE. -/
def identityPolicy : Nat := 5 + 2 * 2 ^ 5 + 2 ^ 15 + 2 ^ 21 + 2 ^ 22

/-- R560: a record of the bank in use fills its slot, or leaves it BAD. -/
def State.unsealRecord (b : Bank) (s : State) (r : BankRecord) : State :=
  let k := b.open r
  if s.vault.lockdown ∧ !polSurvive k.policy then s
  else
    let s1 := s.setSlot r.slot k
    if polState k.policy = 2 ∧ k.key = [] then
      ((s1.vaultCount 3 1).raiseError (0xA000 + r.slot) 0x0033).event 0x5807 (0xA000 + r.slot) ([byte r.slot, 6] ++ leBytes 2 (polGen k.policy))
    else s1

/-- R560: no bank can be unsealed. -/
def State.unsealFailed (s : State) (cause : Nat) : State :=
  ({ s with vault := { s.vault with unsealFail := cause } }).event 0x580A 0xA300 [byte cause]

/-- The banks whose label is the booted measurement and the life-cycle state. -/
def State.matchingBanks (s : State) : List Nat :=
  [0, 1].filter (fun i => let b := at' s.vaultNv.banks i; b.written && b.labelM == s.vault.measurement && b.labelLcs == s.lcs.code)

/-- R616: banks that do not match the booted image are destroyed, unless PROBATION is set. -/
def State.keepBanks (s : State) (own : List Nat) : State :=
  let both := s.fwNv.probation && s.vaultNv.banks.all (·.written)
  let keep := fun (i : Nat) (b : Bank) => if both || own.contains i then b else { initBank with seq := b.seq }
  { s with vaultNv := { s.vaultNv with banks := s.vaultNv.banks.mapIdx keep }, vault := { s.vault with bothBanks := both } }

/-- The bank in use opened: its slots and the data key. -/
def State.unsealBank (s : State) (i : Nat) : State :=
  let b := at' s.vaultNv.banks i
  let s1 := b.records.foldl (State.unsealRecord b) { s with vault := { s.vault with bankInUse := i, keyId := b.keyId } }
  let dk := if s.vault.lockdown || b.storeKey == [] then [] else (keyUnwrap (sealingKey b.labelM b.labelLcs) b.storeKey).getD []
  { s1 with vault := { s1.vault with dataKey := dk } }

/-- R559: bank A as the vault first writes it, at manufacture. -/
def State.firstBank (s : State) : State :=
  { s with vaultNv := { s.vaultNv with banks := [{ initBank with written := true, labelM := s.vault.measurement, seq := 1 }, initBank] } }

/-- R560: the backing store unsealed. -/
def State.unseal (s0 : State) (hukOk : Bool) : State :=
  let fixed := (List.range 2).map (fun i => if i = 0 then mkSlot 0 identityPolicy (beBytes 48 identityKey) else clearedSlot i)
  if !hukOk then s0.unsealFailed 3
  else
    let virgin := s0.lcs == .blank && s0.vaultNv.banks.all (fun b => !b.written && b.seq == 0)
    let s1 := if virgin then s0.firstBank else s0
    let s := { s1 with vault := { s1.vault with hukOk := true, slots := fixed ++ s1.vault.slots.drop 2 } }
    match s.matchingBanks with
    | [] => s.unsealFailed (if s.vaultNv.banks.all (fun b => !b.written) then 2 else 1)
    | [i] => (s.unsealBank i).keepBanks [i]
    | own => (s.unsealBank s.newestBank).keepBanks own

/-! ### Completion of a transition (R583 to R585) -/

/-- R585: the settings carried over a transition into PROVISIONED or DEPLOYED. -/
def carriedKeys : List Nat :=
  [objKey 0x1031 1, objKey 0x1031 2, objKey 0x1031 3, objKey 0x1031 4, objKey 0x3811 1, objKey 0x5010 1, objKey 0x5020 3] ++
    (List.range 16).map (fun f => objKey (0x3800 + f) 1)

/-- R585 steps 2 to 4: every MRAM region but the vault region is wiped, NAND is crypto-erased, and the settings take their defaults. The
battery island keeps its own, and CastOnCount counts on. -/
def State.lifeWipe (s : State) (carry : Bool) : State :=
  let old := (at' s.cfg.copies s.cfg.current).values
  let kept : Settings := if carry then old.filter (fun v => carriedKeys.contains v.1) else []
  let vaultKept := if carry then s.vaultNv.settings else []
  let copy : SettingsCopy := ⟨0, kept, true⟩
  { s with
    cfg := { initCfg with copies := [copy, copy], active := overlay vaultKept kept }
    dict := if carry then s.dict else initDict (List.replicate 5 (0, 0))
    time := { s.time with savedTd0 := 0, savedDiffs := List.replicate 8 none }
    senseNv := initSenseNv, sense := initSense initSenseNv.saved
    net := if carry then s.net else initNet
    distNv := initDistNv, storeNv := initStoreNv
    upNv := if carry then { s.upNv with cum := 0 } else initUplinkNv
    up := initUplink (if carry then { s.upNv with cum := 0 } else initUplinkNv)
    vaultNv := { s.vaultNv with settings := vaultKept, intent := none, bundle := [] } }

/-- R582: the bundle of a transition into PROVISIONED: its slots filled, its ROLE_SLOTS written into 0x1031. -/
def State.installOwner (s : State) (b : Bytes) : State :=
  let s1 := match s.installBundle b with | some r => r.1 | none => s
  (List.range 4).foldl (fun st i => st.setRw 0x1031 (i + 1) (slice b (104 + i) 1)) s1

/-- R583 step 5, R584: a transition found at cast-on is completed, or discarded with its spare bank. -/
def State.finishTransition (s : State) : State :=
  match s.vaultNv.intent with
  | none => s
  | some i =>
    if i.fusesDone then
      let b := s.vaultNv.bundle
      let s1 := s.lifeWipe (i.target == 1 || i.target == 2)
      (if i.target = 1 then s1.installOwner b else s1).lifeEvent i.source i.target i.cause
    else
      let drop := fun (x : Bank) => if x.written && x.labelLcs == i.target then { initBank with seq := x.seq } else x
      ({ s with vaultNv := { s.vaultNv with intent := none, bundle := [], banks := s.vaultNv.banks.map drop } }).event 0x5809 0xA300
        [byte i.target]

/-! ### The links start (step 9) -/

/-- R218, R226, R342, R375: what the field region takes from the configuration. -/
def State.startField (s : State) : State :=
  let fir := (List.range 13).foldl State.loadFir s
  let nom := s.nominalPeriod
  let plc := { fir with plc := { fir.plc with engines := fir.plc.engines.map (fun e =>
    { e with freeSince := s.td0, period := nom, cycles := [(s.td0, nom)], listenTo := s.now + cNs nom }) } }
  [0, 1].foldl (fun st p =>
    let b := st.val (0x3100 + p) 0
    let st1 := if b = [] then st else st.updMac p (fun m => { m with pending := some b })
    if bit (st1.cfgN 0x3000 1) p then st1.portEnabled p true else st1) plc

/-- R108, R125, R159, R167, R200: what the data region takes: generations of the slots, PipelineMode, rekeys and joins that start afresh, and
histories to rebuild. -/
def State.startData (s : State) : State :=
  let gens := s.vault.slots.map (fun k => polGen k.policy)
  let renew := fun (x : Lane) => { x with gens := gens }
  let s1 : State := { s with lane := { s.lane with lanes := s.lane.lanes.map renew } }
  let ms := s1.mtr.table
  let rekeys := (ms.filter (fun p => p.2.state == 2 && p.2.pendingGen != 0 && bit p.2.rflags 1)).map (fun p => Rekey.mk p.1 0 (s1.now + cSec (s1.cfgN 0x3812 4)) false 0 false)
  let joins := (ms.filter (fun p => p.2.state == 1)).map (fun p => (p.1, s1.now))
  let s2 : State := { s1 with mtr := { s1.mtr with rekeys := rekeys, joins := joins }, vee := { s1.vee with toRebuild := ms.map (·.1) } }
  s2.lanesSwitched

/-- R612, R616: the update unit: probation restarts in full, and a STAGED image stays STAGED. -/
def State.startUpdate (s : State) : State :=
  if s.fwNv.probation then
    s.updFw (fun u => { u with state := 4, probationEnd := s.now + cSec (s.cfgN 0x5C00 2) })
  else if s.fwNv.staged then
    s.updFw (fun u => { u with state := 2, hoVersion := handoverVersion (s.fwSlot s.fwNv.active) (s.fwSlot s.idleSlot) })
  else s

/-- R648, R670: every island runs. -/
def State.startIslands (s : State) : State :=
  { s with isl := { s.isl with
      islands := s.isl.islands.mapIdx (fun i x => { x with locked := true, inReset := false, kHz := s.nominalHz i / 1000 }) } }

/-- Step 9 of cast-on: the links start, and 0x6802 is raised. -/
def State.startLinks (s : State) (end9 : Nat) : State :=
  let s1 := ((s.startIslands.startField).startData).startUpdate
  let s2 := { s1 with
    up := { s1.up with exp := { s1.up.exp with session := some 0, lastSentAt := s.now, lastAckAt := s.now } }
    casc := { s1.casc with own := if s1.board.cascMaster then 0 else 0xFF, seenAt := s.now }
    power := { s1.power with phase := .run, lastSaveAt := s.now } }
  let s3 := match s2.powerNv.gaspCut with
    | some g => ({ s2 with powerNv := { s2.powerNv with gaspCut := none } }).event 0x6806 powerCell [byte g.1, byte g.2]
    | none => s2
  s3.event 0x6802 powerCell
    ([byte s3.powerNv.resetCause, byte s3.powerNv.lastGaspResult, 0, 0] ++ leBytes 4 end9 ++ leBytes 4 s3.mtr.table.length)

/-- Step 6: DRAM is trained and wiped, and the skein pool is laid out (R429). -/
def State.startDram (s : State) (ok : Bool) : State :=
  if !ok then ({ s with power := { s.power with phase := .run } }).deviceFaulted 0x4100 0x0020
  else
    let want := s.cfgN 0x4800 1
    let have' := min want (s.board.dramMiB / 4)
    let s1 := { s with queue := { s.queue with poolMiB := have' } }
    if have' < want then s1.event 0x4807 0x4000 (leBytes 2 want ++ leBytes 2 have') else s1

/-! ### The command -/

/-- R707: what each step does; steps 2, 3 and 8 have their effects in those beside them. -/
def castOnStep (i : CastOnInput) (k : Nat) (s : State) : State :=
  match k with
  | 0 => { s with power := { s.power with refSource := if i.board.refclk then 1 else 0 } }
  | 1 => s.vaultGate i.sources (i.vbatLost || !s.vaultNv.battery.valid)
  | 4 => s.boot
  | 5 => ((s.unseal i.hukOk).finishTransition.applySchemaDue).loadSettings
  | 6 => s.startDram i.dramOk
  | 7 => s.mount i.torn i.mountMs
  | 9 => s.startLinks (i.times.getD 9 0)
  | _ => s

/-- R708: the steps run in order, unless recovery, DEVICE_FAULT, PFAIL_N or a cold reset ends them. -/
def castOnRun (i : CastOnInput) : Nat → State → State
  | 0, s => s
  | n + 1, s =>
    let k := 9 - n
    if s.inRecovery || s.health.deviceFault || s.power.phase != .castOn || (k != 0 && s.power.castStep != k - 1) then s
    else if i.cut.map (·.1) = some k then
      s.coldReset (if (i.cut.map (·.2)).getD false then 2 else 1)
    else if i.pfailStep = some k ∧ 6 ≤ k then { s with power := { s.power with phase := .stopped, pfailLow := true } }
    else
      let s1 := { s with power := { s.power with castStep := k, castOnTimes := s.power.castOnTimes.set k (i.times.getD k 0) } }
      castOnRun i n (castOnStep i k s1)

/-- CAST_ON (R706, R707): reset is released. The model takes cast-on as one instant, the end of step 9; the settings and the time are there
from its start, so that its events can be stamped. A freeze holds it up (R708). -/
def castOn (i : CastOnInput) (s : State) : State :=
  if (s.power.phase ≠ .castOn ∧ s.power.phase ≠ .held) ∨ s.inRecovery ∨ s.health.frozen then s
  else
    let s0 := if s.power.phase = .held then s.coldReset s.power.pendingCause else s
    let s1 := if i.vbatLost then s0.islandLost else s0
    let s2 := { s1 with
      board := i.board
      time := { s1.time with counter := cUs (i.times.getD 9 0), backup := (s1.time.backup + i.backup) % 2 ^ 48 }
      powerNv := { s1.powerNv with castOnCount := sat32 s1.powerNv.castOnCount } }
    let s3 := (s2.loadSettings).seedTime (if i.vbatLost then 1 else 0)
    castOnRun i 10 s3

/-- CAST_ON as a command. -/
def execCastOn (input : CastOnInput) (s : State) : Res := .next (castOn input s)

end Sys2Proof.Machine
end

