-- ==== Sys2Proof/Machine/Flags.lean ====
section
/-!
DEFINITION. The status words that reads of the dictionary return, each laid out by the field map of its own chapter.
-/
namespace Sys2Proof.Machine

/-! ### Sensing (R220, R222, R247) -/

/-- 0x2030.1: the byte of channel `c`: enabled, SETTLING, OVERRANGE in the last block, LOST, FENCED. -/
def State.channelByte (s : State) (c : Nat) : Nat :=
  let x := at' s.sense.chains c
  b2n (bit (s.cfgN 0x2000 1) c) + 2 * b2n (decide (0 < x.settle)) + 4 * b2n (at' s.sense.overLast c) +
    8 * b2n (decide (c < 3) && (at' s.sense.phases c).lost) + 16 * b2n (s.chanFenced c)

/-- 0x2030.1. -/
def State.channelStatus (s : State) : Nat := leNat ((List.range 8).map (fun c => byte (s.channelByte c)))

/-- 0x2030.2: LOCKED, MAINS_ABSENT, sag active, swell active, FREQ_OUT. -/
def State.gridStatus (s : State) : Nat :=
  b2n s.sense.locked + 2 * b2n (at' s.sense.phases 0).lost + 4 * b2n (s.sense.phases.any (fun p => p.sag.isSome)) +
    8 * b2n (s.sense.phases.any (fun p => p.swell.isSome)) + 16 * b2n s.sense.freqOut

/-- R222: the delay of a FIR set at the nominal frequency, in 2^-16 samples at 16 kS/s: the GROUP_DELAY of the set (R219). -/
def State.firDelay (s : State) (c : Nat) : Nat := (s.firSet (s.cfgN (0x2001 + c) 5)).2.2.2

/-- 0x2104: R222: 254 samples at 4.096 MHz, 11 at 32 kS/s, the FIR set's delay, and 500 µs + τ, in ns. -/
def State.chainDelay (s : State) (c : Nat) : Int :=
  62012 + 343750 + ((s.firDelay c * 62500 / 65536 : Nat) : Int) + 500000 + nsOf (s.tau c)

/-- R220: the active bank of FIR cell `c` in the format of R219. -/
def State.firBank (s : State) (c : Nat) : Bytes :=
  let f := at' s.sense.fir c
  leBytes 2 f.active.length ++ [byte (at' f.decim f.bank), byte (at' f.kinds f.bank)] ++ leBytes 4 (at' f.delays f.bank) ++
    (f.active.map (leInt 4)).flatten

/-! ### Power line (R311, R334) -/

/-- 0x2840.1 to .3: enabled, W band, grid free-running, receiving, sending, fenced. -/
def State.engineStatus (s : State) (e : Nat) : Nat :=
  let x := s.eng e
  b2n (bit (s.cfgB (plcBlk e) 0x2800 1) e) + 2 * b2n (s.cfgN (0x2801 + e) 1 == 1) + 4 * b2n x.free + 8 * b2n (x.rx != .search) +
    16 * b2n (decide (s.now < x.sendUntil)) + 32 * b2n (!s.inService e)

/-- 0x2820: N(s, t) in 0.25 dBFS at offset 64 s + 2 t; 0x8000 beyond the segments of the band. -/
def State.noiseBytes (s : State) (e : Nat) : Bytes :=
  ((s.eng e).noise.map (fun v => leInt 2 (clampInt (v / 65536) (-32768) 32767))).flatten

/-- What an engine keeps of the selected meter as a transmitter (0x2810). -/
def State.toneMapsOf (s : State) (m : Meter) : Option ToneMaps :=
  if 2 < m.link then none else (s.eng m.link).maps.find? (fun x => x.tx == m.short)

/-- An SNR in 0.25 dB as the objects carry it: 0x8000 where it is unknown. -/
def snrField (v : Option Int) : Bytes := match v with | some x => leInt 2 (clampInt (x / 256) (-32767) 32767) | none => [0x00, 0x80]

/-- 0x2851: the entries of a meter's links. -/
def State.meterLinks (s : State) (m : Meter) : Bytes :=
  ((s.plc.links.filter (fun l => l.a == m.short || l.b == m.short)).map (fun l =>
    let peer := if l.a = m.short then l.b else l.a
    let out := if l.a = m.short then (l.snrAB, l.snrBA) else (l.snrBA, l.snrAB)
    leBytes 2 peer ++ [byte (if peer = 0 then l.engine else 0), byte l.fails] ++ snrField out.1 ++ snrField out.2 ++
      leBytes 4 ((s.now - l.lastAt) / cSec 1))).flatten

/-- 0x2852.2: HOPS and the repeaters, unused places 0xFFFF. -/
def routeBytes (hops : List Nat) : Bytes :=
  byte hops.length :: ((List.range 7).map (fun k => leBytes 2 (hops.getD k 0xFFFF))).flatten

/-! ### Radio (R362, R397) -/

/-- 0x3040.1, .2: in use, IQ fault, transmitting, script running, INIT failed, fenced, the levels of the control lines. A script runs to
its end within its own step, so no read meets one under way. -/
def State.radioStatus (s : State) (p : Nat) : Nat :=
  let x := s.port p
  b2n x.inUse + 2 * b2n (x.iqCause != 0) + 4 * b2n x.air.isSome + 16 * b2n x.initFailed +
    32 * b2n (!s.inService (iqCell p) || !s.inService (txCell p) || !s.inService (spiCell p)) + 64 * (x.ctl % 16)

/-- 0x3020, 0x3021: the demodulators of a port. -/
def State.demodBytes (s : State) (p : Nat) : Bytes :=
  ((s.port p).demods.mapIdx (fun d x => [byte x.channel, byte x.mode, byte (if s.inService (demodCell p d) then x.state else 4), 0])).flatten

/-- 0x3011: the bin of each channel on a port. -/
def State.binBytes (s : State) (p : Nat) : Bytes :=
  (List.range 256).map (fun c => match s.channelBin p c with
    | some (k, merged) => byte (k + 128 * b2n merged)
    | none => 0xFF)

/-- 0x3140.5, .6: the hop sequence in force. -/
def State.hopBytes (s : State) (p : Nat) : Bytes :=
  let b := (s.mac p).sched
  let seq := if b = [] then [] else s.hopSeq p b
  if seq = [] then zeros 257 else padTo 257 (byte (seq.length - 1) :: seq.map byte)

/-! ### Time (R548) -/

/-- 0x5411.2 to 0x5418.2: SYNC, JUMP_REFUSED, TIME_UNKNOWN, FREEZE_GAP, SELECTED, SLEWING. -/
def State.domainFlags (s : State) (k : Nat) : Nat :=
  let d := s.dom k
  let pr := at' s.time.pairs (k / 2)
  b2n d.sync + 2 * b2n d.jumpRefused + 4 * b2n d.timeUnknown + 8 * b2n d.freezeGap +
    16 * b2n (decide (k < 4) && pr.enabled && s.selectedMember (k / 2) == k) +
    32 * b2n ((k == 0 || k == 2) && pr.enabled && pr.slewing)

/-- 0x5411.4: the frequency of P against 2 ns, in ppb, to the nearest (log entry 55): the P that chapter 16 shows for 1.25 ppm is a
little below it. -/
def freqAdj (period : Nat) : Int := (((period : Int) - 2 * 2 ^ 40) * 1000000000 + 2 ^ 40) / (2 * 2 ^ 40)

/-- 0x5431.3, .4: what a pair's output still has to slew, in ns. -/
def State.pairLeft (s : State) (k : Nat) : Int :=
  let p := at' s.time.pairs k
  if p.enabled && p.slewing then nsOf ((s.dom (s.selectedMember k)).at s.now - s.pairAt k s.now) else 0

/-! ### Store (R487) -/

/-- The superblocks that a die is part of. -/
def State.dieErases (s : State) (d : Nat) : List Nat := (s.storeNv.sbs.filter (fun b => b.dies.contains d)).map (·.erases)

/-- 0x4C04.1: the units that the superblocks hold after parity, in bytes. -/
def State.usableBytes (s : State) : Nat :=
  (s.storeNv.sbs.map (fun b => s.stripeUnits (b.dies.filter (fun d => (s.die d).state == 1)) * s.pagesPerBlock)).foldl (· + ·) 0 * 16384

/-- 0x4C04.2: the ring units that are not mapped, in bytes. -/
def State.freeBytesOfRing (s : State) : Nat :=
  (min s.root.units (s.usableBytes / 16384) - ringBase - (s.storeNv.map.filter (fun p => decide (ringBase ≤ p.1) && p.2.isSome)).length) * 16384

/-- R454, R455: the days held, those of units that are still on their way to the array and of the open unit among them. -/
def State.daysHeld (s : State) : List DayDir :=
  let mapped := fun (u : UnitBuf) => s.storeNv.days.any (fun d => d.day == u.day && (d.units.contains u.mun || d.segments.contains u.mun))
  let waiting := s.unitsInDram.filter (fun u => decide (u.kind ≤ 1) && !mapped u)
  let l := waiting.foldl (fun acc u => putDay u acc) s.storeNv.days
  match s.store.openRecs with
  | [] => l
  | (a, _) :: r => putDay (UnitBuf.mk s.store.openMun 0 0 a s.store.openDay [] none (r.length + 1) 0 0) l

/-- 0x4C21. -/
def State.dayDirectory (s : State) : Bytes :=
  (s.daysHeld.map (fun d => leBytes 4 d.day ++ leBytes 8 d.firstAseq ++ leBytes 4 d.records ++ leBytes 4 d.units.length ++
    leBytes 2 d.segments.length ++ zeros 2)).flatten

/-! ### Ethernet, export and import (R515) -/

/-- 0x5012.1: the state, with [7] the secondary target in use. -/
def State.exportWord (s : State) : Nat := s.up.exp.state + 128 * b2n s.up.exp.secondary

/-- 0x5040: link up, speed, fenced. -/
def State.ethWord (s : State) (p : Nat) : Nat :=
  let x := at' s.up.eth p
  b2n x.up + 2 * (x.speed % 4) + 8 * b2n (!s.inService (ethCell p))

/-- 0x5022: the gateways learned. -/
def State.gatewayBytes (s : State) : Bytes :=
  (s.up.imp.gateways.map (fun g => leBytes 8 g.eui ++ padTo 16 g.address ++ leBytes 2 g.udpPort ++ [byte g.family, byte g.ethPort] ++
    leBytes 4 ((s.now - g.lastAt) / cSec 1))).flatten

/-! ### Vault, life cycle, update (R590, R619) -/

/-- 0x5832.1: the sources active now. -/
def State.tamperActive (s : State) : Nat := ofBits (s.vaultNv.sources.map (·.active))

/-- 0x5832.4: ZEROISE_OWED and ERASE_OWED. -/
def State.tamperOwed (s : State) : Nat := b2n s.vaultNv.battery.zeroiseOwed + 2 * b2n s.vaultNv.battery.eraseOwed

/-- 0x5801.2: the bank in use, and whether both banks are written. -/
def State.bankWord (s : State) : Nat := s.vault.bankInUse + 2 * b2n (s.vaultNv.banks.all (·.written))

/-- 0x5C01.5: the VERSION of the other slot's image while it can be booted again. -/
def State.previousVersion (s : State) : Nat :=
  let x := s.fwSlot s.idleSlot
  if x.valid && !s.fwNv.staged then x.version else 0

/-- 0x5C01.7: what is left of probation, in seconds. -/
def State.probationLeft (s : State) : Nat := if s.fw.state = 4 then (s.fw.probationEnd - s.now + cSec 1 - 1) / cSec 1 else 0

/-- 0x5C20: the header of the staged image. -/
def State.stagedHeader (s : State) : Bytes :=
  let b := (s.fwSlot s.idleSlot).image
  if s.fwNv.staged then b.take (imgHead b) else []

/-- 0x5C21: the groups that a staged image changes. -/
def State.schemaBytes (s : State) : Bytes :=
  if s.fwNv.staged then ((schemaChanges (s.fwSlot s.fwNv.active) (s.fwSlot s.idleSlot)).map (leBytes 2)).flatten else []

/-! ### Cascade (R645) -/

/-- 0x5E02: the node table, at the master. -/
def State.nodeBytes (s : State) : Bytes :=
  if !s.board.cascMaster then [] else
  (s.casc.nodes.map (fun n => [byte n.node, byte n.port, byte n.hops, byte (b2n n.lost)] ++ leBytes 8 n.eui ++
    leBytes 4 (s.casc.dir.filter (fun d => d.2 == n.node)).length)).flatten

/-- 0x5E10.1: up, upstream, fenced. -/
def State.ihWord (s : State) (p : Nat) : Nat :=
  b2n (at' s.casc.ports p).up + 2 * b2n (!s.board.cascMaster && s.casc.upstream == p) + 4 * b2n (!s.inService (ihCell p))

/-! ### Containment (R695) -/

/-- The numbering of 0x6421.1. -/
def CellStatus.code : CellStatus → Nat
  | .inService => 0 | .fenced => 1 | .retired => 2 | .selfTesting => 3 | .returnReady => 4 | .held => 5

/-- 0x6421.6. -/
def ErrReport.bytes (e : ErrReport) : Bytes := time80 e.time ++ leBytes 2 e.cell ++ leBytes 2 e.code ++ [byte e.cls, 0, 0, 0]

/-- The collector that 0x6420 selects. -/
def State.viewed (s : State) : Collector := (lookupKey (s.cfgN 0x6420 0) s.health.collectors).getD emptyCollector

end Sys2Proof.Machine
end

