-- ==== Sys2Proof/Machine/Values.lean ====
section
/-!
DEFINITION. What a READ of each object returns (R48, R49): settings from the active or the staged set, and every status, counter and
view that the object tables of the chapters describe.
-/
namespace Sys2Proof.Machine

/-- A value before its encoding: unsigned, signed, or bytes. -/
inductive RV where
  | n (v : Nat)
  | i (v : Int)
  | b (v : Bytes)
deriving DecidableEq, Repr

/-- R47: the encoding in a type of `size` bytes; a BLOB (size 0) takes its bytes as they are. -/
def RV.bytes (v : RV) (size : Nat) : Bytes :=
  match v with
  | .n x => leBytes size x
  | .i x => leInt size x
  | .b x => if size = 0 then x else padTo size x

/-- Count `k` (from 1) of a list of counts. -/
def countOf (l : List Nat) (k : Nat) : RV := .n (at' l (k - 1))

/-- A number that an unsigned type of `size` bytes holds saturated. -/
def satTo (size v : Nat) : RV := .n (min v (256 ^ size - 1))

/-! ### Chapters 1 to 5 -/

/-- R88: 0x1001 to 0x1035. With no session 0x1035 reads 0xFFFFFFFF, after reset too: its Meaning column, where the Default column has 0
(log entry 74). -/
def State.values1 (s : State) (role idx sub : Nat) : Option RV :=
  match idx with
  | 0x100A => some (.n (s.fwSlot s.fwNv.active).version)
  | 0x1010 => (match sub with
      | 2 => some (.n s.pendingEpoch)
      | 3 => some (.n s.cfg.applied)
      | 4 => some (.n s.cfg.staged.length)
      | _ => none)
  | 0x1018 => some (.n s.lcs.code)
  | 0x1032 => if sub = 0 then none else some (countOf s.dict.counters sub)
  | 0x1034 => if sub = 0 then none else some (.n (at' s.dict.roles (sub - 1)).high)
  | 0x1035 =>
    let r := at' s.dict.roles role
    let alive := fun (t : Nat) => decide (s.now < t + cSec 10)
    (match sub with
      | 1 => some (.n (match r.readS with | some x => if alive x.lastAt then 0 else maxU32 | none => maxU32))
      | 2 => some (.n (match r.writeS with | some x => if alive x.lastAt then x.data.length else maxU32 | none => maxU32))
      | _ => none)
  | _ =>
    if 0x1020 ≤ idx ∧ idx ≤ 0x1027 ∧ sub ≠ 0 then
      some (match at' s.dict.subs (idx - 0x1020) with
        | none => .n 0
        | some u => (match sub with
          | 1 => .n 1
          | 2 => .b ([byte u.via.transport, byte u.via.port] ++ leBytes 2 u.via.udpPort ++ padTo 16 u.via.address)
          | 3 => .n u.role
          | 4 => .n u.node
          | 5 => .n ((u.leaseEnd - s.now) / cSec 1)
          | 6 => .b (leBytes 2 u.cellFilter ++ (u.ranges.map (fun p => leBytes 2 p.1 ++ leBytes 2 p.2)).flatten)
          | _ => .n u.dropped))
    else none

/-- R130: 0x3800 to 0x3830. -/
def State.values3 (s : State) (idx sub : Nat) : Option RV :=
  if 0x3800 ≤ idx ∧ idx ≤ 0x380F ∧ sub = 4 then
    some (.n (s.mtr.table.filter (fun p => p.2.family == idx - 0x3800)).length)
  else match idx, sub with
  | 0x3811, 2 => some (.n s.net.gen)
  | 0x3811, 3 => some (.n s.net.mc)
  | 0x3811, 4 => some (.n s.net.join)
  | 0x3820, 2 => some (.n ((s.selected.map (fun p => p.2.eui)).getD 0))
  | 0x3821, 0 => some (.b ((s.selected.map (fun p => p.2.bytes)).getD []))
  | 0x3830, k + 1 => some (countOf s.mtr.counters (k + 1))
  | _, _ => none

/-- R174: 0x4001 to 0x4020. -/
def State.values4 (s : State) (idx sub : Nat) : Option RV :=
  match idx, sub with
  | 0x4001, k + 1 =>
    some (.n (if (s.laneOf k).mode = .retired ∧ s.cellStatus (laneCell k) = .returnReady then LaneMode.fenced.code else (s.laneOf k).mode.code))
  | 0x4002, 2 => some (.b (s.effectiveMap.map byte))
  | 0x4010, k + 1 => some (countOf s.lane.counters (k + 1))
  | 0x4020, 1 => some (.n s.lane.latencyMax)
  | 0x4020, 2 => some (.n s.lane.latencyCount)
  | _, k =>
    if 0x4011 ≤ idx ∧ idx ≤ 0x4014 then
      let l := s.laneOf (idx - 0x4011)
      (match k with
        | 1 => some (.n l.commits) | 2 => some (.n l.squashes) | 3 => some (.n l.rewound)
        | 4 => some (satTo 1 l.items.length) | 5 => some (satTo 1 l.peak) | 6 => some (.n l.plainItems)
        | _ => none)
    else none

/-- R208: 0x4400 to 0x4421. -/
def State.values5 (s : State) (idx sub : Nat) : Option RV :=
  if isClassObj idx sub ∧ sub = 33 then some (.n (s.mtr.table.filter (fun p => p.2.cls == idx - 0x4400)).length)
  else match idx, sub with
  | 0x4412, 12 => some (.n s.vee.toRebuild.length)
  | 0x4412, k + 1 => if k < 11 then some (countOf s.vee.counters (k + 1)) else none
  | 0x4420, 8 => some (.n s.vee.editState)
  | 0x4420, 9 => some (.n s.vee.editAbort)
  | _, _ => none

/-! ### Chapters 6 and 7 -/

/-- R247: 0x2010 to 0x2110. -/
def State.values6 (s : State) (idx sub : Nat) : Option RV :=
  if 0x2010 ≤ idx ∧ idx ≤ 0x2017 then
    let c := idx - 0x2010
    match sub with
    | 1 => some (.n (Config.factoryGain c))
    | 2 => some (.i (Config.factoryOffset c))
    | 3 => some (.i (Config.factoryTemp 1 c))
    | 4 => some (.i (Config.factoryTemp 2 c))
    | 5 => some (.i (s.effectivePhase c - s.cfgI (0x2001 + c) 7))
    | 6 => some (.i (s.effectiveGain c))
    | 7 => some (.i (s.effectivePhase c))
    | _ => none
  else if 0x2100 ≤ idx ∧ idx ≤ 0x2102 then
    let m := at' s.sense.meas (idx - 0x2100)
    match sub with
    | 0 => none
    | 1 => some (.n m.vrms) | 2 => some (.n m.irms) | 3 => some (.i m.p) | 4 => some (.i m.q) | 5 => some (.i m.s)
    | 6 => some (.i m.angle)
    | k => some (.n (at' (at' s.sense.energy (idx - 0x2100)) (k - 7)))
  else match idx, sub with
  | 0x2021, 2 => some (.b (s.firBank (s.cfgN 0x2021 1)))
  | 0x2030, 1 => some (.n s.channelStatus)
  | 0x2030, 2 => some (.n s.gridStatus)
  | 0x2030, 3 => some (.n s.sense.resets)
  | 0x2030, 4 => some (.i (clampInt s.sense.gridError (-2147483648) 2147483647))
  | 0x2103, k + 1 => some (.i (at' s.sense.grid k))
  | 0x2104, k + 1 => some (.i (s.chainDelay k))
  | 0x2110, k + 1 => some (countOf s.sense.counters (k + 1))
  | _, _ => none

/-- The group that 0x2490 selects, if it is at work. -/
def State.groupViewed (s : State) : Group := (lookupKey (s.cfgN 0x2490 0) s.bal.groups).getD default

/-- R280: 0x2480 to 0x24A0. -/
def State.values7 (s : State) (idx sub : Nat) : Option RV :=
  let g := s.groupViewed
  match idx, sub with
  | 0x2480, 5 => some (.n s.bal.cmdState)
  | 0x2480, 6 => some (.n s.bal.cmdAbort)
  | 0x2482, k + 1 => some (countOf s.bal.bulk (k + 1))
  | 0x2483, k + 1 =>
    (match s.selected with
     | none => none
     | some p =>
       let m := s.meterBal p.1
       some (match k with
         | 0 => .n m.config | 1 => .n m.decided | 2 => .n m.cand | 3 => .n m.run | 4 => .n m.theta | _ => .n (s.detectors p.1)))
  | 0x2491, 1 => some (.n (s.members (s.cfgN 0x2490 0)).length)
  | 0x2491, 2 => some (.n (at' (s.expectedOf (s.cfgN 0x2490 0) (s.groupNow (s.cfgN 0x2490 0))) 0))
  | 0x2491, 3 => some (.n (ofBits g.alerts % 16))
  | 0x2491, 4 => some (.n g.lastClosed)
  | 0x2491, 5 => some (.b g.results.flatten)
  | 0x2491, 6 => some (.b g.suspects)
  | 0x24A0, k + 1 => some (countOf s.bal.counters (k + 1))
  | _, _ => none

/-! ### Chapters 8 to 12 -/

/-- R311, R334: 0x2810 to 0x2862. -/
def State.values8 (s : State) (idx sub : Nat) : Option RV :=
  match idx, sub with
  | 0x2810, k + 1 =>
    (match s.selected with
     | none => none
     | some p =>
       let t := s.toneMapsOf p.2
       some (match k with
         | 0 => .n (if 2 < p.2.link then 0 else p.2.link + 1)
         | 1 => .n ((t.map (·.inId)).getD 0)
         | 2 => .b ((t.map (·.inMap)).getD (zeros 18))
         | 3 => .n ((t.map (·.propId)).getD 0)
         | 4 => .b ((t.map (·.propMap)).getD (zeros 18))
         | _ => .i (clampInt ((t.map (·.margin)).getD 0) (-128) 127)))
  | 0x2820, k + 1 => some (.b (s.noiseBytes k))
  | 0x2840, k + 1 => some (if k < 3 then .n (s.engineStatus k) else .n (s.eng (k - 3)).gain)
  | 0x2851, 0 => (match s.selected with | some p => some (.b (s.meterLinks p.2)) | none => none)
  | 0x2852, k + 1 =>
    (match s.selected with
     | none => none
     | some p =>
       let r := s.routeOf p.2.short
       some (match k with
         | 0 => .n ((r.map (·.engine)).getD 0)
         | 1 => .b (routeBytes ((r.map (·.hops)).getD []))
         | 2 => .b (match r with | some x => snr16 x.bottleneck | none => [0, 0])
         | 3 => .n (b2n ((r.map (·.pinned)).getD false))
         | _ => .n ((r.map (·.changes)).getD 0)))
  | _, k =>
    if 0x2830 ≤ idx ∧ idx ≤ 0x2832 ∧ k ≠ 0 then some (countOf (s.eng (idx - 0x2830)).counters k)
    else if 0x2860 ≤ idx ∧ idx ≤ 0x2862 ∧ k ≠ 0 then some (countOf (s.eng (idx - 0x2860)).access k)
    else none

/-- The child entry of the selected meter, at the port of its last frame or else where one is kept, with that port. -/
def State.childViewed (s : State) (p : Nat × Meter) : Option (Nat × Child) :=
  let q := if p.2.link = 4 then 1 else 0
  match s.child q p.1 with
  | some c => some (q, c)
  | none => (s.child (1 - q) p.1).map (fun c => (1 - q, c))

/-- R362, R397: 0x3006 to 0x3150. -/
def State.values10 (s : State) (idx sub : Nat) : Option RV :=
  match idx, sub with
  | 0x3006, 3 => some (.b ((s.port 0).capture.map byte))
  | 0x3006, 4 => some (.b ((s.port 1).capture.map byte))
  | 0x3006, 5 => some (.n (s.port 0).lastScript)
  | 0x3006, 6 => some (.n (s.port 1).lastScript)
  | 0x3011, k + 1 => some (.b (s.binBytes k))
  | 0x3020, 0 => some (.b (s.demodBytes 0))
  | 0x3021, 0 => some (.b (s.demodBytes 1))
  | 0x3030, k + 1 => some (countOf (s.port 0).counters (k + 1))
  | 0x3031, k + 1 => some (countOf (s.port 1).counters (k + 1))
  | 0x3040, k + 1 =>
    let p := k % 2
    some (if k < 2 then .n (s.radioStatus p) else if k < 4 then .i (s.port p).power else .n (s.port p).gainEntry)
  | 0x3130, k + 1 => some (countOf (s.mac 0).counters (k + 1))
  | 0x3131, k + 1 => some (countOf (s.mac 1).counters (k + 1))
  | 0x3140, k + 1 =>
    let p := k % 2
    some (if k < 2 then .n (asnOf (s.td 2)) else if k < 4 then .n (if (s.mac p).sched = [] then 0 else schHash (s.mac p).sched)
      else .b (s.hopBytes p))
  | 0x3150, k + 1 =>
    (match s.selected with
     | none => none
     | some p =>
       some (match s.childViewed p with
         | none => .n 0
         | some (q, c) => (match k with
           | 0 => .n c.state
           | 1 => .b (time80 c.sync)
           | 2 => satTo 4 (s.uncertainty q c (s.td 2))
           | 3 => .n c.hops
           | _ => satTo 2 (waitingFor (s.mac q).ready p.1))))
  | _, _ => none

/-- The phase of a campaign in the numbering of 0x3C22.6. -/
def CampPhase.code : CampPhase → Nat
  | .idle => 0 | .offering => 1 | .round => 2 | .ended => 3

/-- A command of the selected meter by the CMD_TAG in 0x3C11.1: state, RESULT or cause, tries, response. -/
def State.commandViewed (s : State) (meter : Nat) : Nat × (Nat × (Nat × Bytes)) :=
  let tag := s.cfgN 0x3C11 1
  match (s.cmds meter).find? (fun c => c.tag == tag) with
  | some c => (c.state, 0, c.tries, [])
  | none =>
    match s.dist.outcomes.reverse.find? (fun o => o.meter == meter && o.tag == tag) with
    | some o => (o.state, o.result, o.tries, o.data)
    | none => (0, 0, 0, [])

/-- How many targets of a campaign are in one of some states. -/
def State.targetsIn (s : State) (kind slot : Nat) (states : List Nat) : Nat :=
  ((((s.campaign kind slot).map (·.targets)).getD []).filter (fun t => states.contains t.state)).length

/-- R423: 0x3C10 to 0x3C50. -/
def State.values12 (s : State) (idx sub : Nat) : Option RV :=
  let tab := s.cfgN 0x3C21 0
  let tariff := lookupKey tab s.distNv.tariffs
  let targets := fun (kind slot : Nat) => (((s.campaign kind slot).map (·.targets)).getD []).length
  match idx, sub with
  | 0x3C10, 4 => some (.n s.dist.lastTag)
  | 0x3C11, 1 => none
  | 0x3C11, k + 1 =>
    (match s.selected with
     | none => none
     | some p =>
       let c := s.commandViewed p.1
       some (match k with | 1 => .n c.1 | 2 => .n c.2.1 | 3 => .n c.2.2.1 | _ => .b c.2.2.2))
  | 0x3C22, 1 => some (.n ((tariff.map (·.version)).getD 0))
  | 0x3C22, 2 => some (.n ((tariff.map (·.data.length)).getD 0))
  | 0x3C22, 3 => some (.b ((tariff.map (·.activation)).getD (zeros 12)))
  | 0x3C22, 4 => some (.n (targets 0 tab))
  | 0x3C22, 5 => some (.n (s.targetsIn 0 tab [3]))
  | 0x3C22, 6 => some (.n (match s.campaign 0 tab with | some c => c.phase.code + 16 * (c.rounds % 16) | none => 0))
  | 0x3C22, 7 => some (.b ((tariff.map (·.data)).getD []))
  | 0x3C50, k + 1 => some (countOf s.dist.counters (k + 1))
  | _, _ =>
    if 0x3C40 ≤ idx ∧ idx ≤ 0x3C43 ∧ sub ≠ 0 then
      let k := idx - 0x3C40
      let im := at' s.distNv.images k
      match sub with
      | 1 => some (.n (match s.campaign 1 k with
          | some c => if im.state = 2 ∧ c.phase ≠ .idle then c.phase.code + 2 else im.state
          | none => im.state))
      | 2 => some (.n im.object)
      | 3 => some (.n im.size)
      | 4 => some (.n (targets 1 k))
      | 5 => some (.n (s.targetsIn 1 k [3, 6, 7]))
      | 6 => some (.n (s.targetsIn 1 k [5]))
      | 7 => some (.n (s.targetsIn 1 k [4]))
      | _ => some (.n ((s.campaign 1 k).map (·.rounds) |>.getD 0))
    else none

/-! ### Chapters 13 to 16 -/

/-- R444: 0x4800 to 0x48D0. -/
def State.values13 (s : State) (idx sub : Nat) : Option RV :=
  match idx, sub with
  | 0x4800, 2 => some (.n s.queue.poolMiB)
  | 0x48C0, 3 => some (.b s.queue.hostPop)
  | 0x48D0, k + 1 => some (countOf s.queue.totals (k + 1))
  | _, k =>
    if 0x4850 ≤ idx ∧ idx ≤ 0x488F then
      let i := idx - 0x4850
      let q := at' s.queue.queues i
      (match k with
        | 1 => some (.n q.level) | 2 => some (.n (q.status i)) | 3 => some (.n (q.status i)) | 4 => some (.n (8 * q.skein.length))
        | 5 => some (.n q.overruns) | 6 => some (.n q.underruns) | 7 => some (.n q.discarded) | 8 => some (.n q.servedBy)
        | _ => none)
    else none

/-- 0x4C00: StoreState. -/
def StoreMode.code : StoreMode → Nat
  | .unformatted => 0 | .mounting => 1 | .ready => 2 | .readOnly => 3 | .offline _ => 4 | .formatting => 5

/-- R455: the records of the meter and day that 0x4C20.1 and .2 name, their number, and the state of 0x4C20.5. -/
def State.recordQuery (s : State) : List Bytes × (Nat × Nat) :=
  let day := s.cfgN 0x4C20 2
  if !s.storeReads || !s.holdsDay day then ([], 0, 1)
  else
    let mine := (s.dayRecords day).filter (fun x => fieldLE x 4 3 == s.cfgN 0x4C20 1)
    ((mine.drop (s.cfgN 0x4C20 3)).take 2048, mine.length, if s.meterLost day (s.cfgN 0x4C20 1) then 2 else 0)

/-- R487: 0x4C00 to 0x4C40. -/
def State.values14 (s : State) (idx sub : Nat) : Option RV :=
  let nand := s.board.nand
  let p0 : DieParam := (nand.map (·.2)).headD default
  let days := s.daysHeld.map (·.day)
  match idx, sub with
  | 0x4C00, 0 => some (.n s.store.mode.code)
  | 0x4C02, 1 => some (.n ((nand.map (fun d => d.1 / 8)).eraseDups.length))
  | 0x4C02, 2 => some (.n nand.length)
  | 0x4C02, 3 => some (.n p0.planes)
  | 0x4C02, 4 => some (.n p0.pages)
  | 0x4C02, 5 => some (.n p0.blocks)
  | 0x4C02, 6 => some (.n p0.spare)
  | 0x4C02, 7 => some (.n s.store.timing)
  | 0x4C02, 8 => some (.n ((nand.map (fun d => d.2.planes * d.2.blocks * d.2.pages * d.2.pageBytes)).foldl (· + ·) 0))
  | 0x4C04, 1 => some (.n s.usableBytes)
  | 0x4C04, 2 => some (.n s.freeBytesOfRing)
  | 0x4C04, 3 => some (.n s.freeSbs.length)
  | 0x4C04, 4 => some (.n (match days with | d :: r => r.foldl min d | [] => 0))
  | 0x4C04, 5 => some (.n (days.foldl max 0))
  | 0x4C04, 6 => some (satTo 2 s.eraseSpread)
  | 0x4C04, 7 => some (.n s.store.nextAseq)
  | 0x4C04, 8 => some (.n (s.storeNv.durable.getD 0))
  | 0x4C04, 9 => some (.n s.activeDies.length)
  | 0x4C20, 4 => some (.n s.store.queryTotal)
  | 0x4C20, 5 => some (.n s.store.queryState)
  | 0x4C20, 6 => some (.b s.recordQuery.1.flatten)
  | 0x4C21, 0 => some (.b s.dayDirectory)
  | 0x4C30, 4 => some (.n s.store.abort)
  | 0x4C40, k + 1 => some (countOf s.store.counters (k + 1))
  | _, k =>
    if 0x4C10 ≤ idx ∧ idx ≤ 0x4C1F then
      let d := s.die (idx - 0x4C10)
      let es := s.dieErases (idx - 0x4C10)
      (match k with
        | 1 => some (.n d.state) | 2 => some (satTo 2 (d.spares.foldl (· + ·) 0)) | 3 => some (satTo 2 d.retired)
        | 4 => some (satTo 1 (d.rebuilds.filter (fun t => decide (s.now < t + cSec (s.cfgN 0x4C01 8)))).length)
        | 5 => some (.n (match es with | e :: r => r.foldl min e | [] => 0)) | 6 => some (.n (es.foldl max 0))
        | _ => none)
    else none

/-- R515: 0x5012 to 0x5040. -/
def State.values15 (s : State) (idx sub : Nat) : Option RV :=
  match idx, sub with
  | 0x5012, 1 => some (.n s.exportWord)
  | 0x5012, 2 => some (.n s.up.exp.next)
  | 0x5012, 3 => some (.n s.up.exp.cum)
  | 0x5012, 4 => some (.n s.up.exp.outstanding.length)
  | 0x5012, 5 => some (.n s.up.exp.window)
  | 0x5013, k + 1 => some (countOf s.up.exp.counters (k + 1))
  | 0x5022, 0 => some (.b s.gatewayBytes)
  | 0x5023, k + 1 => some (countOf s.up.imp.counters (k + 1))
  | 0x5030, k + 1 => some (countOf (at' s.up.eth 0).counters (k + 1))
  | 0x5031, k + 1 => some (countOf (at' s.up.eth 1).counters (k + 1))
  | 0x5040, k + 1 => some (.n (s.ethWord k))
  | _, _ => none

/-- R548: 0x5400 to 0x5490. -/
def State.values16 (s : State) (idx sub : Nat) : Option RV :=
  if 0x5411 ≤ idx ∧ idx ≤ 0x5418 then
    let k := idx - 0x5411
    let d := s.dom k
    match sub with
    | 1 => some (.n d.state.code) | 2 => some (.n (s.domainFlags k)) | 3 => some (.i d.lastOffset) | 4 => some (.i (freqAdj d.period))
    | 5 => some (.n d.period) | 6 => some (.i d.pathDelay) | 7 => some (.n d.steps) | 8 => some (.n d.refused)
    | _ => none
  else if 0x5421 ≤ idx ∧ idx ≤ 0x5428 ∧ sub = 1 then some (.n (s.dom (idx - 0x5421)).period)
  else match idx, sub with
  | 0x5400, k + 1 => some (.b (time80 (s.td k)))
  | 0x5431, k + 1 => some (if k < 2 then .n (b2n (at' s.time.pairs k).partner) else .i (s.pairLeft (k - 2)))
  | 0x5440, 4 => some (.n (b2n s.time.utcLearned))
  | 0x5452, k + 1 => some (.n (at' s.time.ptp k).state)
  | 0x5470, 1 => some (.n s.time.backup)
  | 0x5470, 2 => some (.b (time80 s.time.anchorTime))
  | 0x5470, 3 => some (.n s.time.anchorCount)
  | 0x5470, 4 => some (.n (b2n (!s.vaultNv.battery.valid || !s.time.anchorValid)))
  | 0x5480, 1 => some (.n s.time.counter)
  | 0x5480, 2 => some (.n s.time.frozenNs)
  | 0x5490, k + 1 => some (countOf s.time.counters (k + 1))
  | _, _ => none

/-! ### Chapters 17 to 22 -/

/-- R590: 0x5800 to 0x5861. -/
def State.values17 (s : State) (idx sub : Nat) : Option RV :=
  let f := s.vaultNv.fuses
  match idx, sub with
  | 0x5800, k + 1 => some (.b (s.slotEntry k))
  | 0x5801, 1 => some (.n s.vaultStatus)
  | 0x5801, 2 => some (.n s.bankWord)
  | 0x5801, 3 => some (.n (at' s.vaultNv.banks s.vault.bankInUse).seq)
  | 0x5801, 4 => some (.n s.vault.keyId)
  | 0x5810, 0 => some (.b (ecPublic identityKey))
  | 0x5811, 2 => some (.b s.vault.attestSig)
  | 0x5811, 3 => some (.b s.vault.measurement)
  | 0x5821, 1 => some (.n s.vault.importState)
  | 0x5821, 2 => some (.n s.vault.importSlot)
  | 0x5821, 3 => some (.n s.vault.importAbort)
  | 0x5832, 1 => some (.n s.tamperActive)
  | 0x5832, 2 => some (.n s.vault.sticky)
  | 0x5832, 4 => some (.n s.tamperOwed)
  | 0x5840, 5 => some (.n s.vault.lifeStatus)
  | 0x5840, 6 => some (.n s.vault.lifeAbort)
  | 0x5841, 1 => some (.n f.stage)
  | 0x5841, 2 => some (.n f.lock)
  | 0x5841, 3 => some (.n f.unlock)
  | 0x5841, 4 => some (.n (f.ownerField.getD 0xFF))
  | 0x5841, 5 => some (.b (match f.ownerField with | some o => at' f.owners o | none => []))
  | 0x5850, 2 => some (.n s.vault.dbg.state)
  | 0x5850, 3 => some (.n s.vault.dbg.scope)
  | 0x5860, 0 => some (.b s.vaultNv.log.flatten)
  | 0x5861, k + 1 => some (countOf s.vault.counters (k + 1))
  | _, _ => none

/-- R619: 0x5C01 to 0x5C30. -/
def State.values18 (s : State) (idx sub : Nat) : Option RV :=
  match idx, sub with
  | 0x5C01, 1 => some (.n s.fw.state)
  | 0x5C01, 2 => some (.n s.fwNv.active)
  | 0x5C01, 3 => some (.n (s.fwSlot s.fwNv.active).version)
  | 0x5C01, 4 => some (.n s.stagedVersion)
  | 0x5C01, 5 => some (.n s.previousVersion)
  | 0x5C01, 6 => some (.n s.fwNv.floor)
  | 0x5C01, 7 => some (satTo 2 s.probationLeft)
  | 0x5C01, 8 => some (.n s.fw.abort)
  | 0x5C01, 9 => some (.n s.fw.hoVersion)
  | 0x5C01, 10 => some (.n s.fwNv.boots)
  | 0x5C20, 0 => some (.b s.stagedHeader)
  | 0x5C21, 0 => some (.b s.schemaBytes)
  | 0x5C30, k + 1 => some (countOf s.fw.counters (k + 1))
  | _, _ => none

/-- R645: 0x5E01 to 0x5E20. -/
def State.values19 (s : State) (idx sub : Nat) : Option RV :=
  let c := s.casc
  match idx, sub with
  | 0x5E01, 1 => some (.n s.cascMode)
  | 0x5E01, 2 => some (.n c.own)
  | 0x5E01, 3 => some (.n (if s.board.cascMaster then (c.nodes.filter (fun n => !n.lost)).length else c.leaves))
  | 0x5E01, 4 => some (.n c.topology)
  | 0x5E01, 5 => some (.n (if s.board.cascMaster ∨ 1 < c.upstream then 0xFF else c.upstream))
  | 0x5E01, 6 => some (.n (if s.board.cascMaster then Config.deviceEui else c.masterEui))
  | 0x5E01, 7 => some (.n (if s.board.cascMaster then 0 else c.hopsUp))
  | 0x5E02, 0 => some (.b s.nodeBytes)
  | 0x5E03, 2 => some (.n ((lookupKey (s.cfgN 0x5E03 1) c.dir).getD 0xFF))
  | 0x5E03, 3 => some (.n c.dir.length)
  | 0x5E10, 1 => some (.n (s.ihWord 0))
  | 0x5E10, 2 => some (.n (at' c.ports 0).neighbour)
  | 0x5E10, 3 => some (.n (at' c.ports 0).neighbourEui)
  | 0x5E11, 1 => some (.n (s.ihWord 1))
  | 0x5E11, 2 => some (.n (at' c.ports 1).neighbour)
  | 0x5E11, 3 => some (.n (at' c.ports 1).neighbourEui)
  | 0x5E20, k + 1 => some (countOf c.counters (k + 1))
  | _, _ => none

/-- R670: 0x6000 to 0x6078. -/
def State.values20 (s : State) (idx sub : Nat) : Option RV :=
  match idx, sub with
  | 0x6000, k + 1 => some (.n (s.islandWord k))
  | 0x6001, k + 1 =>
    let x := at' s.isl.islands k
    some (.n (if (22 ≤ k ∧ k ≤ 24) ∨ x.gated ∨ x.inReset ∨ (s.health.frozen ∧ k ≠ 23) then 0 else x.kHz))
  | 0x6020, 0 => some (.b s.crossingBytes)
  | _, k =>
    if 0x6060 ≤ idx ∧ idx ≤ 0x6078 then
      let i := idx - 0x6060
      let x := at' s.isl.inputs i
      (match k with
        | 1 => some (.n (s.inputCode i)) | 2 => some (.n (b2n x.raw)) | 3 => some (.n x.delivered) | 4 => some (.n x.glitches)
        | 5 => some (.n x.stuckCount) | 6 => some (.n x.chatterCount)
        | _ => none)
    else none

/-- R695: 0x6400 to 0x6440. -/
def State.values21 (s : State) (idx sub : Nat) : Option RV :=
  let h := s.health
  let top := (lookupKey healthCell h.collectors).getD emptyCollector
  let v := s.viewed
  let cell := s.cellRec (s.cfgN 0x6420 0)
  match idx, sub with
  | 0x6400, 1 => some (.n s.healthState)
  | 0x6400, 2 => some (.n h.regionFaults)
  | 0x6400, 3 => some (.n (h.cells.filter (fun c => c.2.status != .inService && c.2.status != .fenced)).length)
  | 0x6400, 4 => some (.n (h.cells.filter (fun c => c.2.status == .fenced)).length)
  | 0x6400, 5 => some (.n (at' top.counts 0))
  | 0x6400, 6 => some (.n (at' top.counts 1))
  | 0x6400, 7 => some (.n (at' top.counts 2))
  | 0x6400, 8 => some (.n h.lostReports)
  | 0x6400, 9 => some (.n h.drained)
  | 0x6421, 1 => some (.n cell.status.code)
  | 0x6421, 2 => some (satTo 2 (at' v.counts 0))
  | 0x6421, 3 => some (satTo 2 (at' v.counts 1))
  | 0x6421, 4 => some (satTo 2 (at' v.counts 2))
  | 0x6421, 5 => some (satTo 2 v.lost)
  | 0x6421, 6 => some (.b (match v.first with | some e => e.bytes | none => []))
  | 0x6421, 7 => some (satTo 1 (cell.retirements.filter (fun t => decide (s.now < t + cSec 86400))).length)
  | 0x6430, 0 => some (.b s.retiredBytes)
  | 0x6440, 1 => some (.n h.freezes)
  | 0x6440, 2 => some (.n h.lastGap)
  | 0x6440, 3 => some (.n h.lastRequester)
  | _, _ => none

/-- 0x6800.1: PowerState. The device answers no read while it is held in reset or stopped. -/
def PowerPhase.code : PowerPhase → Nat
  | .castOn => 0 | .run => 1 | .lastGasp => 2 | .flushed => 3 | .stopped => 3 | .held => 0 | .refHeld => 0

/-- R714: 0x6800 to 0x6812. -/
def State.values22 (s : State) (idx sub : Nat) : Option RV :=
  match idx, sub with
  | 0x6800, 1 => some (.n s.power.phase.code)
  | 0x6800, 2 => some (.n s.powerNv.resetCause)
  | 0x6800, 3 => some (.n s.powerNv.castOnCount)
  | 0x6800, 4 => some (.n s.power.refSource)
  | 0x6800, 5 => some (.n s.powerNv.lastGaspResult)
  | 0x6800, 6 => some (.n (s.power.railWarn % 256))
  | 0x6801, k + 1 => some (.n (at' s.power.castOnTimes k))
  | 0x6812, 7 => some (.i s.sense.dieTemp)
  | 0x6812, k + 1 => some (.n (at' s.power.supply k))
  | _, _ => none

/-! ### All of them -/

/-- What the status, counter or view `idx.sub` holds now; none for what only the object table gives. -/
def State.liveValue (s : State) (role idx sub : Nat) : Option RV :=
  if idx < 0x2000 then s.values1 role idx sub
  else if idx < 0x2400 then s.values6 idx sub
  else if idx < 0x2800 then s.values7 idx sub
  else if idx < 0x3000 then s.values8 idx sub
  else if idx < 0x3800 then s.values10 idx sub
  else if idx < 0x3C00 then s.values3 idx sub
  else if idx < 0x4000 then s.values12 idx sub
  else if idx < 0x4400 then s.values4 idx sub
  else if idx < 0x4800 then s.values5 idx sub
  else if idx < 0x4C00 then s.values13 idx sub
  else if idx < 0x5000 then s.values14 idx sub
  else if idx < 0x5400 then s.values15 idx sub
  else if idx < 0x5800 then s.values16 idx sub
  else if idx < 0x5C00 then s.values17 idx sub
  else if idx < 0x5E00 then s.values18 idx sub
  else if idx < 0x6000 then s.values19 idx sub
  else if idx < 0x6400 then s.values20 idx sub
  else if idx < 0x6800 then s.values21 idx sub
  else s.values22 idx sub

/-- R745: the objects that describe the meter selected by 0x3820. -/
def viewsMeter (idx sub : Nat) : Bool :=
  idx == 0x3821 || idx == 0x2851 ||
    ((idx == 0x2483 || idx == 0x2810 || idx == 0x2852 || idx == 0x3150) && sub != 0) || (idx == 0x3C11 && 2 ≤ sub && sub ≤ 5)

/-- R48, R49: the value that a READ returns: that of the staged set when the request asks for it and there is one, what the status holds,
or the setting in force with the applied epoch. -/
def State.readBytes (s : State) (role : Nat) (staged : Bool) (idx sub : Nat) (r : ObjRow) : Bytes :=
  match (if staged then lookupKey (objKey idx sub) s.cfg.staged else none) with
  | some b => b
  | none =>
    match s.liveValue role idx sub with
    | some v => v.bytes r.ty.size
    | none => s.valIn s.cfg.active idx sub

end Sys2Proof.Machine
end

