-- ==== Sys2Proof/Machine/Operands.lean ====
section
/-!
DEFINITION. The dictionary message and the payload of each operation (R56 to R58, R66, R82), and the checks of a value that an object's own
text makes at a write beyond the range of its row (R8, R68).
-/
namespace Sys2Proof.Machine

/-! ### Messages (R56 to R58) -/

/-- R56: a request as its bytes give it. -/
structure DictMsg where
  role : Nat
  operation : Nat
  seq : Nat
  node : Nat
  payload : Bytes
deriving DecidableEq, Repr, Inhabited

/-- R59, check 1: VERSION 0x01, KIND 0x00, and a LENGTH that agrees with the message; none for a malformed message. -/
def dictParse (m : Bytes) : Option DictMsg :=
  let n := fieldLE m 14 2
  if m.length = n + 32 ∧ n ≤ 1044 ∧ fieldLE m 0 1 = 1 ∧ fieldLE m 1 1 = 0 then
    some { role := fieldLE m 2 1, operation := fieldLE m 3 1, seq := fieldLE m 4 8, node := fieldLE m 12 2, payload := slice m 16 n }
  else none

/-- R56: header and payload of a message. -/
def dictBody (kind role operation seq node : Nat) (payload : Bytes) : Bytes :=
  [0x01, byte kind, byte role, byte operation] ++ leBytes 8 seq ++ leBytes 2 node ++ leBytes 2 payload.length ++ payload

/-- R56, R57: a message with its tag. -/
def dictMessage (key : Bytes) (kind role operation seq node : Nat) (payload : Bytes) : Bytes :=
  let b := dictBody kind role operation seq node payload
  b ++ dictTag key kind role seq b

/-- The operations of R56. -/
def opRead : Nat := 0x01
def opWrite : Nat := 0x02
def opReadBlock : Nat := 0x03
def opWriteBlock : Nat := 0x04
def opCommit : Nat := 0x05
def opSubscribe : Nat := 0x06
def opNotify : Nat := 0x07

/-- R59, check 5, with the sizes of R66 and R82: BAD_OPERATION for an unknown operation or a NOTIFY, BAD_PAYLOAD for a payload of the wrong
size. -/
def payloadAbort (operation : Nat) (p : Bytes) : Nat :=
  let fits := fun (b : Bool) => if b then Abort.ok else Abort.badPayload
  if operation = opRead then fits (p.length == 4)
  else if operation = opWrite then fits (decide (6 ≤ p.length) && p.length == 6 + fieldLE p 4 2)
  else if operation = opReadBlock then fits (p.length == 12 && decide (1 ≤ fieldLE p 8 2 ∧ fieldLE p 8 2 ≤ 1024))
  else if operation = opWriteBlock then fits (decide (20 ≤ p.length ∧ fieldLE p 16 2 ≤ 1024) && p.length == 20 + fieldLE p 16 2)
  else if operation = opCommit then fits (p.length == 0)
  else if operation = opSubscribe then fits (p.length == 24)
  else Abort.badOperation

/-- The index and subindex with which the payloads of READ, WRITE and the block operations begin. -/
def payIdx (p : Bytes) : Nat := fieldLE p 0 2
def paySub (p : Bytes) : Nat := fieldLE p 2 1

/-! ### Values at a write (R8, R68) -/

/-- R8: the bits of an object that are not reserved, where some are. -/
def keptBits (idx sub : Nat) : Option Nat :=
  if idx = 0x2800 ∧ sub = 1 then some 0x07
  else if (idx = 0x3000 ∨ idx = 0x5E00 ∨ idx = 0x5430) ∧ sub = 1 then some 0x03
  else if (idx = 0x3001 ∨ idx = 0x3002) ∧ 21 ≤ sub ∧ sub ≤ 23 then some 0x0F
  else if isClassObj idx sub then
    (if sub = 20 then some 0x0FFF else if sub = 24 then some 0x0FFF else if sub = 25 then some 0x0F030FFF else if sub = 30 then some 0x0F else none)
  else if idx = 0x4420 ∧ sub = 2 then some 0x0F
  else if idx = 0x5010 ∧ sub = 9 then some 0x0F
  else if idx = 0x5831 ∧ sub = 3 then some 0x3F
  else none

/-- R8: the bits that are not reserved of each byte of an entry, of the tables whose entries have reserved ones: CellWeights (R18), ChannelTable (R348),
AccessList (R493), GroupTable (R250). -/
def keptEntry (idx : Nat) : List Nat :=
  if idx = 0x6012 then [0xFF, 0xFF, 0xFF, 0x00]
  else if idx = 0x3010 then [0xFF, 0xFF, 0xFF, 0xFF, 0x03, 0x07, 0x00, 0x00]
  else if idx = 0x5003 then [0xFF, 0xFF, 0x03, 0x00] ++ List.replicate 16 0xFF
  else if idx = 0x2410 ∨ idx = 0x2411 then [0x3F, 0xFF, 0x07] ++ List.replicate 29 0xFF
  else []

/-- R8: a table as it is taken, byte by byte. -/
def maskTable (m : List Nat) (b : Bytes) : Bytes :=
  b.mapIdx (fun i x => byte (andBits 8 x.toNat (m.getD (i % m.length) 0xFF)))

/-- R8, R371, R372: a schedule as it is taken: the last two bytes of its header and the last byte of each cell are reserved. -/
def scheduleTaken (b : Bytes) : Bytes :=
  let n := 32 + 8 * fieldLE b 2 2
  b.mapIdx (fun i x => if i = 30 ∨ i = 31 ∨ (32 ≤ i ∧ i < n ∧ i % 8 = 7) then 0 else x)

/-- R8: a value as it is taken: reserved bits are ignored. -/
def takenValue (idx sub : Nat) (b : Bytes) : Bytes :=
  match keptBits idx sub with
  | some m => leBytes b.length (andBits (8 * b.length) (leNat b) m)
  | none =>
    if idx = 0x3100 ∨ idx = 0x3101 then scheduleTaken b
    else if keptEntry idx = [] then b else maskTable (keptEntry idx) b

/-- Whether one of the 2-bit fields `fs` of a number is 3. -/
def hasThree (fs : List Nat) (n : Nat) : Bool := fs.any (fun f => bits n (2 * f) 2 == 3)

/-- R177: the quantity codes. -/
def quantityOk (q : Nat) : Bool :=
  decide (q ≤ 5) || decide (0x10 ≤ q ∧ q ≤ 0x17) || decide (0x20 ≤ q ∧ q ≤ 0x22) || decide (0x80 ≤ q)

/-- R18: the entries of a table, 4 bytes each. -/
def entries4 (b : Bytes) : List Bytes := (List.range (b.length / 4)).map (fun i => slice b (4 * i) 4)

/-- R18: whether a block address, written with CELL 0xFF, is a block of R14. -/
def blockDefined (a : Nat) : Bool := a % 256 == 0xFF && (List.range 255).any (fun c => cellDefined (a / 256 * 256 + c))

/-- R219: whether a user coefficient set is of its layout. -/
def firSetOk (b : Bytes) : Bool :=
  let taps := fieldLE b 0 2
  b == [] ||
    (decide (1 ≤ taps ∧ taps ≤ 384 ∧ b.length = 8 + 4 * taps ∧ 1 ≤ fieldLE b 2 1 ∧ fieldLE b 2 1 ≤ 63 ∧ fieldLE b 3 1 ≤ 1) &&
      (fieldLE b 3 1 == 1 || fieldLE b 4 4 == (taps - 1) * 32768) &&
      (List.range taps).all (fun k => decide (-131072 ≤ fieldInt b (8 + 4 * k) 4 ∧ fieldInt b (8 + 4 * k) 4 ≤ 131071)))

/-- R68: what the text of an object asks of a value beyond the range of its row. -/
def valueOk (idx sub : Nat) (b : Bytes) : Bool :=
  if idx = 0x6012 then
    let es := entries4 b
    es.all (fun e => cellDefined (fieldLE e 0 2) && fieldLE e 2 1 != 0) && !hasTwice (es.map (fun e => fieldLE e 0 2))
  else if idx = 0x6013 then
    let es := entries4 b
    es.all (fun e => blockDefined (fieldLE e 0 2) && decide (64 ≤ fieldLE e 2 2 ∧ fieldLE e 2 2 ≤ 16384 ∧ fieldLE e 2 2 % 64 = 0)) &&
      !hasTwice (es.map (fun e => fieldLE e 0 2))
  else if idx = 0x2020 then firSetOk b
  else if isClassObj idx sub then
    (match sub with
     | 2 => b.all (fun x => decide (x.toNat ≤ 2))
     | 3 => b.all (fun x => quantityOk x.toNat)
     | 20 => decide (fieldLE b 0 1 ≤ 3 ∨ fieldLE b 0 1 = 0xFF)
     | 24 => !hasThree [0, 1, 2, 3, 4, 5] (leNat b)
     | 25 => !hasThree [0, 1, 2, 3, 4, 5, 8, 12, 13] (leNat b)
     | _ => true)
  else if idx = 0x3005 then (List.range 8).all (fun k => decide (fieldLE b (2 * k) 2 ≤ 1023 ∨ fieldLE b (2 * k) 2 = 0xFFFF))
  else if (idx = 0x5000 ∨ idx = 0x5001) ∧ sub = 4 then !bit (fieldLE b 0 1) 0
  else if idx = 0x6414 ∧ sub = 4 then leNat b == 0
  else if idx = 0x6420 then collectorDefined (leNat b)
  else if idx = 0x4C03 then decide (fieldLE b 0 1 ≤ 7)
  else true

end Sys2Proof.Machine
end

