-- ==== Sys2Proof/Machine/Power.lean ====
section
/-!
DEFINITION. Resets, brown-outs, the reference clock and supply warnings (R697 to R706, R711).
-/
namespace Sys2Proof.Machine

/-- R712: a last gasp cut short; cause 1 by PORST_N, 2 by a brown-out. -/
def State.cutGasp (s : State) (cause : Nat) : State :=
  if s.power.phase = .lastGasp then
    { s with powerNv := { s.powerNv with gaspCut := some (min 7 s.power.gaspStep, cause), lastGaspResult := 2 } }
  else s

/-- PORST (R704): a cold reset at once. -/
def porst (s : State) : State :=
  let s1 := s.cutGasp 1
  let r := match s.power.phase with
    | .lastGasp => 2
    | .flushed => 1
    | .castOn | .held => s.powerNv.lastGaspResult
    | _ => 0
  ({ s1 with powerNv := { s1.powerNv with lastGaspResult := r } }).coldReset 1

/-- PORST as a command. -/
def execPorst (s : State) : Res := .next (porst s)

/-- BROWN_OUT (R698, R711, R712): a main rail trips. After a completed last gasp the device enters Hold. -/
def brownOut (s : State) : State :=
  match s.power.phase with
  | .lastGasp => (s.cutGasp 2).coldReset 2
  | .flushed | .held =>
    let t := s.coldReset 0
    { t with power := { t.power with phase := .held, pendingCause := 0 } }
  | .castOn => s.coldReset 2
  | .stopped => ({ s with powerNv := { s.powerNv with lastGaspResult := 0 } }).coldReset 2
  | _ => ({ s with powerNv := { s.powerNv with lastGaspResult := 3 } }).coldReset 2

/-- BROWN_OUT as a command. -/
def execBrownOut (s : State) : Res := .next (brownOut s)

/-- PFAIL_RELEASED (R708, R711): PFAIL_N has risen, and 10 ms have passed. During the steps of a last gasp it is only noted. -/
def pfailReleased (s : State) : State :=
  match s.power.phase with
  | .flushed | .stopped => s.coldReset 3
  | .lastGasp => { s with power := { s.power with pfailLow := false } }
  | _ => s

/-- PFAIL_RELEASED as a command. -/
def execPfailReleased (s : State) : Res := .next (pfailReleased s)

/-- REFERENCE_LOST (R703): no edge for 1 µs: the PLLs hold, 0x6803 is raised, and tamper source 10 fires under its response. -/
def referenceLost (s : State) : State :=
  if s.power.refLostAt.isSome then s
  else
    let s1 := { s with power := { s.power with refLostAt := some s.now, refSource := 2 } }
    (s1.event 0x6803 0x6400 [byte s.power.refSource]).tamperFire 10

/-- REFERENCE_LOST as a command. -/
def execReferenceLost (s : State) : Res := s.whenLive referenceLost

/-- REFERENCE_LOSS_LIMIT (R703): lost for more than 100 ms: the flush on the held clocks, then reset until the reference returns. In a last
gasp the PLLs hold on (R712). -/
def referenceLossLimit (s : State) : State :=
  match s.power.refLostAt with
  | none => s
  | some t =>
    if s.now < t + cMs 100 ∨ s.power.phase ≠ .run then s
    else
      let s1 := s.flush 3
      { s1 with power := { s1.power with phase := .refHeld }, powerNv := { s1.powerNv with lastGaspResult := 0 } }

/-- REFERENCE_LOSS_LIMIT as a command. -/
def execReferenceLossLimit (s : State) : Res := s.whenLive referenceLossLimit

/-- REFERENCE_RESTORED (R703): within 100 ms the PLLs relock; a device held in reset makes a cold reset with cause 7. -/
def referenceRestored (s : State) : State :=
  if s.power.phase = .refHeld then s.coldReset 7
  else
    match s.power.refLostAt with
    | none => s
    | some t =>
      if t + cMs 100 < s.now ∧ s.power.phase = .run then (referenceLossLimit s).coldReset 7
      else
        ({ s with power := { s.power with refLostAt := none, refSource := if s.board.refclk then 1 else 0 } }).event 0x6804 0x6400
          ([0, 0, 0, 0] ++ leBytes 4 ((s.now - t) / 500))

/-- REFERENCE_RESTORED as a command. -/
def execReferenceRestored (s : State) : Res := .next (if s.live || s.power.phase == .refHeld then referenceRestored s else s)

/-- R697: the warning level of a rail in mV; `high` tells a VDDIO bank of 3.3 V. -/
def warnLevel (rail : Nat) (high : Bool) : Nat :=
  match rail with
  | 0 => 770 | 1 => 865 | 2 => 1055 | 3 => 565 | 4 => 1700
  | 5 => if high then 3100 else 1700
  | _ => 1900

/-- R715: the place of a rail in 0x6812, if it has one. -/
def measureOf (rail : Nat) : Option Nat := if rail < 5 then some rail else if rail = 6 then some 5 else none

/-- SUPPLY_WARNING (R697, R728): a rail has stood at `mV` for 1 µs; below its warning level its bit is set and 0x6805 raised, at most once
per second per rail with the lowest voltage since; at or above it the bit is clear. `bank` is the VDDIO bank; above bit 7 the word holds which of
them are low. -/
def supplyWarning (rail bank mV : Nat) (s : State) : State :=
  let supply := match measureOf rail with | some k => s.power.supply.set k mV | none => s.power.supply
  let low := decide (mV < warnLevel rail (s.board.banks33.getD bank false))
  let w := s.power.railWarn
  let banks := if low then setBit w (8 + bank) else clearBit w (8 + bank)
  let warn := if rail = 5 then (if banks / 256 = 0 then clearBit banks 5 else setBit banks 5)
    else if low then setBit w rail else clearBit w rail
  let seen := at' s.power.warnLowest rail
  let lowest := if seen = 0 then mV else min seen mV
  if !low then { s with power := { s.power with supply := supply, railWarn := warn } }
  else
    let p := { s.power with supply := supply, railWarn := warn }
    if s.perSecond (s.power.warnEventAt.getD rail none) then
      ({ s with power := { p with warnEventAt := p.warnEventAt.set rail (some s.now), warnLowest := p.warnLowest.set rail 0 } }).event
        0x6805 powerCell ([byte rail, 0] ++ leBytes 2 lowest)
    else { s with power := { p with warnLowest := p.warnLowest.set rail lowest } }

/-- SUPPLY_WARNING as a command. -/
def execSupplyWarning (rail : Fin 7) (bank mV : Nat) (s : State) : Res := s.whenLive (supplyWarning rail bank mV)

end Sys2Proof.Machine
end

