-- ==== Sys2Proof/Machine/Dict.lean ====
section
/-!
DEFINITION. The dictionary engine: acceptance of requests (R59 to R61), operations (R66 to R74), the proxy of a cascade (R76 to R78), and
subscriptions (R82 to R85).
-/
namespace Sys2Proof.Machine

/-- The dictionary authenticator and the dictionary engine (R90). -/
def authCell : Nat := 0x8101

/-! ### What a write does (R48) -/

/-- A write of a CMD object starts its command: the abort code says whether it was accepted. The commands are those of the command rows,
dispatched by object. -/
def cmdWrite (idx sub : Nat) (b : Bytes) : State → State × Nat :=
  let n := leNat b
  let i := untwos b.length n
  match idx, sub with
  | 0x1010, 1 => configCommit n
  | 0x1010, 5 => discardStagedSet n
  | 0x1011, 0 => restoreDefaults n
  | 0x2000, 6 => syncNow n
  | 0x2105, 0 => energyReset n
  | 0x2480, 1 => addGroup n
  | 0x2480, 2 => removeGroup n
  | 0x2480, 3 => configPhase n
  | 0x2480, 4 => clearDetectorsCmd n
  | 0x2481, 0 => memberBulk b
  | 0x2853, 1 => routePin b
  | 0x2853, 2 => routeUnpin n
  | 0x3006, p + 1 => fun s => if n = 1 then userTrigger p 6 s else if n = 2 then userTrigger p 7 s else (s, Abort.valueRange)
  | 0x3822, 1 => meterRekey n
  | 0x3822, 2 => meterRemove n
  | 0x3C10, 3 => commandRequest n
  | 0x3C11, 6 => commandCancel n
  | 0x3C20, 0 => tariffLoad b
  | 0x3C23, 0 => tariffAssign n
  | 0x3C30, 0 => imageBeginSlot b
  | 0x3C31, 0 => imageChunk b
  | 0x3C32, 0 => imageEndSlot n
  | 0x3C33, 0 => imageTargets b
  | 0x3C34, 0 => imageActivate b
  | 0x3C35, 0 => imageRemove n
  | 0x4020, 3 => latencyStatsClear n
  | 0x4420, 6 => editApply n
  | 0x4420, 7 => editRelease n
  | 0x4421, 0 => meterClassMove n
  | 0x48C0, 2 => hostPop n
  | 0x48C0, 4 => hostPush b
  | 0x48C0, 5 => hostDropPacket n
  | 0x4C30, 1 => format n
  | 0x4C30, 3 => reclaimThrough n
  | 0x5011, 3 => exportSessionStart n
  | 0x5811, 1 => attest b
  | 0x5820, 0 => keyImport b
  | 0x5822, 0 => keyRevoke n
  | 0x5823, 0 => keyErase n
  | 0x5832, 3 => tamperStatusClear n
  | 0x5833, 0 => lockdownRelease n
  | 0x5840, 1 => provision b
  | 0x5840, 2 => deploy n
  | 0x5840, 3 => returnToFactory n
  | 0x5840, 4 => lockDevice n
  | 0x5C10, 1 =>
    (match n with
     | 1 => hitlessHandover
     | 2 => restartModeUpdate
     | 3 => revert
     | 4 => accept
     | 5 => discardStaged
     | _ => fun s => (s, Abort.valueRange))
  | 0x6021, 0 => crossingClear n
  | 0x6422, 1 => retireCell n
  | 0x6422, 2 => returnCell n
  | 0x6422, 3 => clearCollector n
  | 0x6810, 0 => deviceRestart n
  | _, _ =>
    if 0x5421 ≤ idx ∧ idx ≤ 0x5428 then
      let k := idx - 0x5421
      (match sub with
       | 2 => stepRequest k i
       | 3 => forcedStep k i
       | 4 => setTime k b
       | 5 => clearStickyTime k n
       | _ => fun s => (s, Abort.ok))
    else fun s => (s, Abort.ok)

/-- R539: the checks of 0x5440 at the write. -/
def State.leapRefused (s : State) (sub : Nat) (b : Bytes) : Bool :=
  let td := secOf s.td0
  (sub == 2 && leNat b != 0 && decide ((s.cfgN 0x5440 3 : Int) ≤ td)) ||
    (sub == 3 && s.cfgN 0x5440 2 != 0 && decide ((leNat b : Int) ≤ td))

/-- A write of an RW object: immediate (R48), after the checks that involve other objects (R68, R88, R539). -/
def rwWrite (idx sub : Nat) (b : Bytes) (s : State) : State × Nat :=
  if idx = 0x1031 then
    (if s.slotFits (leNat b) 3 [1] 3 then (s.setRw idx sub b, Abort.ok) else (s, Abort.keyPolicy))
  else if idx = 0x3820 ∧ sub = 2 then meterSelectEui (leNat b) s
  else if 0x5421 ≤ idx ∧ idx ≤ 0x5428 then periodWrite (idx - 0x5421) (leNat b) s
  else if idx = 0x5440 ∧ s.leapRefused sub b then (s, Abort.valueInconsistent)
  else (s.setRw idx sub b, Abort.ok)

/-- R578: in DEPLOYED no write lowers a tamper response or sets VendorDebug from 0 to 1. -/
def State.weakens (s : State) (idx sub : Nat) (b : Bytes) : Bool :=
  s.lcs == .deployed &&
    ((idx == 0x5830 && decide (leNat b < leNat (s.valIn s.cfg.active idx sub))) ||
      (idx == 0x5850 && sub == 1 && leNat b == 1 && leNat (s.valIn s.cfg.active idx sub) == 0))

/-- R69: a value is staged, if the staged set has room for it. -/
def State.stage (s : State) (idx sub : Nat) (b : Bytes) : State × Nat :=
  let new := insertKey (objKey idx sub) b s.cfg.staged
  if s.weakens idx sub b then (s, Abort.notInState)
  else if stagedLimit < new.length then (s, Abort.stagedLimit)
  else ({ s with cfg := { s.cfg with staged := new } }, Abort.ok)

/-- R68: a value checked against its object, and applied by its access kind. -/
def applyWrite (r : ObjRow) (idx sub : Nat) (b : Bytes) (s : State) : State × Nat :=
  let e := r.ty.encodingAbort b
  let v := takenValue idx sub b
  if e ≠ 0 then (s, e)
  else if !r.range.ok v || !valueOk idx sub b then (s, Abort.valueRange)
  else
    match r.acc with
    | .rwc => s.stage idx sub v
    | .rw => rwWrite idx sub v s
    | .wo => (s.setRw idx sub v, Abort.ok)
    | .cmd => cmdWrite idx sub v s
    | .ro => (s, Abort.writeRo)

/-- R46: the abort code of an access to an object that does not exist. -/
def missing (idx : Nat) : Nat := if objRows.any (fun r => decide (r.lo ≤ idx ∧ idx ≤ r.hi)) then Abort.noSubindex else Abort.noObject

/-- R48, R53: whether a role may write an object. -/
def writeAbort (role : Nat) (r : ObjRow) : Nat :=
  if r.acc = .ro then Abort.writeRo else if roleMay role r.role then Abort.ok else Abort.roleDenied

/-- R48, R745: why an object cannot be read. -/
def State.readAbort (s : State) (idx sub : Nat) (r : ObjRow) : Nat :=
  if r.acc = .wo ∨ r.acc = .cmd then Abort.readWo
  else if viewsMeter idx sub && s.selected.isNone then Abort.unknownMeter
  else Abort.ok

/-- What a read changes: the sticky bits of 0x4850.2 (R435) and the highest number in flight of 0x4011.5 (R174). -/
def State.afterRead (s : State) (idx sub : Nat) : State :=
  if 0x4850 ≤ idx ∧ idx ≤ 0x488F ∧ sub = 2 then (queueStatusRead (idx - 0x4850) s).1
  else if 0x4011 ≤ idx ∧ idx ≤ 0x4014 ∧ sub = 5 then s.updLane (idx - 0x4011) (fun l => { l with peak := 0 })
  else s

/-! ### Operations (R66 to R73) -/

/-- What an operation answers: abort code, and what follows it in the response. -/
abbrev Reply := Nat × Bytes

/-- READ (R66). -/
def readOp (role : Nat) (p : Bytes) (s : State) : State × Reply :=
  let idx := payIdx p
  let sub := paySub p
  let fail := fun (c : Nat) => (s, (c, zeros 4))
  match rowOf idx sub with
  | none => fail (missing idx)
  | some r =>
    if r.ty = .blob then fail Abort.blockRequired
    else if s.readAbort idx sub r ≠ 0 then fail (s.readAbort idx sub r)
    else
      let b := s.readBytes role (bit (fieldLE p 3 1) 0) idx sub r
      (s.afterRead idx sub, (Abort.ok, [byte r.ty.code, 0] ++ leBytes 2 b.length ++ b))

/-- WRITE (R66, R67). -/
def writeOp (role : Nat) (p : Bytes) (s : State) : State × Reply :=
  let idx := payIdx p
  let sub := paySub p
  let fail := fun (c : Nat) => (s, ((c, []) : Reply))
  match rowOf idx sub with
  | none => fail (missing idx)
  | some r =>
    if r.ty = .blob then fail Abort.blockRequired
    else if writeAbort role r ≠ 0 then fail (writeAbort role r)
    else if fieldLE p 4 2 ≠ r.ty.size then fail Abort.typeLength
    else
      let x := applyWrite r idx sub (p.drop 6) s
      (x.1, (x.2, []))

/-- The sessions of a role changed. -/
def State.updRole (s : State) (role : Nat) (f : RoleState → RoleState) : State :=
  { s with dict := { s.dict with roles := upd s.dict.roles role f } }

/-- R71: whether a session whose last segment came at `t` is still open. -/
def State.sessionOpen (s : State) (t : Nat) : Bool := decide (s.now < t + cSec 10)

/-- R72: a segment of a snapshot. -/
def segment (data : Bytes) (off max : Nat) : Bytes :=
  let d := slice data off max
  leBytes 4 data.length ++ leBytes 4 off ++ leBytes 4 (crc32 data) ++ leBytes 2 d.length ++ [0, 0] ++ d

/-- READ_BLOCK (R72). A query of the record store is made by its snapshot (R455). -/
def readBlockOp (role : Nat) (p : Bytes) (s : State) : State × Reply :=
  let idx := payIdx p
  let sub := paySub p
  let off := fieldLE p 4 4
  let fail := fun (c : Nat) => (s, ((c, []) : Reply))
  let serve := fun (t : State) (data : Bytes) =>
    (t.updRole role (fun x => { x with readS := some { key := objKey idx sub, data := data, lastAt := s.now } }),
     ((Abort.ok, segment data off (fieldLE p 8 2)) : Reply))
  match rowOf idx sub with
  | none => fail (missing idx)
  | some r =>
    if r.ty ≠ .blob then fail Abort.badPayload
    else if s.readAbort idx sub r ≠ 0 then fail (s.readAbort idx sub r)
    else if off = 0 then
      let q := s.recordQuery
      let s1 := if idx = 0x4C20 then { s with store := { s.store with queryTotal := q.2.1, queryState := q.2.2 } } else s
      serve s1 (s.readBytes role false idx sub r)
    else
      match (at' s.dict.roles role).readS with
      | some x => if x.key = objKey idx sub ∧ s.sessionOpen x.lastAt then serve s x.data else fail Abort.blockSession
      | none => fail Abort.blockSession

/-- R73: the longest value a BLOB object takes. Of the commands, TariffLoad states one: 16 bytes and a table of up to
4,096 (R411). -/
def blobLimit (r : ObjRow) : Nat :=
  match r.range with
  | .blob mx _ => min mx 65536
  | .blobFix n => min n 65536
  | _ => if r.lo = 0x3C20 then 4112 else 65536

/-- R73: a segment taken into a session; at its end the value takes effect as one write, and the session stays until 10 s later (R71). A session
whose value fails its CRC or is refused is discarded (log entry 74). -/
def takeSegment (role : Nat) (r : ObjRow) (idx sub : Nat) (w : WriteSession) (seg : Bytes) (s : State) : State × Reply :=
  let data := w.data ++ seg
  let put := fun (t : State) (x : Option WriteSession) => t.updRole role (fun y => { y with writeS := x })
  if w.total < data.length then (put s none, (Abort.blockSequence, []))
  else if data.length < w.total then
    (put s (some { w with data := data, lastAt := s.now }), (Abort.ok, leBytes 4 data.length))
  else if crc32 data ≠ w.crc then (put s none, (Abort.blockCrc, []))
  else
    let x := applyWrite r idx sub data (put s none)
    if x.2 = 0 then ((if x.1.live then put x.1 (some { w with data := data, lastAt := s.now }) else x.1), (Abort.ok, leBytes 4 data.length))
    else (x.1, (x.2, []))

/-- WRITE_BLOCK (R73, R74). An opening segment refused with BLOCK_TOO_LARGE ends the role's earlier session (log entry 74); a segment that starts at 0
or after the final one never goes on with a session. -/
def writeBlockOp (role : Nat) (p : Bytes) (s : State) : State × Reply :=
  let idx := payIdx p
  let sub := paySub p
  let off := fieldLE p 4 4
  let total := fieldLE p 8 4
  let crc := fieldLE p 12 4
  let seg := p.drop 20
  let fail := fun (t : State) (c : Nat) => (t, ((c, []) : Reply))
  let closed := s.updRole role (fun x => { x with writeS := none })
  match rowOf idx sub with
  | none => fail s (missing idx)
  | some r =>
    if r.ty ≠ .blob then fail s Abort.badPayload
    else if writeAbort role r ≠ 0 then fail s (writeAbort role r)
    else if off = 0 then
      (if blobLimit r < total then fail closed Abort.blockTooLarge
       else takeSegment role r idx sub { key := objKey idx sub, total := total, crc := crc, data := [], lastAt := s.now } seg closed)
    else
      match (at' s.dict.roles role).writeS with
      | none => fail s Abort.blockSession
      | some w =>
        if !s.sessionOpen w.lastAt then fail closed Abort.blockSession
        else if w.key ≠ objKey idx sub ∨ w.total ≠ total ∨ w.crc ≠ crc ∨ off ≠ w.data.length ∨ w.total ≤ w.data.length then fail closed Abort.blockSequence
        else takeSegment role r idx sub w seg s

/-- COMMIT (R70): as a write of 1 to 0x1010.1, which needs role OPERATOR (R53). -/
def commitOp (role : Nat) (s : State) : State × Reply :=
  if !roleMay role .operator then (s, (Abort.roleDenied, []))
  else
    let x := configCommit 1 s
    (x.1, (x.2, if x.2 = 0 then leBytes 4 x.1.pendingEpoch else []))

/-- The subscription slots changed. -/
def State.setSub (s : State) (k : Nat) (u : Option Subscription) : State := { s with dict := { s.dict with subs := s.dict.subs.set k u } }

/-- R82: the ranges of a SUBSCRIBE. -/
def subRanges (p : Bytes) : List (Nat × Nat) := (List.range 4).map (fun k => (fieldLE p (8 + 4 * k) 2, fieldLE p (10 + 4 * k) 2))

/-- SUBSCRIBE (R82, R83): ACTION 0 cancels, 1 creates or replaces, 2 renews; LEASE is judged for all three. -/
def subscribeOp (role node : Nat) (via : Via) (p : Bytes) (s : State) : State × Reply :=
  let slot := fieldLE p 0 1
  let action := fieldLE p 1 1
  let lease := fieldLE p 2 2
  let done := ((Abort.ok, [byte slot, 0] ++ leBytes 2 lease) : Reply)
  if 7 < slot ∨ 2 < action ∨ lease < 10 ∨ 3600 < lease then (s, (Abort.valueRange, []))
  else if action = 0 then (s.setSub slot none, done)
  else if action = 1 then
    (s.setSub slot (some { role := role, via := via, node := node, leaseEnd := s.now + cSec lease, cellFilter := fieldLE p 4 2
                           ranges := subRanges p, ordinal := 0, dropped := 0, buffered := [] }), done)
  else
    match at' s.dict.subs slot with
    | none => (s, (Abort.noResource, []))
    | some u => (s.setSub slot (some { u with leaseEnd := s.now + cSec lease }), done)

/-- R59, check 6: a request executed. -/
def runRequest (role operation node : Nat) (via : Via) (p : Bytes) (s : State) : State × Reply :=
  if operation = opRead then readOp role p s
  else if operation = opWrite then writeOp role p s
  else if operation = opReadBlock then readBlockOp role p s
  else if operation = opWriteBlock then writeBlockOp role p s
  else if operation = opCommit then commitOp role s
  else subscribeOp role node via p s

/-! ### Responses (R60 to R62) -/

/-- R52: the vault slot of a role's key. -/
def State.roleSlot (s : State) (role : Nat) : Nat := if role = 4 then 1 else if role < 4 then s.cfgN 0x1031 (role + 1) else 0xFF

/-- R52, R57: the key of a role, if it has one. -/
def State.roleKey (s : State) (role : Nat) : State × Option Bytes :=
  let r := s.deliverKey .dictAuth (s.roleSlot role) (.raw 3)
  (r.1, if r.2 = 0 then some (r.1.reg .dictAuth).key else none)

/-- R62, R75: a message leaves by the transport of its request. -/
def State.dictSend (s : State) (via : Via) (m : Bytes) : State :=
  if via.transport = 2 then s.portOut 0x01 m else s.udpSend via (s.cfgN 0x5002 1) m

/-- R60: the last 16 responses of a role are kept. -/
def RoleState.keep (r : RoleState) (seq : Nat) (m : Bytes) : RoleState := { r with cache := ((seq, m) :: r.cache).take 16 }

/-- R60, R62: the response to a request is kept and sent. A request that restarts the device leaves nothing to keep it in; over UDP its response leaves,
on the service port, whose output buffers the restart empties, none does (log entry 49). -/
def State.respond (s : State) (key : Bytes) (role operation seq node : Nat) (via : Via) (x : Reply) : State :=
  let m := dictMessage key 1 role operation seq node (leBytes 4 x.1 ++ x.2)
  if s.live then (s.updRole role (fun r => r.keep seq m)).dictSend via m
  else if via.transport = 2 then s else s.put (.udp (s.cfgN (0x5000 + via.port) 6) via (s.cfgN 0x5002 1) m)

/-! ### Acceptance (R59 to R65) -/

/-- R60: what a sequence is to a role's window. -/
inductive SeqVerdict where
  | drop | fresh | repeated | replay
deriving DecidableEq, Repr

/-- R60. -/
def RoleState.judge (r : RoleState) (seq : Nat) : SeqVerdict :=
  if seq = 0 then .drop
  else if r.high < seq then .fresh
  else if seq + 63 < r.high then .replay
  else if bit r.bitmap (r.high - seq) then .repeated
  else .fresh

/-- R60, R61: an accepted sequence; the floor is raised before H passes it. -/
def RoleState.accept (r : RoleState) (seq : Nat) : RoleState :=
  if r.high < seq then
    { r with high := seq, bitmap := (r.bitmap * 2 ^ (min 64 (seq - r.high)) + 1) % 2 ^ 64
             floor := if r.floor < seq then seq + 65536 else r.floor }
  else { r with bitmap := setBit r.bitmap (r.high - seq) }

/-- One more on count `i` (from 1) of 0x1032. -/
def State.dictCount (s : State) (i : Nat) : State :=
  { s with dict := { s.dict with counters := upd s.dict.counters (i - 1) (· + 1) } }

/-- R59, check 2: a failure of authentication, told at most once per second. -/
def State.authFailed (s : State) (role : Nat) (via : Via) : State :=
  let s1 := s.dictCount 2
  let n := s1.dict.authSince + 1
  if s1.perSecond s1.dict.authEventAt then
    ({ s1 with dict := { s1.dict with authSince := 0, authEventAt := some s1.now } }).event 0x1004 authCell
      ([byte role, byte via.transport] ++ leBytes 2 via.udpPort ++ leBytes 4 (min n maxU32))
  else { s1 with dict := { s1.dict with authSince := n } }

/-- R60: a replay, told at most once per second. -/
def State.replayed (s : State) (role seq : Nat) : State :=
  let s1 := s.dictCount 3
  if s1.perSecond s1.dict.replayEventAt then
    ({ s1 with dict := { s1.dict with replayEventAt := some s1.now } }).event 0x1005 authCell ([byte role, 0, 0, 0] ++ leBytes 8 seq)
  else s1

/-- R54: ROLE_NOT_ALLOWED for SERVICE off the service port and for VENDOR outside BLANK and RETURNED. -/
def State.roleRefused (s : State) (role transport : Nat) : Bool :=
  (role == 3 && transport != 2) || (role == 4 && s.lcs != .blank && s.lcs != .returned)

/-- R76, R641: why a request for another node cannot be carried there: a leaf marked lost is no leaf with that number. -/
def State.nodeAbort (s : State) (node : Nat) : Nat :=
  if node = 0 then Abort.ok
  else if !s.board.cascMaster then Abort.notMaster
  else if 63 < node ∨ !s.casc.nodes.any (fun n => n.node == node && !n.lost) then Abort.nodeUnknown
  else Abort.ok

/-- R51, R65: whether a request is a READ of a fast object. -/
def isFastRead (operation : Nat) (p : Bytes) : Bool :=
  operation == opRead && (match rowOf (payIdx p) (paySub p) with | some r => r.fast | none => false)

/-- R76: a request carried to a leaf: its identifier, ROLE, OPERATION, the transport by which it came, its payload. -/
def State.proxy (s : State) (q : DictMsg) (via : Via) : State :=
  let id := s.dict.nextProxy
  let s1 : State := { s with dict := { s.dict with
    nextProxy := id % 2 ^ 32 + 1
    proxied := s.dict.proxied ++ [{ ident := id, node := q.node, role := q.role, operation := q.operation, seq := q.seq, via := via, sentAt := s.now }] } }
  (s1.cascSend 1 8 q.node (leBytes 4 id ++ [byte q.role, byte q.operation, byte via.transport, 0] ++ q.payload)).getD s1

/-- What becomes of an accepted request (R59, checks 4 to 6, R65, R76): refused, carried to a leaf, held during the pause of a bind-off, or
executed. In DEVICE_FAULT only the fast-object server answers (R680). -/
def State.runAccepted (s : State) (key : Bytes) (q : DictMsg) (via : Via) (whole : Bytes) : State :=
  let answer := fun (t : State) (x : Reply) => t.respond key q.role q.operation q.seq q.node via x
  let refuse := fun (c : Nat) => answer s (c, if q.operation = opRead then zeros 4 else [])
  let carried := q.node ≠ 0 && s.nodeAbort q.node == 0 && q.operation != opSubscribe
  let hold := if s.dict.held.length < 64 then { s with dict := { s.dict with held := s.dict.held ++ [⟨whole, via⟩] } } else refuse Abort.busy
  if carried then
    (if q.role == 3 && via.transport != 2 then refuse Abort.roleNotAllowed
     else if s.health.deviceFault then s
     else if s.fw.pauseAt.isSome then hold
     else s.proxy q via)
  else if s.roleRefused q.role via.transport then refuse Abort.roleNotAllowed
  else if payloadAbort q.operation q.payload ≠ 0 then refuse (payloadAbort q.operation q.payload)
  else if s.nodeAbort q.node ≠ 0 then refuse (s.nodeAbort q.node)
  else if isFastRead q.operation q.payload then
    let x := runRequest q.role q.operation q.node via q.payload s
    answer x.1 x.2
  else if s.health.deviceFault then s
  else if s.fw.pauseAt.isSome then hold
  else
    let x := runRequest q.role q.operation q.node via q.payload s
    answer x.1 x.2

/-- R63: an accepted request in the current second. -/
def State.countWindow (s : State) : State :=
  { s with dict := if s.now < s.dict.windowAt + cSec 1 then { s.dict with windowCount := s.dict.windowCount + 1 }
                   else { s.dict with windowAt := s.now, windowCount := 1 } }

/-- R63: the limit of 100,000 accepted requests in a second; the seconds are counted from the first request of each (log entry 69). -/
def State.dictOverload (s : State) : Bool :=
  decide (s.now < s.dict.windowAt + cSec 1 ∧ 100000 ≤ s.dict.windowCount)

/-- R59: a request arrives by a transport. -/
def dictRequest (m : Bytes) (via : Via) (s : State) : State :=
  match dictParse m with
  | none => s.dictCount 5
  | some q =>
    let k := s.roleKey q.role
    match k.2 with
    | none => k.1.authFailed q.role via
    | some key =>
      if dictTag key 0 q.role q.seq (m.take (m.length - 16)) ≠ m.drop (m.length - 16) then k.1.authFailed q.role via
      else
        let r := at' k.1.dict.roles q.role
        match r.judge q.seq with
        | .drop => k.1
        | .replay => k.1.replayed q.role q.seq
        | .repeated =>
          let s1 := k.1.dictCount 4
          (match r.cache.find? (fun c => c.1 == q.seq) with
           | some c => s1.dictSend via c.2
           | none => s1)
        | .fresh => (((k.1.updRole q.role (fun x => x.accept q.seq)).dictCount 1).countWindow).runAccepted key q via m

/-- The transport of a request that a master carried to a leaf. -/
def viaMaster : Via := { transport := 3, port := 0, vlan := 0, udpPort := 0, address := [] }

/-- R76, R78: a leaf executes a request that its master carried to it, by its own role and life-cycle checks, and returns the result. During the pause
of a bind-off it is held among the 64 of R65, or answered with BUSY (R641). -/
def State.runLeaf (s : State) (b : Bytes) : State :=
  let role := fieldLE b 4 1
  let op := fieldLE b 5 1
  let p := b.drop 8
  let answer := fun (t : State) (x : Reply) => t.toMaster 1 9 (b.take 4 ++ leBytes 4 x.1 ++ x.2)
  let fail := fun (c : Nat) => answer s (c, if op = opRead then zeros 4 else [])
  let via : Via := { viaMaster with transport := fieldLE b 6 1 }
  if s.health.deviceFault && !isFastRead op p then s
  else if s.roleRefused role via.transport then fail Abort.roleNotAllowed
  else if payloadAbort op p ≠ 0 then fail (payloadAbort op p)
  else if s.fw.pauseAt.isSome && !isFastRead op p then
    (if s.dict.held.length < 64 then { s with dict := { s.dict with held := s.dict.held ++ [⟨b, viaMaster⟩] } } else fail Abort.busy)
  else
    let x := runRequest role op 0 via p s
    answer x.1 x.2

/-- The oldest request that its master carried to a leaf. -/
def leafRequest (s : State) : State :=
  match s.casc.requests with
  | [] => s
  | b :: rest => (s.updCasc (fun c => { c with requests := rest })).runLeaf b

/-- A dictionary request reaches the engine: over UDP (transports 0 and 1) as the message given, dropped above the limit of R63; by the service port (2) as the oldest
DICT frame of its input buffers; at a leaf (3) as the oldest request that its master carried to it. -/
def dictArrive (m : Bytes) (via : Via) (s : State) : State :=
  if via.transport = 2 then
    (match s.takeInput 0x01 with
     | some (s1, b) => dictRequest b { via with port := 0, vlan := 0, udpPort := 0, address := [] } s1
     | none => s)
  else if via.transport = 3 then leafRequest s
  else if s.dictOverload then s.dictCount 6
  else dictRequest m via s

/-- READ as a command (R66). -/
def execRead (message : Bytes) (via : Via) (s : State) : Res := s.whenLive (dictArrive message via)

/-- WRITE as a command (R66). -/
def execWrite (message : Bytes) (via : Via) (s : State) : Res := s.whenLive (dictArrive message via)

/-- READ_BLOCK as a command (R72). -/
def execReadBlock (message : Bytes) (via : Via) (s : State) : Res := s.whenLive (dictArrive message via)

/-- WRITE_BLOCK as a command (R73). -/
def execWriteBlock (message : Bytes) (via : Via) (s : State) : Res := s.whenLive (dictArrive message via)

/-- COMMIT as a command (R70). -/
def execCommit (message : Bytes) (via : Via) (s : State) : Res := s.whenLive (dictArrive message via)

/-- SUBSCRIBE_CREATE as a command (R82). -/
def execSubscribeCreate (message : Bytes) (via : Via) (s : State) : Res := s.whenLive (dictArrive message via)

/-- SUBSCRIBE_CANCEL as a command (R82). -/
def execSubscribeCancel (message : Bytes) (via : Via) (s : State) : Res := s.whenLive (dictArrive message via)

/-- SUBSCRIBE_RENEW as a command (R83). -/
def execSubscribeRenew (message : Bytes) (via : Via) (s : State) : Res := s.whenLive (dictArrive message via)

/-! ### What the engine does by itself -/

/-- R84: the events that the next NOTIFY of a subscription carries: up to 32 whose ordinals follow one another. -/
def notifyBatch : Nat → List Buffered → List Buffered
  | 0, _ => []
  | _ + 1, [] => []
  | n + 1, [e] => if n + 1 = 0 then [] else [e]
  | n + 1, e :: f :: r => if f.ordinal = e.ordinal + 1 then e :: notifyBatch n (f :: r) else [e]

/-- R84: the next sequence of a role's notifications; the floor is raised before it is passed. -/
def RoleState.nextNotify (r : RoleState) : RoleState :=
  let n := r.notifySeq + 1
  { r with notifySeq := n, notifyFloor := if r.notifyFloor < n then n + 65536 else r.notifyFloor }

/-- NOTIFY (R84, R85): slot `k` with 32 events pending, or 10 ms after the first, sends up to 32 of them. On the service port they wait while 16
frames do (R595); without a key of the role they stay buffered. -/
def notify (k : Nat) (s : State) : State :=
  match at' s.dict.subs k with
  | none => s
  | some u =>
    if u.buffered = [] ∨ (u.buffered.length < 32 ∧ s.now < u.firstAt + cMs 10) ∨ (u.via.transport = 2 ∧ 16 ≤ s.fw.port.outputs.length) then s
    else
      let key := s.roleKey u.role
      match key.2 with
      | none => key.1
      | some kb =>
        let batch := notifyBatch 32 u.buffered
        let rest := u.buffered.drop batch.length
        let s1 := key.1.updRole u.role RoleState.nextNotify
        let body := [byte k, byte batch.length, 0, 0] ++ leBytes 4 ((batch.map (·.ordinal)).headD 0 % 2 ^ 32) ++ (batch.map (·.record)).flatten
        (s1.setSub k (some { u with buffered := rest })).dictSend u.via
          (dictMessage kb 2 u.role opNotify (at' s1.dict.roles u.role).notifySeq u.node body)

/-- NOTIFY as a command. -/
def execNotify (slot : Fin 8) (s : State) : Res := s.whenLive (fun t => if t.health.deviceFault then t else notify slot t)

/-- SUBSCRIPTION_EXPIRED (R83): a subscription whose lease has run out. -/
def subscriptionExpired (k : Nat) (s : State) : State :=
  match at' s.dict.subs k with
  | none => s
  | some u => if s.now < u.leaseEnd then s else (s.setSub k none).event 0x1006 0x8100 [byte k]

/-- SUBSCRIPTION_EXPIRED as a command. -/
def execSubscriptionExpired (slot : Fin 8) (s : State) : Res := s.whenLive (subscriptionExpired slot)

/-- BLOCK_SESSION_END (R71): the sessions of a role that ended 10 s after their last segments. -/
def blockSessionEnd (role : Nat) (s : State) : State :=
  s.updRole role (fun r => { r with
    readS := r.readS.filter (fun x => s.sessionOpen x.lastAt)
    writeS := r.writeS.filter (fun x => s.sessionOpen x.lastAt) })

/-- BLOCK_SESSION_END as a command. -/
def execBlockSessionEnd (role : Fin 5) (s : State) : Res := s.whenLive (blockSessionEnd role)

/-- NODE_TIMEOUT (R76): the oldest request that a leaf has not answered within 50 ms is answered with NODE_TIMEOUT. -/
def nodeTimeout (s : State) : State :=
  match s.dict.proxied with
  | [] => s
  | x :: rest =>
    if s.now < x.sentAt + cMs 50 then s
    else
      let s1 : State := { s with dict := { s.dict with proxied := rest } }
      let key := s1.roleKey x.role
      match key.2 with
      | none => key.1
      | some kb => key.1.respond kb x.role x.operation x.seq x.node x.via (Abort.nodeTimeout, if x.operation = opRead then zeros 4 else [])

/-- NODE_TIMEOUT as a command. -/
def execNodeTimeout (s : State) : Res := s.whenLive nodeTimeout

/-- LEAF_RESULT (R76, R77): the oldest result that has come from a leaf is sent on; one whose request has been answered with NODE_TIMEOUT is
discarded. -/
def leafResult (s : State) : State :=
  match s.casc.results with
  | [] => s
  | (node, b) :: rest =>
    let s1 := s.updCasc (fun c => { c with results := rest })
    match s1.dict.proxied.find? (fun x => x.ident == fieldLE b 0 4 && x.node == node) with
    | none => s1
    | some x =>
      let s2 : State := { s1 with dict := { s1.dict with proxied := s1.dict.proxied.filter (fun y => y.ident != x.ident) } }
      let key := s2.roleKey x.role
      match key.2 with
      | none => key.1
      | some kb => key.1.respond kb x.role x.operation x.seq x.node x.via (fieldLE b 4 4, b.drop 8)

/-- LEAF_RESULT as a command. -/
def execLeafResult (s : State) : Res := s.whenLive leafResult

end Sys2Proof.Machine
end

