-- ==== Sys2Proof/Machine/Net.lean ====
section
/-!
DEFINITION. Ethernet frames, IP packets and UDP datagrams as their standards lay them out (R5, R490 to R492): taken apart, and put together.
-/
namespace Sys2Proof.Machine

/-- The sum of the big-endian 16-bit words of a byte string, an odd last byte being followed by 0. -/
def wordSum : Bytes → Nat
  | [] => 0
  | [a] => 256 * a.toNat
  | a :: b :: r => 256 * a.toNat + b.toNat + wordSum r

/-- The Internet checksum over bytes that hold their own checksum is right. -/
def sumOk (b : Bytes) : Bool := wordSum b % 65535 == 0 && wordSum b != 0

/-- What the MAC finds in a frame: the VLAN ID of its tag, its Ethertype, and the bytes behind it. -/
structure EthParts where
  vlan : Option Nat
  etherType : Nat
  body : Bytes
deriving DecidableEq, Repr

/-- A frame from its destination address, without FCS. -/
def ethParts (f : Bytes) : EthParts :=
  if beNat (slice f 12 2) = 0x8100 then ⟨some (beNat (slice f 14 2) % 4096), beNat (slice f 16 2), f.drop 18⟩
  else ⟨none, beNat (slice f 12 2), f.drop 14⟩

/-- An IP packet: its family (4 or 6), addresses of 4 or 16 bytes, upper protocol and its bytes; `frag` where it is a fragment. -/
structure IpParts where
  family : Nat
  source : Bytes
  dest : Bytes
  protocol : Nat
  frag : Bool
  body : Bytes
deriving DecidableEq, Repr

/-- R491, R492: the packet of an IPv4 or IPv6 Ethertype. `none`: the IPv4 header checksum or the packet's form is wrong. -/
def ipParts (etherType : Nat) (b : Bytes) : Option IpParts :=
  let v := fieldLE b 0 1
  if etherType = 0x0800 then
    let h := 4 * (v % 16)
    let total := beNat (slice b 2 2)
    if v / 16 ≠ 4 ∨ h < 20 ∨ total < h ∨ b.length < total || !sumOk (b.take h) then none
    else
      let fl := beNat (slice b 6 2)
      some ⟨4, slice b 12 4, slice b 16 4, fieldLE b 9 1, decide (fl % 16384 ≠ 0), slice b h (total - h)⟩
  else
    let n := beNat (slice b 4 2)
    if v / 16 ≠ 6 ∨ b.length < 40 + n then none
    else some ⟨6, slice b 8 16, slice b 24 16, fieldLE b 6 1, decide (fieldLE b 6 1 = 44), slice b 40 n⟩

/-- R492: a UDP datagram's length and checksum: over IPv4 a checksum of 0 is accepted, over IPv6 it fails. -/
def udpOk (p : IpParts) : Bool :=
  let n := beNat (slice p.body 4 2)
  let sum := beNat (slice p.body 6 2)
  decide (8 ≤ n ∧ n ≤ p.body.length) &&
    (if sum = 0 then p.family == 4
     else sumOk (p.source ++ p.dest ++ beBytes 4 n ++ beBytes 4 17 ++ p.body.take n))

/-- R491: the link-local address formed from a MAC address by modified EUI-64. -/
def linkLocal (mac : Bytes) : Bytes :=
  [0xFE, 0x80] ++ zeros 6 ++ [(at' mac 0) ^^^ 0x02#8] ++ slice mac 1 2 ++ [0xFF, 0xFE] ++ slice mac 3 3

/-- The solicited-node address of IPv6 to which neighbour discovery for an address goes. -/
def solicitedNode (a : Bytes) : Bytes := [0xFF, 0x02] ++ zeros 9 ++ [0x01, 0xFF] ++ a.drop 13

/-- R491: whether an address is one of a port's own. An address of all zeros is none. -/
def State.ownAddress (s : State) (p family : Nat) (a : Bytes) : Bool :=
  let o := 0x5000 + p
  if family = 4 then a == s.val o 7 && a != zeros 4
  else (a == s.val o 10 && a != zeros 16) || a == linkLocal (s.val o 4)

/-! ### Frames of the firmware (log entry 84) -/

/-- The Internet checksum of bytes whose checksum field is 0. -/
def checksum (b : Bytes) : Bytes :=
  let n := wordSum b
  beBytes 2 (if n = 0 then 0xFFFF else 0xFFFF - ((n - 1) % 65535 + 1))

/-- R491: a frame of a port: destination, the port's own address, its VLAN tag, and what it carries. -/
def State.ethFrame (s : State) (p : Nat) (dest : Bytes) (etherType : Nat) (body : Bytes) : Bytes :=
  let o := 0x5000 + p
  let vid := s.cfgN o 5
  dest ++ s.val o 4 ++ (if vid = 0 then [] else [0x81, 0x00] ++ beBytes 2 (8192 * s.cfgN o 6 + vid)) ++ beBytes 2 etherType ++ body

/-- An IPv4 packet without options, not to be fragmented. -/
def ipv4Packet (protocol ttl : Nat) (source dest body : Bytes) : Bytes :=
  let a := [0x45, 0] ++ beBytes 2 (20 + body.length) ++ [0, 0, 0x40, 0, byte ttl, byte protocol]
  a ++ checksum (a ++ [0, 0] ++ source ++ dest) ++ source ++ dest ++ body

/-- An IPv6 packet without extension headers. -/
def ipv6Packet (protocol hops : Nat) (source dest body : Bytes) : Bytes :=
  [0x60, 0, 0, 0] ++ beBytes 2 body.length ++ [byte protocol, byte hops] ++ source ++ dest ++ body

/-- The bytes that a checksum over IPv6, or of UDP, takes in besides the message. -/
def pseudoHeader (protocol : Nat) (source dest : Bytes) (n : Nat) : Bytes := source ++ dest ++ beBytes 4 n ++ beBytes 4 protocol

/-- A UDP datagram with its checksum. -/
def udpDatagram (source dest : Bytes) (sport dport : Nat) (data : Bytes) : Bytes :=
  let n := 8 + data.length
  let h := beBytes 2 sport ++ beBytes 2 dport ++ beBytes 2 n
  let c := checksum (pseudoHeader 17 source dest n ++ h ++ [0, 0] ++ data)
  h ++ (if c = [0, 0] then [0xFF, 0xFF] else c) ++ data

end Sys2Proof.Machine
end

