-- ==== Sys2Proof/Machine/Eth.lean ====
section
/-!
DEFINITION. The reception of an Ethernet frame: the MAC's checks, the access list and the distribution of what passes (R63, R490 to R493).
-/
namespace Sys2Proof.Machine

/-- R492: whether ARP, ICMP or ICMPv6 is addressed to the port. -/
def State.forFirmware (s : State) (p : Nat) (e : EthParts) : Bool :=
  let o := 0x5000 + p
  if e.etherType = 0x0806 then s.ownAddress p 4 (slice e.body 24 4)
  else match ipParts e.etherType e.body with
    | none => false
    | some i =>
      if i.family = 4 then i.protocol == 1 && s.ownAddress p 4 i.dest
      else i.protocol == 58 && (s.ownAddress p 6 i.dest || i.dest == solicitedNode (s.val o 10) || i.dest == solicitedNode (linkLocal (s.val o 4)))

/-- The bits of a byte string, the first byte's most significant bit first. -/
def bitsHigh (b : Bytes) : List Bool := b.flatMap (fun x => (List.range 8).map (fun i => x.getLsbD (7 - i)))

/-- R493: whether the access list lets a source use a service (0 dictionary, 1 import). -/
def State.accessOk (s : State) (family : Nat) (source : Bytes) (service : Nat) : Bool :=
  let l := s.val 0x5003 0
  l == [] || (List.range (l.length / 20)).any (fun k =>
    let e := slice l (20 * k) 20
    fieldLE e 0 1 == family && bit (fieldLE e 2 1) service &&
      (bitsHigh (slice e 4 (if family = 4 then 4 else 16))).take (fieldLE e 1 1) == (bitsHigh source).take (fieldLE e 1 1))

/-- R492: what becomes of a whole UDP datagram. -/
def State.udpReceived (s : State) (p capture vlan : Nat) (frame : Bytes) (i : IpParts) : State :=
  let dport := beNat (slice i.body 2 2)
  let data := slice i.body 8 (beNat (slice i.body 4 2) - 8)
  let v : Via := { transport := if i.family = 4 then 0 else 1, port := p, vlan := vlan, udpPort := beNat (slice i.body 0 2), address := padTo 16 i.source }
  if dport = 319 ∨ dport = 320 then ptpFrameReceived p capture frame s
  else if !s.ownAddress p i.family i.dest then s.ethCount p 6
  else if dport = s.cfgN 0x5002 1 then
    (if !s.accessOk i.family i.source 0 then s.ethCount p 7
     else if s.dictOverload then s.dictCount 6
     else dictRequest data v s)
  else if dport = s.cfgN 0x5002 2 then exportAck v data s
  else if dport = s.cfgN 0x5002 3 then
    (if !s.accessOk i.family i.source 1 then s.ethCount p 7
     else if s.running then importDatagram v (s.tdAt 0 (s.ethStamp p capture)) data s
     else s)
  else s.ethCount p 6

/-- R492: a frame for the firmware enters Q54 behind a metadata cell; one that Q54 cannot take is dropped. -/
def State.toFirmware (s : State) (p capture : Nat) (frame : Bytes) : State :=
  (s.pushOrDrop 54 (ethCell p)
    (leBytes 8 capture ++ time80 (s.tdAt 0 (s.ethStamp p capture)) ++ [byte p] ++ zeros 43 ++ frame)).1

/-- ETH_FRAME_RECEIVED (R490 to R493): a frame from its destination address to its FCS, with the counter value captured at its start-of-frame
delimiter. -/
def ethFrameReceived (p capture : Nat) (whole : Bytes) (s : State) : State :=
  if !s.ethUsable p then s
  else
    let f := whole.take (whole.length - 4)
    let s1 := s.ethCount p 1
    let e := ethParts f
    let vid := s.cfgN (0x5000 + p) 5
    if whole.length < 18 || leBytes 4 (crc32 f) != whole.drop (whole.length - 4) then s1.ethCount p 2
    else if 1522 < whole.length then s1.ethCount p 3
    else if e.vlan.getD 0 ≠ vid then s1.ethCount p 4
    else if e.etherType = 0x88F7 then ptpFrameReceived p capture f s1
    else if e.etherType = 0x0806 then (if s1.forFirmware p e then s1.toFirmware p capture f else s1.ethCount p 6)
    else if e.etherType = 0x0800 ∨ e.etherType = 0x86DD then
      match ipParts e.etherType e.body with
      | none => s1.ethCount p 2
      | some i =>
        if i.frag then s1.ethCount p 5
        else if i.protocol = 17 then (if udpOk i then s1.udpReceived p capture vid f i else s1.ethCount p 2)
        else if s1.forFirmware p e then s1.toFirmware p capture f
        else s1.ethCount p 6
    else s1.ethCount p 6

/-- ETH_FRAME_RECEIVED as a command. -/
def execEthFrameReceived (port : Fin 2) (capture : Nat) (frame : Bytes) (s : State) : Res := s.whenLive (ethFrameReceived port capture frame)

end Sys2Proof.Machine
end

