-- ==== Sys2Proof/Machine/Handover.lean ====
section
/-!
DEFINITION. Bind-off, the end of a hitless handover, and its abandonment (R65, R606 to R611).
-/
namespace Sys2Proof.Machine

/-- R65: the requests held during a pause are executed in their order of acceptance, unless one of them restarts the device. -/
def State.runHeld (s : State) : State :=
  s.dict.held.foldl (fun st h =>
    if !st.live then st
    else if h.via.transport = 3 then st.runLeaf h.message
    else match dictParse h.message with
      | none => st
      | some q =>
        let k := st.roleKey q.role
        match k.2 with
        | none => k.1
        | some key => k.1.runAccepted key q h.via h.message)
    { s with dict := { s.dict with held := [] } }

/-- R608: the step of R606 that an abandonment reports. -/
def State.abandonStep (s : State) (cause : Nat) : Nat :=
  match cause with
  | 1 => 2
  | 2 => 3
  | 3 => 4
  | 4 | 5 => 6
  | _ => s.fw.step

/-- R608: the handover is abandoned: the image stays STAGED, the forward-sealed bank is destroyed, and the old set serves. -/
def State.abandon (s : State) (cause : Nat) : State :=
  let step := s.abandonStep cause
  let v := (s.fwSlot s.idleSlot).version
  let s1 := (s.destroyBank (1 - s.vault.bankInUse)).updFw (fun u => { u with state := 2, step := 0, pauseAt := none })
  ((s1.fwCount 4).event 0x5C04 updateCell ([byte step, byte cause, 0, 0] ++ leBytes 4 v)).runHeld

/-- R608: whether a cause of abandonment can hold now. Causes 1, 2 and 5 are found outside this model's state; the others are seen in it. -/
def State.mayAbandon (s : State) (cause : Nat) : Bool :=
  s.fw.state == 3 &&
    (match cause with
     | 1 | 2 => s.fw.pauseAt.isNone
     | 3 => s.fw.pauseAt.isNone && decide (s.fw.stepAt + cMs 1000 ≤ s.now)
     | 4 => (match s.fw.pauseAt with | some t => decide (t + cMs 2 ≤ s.now) | none => false)
     | 5 => s.fw.pauseAt.isSome
     | 6 => [0, 1, 2, 3].any (fun k => !s.inService (coreCell k))
     | 7 => s.vault.lockdown
     | _ => false)

/-- HANDOVER_ABANDONED (R608) for a cause. -/
def handoverAbandoned (cause : Nat) (s : State) : State := if s.mayAbandon cause then s.abandon cause else s

/-- HANDOVER_ABANDONED as a command. -/
def execHandoverAbandoned (cause : Nat) (s : State) : Res := s.whenLive (handoverAbandoned cause)

/-- R610: the objects of the changed groups that take their defaults. -/
def resetObjects (groups : List Nat) (acc : Access) : List (Nat × Nat) :=
  (objRows.filter (fun r => r.acc == acc && schemaReset groups (objKey r.lo r.slo))).flatMap (fun r =>
    (List.range (r.hi + 1 - r.lo)).flatMap (fun i => (List.range (r.shi + 1 - r.slo)).map (fun j => (r.lo + i, r.slo + j))))

/-- R610, R611: values of the changed groups leave the staged set, and their defaults are committed as the next epoch; an RW object takes its
default at once (R28). -/
def State.resetGroups (s : State) (groups : List Nat) : State :=
  if groups = [] then s
  else
    let values := (resetObjects groups .rwc).foldl (fun acc o => insertKey (objKey o.1 o.2) (defaultOf s.board.cascMaster o.1 o.2) acc) []
    let p : Sealed := { values := values, number := nextEpoch s.pendingEpoch, published := false, publishedAt := 0, lateRaised := [], switched := [] }
    let s1 := (resetObjects groups .rw).foldl (fun st o => st.setRw o.1 o.2 (defaultOf s.board.cascMaster o.1 o.2)) s
    { s1 with cfg := { s1.cfg with
        staged := s1.cfg.staged.filter (fun v => !groups.contains (groupOf (v.1 / 256))), sets := s1.cfg.sets ++ [p] } }

/-- R606 step 7: the sets and the slots swap roles, and the boot record is written. -/
def State.swapSets (s : State) (began : Nat) : State :=
  let i := s.idleSlot
  let new := s.fwSlot i
  let old := s.fwSlot s.fwNv.active
  let groups := schemaChanges old new
  let version := s.fw.hoVersion
  let s1 : State := { s with
    fwNv := { s.fwNv with active := i, previous := s.fwNv.active, probation := true, boots := 0, staged := false }
    vault := { s.vault with bankInUse := 1 - s.vault.bankInUse, measurement := new.measure } }
  let s2 := s1.updFw (fun u => { u with
    state := 4, step := 7, hoVersion := 0, activeSet := 1 - u.activeSet, probationEnd := s.now + cSec (s.cfgN 0x5C00 2) })
  ((s2.fwCount 3).event 0x5C03 updateCell
    (leBytes 4 old.version ++ leBytes 4 new.version ++ leBytes 2 (min maxU16 ((s.now - began) * 2 / 1000)) ++ [byte groups.length, byte version])).resetGroups groups

/-- R606 steps 6 and 7: the new set imports the record, executes the held requests and takes over. -/
def State.takeOver (s : State) (began : Nat) : State :=
  let s1 := (s.updFw (fun u => { u with step := 6, pauseAt := none })).runHeld
  if s1.live && s1.fw.state == 3 then s1.swapSets began else s1

/-- BIND_OFF (R606 steps 5 to 7): at ready, the old set stops serving; the command comes again when the new set has imported the record.
Where the time allowed has passed, or a core or the vault no longer allows it, the handover is abandoned (R608). -/
def bindOff (s : State) : State :=
  if s.fw.state ≠ 3 then s
  else if s.vault.lockdown then s.abandon 7
  else if s.mayAbandon 6 then s.abandon 6
  else
    match s.fw.pauseAt with
    | none =>
      if s.fw.stepAt + cMs 1000 < s.now then s.abandon 3
      else s.updFw (fun u => { u with step := 5, pauseAt := some s.now })
    | some t => if t + cMs 2 < s.now then s.abandon 4 else s.takeOver t

/-- BIND_OFF as a command. -/
def execBindOff (s : State) : Res := s.whenLive bindOff

end Sys2Proof.Machine
end

