-- ==== Sys2Proof/Machine/Dispatch.lean ====
section
/-!
DEFINITION. The dispatch of commands: one arm per constructor, each one direct call of its meaning.
-/
namespace Sys2Proof.Machine

def exec (i : Instr) (s : State) : Host.Outcome State Fault Refusal :=
  match i with
  | .configCommit role v => Sys2Proof.Machine.execConfigCommit role v s
  | .configSetCheck => Sys2Proof.Machine.execConfigSetCheck s
  | .blockEpochSwitch b => Sys2Proof.Machine.execBlockEpochSwitch b s
  | .configEpochLate => Sys2Proof.Machine.execConfigEpochLate s
  | .discardStagedSet role v => Sys2Proof.Machine.execDiscardStagedSet role v s
  | .restoreDefaults role v => Sys2Proof.Machine.execRestoreDefaults role v s
  | .fabricWindow requests => Sys2Proof.Machine.execFabricWindow requests s
  | .read message via => Sys2Proof.Machine.execRead message via s
  | .write message via => Sys2Proof.Machine.execWrite message via s
  | .readBlock message via => Sys2Proof.Machine.execReadBlock message via s
  | .writeBlock message via => Sys2Proof.Machine.execWriteBlock message via s
  | .commit message via => Sys2Proof.Machine.execCommit message via s
  | .subscribeCreate message via => Sys2Proof.Machine.execSubscribeCreate message via s
  | .subscribeCancel message via => Sys2Proof.Machine.execSubscribeCancel message via s
  | .subscribeRenew message via => Sys2Proof.Machine.execSubscribeRenew message via s
  | .notify slot => Sys2Proof.Machine.execNotify slot s
  | .subscriptionExpired slot => Sys2Proof.Machine.execSubscriptionExpired slot s
  | .blockSessionEnd role => Sys2Proof.Machine.execBlockSessionEnd role s
  | .eventsLost => Sys2Proof.Machine.execEventsLost s
  | .nodeTimeout => Sys2Proof.Machine.execNodeTimeout s
  | .leafResult => Sys2Proof.Machine.execLeafResult s
  | .errorReport new => Sys2Proof.Machine.execErrorReport new s
  | .dispatch => Sys2Proof.Machine.execDispatch s
  | .laneMapMove bucket => Sys2Proof.Machine.execLaneMapMove bucket s
  | .fetch lane => Sys2Proof.Machine.execFetch lane s
  | .identify lane item => Sys2Proof.Machine.execIdentify lane item s
  | .derive lane item => Sys2Proof.Machine.execDerive lane item s
  | .decrypt lane item => Sys2Proof.Machine.execDecrypt lane item s
  | .decode lane item => Sys2Proof.Machine.execDecode lane item s
  | .validate lane item => Sys2Proof.Machine.execValidate lane item s
  | .estimate lane item => Sys2Proof.Machine.execEstimate lane item s
  | .balanceContribution lane item => Sys2Proof.Machine.execBalanceContribution lane item s
  | .verify lane item => Sys2Proof.Machine.execVerify lane item s
  | .commitOrSquash lane item => Sys2Proof.Machine.execCommitOrSquash lane item s
  | .recordAndAcknowledge lane item => Sys2Proof.Machine.execRecordAndAcknowledge lane item s
  | .exportEnqueue lane item => Sys2Proof.Machine.execExportEnqueue lane item s
  | .generationNotice lane => Sys2Proof.Machine.execGenerationNotice lane s
  | .quarantineSummary => Sys2Proof.Machine.execQuarantineSummary s
  | .latencyExceeded => Sys2Proof.Machine.execLatencyExceeded s
  | .latencyStatsClear role v => Sys2Proof.Machine.execLatencyStatsClear role v s
  | .meterRekey role v => Sys2Proof.Machine.execMeterRekey role v s
  | .rekeySend meter => Sys2Proof.Machine.execRekeySend meter s
  | .rekeyRetry meter => Sys2Proof.Machine.execRekeyRetry meter s
  | .joinAcceptSend => Sys2Proof.Machine.execJoinAcceptSend s
  | .joinExpired meter => Sys2Proof.Machine.execJoinExpired meter s
  | .meterRemove role v => Sys2Proof.Machine.execMeterRemove role v s
  | .meterSelectEui role eui => Sys2Proof.Machine.execMeterSelectEui role eui s
  | .networkKeyGraceEnd => Sys2Proof.Machine.execNetworkKeyGraceEnd s
  | .veeRecord => Sys2Proof.Machine.execVeeRecord s
  | .sweepStep meter => Sys2Proof.Machine.execSweepStep meter s
  | .editApply role v => Sys2Proof.Machine.execEditApply role v s
  | .editApplied => Sys2Proof.Machine.execEditApplied s
  | .editRelease role v => Sys2Proof.Machine.execEditRelease role v s
  | .meterClassMove role v => Sys2Proof.Machine.execMeterClassMove role v s
  | .historyRebuild meter => Sys2Proof.Machine.execHistoryRebuild meter s
  | .syncEvent source => Sys2Proof.Machine.execSyncEvent source s
  | .syncNow role v => Sys2Proof.Machine.execSyncNow role v s
  | .localReset c => Sys2Proof.Machine.execLocalReset c s
  | .gridUnlocked steer => Sys2Proof.Machine.execGridUnlocked steer s
  | .measurementBlock instants dieTemp => Sys2Proof.Machine.execMeasurementBlock instants dieTemp s
  | .channelOverrange c => Sys2Proof.Machine.execChannelOverrange c s
  | .zeroCrossing c bits n u v w x => Sys2Proof.Machine.execZeroCrossing c bits n u v w x s
  | .voltageLost p => Sys2Proof.Machine.execVoltageLost p s
  | .energyReset role mask => Sys2Proof.Machine.execEnergyReset role mask s
  | .balanceDeltaApply => Sys2Proof.Machine.execBalanceDeltaApply s
  | .balanceCorrectionApply => Sys2Proof.Machine.execBalanceCorrectionApply s
  | .sensingBlockApply => Sys2Proof.Machine.execSensingBlockApply s
  | .groupIntervalClose group => Sys2Proof.Machine.execGroupIntervalClose group s
  | .utcDayClose => Sys2Proof.Machine.execUtcDayClose s
  | .phaseReport => Sys2Proof.Machine.execPhaseReport s
  | .addGroup role v => Sys2Proof.Machine.execAddGroup role v s
  | .removeGroup role v => Sys2Proof.Machine.execRemoveGroup role v s
  | .configPhase role v => Sys2Proof.Machine.execConfigPhase role v s
  | .clearDetectors role v => Sys2Proof.Machine.execClearDetectors role v s
  | .memberBulk role list => Sys2Proof.Machine.execMemberBulk role list s
  | .segmentGridPredict e => Sys2Proof.Machine.execSegmentGridPredict e s
  | .segmentTimerLocked e => Sys2Proof.Machine.execSegmentTimerLocked e s
  | .preambleDetected e => Sys2Proof.Machine.execPreambleDetected e s
  | .syncWordFound e wrong => Sys2Proof.Machine.execSyncWordFound e wrong s
  | .headerDecoded e u => Sys2Proof.Machine.execHeaderDecoded e u s
  | .plcFrameEnd e u v w x => Sys2Proof.Machine.execPlcFrameEnd e u v w x s
  | .plcTransmit e => Sys2Proof.Machine.execPlcTransmit e s
  | .plcAgcStep e samples => Sys2Proof.Machine.execPlcAgcStep e samples s
  | .backoffBoundary e u => Sys2Proof.Machine.execBackoffBoundary e u s
  | .ackWindowOpen e => Sys2Proof.Machine.execAckWindowOpen e s
  | .neighbourQueryPeriod => Sys2Proof.Machine.execNeighbourQueryPeriod s
  | .neighbourReport => Sys2Proof.Machine.execNeighbourReport s
  | .linkAgeExpire => Sys2Proof.Machine.execLinkAgeExpire s
  | .routePin role v => Sys2Proof.Machine.execRoutePin role v s
  | .routeUnpin role v => Sys2Proof.Machine.execRouteUnpin role v s
  | .iqLinkFault p cause => Sys2Proof.Machine.execIqLinkFault p cause s
  | .iqLinkRestored p => Sys2Proof.Machine.execIqLinkRestored p s
  | .scriptRun p miso waits => Sys2Proof.Machine.execScriptRun p miso waits s
  | .userA role p => Sys2Proof.Machine.execUserA role p s
  | .userB role p => Sys2Proof.Machine.execUserB role p s
  | .frontEndAlarm p line => Sys2Proof.Machine.execFrontEndAlarm p line s
  | .sfdFound p d coded u => Sys2Proof.Machine.execSfdFound p d coded u s
  | .radioFrameEnd p d air u => Sys2Proof.Machine.execRadioFrameEnd p d air u s
  | .txRequest p => Sys2Proof.Machine.execTxRequest p s
  | .txOn p => Sys2Proof.Machine.execTxOn p s
  | .transmissionStart p => Sys2Proof.Machine.execTransmissionStart p s
  | .transmissionEnd p => Sys2Proof.Machine.execTransmissionEnd p s
  | .agcBlock p samples => Sys2Proof.Machine.execAgcBlock p samples s
  | .rxClipping p => Sys2Proof.Machine.execRxClipping p s
  | .slotBoundary p => Sys2Proof.Machine.execSlotBoundary p s
  | .scheduleActivated p => Sys2Proof.Machine.execScheduleActivated p s
  | .beaconSend p => Sys2Proof.Machine.execBeaconSend p s
  | .radioAckSend p => Sys2Proof.Machine.execRadioAckSend p s
  | .downCellSend p => Sys2Proof.Machine.execDownCellSend p s
  | .floodCellSend p => Sys2Proof.Machine.execFloodCellSend p s
  | .seenEntryExpire => Sys2Proof.Machine.execSeenEntryExpire s
  | .commandRequest role v => Sys2Proof.Machine.execCommandRequest role v s
  | .commandTake meter => Sys2Proof.Machine.execCommandTake meter s
  | .commandTimeout meter => Sys2Proof.Machine.execCommandTimeout meter s
  | .commandCancel role v => Sys2Proof.Machine.execCommandCancel role v s
  | .tariffLoad role b => Sys2Proof.Machine.execTariffLoad role b s
  | .tariffAssign role v => Sys2Proof.Machine.execTariffAssign role v s
  | .imageBeginSlot role b => Sys2Proof.Machine.execImageBeginSlot role b s
  | .imageChunk role b => Sys2Proof.Machine.execImageChunk role b s
  | .imageEndSlot role slot => Sys2Proof.Machine.execImageEndSlot role slot s
  | .imageTargets role b => Sys2Proof.Machine.execImageTargets role b s
  | .imageActivate role b => Sys2Proof.Machine.execImageActivate role b s
  | .imageRemove role slot => Sys2Proof.Machine.execImageRemove role slot s
  | .roundStart kind slot => Sys2Proof.Machine.execRoundStart kind slot s
  | .roundEnd kind slot => Sys2Proof.Machine.execRoundEnd kind slot s
  | .blockSend port => Sys2Proof.Machine.execBlockSend port s
  | .queuePush queue producer nonStalling tag data => Sys2Proof.Machine.execQueuePush queue producer nonStalling tag data s
  | .queuePop queue => Sys2Proof.Machine.execQueuePop queue s
  | .dropPacket queue => Sys2Proof.Machine.execDropPacket queue s
  | .queueReserve queue cells => Sys2Proof.Machine.execQueueReserve queue cells s
  | .skeinSpill queue => Sys2Proof.Machine.execSkeinSpill queue s
  | .skeinRefill queue lost addr => Sys2Proof.Machine.execSkeinRefill queue lost addr s
  | .queueStatusRead queue => Sys2Proof.Machine.execQueueStatusRead queue s
  | .hostPop role v => Sys2Proof.Machine.execHostPop role v s
  | .hostPush role cell => Sys2Proof.Machine.execHostPush role cell s
  | .hostDropPacket role v => Sys2Proof.Machine.execHostDropPacket role v s
  | .recordAppend => Sys2Proof.Machine.execRecordAppend s
  | .stripeProgram stream => Sys2Proof.Machine.execStripeProgram stream s
  | .programComplete stream failed => Sys2Proof.Machine.execProgramComplete stream failed s
  | .batchAgeSeal => Sys2Proof.Machine.execBatchAgeSeal s
  | .storeRead q reads => Sys2Proof.Machine.execStoreRead q reads s
  | .dayReclaimed => Sys2Proof.Machine.execDayReclaimed s
  | .reclaimThrough role day => Sys2Proof.Machine.execReclaimThrough role day s
  | .storeFullHourly => Sys2Proof.Machine.execStoreFullHourly s
  | .storeResumed => Sys2Proof.Machine.execStoreResumed s
  | .garbageCollection => Sys2Proof.Machine.execGarbageCollection s
  | .eraseComplete sb failed => Sys2Proof.Machine.execEraseComplete sb failed s
  | .wearMove => Sys2Proof.Machine.execWearMove s
  | .patrolRead sb reads => Sys2Proof.Machine.execPatrolRead sb reads s
  | .unitRelocate => Sys2Proof.Machine.execUnitRelocate s
  | .dieRebuildDone die => Sys2Proof.Machine.execDieRebuildDone die s
  | .mapCheckpoint => Sys2Proof.Machine.execMapCheckpoint s
  | .checkpointComplete => Sys2Proof.Machine.execCheckpointComplete s
  | .imageUnitWrite unit => Sys2Proof.Machine.execImageUnitWrite unit s
  | .format role v => Sys2Proof.Machine.execFormat role v s
  | .ethFrameReceived port capture frame => Sys2Proof.Machine.execEthFrameReceived port capture frame s
  | .ethLinkChanged port linkUp => Sys2Proof.Machine.execEthLinkChanged port linkUp s
  | .exportRecordTake => Sys2Proof.Machine.execExportRecordTake s
  | .exportHoldoff => Sys2Proof.Machine.execExportHoldoff s
  | .exportAck via datagram => Sys2Proof.Machine.execExportAck via datagram s
  | .exportRetransmit => Sys2Proof.Machine.execExportRetransmit s
  | .exportStalled => Sys2Proof.Machine.execExportStalled s
  | .exportShed => Sys2Proof.Machine.execExportShed s
  | .keepAlive => Sys2Proof.Machine.execKeepAlive s
  | .exportKeySwitch => Sys2Proof.Machine.execExportKeySwitch s
  | .cumPersist => Sys2Proof.Machine.execCumPersist s
  | .exportSessionStart role v => Sys2Proof.Machine.execExportSessionStart role v s
  | .importDatagram via stamp datagram => Sys2Proof.Machine.execImportDatagram via stamp datagram s
  | .returnDatagram => Sys2Proof.Machine.execReturnDatagram s
  | .departureEcho port capture tag frame => Sys2Proof.Machine.execDepartureEcho port capture tag frame s
  | .offsetSample domain theta => Sys2Proof.Machine.execOffsetSample domain theta s
  | .sourceLost domain => Sys2Proof.Machine.execSourceLost domain s
  | .syncLost domain => Sys2Proof.Machine.execSyncLost domain s
  | .periodWrite domain role v => Sys2Proof.Machine.execPeriodWrite domain role v s
  | .stepRequest domain role delta => Sys2Proof.Machine.execStepRequest domain role delta s
  | .forcedStep domain role delta => Sys2Proof.Machine.execForcedStep domain role delta s
  | .setTime domain role time => Sys2Proof.Machine.execSetTime domain role time s
  | .clearSticky domain role v => Sys2Proof.Machine.execClearSticky domain role v s
  | .pairSwitched pair => Sys2Proof.Machine.execPairSwitched pair s
  | .pairRevert pair => Sys2Proof.Machine.execPairRevert pair s
  | .slewComplete pair => Sys2Proof.Machine.execSlewComplete pair s
  | .backupAnchor => Sys2Proof.Machine.execBackupAnchor s
  | .leapApplied => Sys2Proof.Machine.execLeapApplied s
  | .ptpFrameReceived port capture frame => Sys2Proof.Machine.execPtpFrameReceived port capture frame s
  | .ihlostTimeExchange port t1 c2 c3 t4 => Sys2Proof.Machine.execIhlostTimeExchange port t1 c2 c3 t4 s
  | .ppsEdge gpio stamp => Sys2Proof.Machine.execPpsEdge gpio stamp s
  | .keyRequest c slot u => Sys2Proof.Machine.execKeyRequest c slot u s
  | .keyImport role blob => Sys2Proof.Machine.execKeyImport role blob s
  | .keyImported => Sys2Proof.Machine.execKeyImported s
  | .keyRevoke role slot => Sys2Proof.Machine.execKeyRevoke role slot s
  | .keyErase role slot => Sys2Proof.Machine.execKeyErase role slot s
  | .tamperDetected source => Sys2Proof.Machine.execTamperDetected source s
  | .meshSample first second => Sys2Proof.Machine.execMeshSample first second s
  | .tamperRearm source inactiveFor => Sys2Proof.Machine.execTamperRearm source inactiveFor s
  | .tamperStatusClear role v => Sys2Proof.Machine.execTamperStatusClear role v s
  | .lockdownRelease role v => Sys2Proof.Machine.execLockdownRelease role v s
  | .provision role bundle => Sys2Proof.Machine.execProvision role bundle s
  | .deploy role eui => Sys2Proof.Machine.execDeploy role eui s
  | .returnDevice role eui => Sys2Proof.Machine.execReturn role eui s
  | .lock role eui => Sys2Proof.Machine.execLock role eui s
  | .issueChallenge => Sys2Proof.Machine.execIssueChallenge s
  | .submitResponse response => Sys2Proof.Machine.execSubmitResponse response s
  | .debugAuthorised => Sys2Proof.Machine.execDebugAuthorised s
  | .closeSession => Sys2Proof.Machine.execCloseSession s
  | .challengeLapse => Sys2Proof.Machine.execChallengeLapse s
  | .attest role challenge => Sys2Proof.Machine.execAttest role challenge s
  | .serviceWrite frame => Sys2Proof.Machine.execServiceWrite frame s
  | .serviceRead clocked => Sys2Proof.Machine.execServiceRead clocked s
  | .flags => Sys2Proof.Machine.execFlags s
  | .status => Sys2Proof.Machine.execStatus s
  | .imageBegin => Sys2Proof.Machine.execImageBegin s
  | .imageData => Sys2Proof.Machine.execImageData s
  | .imageEnd => Sys2Proof.Machine.execImageEnd s
  | .hitlessHandover role => Sys2Proof.Machine.execHitlessHandover role s
  | .bindOff => Sys2Proof.Machine.execBindOff s
  | .handoverAbandoned cause => Sys2Proof.Machine.execHandoverAbandoned cause s
  | .restartModeUpdate role => Sys2Proof.Machine.execRestartModeUpdate role s
  | .revert role => Sys2Proof.Machine.execRevert role s
  | .accept role => Sys2Proof.Machine.execAccept role s
  | .discardStaged role => Sys2Proof.Machine.execDiscardStaged role s
  | .probationEnded => Sys2Proof.Machine.execProbationEnded s
  | .heartbeatLost => Sys2Proof.Machine.execHeartbeatLost s
  | .enumerate port payload => Sys2Proof.Machine.execEnumerate port payload s
  | .cascadeFormed port report => Sys2Proof.Machine.execCascadeFormed port report s
  | .ihlostLinkChanged port linkUp => Sys2Proof.Machine.execIhlostLinkChanged port linkUp s
  | .ihlostMessage port ack message => Sys2Proof.Machine.execIhlostMessage port ack message s
  | .hopResend port => Sys2Proof.Machine.execHopResend port s
  | .masterHeartbeat arrival => Sys2Proof.Machine.execMasterHeartbeat arrival s
  | .masterLost => Sys2Proof.Machine.execMasterLost s
  | .leafLost node => Sys2Proof.Machine.execLeafLost node s
  | .masterRegained => Sys2Proof.Machine.execMasterRegained s
  | .directoryUpdate => Sys2Proof.Machine.execDirectoryUpdate s
  | .forward => Sys2Proof.Machine.execForward s
  | .forwardEntryExpire eui fc => Sys2Proof.Machine.execForwardEntryExpire eui fc s
  | .recordAck => Sys2Proof.Machine.execRecordAck s
  | .sampleSyncEpoch arrival => Sys2Proof.Machine.execSampleSyncEpoch arrival s
  | .islandFrequencyCheck island locked kHz => Sys2Proof.Machine.execIslandFrequencyCheck island locked kHz s
  | .islandClockRestored island => Sys2Proof.Machine.execIslandClockRestored island s
  | .islandUngate island => Sys2Proof.Machine.execIslandUngate island s
  | .crossingOverrun dst src => Sys2Proof.Machine.execCrossingOverrun dst src s
  | .crossingFenced dst src side items => Sys2Proof.Machine.execCrossingFenced dst src side items s
  | .crossingClear role v => Sys2Proof.Machine.execCrossingClear role v s
  | .inputChange input level heldNs => Sys2Proof.Machine.execInputChange input level heldNs s
  | .inputStuck input => Sys2Proof.Machine.execInputStuck input s
  | .inputRearmed input => Sys2Proof.Machine.execInputRearmed input s
  | .retry cell item ok => Sys2Proof.Machine.execRetry cell item ok s
  | .retireCell role v => Sys2Proof.Machine.execRetireCell role v s
  | .controlFailover hitless pauseUs => Sys2Proof.Machine.execControlFailover hitless pauseUs s
  | .selfTest cell pass space word => Sys2Proof.Machine.execSelfTest cell pass space word s
  | .returnCell role v => Sys2Proof.Machine.execReturnCell role v s
  | .clearCollector role v => Sys2Proof.Machine.execClearCollector role v s
  | .freeze requester => Sys2Proof.Machine.execFreeze requester s
  | .freezeReleased requester => Sys2Proof.Machine.execFreezeReleased requester s
  | .swData cell space addr present secret => Sys2Proof.Machine.execSwData cell space addr present secret s
  | .swStatus => Sys2Proof.Machine.execSwStatus s
  | .castOn input => Sys2Proof.Machine.execCastOn input s
  | .porst => Sys2Proof.Machine.execPorst s
  | .brownOut => Sys2Proof.Machine.execBrownOut s
  | .lastGasp => Sys2Proof.Machine.execLastGasp s
  | .lastGaspStop late => Sys2Proof.Machine.execLastGaspStop late s
  | .pfailReleased => Sys2Proof.Machine.execPfailReleased s
  | .deviceRestart role v => Sys2Proof.Machine.execDeviceRestart role v s
  | .referenceLost => Sys2Proof.Machine.execReferenceLost s
  | .referenceRestored => Sys2Proof.Machine.execReferenceRestored s
  | .referenceLossLimit => Sys2Proof.Machine.execReferenceLossLimit s
  | .supplyWarning rail bank mV => Sys2Proof.Machine.execSupplyWarning rail bank mV s
  | .periodicSave => Sys2Proof.Machine.execPeriodicSave s
  | .syncWordNotFound e => Sys2Proof.Machine.execSyncWordNotFound e s
  | .gridExtend e => Sys2Proof.Machine.execGridExtend e s
  | .energyBelowBusy e => Sys2Proof.Machine.execEnergyBelowBusy e s
  | .eventPlaceTimeout => Sys2Proof.Machine.execEventPlaceTimeout s
  | .formatComplete bad => Sys2Proof.Machine.execFormatComplete bad s
  | .islandGate island => Sys2Proof.Machine.execIslandGate island s

end Sys2Proof.Machine
end

