-- ==== Sys2Proof/Machine/Firmware.lean ====
section
/-!
DEFINITION. What the firmware on the control cluster does with the packets of Q53 to Q55, and by the clock: ARP, neighbour discovery and ICMP
echo (R5, R491), and PTP (R541 to R543). The standards' own fields are as the standards lay them out (log entries 84 and 85).
-/
namespace Sys2Proof.Machine

/-! ### Sending -/

/-- A frame of the firmware leaves a port now; its echo goes into Q53 (R514). -/
def State.firmwareSend (s : State) (p tag : Nat) (frame : Bytes) : State := departureEcho p s.now tag frame s

/-! ### ARP, neighbour discovery, ICMP echo (R491) -/

/-- The answer to an ARP request for the port's IPv4 address. -/
def State.arpAnswer (s : State) (p : Nat) (b : Bytes) : Option Bytes :=
  let mac := s.val (0x5000 + p) 4
  if b.take 8 = [0, 1, 8, 0, 6, 4, 0, 1] ∧ s.ownAddress p 4 (slice b 24 4) then
    some (s.ethFrame p (slice b 8 6) 0x0806 ([0, 1, 8, 0, 6, 4, 0, 2] ++ mac ++ slice b 24 4 ++ slice b 8 10))
  else none

/-- The answer to an ICMP echo request. -/
def State.echoAnswer (s : State) (p : Nat) (sender : Bytes) (i : IpParts) : Option Bytes :=
  if fieldLE i.body 0 2 ≠ 8 then none
  else
    let rest := i.body.drop 4
    let icmp := [0, 0] ++ checksum ([0, 0, 0, 0] ++ rest) ++ rest
    some (s.ethFrame p sender 0x0800 (ipv4Packet 1 64 i.dest i.source icmp))

/-- A message of ICMPv6 with its checksum; `b` has 0 in its checksum field. -/
def icmp6 (source dest b : Bytes) : Bytes :=
  b.take 2 ++ checksum (pseudoHeader 58 source dest b.length ++ b) ++ b.drop 4

/-- The answer to an ICMPv6 echo request or a neighbour solicitation for an address of the port. -/
def State.icmp6Answer (s : State) (p : Nat) (sender : Bytes) (i : IpParts) : Option Bytes :=
  let send := fun (source dest b : Bytes) => some (s.ethFrame p sender 0x86DD (ipv6Packet 58 255 source dest (icmp6 source dest b)))
  if fieldLE i.body 0 2 = 128 then (if s.ownAddress p 6 i.dest then send i.dest i.source ([129, 0, 0, 0] ++ i.body.drop 4) else none)
  else
    let target := slice i.body 8 16
    if fieldLE i.body 0 2 = 135 ∧ s.ownAddress p 6 target then
      let known := i.source != zeros 16
      send target (if known then i.source else [0xFF, 0x02] ++ zeros 13 ++ [0x01])
        ([136, 0, 0, 0, if known then 0x60 else 0x20, 0, 0, 0] ++ target ++ [2, 1] ++ s.val (0x5000 + p) 4)
    else none

/-- A frame of Q54 is answered, where it asks for an answer. -/
def State.answerFrame (s : State) (p : Nat) (f : Bytes) : State :=
  let e := ethParts f
  let sender := slice f 6 6
  let a := if e.etherType = 0x0806 then s.arpAnswer p e.body
    else match ipParts e.etherType e.body with
      | none => none
      | some i => if i.family = 4 then s.echoAnswer p sender i else s.icmp6Answer p sender i
  match a with
  | none => s
  | some b => s.firmwareSend p 0 b

/-! ### PTP: ports and messages (R541) -/

/-- A PTP port changed. -/
def State.updPtp (s : State) (p : Nat) (f : PtpPort → PtpPort) : State := { s with time := { s.time with ptp := upd s.time.ptp p f } }

/-- The PTP instance of a port. -/
def State.ptpPort (s : State) (p : Nat) : PtpPort := at' s.time.ptp p

/-- 0x5450 + port. -/
def State.ptpCfg (s : State) (p i : Nat) : Nat := s.cfgN (0x5450 + p) i

/-- 0x540C: the state of a port changes. -/
def State.setPtpState (s : State) (p new : Nat) : State :=
  let old := (s.ptpPort p).state
  if old = new then s
  else (s.updPtp p (fun x => { x with state := new })).event 0x540C 0x6400 [byte p, byte old, byte new]

/-- The device's clock identity, and the identity of a port. -/
def clockIdentity : Bytes := beBytes 8 Config.deviceEui
def portIdentity (p : Nat) : Bytes := clockIdentity ++ beBytes 2 (p + 1)

/-- A PTP timestamp of a time in units of 2^-16 ns, and back. -/
def ptpStamp (t : Int) : Bytes := beBytes 6 (secOf t).toNat ++ beBytes 4 (nsOf t % 1000000000).toNat
def ofPtpStamp (b : Bytes) : Int := ((beNat (b.take 6) * 1000000000 + beNat (slice b 6 4)) * 65536 : Nat)

/-- A common header and the body after it: message type, flags, correctionField, sequence, log interval. -/
def State.ptpBytes (s : State) (p typ flags : Nat) (cf : Int) (seq : Nat) (logInt : Int) (body : Bytes) : Bytes :=
  [byte typ, 0x12] ++ beBytes 2 (34 + body.length) ++ [byte (s.ptpCfg p 2), 0] ++ beBytes 2 flags ++ (leInt 8 cf).reverse ++ zeros 4 ++
    portIdentity p ++ beBytes 2 seq ++ [0] ++ leInt 1 logInt ++ body

/-- The flags of a message: twoStepFlag, PTP timescale. -/
def twoStepFlag : Nat := 0x0200
def timescaleFlag : Nat := 0x0008

/-- Addresses of a message: of the peer delay mechanism or of the others. -/
def ptpMac (v6 peer : Bool) : Bytes :=
  if v6 then [0x33, 0x33, 0, 0] ++ (if peer then [0, 0x6B] else [0x01, 0x81])
  else [0x01, 0x00, 0x5E] ++ (if peer then [0, 0, 0x6B] else [0, 0x01, 0x81])

/-- R541, R543: the frame of a message by the port's Transport: over UDP from IPv4 or IPv6, with 2 bytes after the message of a one-step Sync,
or by IEEE 802.3. -/
def State.ptpFrame (s : State) (p : Nat) (peer event tail : Bool) (m : Bytes) : Bytes :=
  let port := if event then 319 else 320
  let data := m ++ (if tail then [0, 0] else [])
  match s.ptpCfg p 5 with
  | 0 =>
    let src := s.val (0x5000 + p) 7
    let dst : Bytes := if peer then [224, 0, 0, 107] else [224, 0, 1, 129]
    s.ethFrame p (ptpMac false peer) 0x0800 (ipv4Packet 17 64 src dst (udpDatagram src dst port port data))
  | 1 =>
    let src := linkLocal (s.val (0x5000 + p) 4)
    let dst : Bytes := [0xFF, 0x02] ++ zeros 12 ++ (if peer then [0, 0x6B] else [0x01, 0x81])
    s.ethFrame p (ptpMac true peer) 0x86DD (ipv6Packet 17 64 src dst (udpDatagram src dst port port data))
  | _ => s.ethFrame p (if peer then [0x01, 0x80, 0xC2, 0, 0, 0x0E] else [0x01, 0x1B, 0x19, 0, 0, 0]) 0x88F7 m

/-- A message leaves: `tag` tells its echo. -/
def State.ptpSend (s : State) (p tag : Nat) (peer event tail : Bool) (m : Bytes) : State :=
  if s.ethUsable p then (s.timeCount 7).firmwareSend p tag (s.ptpFrame p peer event tail m) else s

/-- The tags that the firmware gives to the echoes of Delay_Req, Pdelay_Req, Pdelay_Resp and two-step Sync. -/
def tagDelayReq : Nat := 1
def tagPdelayReq : Nat := 2
def tagPdelayResp : Nat := 3
def tagSync : Nat := 4

/-- An interval of 2^n s as counts. -/
def ptpInterval (n : Int) : Nat := if 0 ≤ n then cSec 1 * 2 ^ n.toNat else cSec 1 / 2 ^ (-n).toNat

/-- The times of an instant in every domain (R519). -/
def State.timesAt (s : State) (c : Nat) : List Int := (List.range 8).map (fun k => (s.dom k).at c)

/-! ### Choosing a master -/

/-- What an Announce tells of its master, in the order of the data set comparison: less is better. `d` is its body from currentUtcOffset. -/
def announceKey (d source : Bytes) : Nat := beNat (slice d 3 14 ++ slice d 17 2 ++ source)

/-- The body of an Announce from currentUtcOffset: the device's own data set, or, on a boundary clock, that of the master of the port that drives
the distributed domain (R541). -/
def State.announceBody (s : State) (p : Nat) : Bytes :=
  let up := s.ptpPort (1 - p)
  if up.state = 9 ∧ s.portDomain (1 - p) = s.ptpCfg p 12 ∧ up.best ≠ [] then
    up.best.take 17 ++ beBytes 2 (beNat (slice up.best 17 2) + 1) ++ up.best.drop 19
  else (leInt 2 s.utcOffset).reverse ++ [0, byte (s.ptpCfg p 10), 248, 0xFE, 0xFF, 0xFF, byte (s.ptpCfg p 11)] ++ clockIdentity ++ [0, 0, 0xA0]

/-- A port takes a master, or loses its own. -/
def State.newParent (s : State) (p : Nat) (parent best : Bytes) (state : Nat) : State :=
  (s.updPtp p (fun x => { x with parent := parent, best := best, announceAt := s.now, t1 := none, t2 := [], t3 := [], delay := none })).setPtpState p state

/-- An Announce: of the master in use, or of a better one, by 0x5450.3 Role. -/
def State.ptpAnnounce (s : State) (p : Nat) (source m : Bytes) : State :=
  let x := s.ptpPort p
  let d := slice m 44 20
  let key := announceKey d source
  if x.parent = source then s.updPtp p (fun y => { y with best := d, announceAt := s.now })
  else if s.ptpCfg p 3 = 1 then s
  else if x.parent ≠ [] ∧ announceKey x.best x.parent ≤ key then s
  else if s.ptpCfg p 3 = 2 ∧ announceKey (s.announceBody p) (portIdentity p) ≤ key then s
  else s.newParent p source d 8

/-! ### Delays and offsets (R541) -/

/-- The offset samples of a Sync: one to each domain that takes its source from the port in the slave state. -/
def State.ptpTheta (s : State) (p : Nat) : State :=
  let x := s.ptpPort p
  match x.t1, x.delay with
  | some t1, some d =>
    if x.state ≠ 9 ∨ x.t2 = [] then s
    else
      (List.range 8).foldl (fun st k =>
        if st.source k ≠ p + 1 then st else offsetSample k ((t1 + x.cf + d - x.t2.getD k 0) / 65536) st) s
  | _, _ => s

/-- A delay measured: it is shown in 0x5411.6, and a port not calibrated becomes a slave. -/
def State.ptpDelay (s : State) (p : Nat) (d : Int) : State :=
  let s1 := (List.range 8).foldl (fun st k => if st.source k = p + 1 then st.updDom k (fun y => { y with pathDelay := d / 65536 }) else st)
    (s.updPtp p (fun x => { x with delay := some d, t3 := [] }))
  if (s1.ptpPort p).state = 8 then s1.setPtpState p 9 else s1

/-- A request of the port's delay mechanism, once per its interval. -/
def State.ptpRequest (s : State) (p : Nat) : State :=
  let x := s.ptpPort p
  let n := s.cfgI (0x5450 + p) 9
  if s.now < x.reqAt + ptpInterval n then s
  else
    let seq := (x.reqSeq + 1) % 65536
    let s1 := s.updPtp p (fun y => { y with reqSeq := seq, reqAt := s.now, t3 := [] })
    if s.ptpCfg p 4 = 1 then s1.ptpSend p tagPdelayReq true true false (s.ptpBytes p 2 0 0 seq 0x7F (zeros 20))
    else s1.ptpSend p tagDelayReq false true false (s.ptpBytes p 1 0 0 seq 0x7F (zeros 10))

/-- A Sync is complete: its offset goes to the time unit, and the delay is measured again when that is due. -/
def State.ptpSynced (s : State) (p : Nat) : State :=
  let s1 := s.ptpTheta p
  if s1.ptpCfg p 4 = 0 then s1.ptpRequest p else s1

/-- A message received, with the counter value at which it arrived. -/
def State.ptpMessage (s : State) (p c : Nat) (m : Bytes) : State :=
  let x := s.ptpPort p
  let typ := fieldLE m 0 1 % 16
  let source := slice m 20 10
  let seq := beNat (slice m 30 2)
  let cf := untwos 8 (beNat (slice m 8 8))
  let mine := slice m 44 10 == portIdentity p
  let k := s.portDomain p
  if s.ptpCfg p 1 ≠ 1 ∨ m.length < 34 ∨ fieldLE m 1 1 % 16 ≠ 2 ∨ fieldLE m 4 1 ≠ s.ptpCfg p 2 ∨ source.take 8 = clockIdentity then s
  else match typ with
    | 0 =>
      if x.parent ≠ source then s
      else if bit (beNat (slice m 6 2)) 9 then s.updPtp p (fun y => { y with t1 := none, t2 := s.timesAt c, cf := cf, syncSeq := seq })
      else (s.updPtp p (fun y => { y with t1 := some (ofPtpStamp (slice m 34 10)), t2 := s.timesAt c, cf := cf, syncSeq := seq })).ptpSynced p
    | 8 =>
      if x.parent ≠ source ∨ x.syncSeq ≠ seq ∨ x.t1.isSome ∨ x.t2 = [] then s
      else (s.updPtp p (fun y => { y with t1 := some (ofPtpStamp (slice m 34 10)), cf := x.cf + cf })).ptpSynced p
    | 1 =>
      if x.state ≠ 6 ∨ s.ptpCfg p 4 ≠ 0 then s
      else s.ptpSend p 0 false false false
        (s.ptpBytes p 9 0 cf seq (s.cfgI (0x5450 + p) 9) (ptpStamp (s.tdAt (s.ptpCfg p 12) c) ++ source))
    | 9 =>
      match x.t1 with
      | some t1 =>
        if !mine ∨ seq ≠ x.reqSeq ∨ x.t3 = [] ∨ x.t2 = [] ∨ x.parent ≠ source then s
        else s.ptpDelay p ((x.t2.getD k 0 - t1 + (ofPtpStamp (slice m 34 10) - x.t3.getD k 0) - (x.cf + cf)) / 2)
      | none => s
    | 2 =>
      if s.ptpCfg p 4 ≠ 1 then s
      else (s.updPtp p (fun y => { y with peerOf := source, peerSeq := seq })).ptpSend p tagPdelayResp true true false
        (s.ptpBytes p 3 twoStepFlag cf seq 0x7F (ptpStamp (s.tdAt k c) ++ source))
    | 3 =>
      if !mine ∨ seq ≠ x.reqSeq ∨ x.t3 = [] then s
      else
        let s1 := s.updPtp p (fun y => { y with peerT2 := ofPtpStamp (slice m 34 10), peerT4 := (s.timesAt c).getD k 0, peerCf := cf })
        if bit (beNat (slice m 6 2)) 9 then s1 else s1.ptpDelay p (((s.timesAt c).getD k 0 - x.t3.getD k 0 - cf) / 2)
    | 0xA =>
      if !mine ∨ seq ≠ x.reqSeq ∨ x.t3 = [] then s
      else s.ptpDelay p ((x.peerT4 - x.t3.getD k 0 - (ofPtpStamp (slice m 34 10) - x.peerT2) - (x.peerCf + cf)) / 2)
    | 0xB => s.ptpAnnounce p source m
    | _ => s

/-- The echo of a frame that the firmware sent: its departure stamp in the domain that the frame tells of. -/
def State.ptpEcho (s : State) (p tag : Nat) (f : Bytes) (stamp : Int) : State :=
  let m := f.drop (ptpOffset f)
  let seq := beNat (slice m 30 2)
  let x := s.ptpPort p
  let shift := fun (k : Nat) => stamp + (s.td k - s.td0)
  if tag = tagDelayReq ∨ tag = tagPdelayReq then
    if seq = x.reqSeq then s.updPtp p (fun y => { y with t3 := (List.range 8).map (fun k => stamp + ((s.dom k).at s.now - s.td0)) }) else s
  else if tag = tagPdelayResp then
    s.ptpSend p 0 true false false (s.ptpBytes p 0xA 0 0 seq 0x7F (ptpStamp (shift (s.portDomain p)) ++ x.peerOf))
  else if tag = tagSync then
    s.ptpSend p 0 false false false (s.ptpBytes p 8 timescaleFlag 0 seq (s.cfgI (0x5450 + p) 7) (ptpStamp (shift (s.ptpCfg p 12))))
  else s

/-! ### By the clock -/

/-- R543: the transmit stamp that the MAC writes into a one-step Sync, in the distributed domain. -/
def State.syncStamp (s : State) (p : Nat) : Bytes := ptpStamp (s.tdAt (s.ptpCfg p 12) (s.ethTxStamp p s.now))

/-- A master's Announce and Sync, each once per its interval. -/
def State.ptpMaster (s : State) (p : Nat) : State :=
  let x := s.ptpPort p
  let na := s.cfgI (0x5450 + p) 8
  let ns := s.cfgI (0x5450 + p) 7
  let s1 := if s.now < x.annAt + ptpInterval na then s
    else (s.updPtp p (fun y => { y with annAt := s.now, annSeq := (y.annSeq + 1) % 65536 })).ptpSend p 0 false false false
      (s.ptpBytes p 0xB timescaleFlag 0 x.annSeq na (zeros 10 ++ s.announceBody p))
  if s.now < x.synAt + ptpInterval ns then s1
  else
    let s2 := s1.updPtp p (fun y => { y with synAt := s.now, synSeq := (y.synSeq + 1) % 65536 })
    if s.ptpCfg p 6 = 1 then
      s2.ptpSend p tagSync false true false (s.ptpBytes p 0 (twoStepFlag + timescaleFlag) 0 x.synSeq ns (zeros 10))
    else s2.ptpSend p 0 false true (decide (s.ptpCfg p 5 < 2)) (s.ptpBytes p 0 timescaleFlag 0 x.synSeq ns (s.syncStamp p))

/-- The instance of a port: enabled or disabled, without Announce for three intervals a listener or a master, and what it sends. -/
def State.ptpRun (s : State) (p : Nat) : State :=
  let x := s.ptpPort p
  if s.ptpCfg p 1 ≠ 1 then (if x.state = 3 then s else s.newParent p [] [] 3)
  else if x.state = 3 then s.newParent p [] [] 4
  else
    let quiet := decide (x.announceAt + 3 * ptpInterval (s.cfgI (0x5450 + p) 8) ≤ s.now)
    let s1 := if x.state = 6 ∨ !quiet then s
      else if s.ptpCfg p 3 = 0 then (if x.state = 4 then s else s.newParent p [] [] 4)
      else s.newParent p [] [] 6
    let s2 := if s1.ptpCfg p 4 = 1 then s1.ptpRequest p else s1
    if (s2.ptpPort p).state = 6 then s2.ptpMaster p else s2

/-- Whether the firmware serves: not during the pause of a bind-off (R65), and not in DEVICE_FAULT (R680). -/
def State.firmwareRuns (s : State) : Bool := s.fw.pauseAt.isNone && !s.health.deviceFault

/-- The oldest packet of a queue for the firmware is handled. -/
def State.firmwareTake (s : State) (q : Nat) (f : State → Bytes → State) : State :=
  match s.popPacket q with
  | some (s1, b, false) => f s1 b
  | some (s1, _, true) => s1
  | none => s

/-- The firmware's work at a count: a packet of each of Q53 to Q55, and the PTP instances. -/
def State.firmwareTick (s : State) : State :=
  if !s.firmwareRuns then s
  else
    let s1 := s.firmwareTake 53 (fun t b => t.ptpEcho (fieldLE b 12 1 % 2) (fieldLE b 14 2) (b.drop 64) (ofTime80 (slice b 0 12)))
    let s2 := s1.firmwareTake 54 (fun t b => t.answerFrame (fieldLE b 20 1 % 2) (b.drop 64))
    let s3 := s2.firmwareTake 55 (fun t b =>
      let f := b.drop 64
      t.ptpMessage (fieldLE b 20 1 % 2) (t.ethStamp (fieldLE b 20 1 % 2) (fieldLE b 0 8)) (f.drop (ptpOffset f)))
    (s3.ptpRun 0).ptpRun 1

end Sys2Proof.Machine
end

