-- ==== Sys2Proof/Machine/Tick.lean ====
section
/-!
DEFINITION. What passes while no command waits: one count of 2 ns (log entry 1).
-/
namespace Sys2Proof.Machine

/-- R536: 2 ns on the backup counter of 32,768 Hz, which runs in every state; 10^9 parts make one count of 48 bits. -/
def State.backupTick (s : State) : State :=
  let part := s.time.backupPart + 65536
  { s with time := { s.time with backup := (s.time.backup + part / 1000000000) % 2 ^ 48, backupPart := part % 1000000000 } }

/-- R519, R538: whether the free-running counter counts: not in reset, in cast-on, or in freeze. -/
def State.counts (s : State) : Bool :=
  !s.health.frozen &&
    (match s.power.phase with
     | .run | .lastGasp | .flushed | .stopped => true
     | .castOn | .held | .refHeld => false)

/-- One count of the free-running counter. -/
def State.count (s : State) : State := { s with time := { s.time with counter := (s.time.counter + 1) % 2 ^ 64 } }

/-- A tick: the counters count, and what time alone brings about follows: the steps of a life-cycle transition (R583), a signature that
waits (R589), the packets that leave
Q13 (R635), the member counts of a leaf (R638), the end of an epoch that fenced blocks held up (R35), and the firmware's work (R491, R541). -/
def tick (s : State) : State :=
  let s1 := s.backupTick
  if s1.counts then
    let s2 := s1.count.transitionTick
    if s2.live then s2.attestTick.drainReturns.reportCounts.settleEpoch.firmwareTick else s2
  else s1

end Sys2Proof.Machine
end

