-- ==== Sys2Proof/Safety.lean ====
section
/-!
DEFINITION. What counts as a safe step and a safe state, in the words that claims use.
-/
namespace Sys2Proof.Machine

/-- A command is answered in a state when its step is neither a fault nor a refusal. -/
def Answered (c : Instr) (s : State) : Prop := ∃ t, exec c s = .next t

/-- The commands that can end a freeze: a requester's release (R691), a cold reset by PORST_N or a brown-out (R704, R711), the end of a power
failure (R711), and cast-on. -/
def Instr.endsFreeze (c : Instr) : Bool :=
  match c with
  | .freezeReleased _ | .porst | .brownOut | .pfailReleased | .castOn _ | .tamperDetected _ | .meshSample _ _ | .lastGasp | .lastGaspStop _ => true
  | _ => false

/-- R690, R538: the device is frozen with its counter at `n`, is not held in reset by the loss of its reference (R703: a device so held does not
freeze), and nothing that waits can end the freeze. -/
def FrozenAt (n : Nat) (s : State) : Prop :=
  s.health.frozen = true ∧ s.power.phase ≠ .refHeld ∧ s.time.counter = n ∧ ∀ c ∈ s.pending, Instr.endsFreeze c = false

/-- R707: the device waits in reset for its cast-on, and no CAST_ON waits. -/
def AwaitsCastOn (s : State) : Prop :=
  s.power.phase = .castOn ∧ ∀ c ∈ s.pending, ∀ i, c ≠ .castOn i

/-- R53, R48: a state in which a write of a CMD object is taken: the device runs, is not in DEVICE_FAULT (R680; log entry 40) and is not in the
pause of a bind-off (R65; log entry 43). -/
def TakesCommands (s : State) : Prop := s.live = true ∧ s.health.deviceFault = false ∧ s.fw.pauseAt = none

/-- R59, R60: a request by UDP that the dictionary accepts: fewer than the limit of R63 came before it in its second, its key, its tag and its sequence are good, it is for this device and its payload is well
formed, and neither the role nor the state of the device forbids it. -/
def Accepted (s : State) (m : Bytes) (via : Via) (q : DictMsg) (key : Bytes) : Prop :=
  s.live = true ∧ via.transport < 2 ∧ s.dictOverload = false ∧ dictParse m = some q ∧ (s.roleKey q.role).2 = some key ∧
    dictTag key 0 q.role q.seq (m.take (m.length - 16)) = m.drop (m.length - 16) ∧
    (at' (s.roleKey q.role).1.dict.roles q.role).judge q.seq = .fresh ∧ q.node = 0 ∧ payloadAbort q.operation q.payload = 0

/-- R59 to R61, R63: the state in which an accepted request is executed: its sequence is in the window and it is counted. -/
def State.admitted (s : State) (q : DictMsg) : State :=
  (((s.roleKey q.role).1.updRole q.role (fun x => x.accept q.seq)).dictCount 1).countWindow

/-- An accepted request is executed: not one of a role that R54 refuses, and the device is neither in DEVICE_FAULT nor in the pause of a bind-off. -/
def Executes (s : State) (q : DictMsg) (via : Via) : Prop :=
  (s.admitted q).roleRefused q.role via.transport = false ∧ (s.admitted q).health.deviceFault = false ∧ (s.admitted q).fw.pauseAt = none

/-- The lanes run: the device runs or is in its last gasp, and is not in DEVICE_FAULT (R680). -/
def LanesRun (s : State) : Prop := s.live = true ∧ s.health.deviceFault = false

/-- R53, R86: the command rows that are a write of a CMD object: its index and subindex, the role that writes, and the Role column of the object. -/
def Instr.cmdObject : Instr → Option (Nat × Nat × Nat × RoleCol)
  | .configCommit role _ => some (0x1010, 1, role, .operator)
  | .discardStagedSet role _ => some (0x1010, 5, role, .operator)
  | .restoreDefaults role _ => some (0x1011, 0, role, .operator)
  | .latencyStatsClear role _ => some (0x4020, 3, role, .operator)
  | .meterRekey role _ => some (0x3822, 1, role, .keyholder)
  | .meterRemove role _ => some (0x3822, 2, role, .operator)
  | .meterSelectEui role _ => some (0x3820, 2, role, .operator)
  | .editApply role _ => some (0x4420, 6, role, .operator)
  | .editRelease role _ => some (0x4420, 7, role, .operator)
  | .meterClassMove role _ => some (0x4421, 0, role, .operator)
  | .syncNow role _ => some (0x2000, 6, role, .operator)
  | .energyReset role _ => some (0x2105, 0, role, .operator)
  | .addGroup role _ => some (0x2480, 1, role, .operator)
  | .removeGroup role _ => some (0x2480, 2, role, .operator)
  | .configPhase role _ => some (0x2480, 3, role, .operator)
  | .clearDetectors role _ => some (0x2480, 4, role, .operator)
  | .memberBulk role _ => some (0x2481, 0, role, .operator)
  | .routePin role _ => some (0x2853, 1, role, .operator)
  | .routeUnpin role _ => some (0x2853, 2, role, .operator)
  | .userA role p => some (0x3006, p + 1, role, .operator)
  | .userB role p => some (0x3006, p + 1, role, .operator)
  | .commandRequest role _ => some (0x3C10, 3, role, .operator)
  | .commandCancel role _ => some (0x3C11, 6, role, .operator)
  | .tariffLoad role _ => some (0x3C20, 0, role, .operator)
  | .tariffAssign role _ => some (0x3C23, 0, role, .operator)
  | .imageBeginSlot role _ => some (0x3C30, 0, role, .operator)
  | .imageChunk role _ => some (0x3C31, 0, role, .operator)
  | .imageEndSlot role _ => some (0x3C32, 0, role, .operator)
  | .imageTargets role _ => some (0x3C33, 0, role, .operator)
  | .imageActivate role _ => some (0x3C34, 0, role, .operator)
  | .imageRemove role _ => some (0x3C35, 0, role, .operator)
  | .hostPop role _ => some (0x48C0, 2, role, .operator)
  | .hostPush role _ => some (0x48C0, 4, role, .operator)
  | .hostDropPacket role _ => some (0x48C0, 5, role, .operator)
  | .reclaimThrough role _ => some (0x4C30, 3, role, .operator)
  | .format role _ => some (0x4C30, 1, role, .keyholder)
  | .exportSessionStart role _ => some (0x5011, 3, role, .operator)
  | .periodWrite domain role _ => some (0x5421 + domain, 1, role, .operator)
  | .stepRequest domain role _ => some (0x5421 + domain, 2, role, .operator)
  | .forcedStep domain role _ => some (0x5421 + domain, 3, role, .operator)
  | .setTime domain role _ => some (0x5421 + domain, 4, role, .operator)
  | .clearSticky domain role _ => some (0x5421 + domain, 5, role, .operator)
  | .keyImport role _ => some (0x5820, 0, role, .keyholder)
  | .keyRevoke role _ => some (0x5822, 0, role, .keyholder)
  | .keyErase role _ => some (0x5823, 0, role, .keyholder)
  | .tamperStatusClear role _ => some (0x5832, 3, role, .keyholder)
  | .lockdownRelease role _ => some (0x5833, 0, role, .keyholder)
  | .provision role _ => some (0x5840, 1, role, .vendor)
  | .deploy role _ => some (0x5840, 2, role, .keyholder)
  | .returnDevice role _ => some (0x5840, 3, role, .keyholder)
  | .lock role _ => some (0x5840, 4, role, .keyholder)
  | .attest role _ => some (0x5811, 1, role, .operator)
  | .hitlessHandover role => some (0x5C10, 1, role, .operator)
  | .restartModeUpdate role => some (0x5C10, 1, role, .operator)
  | .revert role => some (0x5C10, 1, role, .operator)
  | .accept role => some (0x5C10, 1, role, .operator)
  | .discardStaged role => some (0x5C10, 1, role, .operator)
  | .crossingClear role _ => some (0x6021, 0, role, .operator)
  | .retireCell role _ => some (0x6422, 1, role, .operator)
  | .returnCell role _ => some (0x6422, 2, role, .operator)
  | .clearCollector role _ => some (0x6422, 3, role, .operator)
  | .deviceRestart role _ => some (0x6810, 0, role, .operator)
  | _ => none

/-- R690, R707: the commands that come about whatever the phase of the device and whether it is frozen: those of the battery island, the
debug access port, the freeze requesters and the pins of power and clock. -/
def Instr.ungated (c : Instr) : Bool :=
  match c with
  | .tamperDetected _ | .meshSample _ _ | .tamperRearm _ _ | .issueChallenge | .submitResponse _ | .debugAuthorised | .closeSession | .challengeLapse
  | .freeze _ | .freezeReleased _ | .swData _ _ _ _ _ | .swStatus | .castOn _ | .porst | .brownOut | .lastGasp | .lastGaspStop _ | .pfailReleased
  | .referenceRestored => true
  | _ => false

end Sys2Proof.Machine
end

