-- ==== Sys2Proof/Certificates/Slice0/Obligations.lean ====
section
/-!
DEFINITION. The statements for the provers. One statement names several commands where they share a part of the chip; each clause says what one of them
does under conditions on the state and its operands alone. The rules a docstring names are those its clauses follow, a statement of basis 'derived' in part.
-/
set_option linter.unusedVariables false

open Sys2Proof Sys2Proof.Machine

/-- A step takes the command at the front of the queue and is exec of it on the state with the rest of the queue (log entry 1). -/
def Obligations.StepRunsFront : Prop := ∀ (c : Instr) (s : State) (rest : List Instr), step { s with pending := c :: rest } = exec c { s with pending := rest }

/-- Every command completes, in every state and with every operand: it answers a next state, and neither faults nor is refused. Where the condition of
its rule does not hold, that state is the same one (log entry 7); what it is where the condition holds, the statement of the command's family says. -/
def Obligations.EveryCommandCompletes : Prop := ∀ (c : Instr) (s : State), ∃ t, exec c s = .next t

/-- Log entry 1: with no command waiting a step is one count of 2 ns: where no transition, no signature, no cascade traffic, no configuration epoch
and no packet for the firmware is under way and PTP is off, the free-running counter and the backup counter move and nothing else does; in reset, in
cast-on and in freeze the free-running counter stands. -/
def Obligations.IdleStep : Prop :=  (∀ (s : State), s.pending = [] → s.counts = false → ∃ b p, step s = .next { s with time := { s.time with backup := b, backupPart := p } } ∧
    b = (s.time.backup + (s.time.backupPart + 65536) / 1000000000) % 2 ^ 48 ∧ p = (s.time.backupPart + 65536) % 1000000000) ∧
  (∀ (s : State), s.pending = [] → s.counts = true → s.live = false → s.vault.lifeStatus ≠ 1 → ∃ b p, step s = .next { s with time := { s.time with
    counter := (s.time.counter + 1) % 2 ^ 64, backup := b, backupPart := p } }) ∧
  (∀ (s : State), s.pending = [] → s.running = true → s.vault.lifeStatus ≠ 1 → s.vault.attestAsked = none → (at' s.queue.queues 13).level = 0 →
    s.casc.formed = false → s.cfg.sets = [] → (∀ q ∈ [53, 54, 55], s.popPacket q = none) →
    (∀ p < 2, s.ptpCfg p 1 ≠ 1 ∧ (s.ptpPort p).state = 3) →
    ∃ b p, step s = .next { s with time := { s.time with counter := (s.time.counter + 1) % 2 ^ 64, backup := b, backupPart := p } })

/-- R519, R580, R602, R705: what reset leaves: the device waits for cast-on and no command waits; the counter is 0, nothing runs, no fault, no freeze,
no lockdown, the queues empty, the store's streams idle, no transition, the idle update unit, an unnumbered node of the cascade. -/
def Obligations.ResetState : Prop :=  AwaitsCastOn State.reset ∧ State.reset.pending = [] ∧ State.reset.out = [] ∧ State.reset.time.counter = 0 ∧ State.reset.live = false ∧
  State.reset.health.frozen = false ∧ State.reset.health.deviceFault = false ∧ State.reset.vault.lockdown = false ∧ State.reset.lcs = .blank ∧
  State.reset.cfg.staged = [] ∧ State.reset.cfg.sets = [] ∧ State.reset.cfg.applied = 0 ∧ State.reset.queue.waiting = [] ∧
  (∀ q ∈ State.reset.queue.queues, q.level = 0 ∧ q.reserved = 0 ∧ q.fenced = false ∧ q.owner = none) ∧
  State.reset.mtr.table = [] ∧ State.reset.fw.state = 0 ∧ State.reset.casc.formed = false

/-- R690: while the device is frozen every command but those of the battery island, the debug access port, the freeze requesters and the pins of power
and clock leaves the whole state as it is. -/
def Obligations.FrozenLeaves : Prop := ∀ (c : Instr) (s : State), s.health.frozen = true → Instr.ungated c = false → exec c s = .next s

/-- R690, R538: a frozen device stays frozen with its counter standing, through every step, until a command that can end the freeze comes. -/
def Obligations.FreezeKept : Prop := ∀ (n : Nat) (s t : State), FrozenAt n s → step s = .next t → FrozenAt n t

/-- R705 to R707: a device in reset stays in reset through every step until CAST_ON comes: no command, no tamper response and no tick leaves it. -/
def Obligations.ResetKept : Prop := ∀ (s t : State), AwaitsCastOn s → step s = .next t → AwaitsCastOn t

/-- R24: of two errors that reach one collector in the same cycle both are counted, in counts that stay at their top (R22), and the first-error record
is the one of the lower cell address, whichever is taken first. -/
def Obligations.FirstErrorRecord : Prop :=  ∀ (top : Nat) (c : Collector) (e f : ErrReport), c.first = none → e.time = f.time → e.cell < f.cell →
    ((c.take top e).take top f).first = some e ∧ ((c.take top f).take top e).first = some e ∧
    ((c.take top e).take top f).counts = upd (upd c.counts e.cls (fun n => satAdd top n 1)) f.cls (fun n => satAdd top n 1) ∧
    ((c.take top f).take top e).counts = upd (upd c.counts f.cls (fun n => satAdd top n 1)) e.cls (fun n => satAdd top n 1)

/-- R70: an accepted COMMIT does to the configuration what a write of 1 to ConfigCommit does, on an empty staged set too, and is BUSY with two epochs
pending. -/
def Obligations.CommitOperation : Prop :=  ∀ (s : State) (m : Bytes) (via : Via) (q : DictMsg) (key : Bytes), Accepted s m via q key → Executes s q via → q.operation = opCommit →
    roleMay q.role .operator = true →
    ∃ (u : State) (code : Nat) (pay : Bytes), exec (.configCommit q.role 1) (s.admitted q) = .next (u.put (.answer 0x1010 1 code)) ∧
      exec (.commit m via) s = .next (u.respond key q.role q.operation q.seq 0 via (code, pay)) ∧
      ((s.admitted q).cfg.sets.length < 2 → code = Abort.ok ∧ u.cfg.staged = [] ∧ ∃ p, u.cfg.sets = (s.admitted q).cfg.sets ++ [p] ∧
        p.values = (s.admitted q).cfg.staged) ∧
      (2 ≤ (s.admitted q).cfg.sets.length → code = Abort.busy ∧ u = s.admitted q)

/-- R187: a reading of outcome VALID or SUSPECT above LG_ID becomes the last-good state, absent channels becoming absent; any other leaves it
unchanged. -/
def Obligations.LastGoodState : Prop :=  ∀ (s : State) (it : Item) (m : Meter), it.isReading = true →
    (it.outcome ≤ 1 → m.lgId < it.reading.interval →
      (estimateStage s it m).shadow.lgId = it.reading.interval ∧ (estimateStage s it m).shadow.lgVal = it.reading.vals) ∧
    ((1 < it.outcome ∨ it.reading.interval ≤ m.lgId) → (estimateStage s it m).shadow.lgId = m.lgId ∧ (estimateStage s it m).shadow.lgVal = m.lgVal)

/-- R522: a change of the period re-anchors the domain: O becomes its time, C0 the counter, P the new period, and its time at that cycle is the same
under either set of parameters. -/
def Obligations.PeriodContinuity : Prop :=  ∀ (d : Domain) (now p : Nat), (d.setPeriod now p).offset = d.at now ∧ (d.setPeriod now p).anchor = now ∧ (d.setPeriod now p).period = p ∧
    (d.setPeriod now p).at now = d.at now

/-- R32 step 1, R36, R69, R88: the commands that act on the staged set: what each leaves, and when CONFIG_COMMIT is BUSY. -/
def Obligations.StagedSetCommands : Prop :=  (∀ (s : State) (role : Nat), TakesCommands s → roleMay role .operator = true → s.cfg.sets.length < 2 →
    exec (.configCommit role 1) s = .next (State.put { s with cfg := { s.cfg with
        staged := []
        sets := s.cfg.sets ++ [{ values := s.cfg.staged, number := nextEpoch s.pendingEpoch, published := false, publishedAt := 0
                                 lateRaised := [], switched := [] }] } } (.answer 0x1010 1 Abort.ok))) ∧
  (∀ (s : State) (role : Nat), TakesCommands s → roleMay role .operator = true → 2 ≤ s.cfg.sets.length →
    exec (.configCommit role 1) s = .next (s.put (.answer 0x1010 1 Abort.busy))) ∧
  (∀ (s : State) (role : Nat), TakesCommands s → roleMay role .operator = true →
    exec (.discardStagedSet role 1) s = .next (State.put { s with cfg := { s.cfg with staged := [] } } (.answer 0x1010 5 Abort.ok))) ∧
  (∀ (s : State) (role : Nat) (new : Settings), TakesCommands s → roleMay role .operator = true →
    new = restorable.foldl (fun acc o => insertKey (objKey o.1 o.2) (defaultOf s.board.cascMaster o.1 o.2) acc) s.cfg.staged →
    exec (.restoreDefaults role 1) s = .next (
      if new.length ≤ 4096 then
        (State.event { s with cfg := { s.cfg with staged := new } } 0x1007 0x8100 (leBytes 2 restorable.length)).put (.answer 0x1011 0 Abort.ok)
      else s.put (.answer 0x1011 0 Abort.stagedLimit)))

/-- R32 steps 2 to 6, R34 to R36: a sealed set is checked, and rejected or saved and published; a block switches once, at its boundary and at no other
moment; a late block is told. R32 steps 5 and 6: once every block has switched or is fenced, the epoch is applied: its values are in force, its number
is the applied epoch, it leaves the sealed sets, a fenced block has taken over what the set changes of it, and 0x1001 is raised. -/
def Obligations.EpochSteps : Prop :=
  ((∀ (s : State) (p : Sealed) (rest : List Sealed) (f : Nat × Nat), s.running = true → s.cfg.sets = p :: rest → p.published = false →
      firstFailure (s.setFailures p.values) = some f → exec .configSetCheck s = .next (s.rejectSet p rest f)) ∧
    (∀ (s : State) (p : Sealed) (rest : List Sealed), s.running = true → s.cfg.sets = p :: rest → p.published = false →
      firstFailure (s.setFailures p.values) = none → exec .configSetCheck s = .next ((s.saveSet p.values).publishSet p rest)) ∧
    (∀ (s : State) (b : Blk) (p : Sealed) (rest : List Sealed), s.live = true → s.cfg.sets = p :: rest → p.published = true →
      p.switched.contains b = false → s.atBoundary b = true →
      exec (.blockEpochSwitch b) s = .next (((State.blockSwitched
        { s with cfg := { s.cfg with sets := { p with switched := p.switched ++ [b] } :: rest } } s b).returnCells b p.number).settleEpoch)) ∧
    (∀ (s : State) (b : Blk), s.live = true → s.atBoundary b = false → exec (.blockEpochSwitch b) s = .next s.settleEpoch) ∧
    (∀ (s : State) (p : Sealed) (rest : List Sealed) (b : Blk), s.live = true → s.cfg.sets = p :: rest → p.published = true →
      p.switched.contains b = false → s.blkFenced b = false → s.now < p.publishedAt + cSec 2 → exec .configEpochLate s = .next s) ∧
    (∀ (s : State) (p : Sealed) (rest : List Sealed) (late : List Blk), s.live = true → s.cfg.sets = p :: rest → p.published = true →
      p.publishedAt + cSec 2 ≤ s.now → late = allBlks.filter (fun b => !p.switched.contains b && !s.blkFenced b && !p.lateRaised.contains b) →
      late ≠ [] →
      exec .configEpochLate s = .next (late.foldl (fun st b => st.event 0x1003 b.cell (leBytes 4 p.number))
        { s with cfg := { s.cfg with sets := { p with lateRaised := p.lateRaised ++ late } :: rest } }))) ∧
  (∀ (s : State) (p : Sealed) (rest : List Sealed), s.cfg.sets = p :: rest → p.published = true →
      (∀ b ∈ allBlks, p.switched.contains b = true ∨ s.blkFenced b = true) →
      s.settleEpoch = ((allBlks.filter (fun b => !p.switched.contains b)).foldl (fun (st : State) b => st.blockMissed s b)
        { s with cfg := { s.cfg with active := overlay p.values s.cfg.active, applied := p.number, sets := rest } }).event 0x1001 0xE200
          (leBytes 4 p.number))

/-- R53, R48: a role that the Role column shuts out gets ROLE_DENIED for every command that is a write of a CMD object, and nothing else happens. -/
def Obligations.RoleDenied : Prop :=  ∀ (c : Instr) (s : State) (idx sub role : Nat) (col : RoleCol), Instr.cmdObject c = some (idx, sub, role, col) → TakesCommands s →
    roleMay role col = false → exec c s = .next (s.put (.answer idx sub Abort.roleDenied))

/-- R56, R59: a message that cannot be read is dropped and counted in 0x1032.5, whatever its transport over UDP and whichever operation it names. R63:
a message that comes when the limit of its second is used up is dropped and counted in 0x1032.6. R60: what a sequence is to the window of its role: 0
is dropped; above H it is fresh; more than 63 below H it is a replay; within the window it is a repeat exactly when its bit is set. R60, R61: after a
fresh sequence is accepted it is a repeat, H never falls, and the floor kept in MRAM is never below H once it was not. -/
def Obligations.RequestIntake : Prop :=
  (∀ (s : State) (m : Bytes) (via : Via), s.live = true → via.transport < 2 →
      ∀ c ∈ [Instr.read m via, .write m via, .readBlock m via, .writeBlock m via, .commit m via, .subscribeCreate m via, .subscribeCancel m via,
        .subscribeRenew m via],
      (s.dictOverload = false → dictParse m = none → exec c s = .next { s with dict := { s.dict with counters := upd s.dict.counters 4 (· + 1) } }) ∧
      (s.dictOverload = true → exec c s = .next { s with dict := { s.dict with counters := upd s.dict.counters 5 (· + 1) } })) ∧
  (∀ (r : RoleState) (seq : Nat),
      (seq = 0 → r.judge seq = .drop) ∧
      (r.high < seq → r.judge seq = .fresh) ∧
      (0 < seq → seq + 63 < r.high → r.judge seq = .replay) ∧
      (0 < seq → seq ≤ r.high → r.high ≤ seq + 63 → r.judge seq = (if r.bitmap / 2 ^ (r.high - seq) % 2 = 1 then .repeated else .fresh))) ∧
  (∀ (r : RoleState) (seq : Nat), r.bitmap < 2 ^ 64 → r.judge seq = .fresh →
      (r.accept seq).judge seq = .repeated ∧ r.high ≤ (r.accept seq).high ∧ seq ≤ (r.accept seq).high ∧ (r.accept seq).bitmap < 2 ^ 64 ∧
      (r.high ≤ r.floor → (r.accept seq).high ≤ (r.accept seq).floor))

/-- R59, R66, R72, R73, R70, R82, R83: what each operation of an accepted request does, and that its response is kept and sent. -/
def Obligations.DictionaryOperations : Prop :=  ∀ (s : State) (m : Bytes) (via : Via) (q : DictMsg) (key : Bytes), Accepted s m via q key → Executes s q via →
    let t := s.admitted q
    let idx := payIdx q.payload
    let sub := paySub q.payload
    let slot := fieldLE q.payload 0 1
    let lease := fieldLE q.payload 2 2
    let answer := fun (u : State) (x : Reply) => u.respond key q.role q.operation q.seq 0 via x
    (∀ (r : ObjRow), q.operation = opRead → rowOf idx sub = some r → r.ty ≠ .blob → t.readAbort idx sub r = 0 →
      ∃ b, b = t.readBytes q.role (bit (fieldLE q.payload 3 1) 0) idx sub r ∧
        exec (.read m via) s = .next (answer (t.afterRead idx sub) (0, [byte r.ty.code, 0] ++ leBytes 2 b.length ++ b))) ∧
    (∀ (r : ObjRow) (v : Bytes), q.operation = opWrite → rowOf idx sub = some r → r.ty ≠ .blob → r.acc = .rwc → roleMay q.role r.role = true →
      fieldLE q.payload 4 2 = r.ty.size → r.ty.encodingAbort (q.payload.drop 6) = 0 → v = takenValue idx sub (q.payload.drop 6) →
      r.range.ok v = true → valueOk idx sub (q.payload.drop 6) = true → t.weakens idx sub v = false →
      (insertKey (objKey idx sub) v t.cfg.staged).length ≤ 4096 →
      exec (.write m via) s = .next (answer { t with cfg := { t.cfg with staged := insertKey (objKey idx sub) v t.cfg.staged } } (0, []))) ∧
    (∀ (r : ObjRow), q.operation = opReadBlock → rowOf idx sub = some r → r.ty = .blob → t.readAbort idx sub r = 0 → fieldLE q.payload 4 4 = 0 →
      idx ≠ 0x4C20 →
      exec (.readBlock m via) s = .next (answer
        (t.updRole q.role (fun x => { x with readS := some { key := objKey idx sub, data := t.readBytes q.role false idx sub r, lastAt := t.now } }))
        (0, segment (t.readBytes q.role false idx sub r) 0 (fieldLE q.payload 8 2)))) ∧
    (∀ (r : ObjRow), q.operation = opWriteBlock → rowOf idx sub = some r → r.ty = .blob → r.acc ≠ .ro → roleMay q.role r.role = true →
      fieldLE q.payload 4 4 = 0 → fieldLE q.payload 8 4 ≤ blobLimit r → (q.payload.drop 20).length < fieldLE q.payload 8 4 →
      ∃ u, exec (.writeBlock m via) s = .next (answer u (0, leBytes 4 (q.payload.drop 20).length)) ∧ u = { t with dict := u.dict } ∧
        (q.role < t.dict.roles.length → (at' u.dict.roles q.role).writeS =
          some { key := objKey idx sub, total := fieldLE q.payload 8 4, crc := fieldLE q.payload 12 4, data := q.payload.drop 20, lastAt := t.now })) ∧
    (q.operation = opCommit → roleMay q.role .operator = true → t.cfg.sets.length < 2 →
      exec (.commit m via) s = .next (answer { t with cfg := { t.cfg with
          staged := []
          sets := t.cfg.sets ++ [{ values := t.cfg.staged, number := nextEpoch t.pendingEpoch, published := false, publishedAt := 0
                                   lateRaised := [], switched := [] }] } } (0, leBytes 4 (nextEpoch t.pendingEpoch)))) ∧
    (q.operation = opSubscribe → fieldLE q.payload 1 1 = 1 → slot ≤ 7 → 10 ≤ lease → lease ≤ 3600 →
      exec (.subscribeCreate m via) s = .next (answer (t.setSub slot (some {
          role := q.role, via := via, node := 0, leaseEnd := t.now + cSec lease, cellFilter := fieldLE q.payload 4 2
          ranges := subRanges q.payload, ordinal := 0, dropped := 0, buffered := [] }))
        (0, [byte slot, 0] ++ leBytes 2 lease))) ∧
    (q.operation = opSubscribe → fieldLE q.payload 1 1 = 0 → slot ≤ 7 → 10 ≤ lease → lease ≤ 3600 →
      exec (.subscribeCancel m via) s = .next (answer (t.setSub slot none) (0, [byte slot, 0] ++ leBytes 2 lease))) ∧
    (∀ (x : Subscription), q.operation = opSubscribe → fieldLE q.payload 1 1 = 2 → slot ≤ 7 → 10 ≤ lease → lease ≤ 3600 →
      at' t.dict.subs slot = some x →
      exec (.subscribeRenew m via) s = .next (answer (t.setSub slot (some { x with leaseEnd := t.now + cSec lease }))
        (0, [byte slot, 0] ++ leBytes 2 lease)))

/-- R71, R83 to R85: what the dictionary engine does by itself: notifications, expiry of subscriptions and of block sessions. R76, R77: a request
carried to a leaf ends with NODE_TIMEOUT after 50 ms, or with the leaf's result, which is sent on. -/
def Obligations.DictionaryEngine : Prop :=
  ((∀ (s : State) (k : Fin 8) (u : Subscription) (kb : Bytes), s.live = true → s.health.deviceFault = false → at' s.dict.subs k = some u →
      u.buffered ≠ [] → (32 ≤ u.buffered.length ∨ u.firstAt + cMs 10 ≤ s.now) → u.via.transport ≠ 2 → (s.roleKey u.role).2 = some kb →
      exec (.notify k) s = .next (
        let s1 := (s.roleKey u.role).1.updRole u.role RoleState.nextNotify
        let batch := notifyBatch 32 u.buffered
        (s1.setSub k (some { u with buffered := u.buffered.drop batch.length })).dictSend u.via
          (dictMessage kb 2 u.role opNotify (at' s1.dict.roles u.role).notifySeq u.node
            ([byte k, byte batch.length, 0, 0] ++ leBytes 4 ((batch.map (·.ordinal)).headD 0 % 2 ^ 32) ++ (batch.map (·.record)).flatten)))) ∧
    (∀ (s : State) (k : Fin 8) (u : Subscription), s.live = true → at' s.dict.subs k = some u → u.leaseEnd ≤ s.now →
      exec (.subscriptionExpired k) s = .next ((s.setSub k none).event 0x1006 0x8100 [byte k])) ∧
    (∀ (s : State) (k : Fin 8) (u : Subscription), s.live = true → at' s.dict.subs k = some u → s.now < u.leaseEnd →
      exec (.subscriptionExpired k) s = .next s) ∧
    (∀ (s : State) (role : Fin 5), s.live = true → (role : Nat) < s.dict.roles.length → ∃ t, exec (.blockSessionEnd role) s = .next t ∧ t = { s with dict := t.dict } ∧
      (∀ x, (at' t.dict.roles role).readS = some x ↔ (at' s.dict.roles role).readS = some x ∧ s.now < x.lastAt + cSec 10) ∧
      (∀ x, (at' t.dict.roles role).writeS = some x ↔ (at' s.dict.roles role).writeS = some x ∧ s.now < x.lastAt + cSec 10))) ∧
  ((∀ (s : State) (x : Proxied) (rest : List Proxied) (kb : Bytes), s.live = true → s.dict.proxied = x :: rest → x.sentAt + cMs 50 ≤ s.now →
      (State.roleKey { s with dict := { s.dict with proxied := rest } } x.role).2 = some kb →
      exec .nodeTimeout s = .next ((State.roleKey { s with dict := { s.dict with proxied := rest } } x.role).1.respond kb x.role x.operation x.seq x.node x.via
        (Abort.nodeTimeout, if x.operation = opRead then zeros 4 else []))) ∧
    (∀ (s : State) (node : Nat) (b : Bytes) (rest : List (Nat × Bytes)), s.live = true → s.casc.results = (node, b) :: rest →
      (s.dict.proxied.find? (fun x => x.ident == fieldLE b 0 4 && x.node == node)) = none →
      exec .leafResult s = .next { s with casc := { s.casc with results := rest } }) ∧
    (∀ (s s2 : State) (node : Nat) (b kb : Bytes) (rest : List (Nat × Bytes)) (x : Proxied), s.live = true → s.casc.results = (node, b) :: rest →
      (s.dict.proxied.find? (fun x => x.ident == fieldLE b 0 4 && x.node == node)) = some x →
      s2 = { s with casc := { s.casc with results := rest }, dict := { s.dict with proxied := s.dict.proxied.filter (fun y => y.ident != x.ident) } } →
      (s2.roleKey x.role).2 = some kb →
      exec .leafResult s = .next ((s2.roleKey x.role).1.respond kb x.role x.operation x.seq x.node x.via (fieldLE b 4 4, b.drop 8))))

/-- R107, R128, R130, R178: the commands on the selected meter go to its lane as control items, and are refused where their owner refuses. R107, R108,
R148: a REKEY is asked of the meter's lane when its rekey begins and again after each interval, with the link charged for the one that was not
answered (R333); the commit of that control item sends it; after 8 sends the rekey stalls and 0x3805 is raised. R103, R124, R125, R564: the answer to
a JOIN leaves, with a CMD_TAG that is a free value, unless a key of it is not delivered; a provisional record that has waited its time goes to its
lane for removal, and the previous network key lapses. -/
def Obligations.MeterSecurity : Prop :=
  (∀ (s : State) (role i : Nat) (m : Meter), TakesCommands s → s.selected = some (i, m) →
      (∀ t : State, roleMay role .keyholder = true → m.pendingGen = 0 → m.gen ≠ 0xFFFF → s.sendCtl 0x8100 i 1 0 0 [] = some t →
        exec (.meterRekey role 1) s = .next (t.put (.answer 0x3822 1 Abort.ok))) ∧
      (roleMay role .keyholder = true → m.pendingGen ≠ 0 → exec (.meterRekey role 1) s = .next (s.put (.answer 0x3822 1 Abort.busy))) ∧
      (∀ t : State, roleMay role .operator = true → s.sendCtl 0x8100 i 2 0 0 [] = some t →
        exec (.meterRemove role 1) s = .next (t.put (.answer 0x3822 2 Abort.ok))) ∧
      (roleMay role .operator = true → s.sendCtl 0x8100 i 2 0 0 [] = none →
        exec (.meterRemove role 1) s = .next (s.put (.answer 0x3822 2 Abort.busy))) ∧
      (∀ (v : Nat) (t : State), roleMay role .operator = true → v ≤ 63 → s.sendCtl 0x8100 i 3 v 0 [] = some t →
        exec (.meterClassMove role v) s = .next (t.put (.answer 0x4421 0 Abort.ok))) ∧
      (∀ (v : Nat), roleMay role .operator = true → 63 < v → exec (.meterClassMove role v) s = .next (s.put (.answer 0x4421 0 Abort.valueRange))) ∧
      (∀ (eui k : Nat), roleMay role .operator = true → s.indexOf eui = some k →
        exec (.meterSelectEui role eui) s = .next ((s.setRw 0x3820 1 (leBytes 4 k)).put (.answer 0x3820 2 Abort.ok))) ∧
      (∀ (eui : Nat), roleMay role .operator = true → s.indexOf eui = none →
        exec (.meterSelectEui role eui) s = .next (s.put (.answer 0x3820 2 Abort.unknownMeter)))) ∧
  ((∀ (s : State) (r : Rekey), s.running = true → s.mtr.rekeys.find? (fun x => x.meter == r.meter) = some r → r.stalled = false → r.asked = false →
      r.sends = 0 → r.dueAt ≤ s.now → exec (.rekeySend r.meter) s = .next (s.askRekey r.meter)) ∧
    (∀ (s : State) (r : Rekey) (m : Meter), s.running = true → s.mtr.rekeys.find? (fun x => x.meter == r.meter) = some r → s.meter r.meter = some m →
      r.stalled = false → r.asked = false → 0 < r.sends → r.sends < 8 → r.dueAt ≤ s.now →
      exec (.rekeyRetry r.meter) s = .next ((s.downUnanswered r.meter r.lseq).askRekey r.meter)) ∧
    (∀ (s : State) (r : Rekey) (m : Meter), s.running = true → s.mtr.rekeys.find? (fun x => x.meter == r.meter) = some r → s.meter r.meter = some m →
      r.stalled = false → r.asked = false → 8 ≤ r.sends → r.dueAt ≤ s.now →
      exec (.rekeyRetry r.meter) s = .next (((s.downUnanswered r.meter r.lseq).updRekey r.meter (fun x => { x with stalled := true })).emit
        0x3805 0x2200 r.meter (leBytes 2 m.pendingGen ++ [byte r.sends]))) ∧
    (∀ (s : State) (r : Rekey), s.mtr.rekeys.find? (fun x => x.meter == r.meter) = some r → r.stalled = false →
      s.rekeyTaken r.meter = (s.updRekey r.meter (fun x => { x with asked := false })).sendRekey { r with asked := false }) ∧
    (∀ (s : State) (r : Rekey), s.running = true → s.mtr.rekeys.find? (fun x => x.meter == r.meter) = some r → s.now < r.dueAt →
      exec (.rekeySend r.meter) s = .next s ∧ exec (.rekeyRetry r.meter) s = .next s)) ∧
  ((∀ (s s1 : State) (b : Bytes), s.running = true → s.popPacket 48 = some (s1, b, false) → s1.meter (joinAnswerOf b).meter = none →
      exec .joinAcceptSend s = .next s1) ∧
    (∀ (s s1 : State) (b : Bytes) (m : Meter), s.running = true → s.popPacket 48 = some (s1, b, false) →
      (s1.raiseDlFc (joinAnswerOf b).meter).meter (joinAnswerOf b).meter = some m → (joinAnswerOf b).route ≤ 2 →
      let j := joinAnswerOf b
      let body := (s1.raiseDlFc j.meter).joinAcceptBody j m
      (body.2 = none → exec .joinAcceptSend s = .next body.1) ∧
      (∀ plain, body.2 = some plain →
        let c := body.1.takeJoin
        let r := c.1.buildUnder m 0 Config.deviceEui c.2 9 j.dest (.route j.hops) plain
        (∀ f, r.2 = some f → exec .joinAcceptSend s = .next (r.1.macSend j.route distCell m.eui
          { frame := f, meter := j.meter, dest := j.dest, prio := 1, ident := 0, kind := 0, backoff := 0, cw := 0, tries := 0 }).1) ∧
        (r.2 = none → exec .joinAcceptSend s = .next r.1))) ∧
    (∀ (s t : State) (k at0 : Nat) (m : Meter), s.running = true → s.meter k = some m → lookupKey k s.mtr.joins = some at0 → m.state = 1 →
      at0 + cSec (s.cfgN 0x3812 3) ≤ s.now → s.sendCtl 0x2200 k 6 0 0 [] = some t →
      exec (.joinExpired k) s = .next { t with mtr := { t.mtr with joins := eraseKey k t.mtr.joins } }) ∧
    (∀ (s : State) (k at0 : Nat) (m : Meter), s.running = true → s.meter k = some m → lookupKey k s.mtr.joins = some at0 →
      s.now < at0 + cSec (s.cfgN 0x3812 3) → exec (.joinExpired k) s = .next s) ∧
    (∀ (s : State) (u : Nat), s.running = true → s.mtr.prevUntil = some u → u ≤ s.now →
      exec .networkKeyGraceEnd s = .next { s with mtr := { s.mtr with prevUntil := none, unconfirmed := [] } }))

/-- R138, R140, R141, R135: dispatch of the queue whose turn it is to the lane of the EUI's bucket, a bucket's move to its new lane, whose input
buffer takes the held items as it has room, and fetch. R133, R135, R142, R146, R147: identification, in the order of the lane: an item that must wait
stands in the hold list of 8; a frame of an unknown meter goes to stage 10 marked unknown. R99, R100, R122, R134: the key of a frame is asked of the
vault under its EUI and GEN, a refusal marks it; its text and tag are computed under the key in the lane's register. -/
def Obligations.LaneFront : Prop :=
  ((∀ (s s0 s1 : State) (q : Nat) (ls : LaneState) (b : Bytes) (e : Nat), LanesRun s → s0 = s.syncMap → (∃ l < 4, (s0.laneOf l).serves = true) →
      s0.pickQueue = some (q, ls) → ({ s0 with lane := ls } : State).popPacket q = some (s1, b, false) → headEui q b = some e →
      s1.lane.moving.any (fun m => m.bucket == bucketOf e) = false →
      exec .dispatch s = .next (s1.updLane (s1.lane.map.getD (bucketOf e) 0) (fun x => { x with input := x.input ++ [{
        isCtl := q == 37, ctl := if q = 37 then ctlOf b else default, frame := if q = 37 then [] else b.drop 64
        info := if q = 37 then [] else b.take 64, entered := s0.headPushedAt q }] }))) ∧
    (∀ (s : State) (b : Fin 64) (m : Moving), s.live = true → s.syncMap = s → s.lane.moving.find? (fun m => m.bucket == (b : Nat)) = some m →
      m.switched = false → s.bucketBusy m.old b = false → m.held.length ≤ 4 - (s.laneOf m.new).input.length →
      exec (.laneMapMove b) s = .next ((State.updLane
        { s with lane := { s.lane with map := s.lane.map.set b m.new, moving := s.lane.moving.filter (fun x => x.bucket ≠ b) } }
        m.new (fun x => { x with input := x.input ++ m.held })).event 0x4005 0x2000 [byte b, byte m.old, byte m.new])) ∧
    (∀ (s : State) (b : Fin 64) (m : Moving), s.live = true → s.syncMap = s → s.lane.moving.find? (fun m => m.bucket == (b : Nat)) = some m →
      m.switched = false → s.bucketBusy m.old b = true → exec (.laneMapMove b) s = .next s) ∧
    (∀ (s : State) (b : Fin 64) (m : Moving), s.live = true → s.syncMap = s → s.lane.moving.find? (fun m => m.bucket == (b : Nat)) = some m →
      m.switched = true → exec (.laneMapMove b) s = .next (s.releaseHeld m)) ∧
    (∀ (s : State) (m : Moving), let n := 4 - (s.laneOf m.new).input.length
      n < m.held.length → s.releaseHeld m = State.updLane { s with lane := { s.lane with moving := s.lane.moving.map (fun x =>
        if x.bucket = m.bucket then { x with switched := true, held := m.held.drop n } else x) } } m.new (fun x => { x with input := x.input ++ m.held.take n })) ∧
    (∀ (s : State) (l : Fin 4) (i : Input4) (rest : List Input4), LanesRun s → (s.laneOf l).input = i :: rest → (s.laneOf l).mayFetch = true →
      (l : Nat) < s.lane.lanes.length →
      ∃ t it, exec (.fetch l) s = .next t ∧ t = { s with lane := t.lane } ∧ (t.laneOf l).input = rest ∧ (t.laneOf l).items = (s.laneOf l).items ++ [it] ∧
        it.frame = i.frame ∧ it.info = i.info ∧ it.ctl = i.ctl ∧ it.isCtl = i.isCtl ∧ it.next = 2 ∧ it.ident = s.lane.nextIdent ∧
        it.epoch = s.laneEpoch ∧ t.lane.nextIdent = s.lane.nextIdent + 1) ∧
    (∀ (s : State) (l : Fin 4), LanesRun s → (s.laneOf l).mayFetch = false → exec (.fetch l) s = .next s)) ∧
  (∀ (s : State) (l : Fin 4) (i : Nat) (it : Item), LanesRun s → s.item l i = some it → it.next = 2 →
      (it.held = false → (s.laneOf l).mayEnter { it with ident := i } 2 = false → exec (.identify l i) s = .next s) ∧
      (it.held = false → (s.laneOf l).mayEnter { it with ident := i } 2 = true → (s.laneOf l).mustHold it = true →
        ((s.laneOf l).items.filter (·.held)).length < 8 →
        exec (.identify l i) s = .next (s.updItem l i (fun y => { y with held := true, overtaken := true }))) ∧
      ((s.laneOf l).mustHold it = true → (it.held = true ∨ 8 ≤ ((s.laneOf l).items.filter (·.held)).length) → exec (.identify l i) s = .next s) ∧
      ((it.held = true ∨ (s.laneOf l).mayEnter { it with ident := i } 2 = true) → (s.laneOf l).mustHold it = false → it.isCtl = false → fType it.frame ≠ 3 → s.indexOf it.eui = none →
        exec (.identify l i) s = .next ((s.updItem l i (fun y => { y with
            held := false, meter := none, shadow := default, unknown := true, producer := none, next := 10 })).updLane l
          (fun y => { y with restarting := y.restarting.filter (· ≠ i) }))) ∧
      (∀ (k : Nat) (m : Meter), (it.held = true ∨ (s.laneOf l).mayEnter { it with ident := i } 2 = true) → (s.laneOf l).mustHold it = false → it.isCtl = false → fType it.frame ≠ 3 → it.plain = false →
        s.indexOf it.eui = some k → s.meter k = some m →
        exec (.identify l i) s = .next ((s.updItem l i (fun y => { y with
            held := false, meter := some k, shadow := m, unknown := false, producer := (s.laneOf l).producerOf it, next := 3 })).updLane l
          (fun y => { y with restarting := y.restarting.filter (· ≠ i) })))) ∧
  ((∀ (s : State) (l : Fin 4) (i : Nat) (it : Item), LanesRun s → s.item l i = some it → it.next = 3 → (s.laneOf l).mayEnter it 3 = true →
      (s.laneOf l).items.any (fun y => y.next == 4 && y.mark.isNone) = false → s.cfgIn it.cfg (0x3800 + it.family) 1 ≠ 0xFF →
      let slot := s.cfgIn it.cfg (0x3800 + it.family) 1
      let r := s.deliverKey (laneConsumer l) slot (.up (fEui it.frame) (fGen it.frame))
      exec (.derive l i) s = .next (r.1.updItem l i (fun y => { y with
        slot := slot, slotGen := polGen (r.1.slot slot).policy, next := 4
        mark := if r.2 = 0 then none else some (keyMark (fType it.frame == 3) (r.2 == Abort.rootRevoked) s.vault.lockdown) }))) ∧
    (∀ (s : State) (l : Fin 4) (i : Nat) (it : Item), LanesRun s → s.item l i = some it → it.next = 3 →
      (s.laneOf l).items.any (fun y => y.next == 4 && y.mark.isNone) = true → exec (.derive l i) s = .next s) ∧
    (∀ (s : State) (l : Fin 4) (i : Nat) (it : Item), LanesRun s → s.item l i = some it → it.next = 4 →
      (s.laneOf l).mayEnter it 4 = true → exec (.decrypt l i) s = .next (s.updItem l i (fun y => { y with
        text := if y.mark.isSome then [] else gcmCrypt (s.reg (laneConsumer l)).key (frameNonce (fEui it.frame) (fFc it.frame)) (fCipher it.frame)
        tag := if y.mark.isSome then []
               else frameTag (s.reg (laneConsumer l)).key (fEui it.frame) (fFc it.frame) (fAad it.frame) (fCipher it.frame)
        next := y.after 4 }))))

/-- R133, R143, R144: stages 5 to 8 and stage 9 run, in the order of the lane and with the rewind port before stage 4, on the producer's result of the
same stage, or on the committed record, and change their item alone; while that result is not there, the item waits. R110 to R113, R117, R182, R188,
R267: what stages 5, 6 and 8 make of their item: a READING is decoded against the record's base entries, which take it, or is undecodable and wants a
full reading; an undecodable one is INVALID for reason 10; BADRUN counts what is not VALID; what is neither a reading nor a tamper event contributes
nothing. R105, R149, R150: what VERIFY decides: the mark, AUTH_FAIL where the tags differ, and otherwise the window's verdict. -/
def Obligations.LaneMiddle : Prop :=
  (∀ (s : State) (l : Fin 4) (i : Nat) (it : Item) (m : Meter), LanesRun s → s.item l i = some it →
      (it.next = 5 → (s.laneOf l).mayEnter it 5 = true → (it.rewinding = true ∨ s.portBusy l = false) → s.stageInput l 5 it = some m →
        exec (.decode l i) s = .next (s.updItem l i (fun y => { decodeStage { y with shadow := m } m with next := y.after 5 }))) ∧
      (∀ g : Meter, it.next = 6 → (s.laneOf l).mayEnter it 6 = true → s.stageInput l 6 it = some m → s.stageInput l 7 it = some g →
        exec (.validate l i) s = .next (s.updItem l i (fun y => { validateStage s g.lgId g.lgVal { y with shadow := m } m with next := y.after 6 }))) ∧
      (it.next = 7 → (s.laneOf l).mayEnter it 7 = true → s.stageInput l 7 it = some m →
        exec (.estimate l i) s = .next (s.updItem l i (fun y => { estimateStage s { y with shadow := m } m with next := y.after 7 }))) ∧
      (it.next = 8 → (s.laneOf l).mayEnter it 8 = true → s.stageInput l 8 it = some m →
        exec (.balanceContribution l i) s = .next (s.updItem l i (fun y => { balanceStage s { y with shadow := m } m with next := y.after 8 }))) ∧
      (it.next = 9 → (s.laneOf l).mayEnter it 9 = true → s.stageInput l 9 it = some m →
        exec (.verify l i) s = .next (s.updItem l i (fun y =>
          plainSkip { verifyStage s { y with shadow := m, otherGen := false } m with next := y.after 9 }))) ∧
      (it.next = 5 → it.rewinding = false → s.portBusy l = true → exec (.decode l i) s = .next s) ∧
      (∀ k, it.next = k → (s.stageInput l k it = none ∨ (s.laneOf l).mayEnter it k = false) →
        (k = 5 → exec (.decode l i) s = .next s) ∧ (k = 6 → exec (.validate l i) s = .next s) ∧ (k = 7 → exec (.estimate l i) s = .next s) ∧
        (k = 8 → exec (.balanceContribution l i) s = .next s) ∧ (k = 9 → exec (.verify l i) s = .next s))) ∧
  (∀ (s : State) (it : Item) (m : Meter),
      (∀ r, it.mark = none → fType it.frame = 1 → decodeReading m.base it.text = some r →
        (decodeStage it m).undecodable = false ∧ (decodeStage it m).reading = r ∧ (decodeStage it m).shadow.base = pushBase m.base r.interval r.vals) ∧
      (it.mark = none → fType it.frame = 1 → decodeReading m.base it.text = none →
        (decodeStage it m).undecodable = true ∧ (decodeStage it m).shadow = { m with rflags := setBit m.rflags 0 }) ∧
      (it.mark.isSome = true → decodeStage it m = { it with rewinding := false }) ∧
      (∀ (lg : Nat) (vals : List Nat), it.isReading = true →
        (it.undecodable = true → (validateStage s lg vals it m).outcome = 2 ∧ (validateStage s lg vals it m).reasons = 2 ^ 10) ∧
        (validateStage s lg vals it m).shadow =
          { m with badrun := if (validateStage s lg vals it m).outcome = 0 then 0 else min 255 (m.badrun + 1) }) ∧
      (it.isReading = false → validateStage s 0 [] it m = it ∧ estimateStage s it m = it) ∧
      (it.isReading = false → it.tamper m = false → balanceStage s it m = { it with deltas := [] })) ∧
  (∀ (s : State) (it : Item) (m : Meter),
      (∀ o, it.mark = some o → (verifyStage s it m).verdict = o) ∧
      (it.mark = none → it.tag ≠ fTag it.frame → (verifyStage s it m).verdict = 3) ∧
      (∀ w, it.mark = none → it.tag = fTag it.frame → fType it.frame ≠ 3 → selectWindow m (fGen it.frame) s.secs32 (s.cfgIn it.cfg 0x3812 2) = .inl w →
        (verifyStage s it m).verdict = judgeWindow m w (fFc it.frame) ∧
        (judgeWindow m w (fFc it.frame) = 0 → (verifyStage s it m).shadow = takeWindow m w (fFc it.frame) s.secs32) ∧
        (judgeWindow m w (fFc it.frame) ≠ 0 → (verifyStage s it m).shadow = m)) ∧
      (∀ o c, it.mark = none → it.tag = fTag it.frame → fType it.frame ≠ 3 → selectWindow m (fGen it.frame) s.secs32 (s.cfgIn it.cfg 0x3812 2) = .inr (o, c) →
        (verifyStage s it m).verdict = o ∧ (verifyStage s it m).otherGen = c) ∧
      (it.mark = none → it.tag = fTag it.frame → fType it.frame = 3 → (verifyStage s it m).verdict =
        if it.meter.isNone then 0 else if m.joinFcHigh < fFc it.frame then 0 else if fFc it.frame = m.joinFcHigh then 1 else 2))

/-- R42, R147, R151, R159, R160: stage 10 keeps the order of the lane; an unknown frame and a frame that failed are squashed, a duplicate is
acknowledged again; one whose slot has changed restarts; a control item and a verified frame commit. R43, R156, R163, R190: stages 11 and 12: records
and acknowledgement leave, then the export packet, in commit order per meter; while a reserved place cannot be taken, the item waits (R157). R155,
R159, R173, R174: notices of a generation, the quarantine summary, late readings, and the latency statistics. -/
def Obligations.LaneBack : Prop :=
  (∀ (s : State) (l : Fin 4) (i : Nat) (it : Item), LanesRun s → s.item l i = some it → it.next = 10 →
      ((s.laneOf l).mayEnter it 10 = false → exec (.commitOrSquash l i) s = .next s) ∧
      ((s.laneOf l).mayEnter it 10 = true →
        (it.isCtl = true → exec (.commitOrSquash l i) s = .next (commitCtl l it s)) ∧
        (it.isCtl = false → it.unknown = true → exec (.commitOrSquash l i) s = .next (s.squash l it 4)) ∧
        (it.isCtl = false → it.unknown = false → it.slot ≠ 0xFF → it.slotGen ≠ (s.laneOf l).gens.getD it.slot 0 →
          exec (.commitOrSquash l i) s = .next (s.restartFrame l it)) ∧
        (it.isCtl = false → it.unknown = false → (it.slot = 0xFF ∨ it.slotGen = (s.laneOf l).gens.getD it.slot 0) → 2 ≤ it.verdict →
          exec (.commitOrSquash l i) s = .next ((if it.otherGen then s.frameCount 7 else s).squash l it it.verdict)) ∧
        (∀ (k : Nat) (m : Meter), it.isCtl = false → it.unknown = false → (it.slot = 0xFF ∨ it.slotGen = (s.laneOf l).gens.getD it.slot 0) → it.verdict = 1 →
          it.meter = some k → s.meter k = some m → exec (.commitOrSquash l i) s = .next (squashDuplicate l k m it s)) ∧
        (∀ (k : Nat) (m : Meter), it.isCtl = false → it.unknown = false → (it.slot = 0xFF ∨ it.slotGen = (s.laneOf l).gens.getD it.slot 0) → it.verdict = 0 →
          it.meter = some k → s.meter k = some m → exec (.commitOrSquash l i) s = .next (commitFrame l k m it s)))) ∧
  (∀ (s : State) (l : Fin 4) (i : Nat) (it : Item), LanesRun s → (s.laneOf l).done.find? (fun y => y.ident == i) = some it →
      let before := (s.laneOf l).done.takeWhile (fun y => y.ident != i)
      (it.next = 11 → before.any (fun y => y.eui == it.eui && y.next == 11) = true → exec (.recordAndAcknowledge l i) s = .next s) ∧
      (it.next = 11 → before.any (fun y => y.eui == it.eui && y.next == 11) = false → it.records = [] → it.ackReq = [] → it.verdict ≠ 0 →
        exec (.recordAndAcknowledge l i) s = .next (s.updLane l (fun x => { x with done := x.done.filter (fun y => y.ident ≠ i) }))) ∧
      (∀ (b : Bytes) (t : State), it.next = 11 → before.any (fun y => y.eui == it.eui && y.next == 11) = false → it.records = [b] → it.ackReq = [] →
        it.verdict = 0 → it.exportCells = [] → s.pushReserved 40 (laneCell l) b = some t →
        exec (.recordAndAcknowledge l i) s = .next (t.updLane l (fun x => { x with done := x.done.filter (fun y => y.ident ≠ i) }))) ∧
      (∀ t : State, it.next = 11 → before.any (fun y => y.eui == it.eui && y.next == 11) = false →
        (s.pushEach (laneCell l) (it.records.map (fun b => (40, b)))).bind (fun t => t.issueAck l it) = some t →
        exec (.recordAndAcknowledge l i) s = .next (t.updLane l (fun x => { x with
          done := if it.verdict = 0 ∧ it.exportCells ≠ [] then x.done.map (fun y => if y.ident = i then { y with next := 12 } else y)
                  else x.done.filter (fun y => y.ident ≠ i) }))) ∧
      (it.next = 11 → (s.pushEach (laneCell l) (it.records.map (fun b => (40, b)))).bind (fun t => t.issueAck l it) = none →
        exec (.recordAndAcknowledge l i) s = .next s) ∧
      (it.next = 12 → s.pushReserved (it.exportPacket l).1 (laneCell l) (it.exportPacket l).2 = none → exec (.exportEnqueue l i) s = .next s) ∧
      (∀ t : State, it.next = 12 → before.any (fun y => y.eui == it.eui) = false → s.pushReserved (it.exportPacket l).1 (laneCell l) (it.exportPacket l).2 = some t →
        exec (.exportEnqueue l i) s = .next (t.updLane l (fun x => { x with done := x.done.filter (fun y => y.ident ≠ i) }))) ∧
      (it.next = 12 → before.any (fun y => y.eui == it.eui) = true → exec (.exportEnqueue l i) s = .next s)) ∧
  ((∀ (s : State) (l : Fin 4) (n : Notice), s.live = true → s.vault.notices.find? (fun n => n.lane == (l : Nat)) = some n →
      exec (.generationNotice l) s = .next ((State.updLane { s with vault := { s.vault with notices := s.vault.notices.erase n } } l
        (fun x => { x with gens := x.gens.set n.slot n.gen })).finishRevokes)) ∧
    (∀ (s : State), s.live = true → s.lane.second.any (· ≠ 0) = true → s.lane.summaryAt + cSec 1 ≤ s.now →
      exec .quarantineSummary s = .next (State.event { s with lane := { s.lane with second := [0, 0, 0, 0, 0, 0], summaryAt := s.now } } 0x4003 0x2000
        ((s.lane.second.map (fun n => leBytes 2 (min 0xFFFF n))).flatten))) ∧
    (∀ (s : State), s.live = true → s.lane.lateSecond ≠ 0 → s.perSecond s.lane.lateEventAt = true →
      exec .latencyExceeded s = .next (State.event { s with lane := { s.lane with lateSecond := 0, lateEventAt := some s.now } } 0x4004 0x2000
        (leBytes 4 s.lane.lateSecond ++ leBytes 4 s.lane.latencyMax))) ∧
    (∀ (s : State) (role : Nat), TakesCommands s → roleMay role .operator = true →
      exec (.latencyStatsClear role 1) s =
        .next (State.put { s with lane := { s.lane with latencyMax := 0, latencyCount := 0 } } (.answer 0x4020 3 Abort.ok))))

/-- R192, R195, R199, R448: the oldest record of Q40: a state record goes on as it is, a record of a meter is handled by the state of its interval,
and while the engine is fenced it goes past. R195 to R198: what becomes of a record by the state of its interval, of a real reading and of an
estimate. -/
def Obligations.VeeRecords : Prop :=
  (∀ (s s1 : State) (b : Bytes), s.live = true → s.popPacket 40 = some (s1, b, false) →
      (s.inService 0x2300 = true → rIsState (b.take 32) = true → exec .veeRecord s = .next (VeeWork.finish (s1, ⟨[b.take 32], [], []⟩) s)) ∧
      (∀ mr : Meter, s.inService 0x2300 = true → rIsState (b.take 32) = false → s1.meter (rMeter (b.take 32)) = some mr →
        ((s1.rebuildMeter (rMeter (b.take 32))).histOf (rMeter (b.take 32))).below (rInterval (b.take 32)) = false →
        exec .veeRecord s = .next ((veeAct (s1.rebuildMeter (rMeter (b.take 32)), ⟨[], [], []⟩)
          ((s1.rebuildMeter (rMeter (b.take 32))).veeClass mr) (rMeter (b.take 32)) (b.take 32) (packetX b)).finish s)) ∧
      (∀ t : State, s.inService 0x2300 = false → s1.pushPacket 41 0x4000 (b.take 32) = some t →
        exec .veeRecord s = .next { t with vee := { t.vee with bypassed := t.vee.bypassed + 1 } }) ∧
      (s.inService 0x2300 = false → s1.pushPacket 41 0x4000 (b.take 32) = none → exec .veeRecord s = .next (s.backpressure 41))) ∧
  (∀ (w0 : VeeWork) (k : ClassCfg) (m : Nat) (r : Bytes) (c8 : Option Int),
      let w := w0.hist m (fun h => h.raise (rInterval r))
      let st := (w.1.histOf m).at (rInterval r)
      (rMethod r = 0 → rOutcome r = 2 → veeAct w0 k m r c8 = (w.count 3).append r) ∧
      (rMethod r = 0 → rOutcome r ≠ 2 → st = .missing →
        veeAct w0 k m r c8 = ((w.count (1 + rOutcome r)).first k m r c8).hist m (fun x => x.set (rInterval r) .real)) ∧
      (rMethod r = 0 → rOutcome r ≠ 2 → st = .estimated → w.1.lateOk k (w.1.histOf m) (rInterval r) = true →
        veeAct w0 k m r c8 = (((w.count (1 + rOutcome r)).replace k m r 1 0 c8).hist m (fun x => x.set (rInterval r) .real)).reestimateAround k m (rInterval r)) ∧
      (rMethod r = 0 → rOutcome r ≠ 2 → st = .estimated → w.1.lateOk k (w.1.histOf m) (rInterval r) = false →
        veeAct w0 k m r c8 = (w.count (1 + rOutcome r)).reject m r 15 6 c8) ∧
      (rMethod r = 0 → rOutcome r ≠ 2 → st = .real → veeAct w0 k m r c8 = (w.count (1 + rOutcome r)).reject m r 11 5 c8) ∧
      (rMethod r = 0 → rOutcome r ≠ 2 → st = .edited → veeAct w0 k m r c8 = (w.count (1 + rOutcome r)).reject m r 14 5 c8) ∧
      (rMethod r ≠ 0 → st = .missing →
        veeAct w0 k m r c8 = (((w.first k m r c8).hist m (fun x => x.set (rInterval r) .estimated)).sendOut r).count 4) ∧
      (rMethod r ≠ 0 → st = .estimated → veeAct w0 k m r c8 = ((w.replace k m r 2 0 c8).sendOut r).count 4) ∧
      (rMethod r ≠ 0 → (st = .real ∨ st = .edited) → veeAct w0 k m r c8 = (w.count 10).takeBack m (rInterval r) 0 false c8))

/-- R200 to R203, R456: a history is rebuilt from the store, which Q43 asks, and the sweep visits a meter whose history it has while Q40 is empty.
R206, R207: an edit is checked and given to the engine, and is applied once Q40 is empty; a release makes an edited interval missing again. -/
def Obligations.HistoryAndEdits : Prop :=
  ((∀ (s s1 : State) (m : Nat), s.running = true → s.inService 0x2300 = true → s.storeReads = true → s.vee.toRebuild.contains m = true →
      s.askStore 43 0x2300 m 0 = some s1 →
      exec (.historyRebuild m) s = .next
        (let t := s1.putHist m (rebuildHist (s1.recordsOf m))
         { t with vee := { t.vee with toRebuild := t.vee.toRebuild.filter (· ≠ m) } })) ∧
    (∀ (s : State) (m : Nat), s.running = true → s.inService 0x2300 = true → s.storeReads = true → s.vee.toRebuild.contains m = true →
      s.askStore 43 0x2300 m 0 = none → exec (.historyRebuild m) s = .next (s.backpressure 43)) ∧
    (∀ (s : State) (m : Nat), s.running = true → s.vee.toRebuild.contains m = false → exec (.historyRebuild m) s = .next s) ∧
    (∀ (s : State) (m f hi : Nat) (mr : Meter), s.running = true → s.meter m = some mr → s.hasPacket 40 = false → s.inService 0x2300 = true →
      s.vee.toRebuild.contains m = false → (s.histOf m).firstReal = some f → (s.histOf m).high = some hi →
      let cur := intervalOf s.utcNow (s.veeClass mr).len
      let lo := max (f + 1) (hi - 2047)
      exec (.sweepStep m) s = .next (((VeeWork.sweep (s, ⟨[], [], []⟩) (s.veeClass mr) m cur ((List.range (min (cur - lo) 4200)).map (lo + ·))).silent
        (s.veeClass mr) m cur).finish s)) ∧
    (∀ (s : State) (m hi : Nat) (mr : Meter), s.running = true → s.meter m = some mr → s.hasPacket 40 = false → s.inService 0x2300 = true →
      s.vee.toRebuild.contains m = false → (s.histOf m).firstReal = none → (s.histOf m).high = some hi →
      let cur := intervalOf s.utcNow (s.veeClass mr).len
      let lo := max cur (hi - 2047)
      exec (.sweepStep m) s = .next (((VeeWork.sweep (s, ⟨[], [], []⟩) (s.veeClass mr) m cur ((List.range (min (cur - lo) 4200)).map (lo + ·))).silent
        (s.veeClass mr) m cur).finish s)) ∧
    (∀ (s : State) (m : Nat), s.running = true → s.hasPacket 40 = true → exec (.sweepStep m) s = .next s)) ∧
  ((∀ (s : State) (role m : Nat) (mr : Meter) (t : State), TakesCommands s → roleMay role .operator = true → s.selected = some (m, mr) →
      s.vee.toRebuild.contains m = false → s.editCheck = 0 →
      let e : Edit := { meter := m, interval := s.cfgN 0x4420 1, mask := s.cfgN 0x4420 2 % 16, vals := s.val 0x4420 3, outcome := s.cfgN 0x4420 4
                        editId := s.cfgN 0x4420 5 }
      s.pushPacket 44 0x8100 e.bytes = some t →
      exec (.editApply role 1) s = .next (State.put { t with vee := { t.vee with editState := 1, edit := some e } } (.answer 0x4420 6 Abort.ok))) ∧
    (∀ (s : State) (role m : Nat) (mr : Meter), TakesCommands s → roleMay role .operator = true → s.selected = some (m, mr) →
      s.vee.toRebuild.contains m = false → s.editCheck ≠ 0 →
      exec (.editApply role 1) s = .next ((s.editRefused s.editCheck).put (.answer 0x4420 6 s.editCheck))) ∧
    (∀ (s s1 : State) (b : Bytes) (ab : Bool), s.running = true → s.hasPacket 40 = false → s.inService 0x2300 = true → s.popPacket 44 = some (s1, b, ab) →
      s1.meter (editOf b).meter = none →
      exec .editApplied s = .next { s1 with vee := { s1.vee with edit := none, editState := 3, editAbort := Abort.unknownMeter } }) ∧
    (∀ (s s1 : State) (b : Bytes) (ab : Bool) (mr : Meter), s.running = true → s.hasPacket 40 = false → s.inService 0x2300 = true →
      s.popPacket 44 = some (s1, b, ab) → s1.meter (editOf b).meter = some mr → ((s1.histOf (editOf b).meter).below (editOf b).interval) = true →
      exec .editApplied s = .next { s1 with vee := { s1.vee with edit := none, editState := 3, editAbort := Abort.valueRange } }) ∧
    (∀ (s s1 : State) (b : Bytes) (ab : Bool) (mr : Meter), s.running = true → s.hasPacket 40 = false → s.inService 0x2300 = true →
      s.popPacket 44 = some (s1, b, ab) → s1.meter (editOf b).meter = some mr → ((s1.histOf (editOf b).meter).below (editOf b).interval) = false →
      let e := editOf b
      let s2 : State := { s1 with vee := { s1.vee with edit := none } }
      let k := s2.veeClass mr
      let r := intervalRecord e.interval e.meter (recordFlags e.outcome 3 false) 0 (2 ^ 14)
        ((List.range 4).map (fun c => if bit e.mask c then fieldLE e.vals (5 * c) 5 else absentVal))
      let w2 := ((VeeWork.replace (s2, ⟨[], [], []⟩) k e.meter r 4 e.editId none).hist e.meter (fun h => (h.raise e.interval).set e.interval .edited)).count 8
      exec .editApplied s = .next (VeeWork.finish
        ((State.emit { w2.1 with vee := { w2.1.vee with editState := 2 } } 0x4403 0x2300 e.meter (leBytes 4 e.interval ++ leBytes 4 e.editId ++
          [byte (((VeeWork.current (s2, ⟨[], [], []⟩) e.meter e.interval).map rMethod).getD 0xFF), byte e.outcome])), w2.2) s)) ∧
    (∀ (s : State) (role m : Nat) (mr : Meter), TakesCommands s → roleMay role .operator = true → s.selected = some (m, mr) →
      s.vee.toRebuild.contains m = false → s.inService 0x2300 = true → (s.histOf m).inWindow (s.cfgN 0x4420 1) = true →
      ((s.histOf m).at (s.cfgN 0x4420 1) ≠ .edited →
        exec (.editRelease role 1) s = .next (s.put (.answer 0x4420 7 Abort.valueInconsistent))) ∧
      (∀ t : State, (s.histOf m).at (s.cfgN 0x4420 1) = .edited →
        let r := intervalRecord (s.cfgN 0x4420 1) m (recordFlags 2 4 false) 0 (2 ^ 14) (List.replicate 4 absentVal)
        ((s.putHist m ((s.histOf m).set (s.cfgN 0x4420 1) .missing)).pushPacket 41 0x2300 r).bind (fun t => t.pushPacket 17 0x2300 r) = some t →
        exec (.editRelease role 1) s = .next (t.put (.answer 0x4420 7 Abort.ok)))))

/-- R212, R223 to R227: sync events measure the grid error and realign the grid where that is due; SYNC_NOW, local resets and the lock of the grid,
which runs at its limit when it is unlocked. R213, R239 to R243, R214, R248: each instant of the grid runs through the eight chains, and the last
instant of a block closes it: the block's frequency, energies and record, and the reset of energies; a saturated channel is told once per second;
ENERGY_RESET. R230 to R235: 32 bits give a coarse sample of a channel; a rising crossing of a phase voltage is stamped, numbered and given its period;
a half cycle below the sag threshold begins a sag, and one above it with its hysteresis ends it; a voltage without crossings for three nominal
periods, or on a fenced channel, is lost. -/
def Obligations.Sensing : Prop :=
  ((∀ (s : State) (c : Nat), s.live = true → s.cfgN 0x2000 4 = 0 → s.sense.needAlign = some c →
      exec (.syncEvent 0) s =
        .next (State.align { s with sense := { s.sense with gridError := s.gridErrorNow } } c s.gridErrorNow)) ∧
    (∀ (s : State), s.live = true → s.cfgN 0x2000 4 = 0 → s.sense.needAlign = none → s.sense.syncNow = false →
      -(s.cfgN 0x2000 5 : Int) ≤ s.gridErrorNow → s.gridErrorNow ≤ (s.cfgN 0x2000 5 : Int) →
      exec (.syncEvent 0) s = .next { s with sense := { s.sense with gridError := s.gridErrorNow } }) ∧
    (∀ (s : State) (source : Fin 3), s.live = true → s.cfgN 0x2000 4 ≠ (source : Nat) → exec (.syncEvent source) s = .next s) ∧
    (∀ (s : State) (role : Nat), TakesCommands s → roleMay role .operator = true →
      exec (.syncNow role 1) s = .next (if s.sense.syncNow = true then s.put (.answer 0x2000 6 Abort.busy)
        else State.put { s with sense := { s.sense with syncNow := true } } (.answer 0x2000 6 Abort.ok))) ∧
    (∀ (s : State) (c : Fin 8), s.live = true → (at' s.sense.chains c).pendingReset = true →
      exec (.localReset c) s = .next { s with sense := { s.sense with
        chains := upd s.sense.chains c (fun x => x.reset (s.chainTaps c))
        fir := upd s.sense.fir c (fun f => { f with settle := (s.chainTaps c + 13) / 2 - 1 }), counters := upd s.sense.counters 0 (· + 1) } }) ∧
    (∀ (s : State) (c : Fin 8), s.live = true → (at' s.sense.chains c).pendingReset = false → exec (.localReset c) s = .next s) ∧
    (∀ (s : State) (steer : Int), s.live = true → -20000 ≤ steer → steer ≤ 20000 →
      exec (.gridUnlocked steer) s =
        .next { s with sense := { s.sense with gridOfs := s.gridNow, gridRef := s.now, gridDrift := 0, locked := true } }) ∧
    (∀ (s : State) (steer : Int), s.live = true → (steer < -20000 ∨ 20000 < steer) → s.sense.locked = true →
      exec (.gridUnlocked steer) s = .next (State.event { s with sense := { s.sense with
          gridOfs := s.gridNow, gridRef := s.now, gridDrift := steer - clampInt steer (-20000) 20000, locked := false } } 0x2009 0x0100 (leInt 4 steer))) ∧
    (∀ (s : State) (steer : Int), s.live = true → (steer < -20000 ∨ 20000 < steer) → s.sense.locked = false →
      exec (.gridUnlocked steer) s = .next { s with sense := { s.sense with
          gridOfs := s.gridNow, gridRef := s.now, gridDrift := steer - clampInt steer (-20000) 20000 } })) ∧
  ((∀ (s : State) (instants : List (List Nat)) (dieTemp : Int), s.live = true →
      ∃ t, exec (.measurementBlock instants dieTemp) s = .next t ∧ t.sense.dieTemp = dieTemp ∧
        t = { s with sense := t.sense, queue := t.queue, dict := { s.dict with subs := t.dict.subs }, vaultNv := { s.vaultNv with log := t.vaultNv.log } }) ∧
    (∀ (s : State) (bits : List Nat) (dieTemp : Int), s.live = true →
      let s1 : State := { s with sense := { s.sense with dieTemp := dieTemp } }
      (blockIndex (s.instantNow gridStep) ≠ 1599 → exec (.measurementBlock [bits] dieTemp) s = .next (senseInstant bits s1)) ∧
      (blockIndex (s.instantNow gridStep) = 1599 →
        exec (.measurementBlock [bits] dieTemp) s = .next (State.closeBlock (s.instantNow gridStep) (senseInstant bits s1)))) ∧
    (∀ (s : State) (bits : List Nat), ∀ c < 8, at' (senseInstant bits s).sense.chains c =
      (let f := at' s.sense.fir c
       (at' s.sense.chains c).instant [s.cfgN (0x2001 + c) 2, s.cfgN (0x2001 + c) 3, at' f.shifts f.bank] (at' f.coefs f.bank)
        (Config.factoryOffset c) (s.tau c) (at' bits c)).1) ∧
    (∀ (s : State) (t : Int), let u := s.closeBlock t
      u.sense.resetMask = 0 ∧ u.sense.freq = s.blockFreq ∧ (∀ p < 3, bit s.sense.resetMask p = true → at' u.sense.energy p = List.replicate 7 0) ∧
        (u.sense.freqOut = true ↔ s.blockFreq * 100 < s.cfgN 0x2000 2 * 1000000 * 85 ∨ s.cfgN 0x2000 2 * 1000000 * 115 < s.blockFreq * 100)) ∧
    (∀ (s : State) (c : Fin 8), s.live = true → (at' s.sense.chains c).overs.foldl (· + ·) 0 ≠ 0 → s.perSecond (at' s.sense.chains c).overAt = true →
      exec (.channelOverrange c) s = .next (State.event { s with sense := { s.sense with
          chains := upd s.sense.chains c (fun x => { x with overs := [0, 0, 0, 0], overAt := some s.now }) } } 0x2002 (senseCell c)
        ([byte c, byte ((at' s.sense.chains c).overs.findIdx (· != 0) + 1)] ++ leBytes 2 (min ((at' s.sense.chains c).overs.foldl (· + ·) 0) maxU16)))) ∧
    (∀ (s : State) (c : Fin 8), s.live = true → (at' s.sense.chains c).overs.foldl (· + ·) 0 = 0 → exec (.channelOverrange c) s = .next s) ∧
    (∀ (s : State) (role mask : Nat), TakesCommands s → roleMay role .operator = true → 0 < mask → mask ≤ 7 →
      exec (.energyReset role mask) s = .next (State.put { s with sense := { s.sense with resetMask := orBits 3 s.sense.resetMask mask } }
        (.answer 0x2105 0 Abort.ok))) ∧
    (∀ (s : State) (role mask : Nat), TakesCommands s → roleMay role .operator = true → (mask = 0 ∨ 7 < mask) →
      exec (.energyReset role mask) s = .next (s.put (.answer 0x2105 0 Abort.valueRange)))) ∧
  ((∀ (s : State) (c : Fin 8) (bits n : Nat), s.live = true →
      (s.chanOn c = false → exec (.zeroCrossing c bits n () () () ()) s = .next s) ∧
      (s.chanOn c = true → 3 ≤ (c : Nat) → exec (.zeroCrossing c bits 1 () () () ()) s = .next { s with sense := { s.sense with
        chains := upd s.sense.chains c (fun _ => ((at' s.sense.chains c).coarseStep bits).1) } })) ∧
    (∀ (s : State) (p : Fin 3) (bits : Nat) (z : Int), s.live = true → s.chanOn p = true → s.sense.phases.length = 3 →
      let v := at' s.sense.phases p
      let ys := (((at' s.sense.chains p).coarseStep bits).2 :: v.ys).take 8
      let stamp := s.instantNow coarseStepTime - 3 * coarseStepTime + z - 7568 * 65536 + s.tau p
      ys.length = 8 → v.armed = true → (at' ys 4).1 < 0 → 0 ≤ (at' ys 3).1 → (at' ys 3).2 = false → v.half = none →
      fitZero (ys.map (·.1)).reverse = some z →
      ∃ t, exec (.zeroCrossing ⟨p, by omega⟩ bits 1 () () () ()) s = .next t ∧
        t = { s with sense := t.sense, queue := t.queue, dict := { s.dict with subs := t.dict.subs }, vaultNv := { s.vaultNv with log := t.vaultNv.log } } ∧
        (at' t.sense.phases p).last = some stamp ∧ (at' t.sense.phases p).seq = (v.seq + 1) % 2 ^ 32 ∧
        (∀ u, v.last = some u → (at' t.sense.phases p).period = (nsOf (stamp - u)).toNat) ∧
        (∀ q < 3, q ≠ (p : Nat) → at' t.sense.phases q = at' s.sense.phases q)) ∧
    (∀ (s : State) (p rms : Nat), p < s.sense.phases.length → let v := at' s.sense.phases p
      (v.sag = none → rms * 100 < s.cfgN 0x2111 1 * s.cfgN 0x2000 3 → (at' (s.halfCycle p rms).sense.phases p).sag = some (s.td0, rms)) ∧
      (v.sag ≠ none → (s.cfgN 0x2111 1 + s.cfgN 0x2111 3) * s.cfgN 0x2000 3 < rms * 100 → (at' (s.halfCycle p rms).sense.phases p).sag = none)) ∧
    (∀ (s : State) (p : Fin 3), s.live = true → s.sense.phases.length = 3 → (at' s.sense.phases p).lost = false →
      ((at' s.sense.phases p).since + cNs (3000000000 / s.cfgN 0x2000 2) ≤ s.now ∨ s.chanFenced p = true) →
      ∃ t, exec (.voltageLost p) s = .next t ∧
        t = { s with sense := t.sense, queue := t.queue, dict := { s.dict with subs := t.dict.subs }, vaultNv := { s.vaultNv with log := t.vaultNv.log } } ∧
        (at' t.sense.phases p).lost = true ∧ (at' t.sense.phases p).sag = none ∧ (at' t.sense.phases p).good = 0) ∧
    (∀ (s : State) (p : Fin 3), s.live = true → (at' s.sense.phases p).lost = true → exec (.voltageLost p) s = .next s))

/-- R254, R259 to R261: the balance engine applies deltas, corrections and sensing blocks in the order they come, each to the groups as they stand;
while it is fenced it drains them. R252, R262 to R265, R270: a group starts, waits until it is due, ends, starts again with a new length or supply
(its alerts kept), or closes its next interval and no other. R267, R268: the UTC day before this one is judged once: a second close of the same day
changes nothing. -/
def Obligations.Balance : Prop :=
  ((∀ (s : State) (d : Delta) (r : List Delta) (m : Meter) (g : Nat) (x x' : Group), s.live = true → s.bal.inbox = d :: r →
      s.inService 0x2400 = true → s.meter d.meter = some m → m.groups = [g, 0xFFFF, 0xFFFF, 0xFFFF] → g ≠ 0xFFFF →
      lookupKey g s.bal.groups = some x → gLen x.entry % max 1 d.len = 0 → gCascade x.entry = false →
      let c : Contribution := { group := g, meter := d.meter, supply := gCheckSupply x.entry && gCheck x.entry == d.meter
                                phase := (s.meterBal d.meter).phase, delta := d, home := true }
      x.touch (d.interval * d.len / max 1 (gLen x.entry)) c.addTo = some x' →
      exec .balanceDeltaApply s = .next (((State.balCount { s with bal := { s.bal with inbox := r } } 1 1).updGroup g (fun _ => x')).updMeterBal d.meter
        (fun b => { b with days := addDay b.days (d.interval * d.len / 1440) d.x d.real }))) ∧
    (∀ (s : State) (d : Delta) (r : List Delta), s.live = true → s.bal.inbox = d :: r → s.inService 0x2400 = false →
      exec .balanceDeltaApply s =
        .next { s with bal := { s.bal with inbox := r }, health := { s.health with drained := s.health.drained + 1 } }) ∧
    (∀ (s s1 : State) (b : Bytes) (m : Meter), s.live = true → s.popPacket 39 = some (s1, b, false) → s1.inService 0x2400 = true →
      s1.meter (fieldLE b 0 4) = some m →
      exec .balanceCorrectionApply s = .next (s1.applyDelta
        { meter := fieldLE b 0 4, groups := m.groups, interval := fieldLE b 4 4, len := s1.lenOf m, x := fieldInt b 12 8, real := fieldInt b 9 1
          count := fieldInt b 10 1, volt := none, cause := some (fieldLE b 8 1) })) ∧
    (∀ (s s1 : State) (b : Bytes), s.live = true → s.popPacket 39 = some (s1, b, false) → s1.inService 0x2400 = true →
      s1.meter (fieldLE b 0 4) = none → exec .balanceCorrectionApply s = .next s1) ∧
    (∀ (s s1 : State) (b : Bytes) (g : Nat) (x y : Group), s.live = true → s.popPacket 52 = some (s1, b, false) → s1.inService 0x2400 = true →
      s1.bal.groups = [(g, x)] → gCheckSupply x.entry = false → gCascade x.entry = false →
      x.touch (intervalOf (s1.blockUtc b) (max 1 (gLen x.entry))) (addBlock (gPhases x.entry) b x.carry) = some y →
      exec .sensingBlockApply s = .next (s1.updGroup g (fun _ => { y with
        carry := (List.range 3).map (fun k => (x.carry.getD k 0 + fieldInt b (12 + 12 * k) 4) % 18000) })))) ∧
  (∀ (s : State) (g : Fin 4096), s.live = true → s.inService 0x2400 = true →
      (lookupKey (g : Nat) s.bal.groups = none → gEnabled (s.groupNow g) = true →
        let x := Group.start (s.groupNow g) (intervalOf s.utcNow (max 1 (gLen (s.groupNow g)))) [0, 0, 0, 0] [false, false, false, false]
        exec (.groupIntervalClose g) s = .next
          (State.assignSeries { s with bal := { s.bal with groups := insertKey (g : Nat) x s.bal.groups } } g (s.groupNow g))) ∧
      (∀ x : Group, lookupKey (g : Nat) s.bal.groups = some x →
        let due : Int := ((x.lastClosed + 2) * gLen x.entry * 60 + s.cfgB .balance 0x2400 1 : Nat)
        (s.utcNow < due → exec (.groupIntervalClose g) s = .next s) ∧
        (due ≤ s.utcNow → gEnabled (s.groupNow g) = false →
          exec (.groupIntervalClose g) s = .next { s with
            bal := { s.bal with groups := eraseKey (g : Nat) s.bal.groups, series := s.bal.series.filter (fun p => p.1 ≠ (g : Nat)) } }) ∧
        (due ≤ s.utcNow → gEnabled (s.groupNow g) = true →
          (gLen (s.groupNow g) ≠ gLen x.entry ∨ gCheckSupply (s.groupNow g) ≠ gCheckSupply x.entry) →
          exec (.groupIntervalClose g) s = .next (State.assignSeries (s.updGroup g (fun _ =>
            Group.start (s.groupNow g) (intervalOf s.utcNow (max 1 (gLen (s.groupNow g)))) x.runs x.alerts)) g (s.groupNow g))) ∧
        (due ≤ s.utcNow → gEnabled (s.groupNow g) = true → gLen (s.groupNow g) = gLen x.entry →
          gCheckSupply (s.groupNow g) = gCheckSupply x.entry → gCascade (s.groupNow g) = false →
          closeInterval g x (s.groupNow g) s ≠ (s.correlateFrom g x.entry (s.groupNow g)).backpressure 18 →
          ∃ t, exec (.groupIntervalClose g) s = .next t ∧ t.mtr = s.mtr ∧ t.cfg = s.cfg ∧ t.store = s.store ∧
            (lookupKey (g : Nat) t.bal.groups).map (fun y => (y.lastClosed, y.entry)) = some (x.lastClosed + 1, s.groupNow g) ∧
            (∀ h, h ≠ (g : Nat) → lookupKey h t.bal.groups = lookupKey h s.bal.groups)))) ∧
  (∀ (s : State), s.live = true → s.inService 0x2400 = true →
      (s.utcDay - 1 ≤ s.bal.dayClosed → exec .utcDayClose s = .next s.closeDay) ∧
      (s.bal.dayClosed < s.utcDay - 1 → ∃ t, exec .utcDayClose s = .next t ∧ t.bal.dayClosed = s.utcDay - 1 ∧ t.bal.groups = s.bal.groups ∧
        t = { s.closeDay with bal := t.bal, fresh := t.fresh, queue := t.queue, dict := { s.dict with subs := t.dict.subs }
                              vaultNv := { s.vaultNv with log := t.vaultNv.log } }))

/-- R273 to R275: a phase report near a phase counts for it, one farther than 30 degrees from every phase breaks the run, and a run of the configured
length decides. R267, R273, R279: the membership commands. -/
def Obligations.PhaseAndMembership : Prop :=
  (∀ (s : State) (r : PhaseRep) (rest : List PhaseRep) (m : Meter) (g th : Nat) (room : State), s.live = true →
      (at' s.queue.queues 51).level = 0 → s.bal.reports = r :: rest → s.inService 0x2402 = true → s.pushPacket 18 0x2402 (zeros 64) = some room →
      s.meter r.meter = some m → m.groups.getD 0 0xFFFF = g → g ≠ 0xFFFF → gPhaseRef (s.groupIn g) = false →
      s.thetaLocal r.tm = some th →
      let s2 := State.updMeterBal { s with bal := { s.bal with reports := rest } } r.meter (fun b => { b with lastTm := some r.tm })
      let off := gOffset (s.groupIn g)
      let q := nearest th off
      let b := s2.meterBal r.meter
      let run := if q = b.cand then min 255 (b.run + 1) else 1
      (3000 < (angleTo th off q).natAbs →
        exec .phaseReport s = .next ((s2.updMeterBal r.meter (fun x => { x with theta := th, cand := 0, run := 0 })).balCount 5 1)) ∧
      ((angleTo th off q).natAbs ≤ 3000 → (run < s.cfgB .balance 0x2400 4 ∨ q = b.decided) →
        exec .phaseReport s = .next ((s2.updMeterBal r.meter (fun _ => { b with theta := th, cand := q, run := run })).balCount 4 1)) ∧
      ((angleTo th off q).natAbs ≤ 3000 → s.cfgB .balance 0x2400 4 ≤ run → q ≠ b.decided →
        ∃ t, exec .phaseReport s = .next t ∧ (t.meterBal r.meter).decided = q ∧ (t.meterBal r.meter).run = run ∧ t.mtr = s.mtr ∧ t.cfg = s.cfg)) ∧
  (∀ (s : State) (role i : Nat) (m : Meter), TakesCommands s → roleMay role .operator = true → s.selected = some (i, m) →
      (∀ (g : Nat) (t : State), g ≤ 4095 → s.addRefusal m g = 0 → s.sendCtl 0x8100 i 4 g 0 [] = some t →
        exec (.addGroup role g) s = .next (State.put { t with bal := { t.bal with cmdState := 1 } } (.answer 0x2480 1 Abort.ok))) ∧
      (∀ (g : Nat), g ≤ 4095 → s.addRefusal m g ≠ 0 →
        exec (.addGroup role g) s = .next (State.put { s with bal := { s.bal with cmdState := 3, cmdAbort := s.addRefusal m g } }
          (.answer 0x2480 1 (s.addRefusal m g)))) ∧
      (∀ (g : Nat), 4095 < g → exec (.addGroup role g) s = .next (s.put (.answer 0x2480 1 Abort.valueRange)) ∧
        exec (.removeGroup role g) s = .next (s.put (.answer 0x2480 2 Abort.valueRange))) ∧
      (∀ (g : Nat) (t : State), g ≤ 4095 → removeRefusal m g = 0 → s.sendCtl 0x8100 i 5 g 0 [] = some t →
        exec (.removeGroup role g) s = .next (State.put { t with bal := { t.bal with cmdState := 1 } } (.answer 0x2480 2 Abort.ok))) ∧
      (∀ (v : Nat), v ≤ 4 →
        exec (.configPhase role v) s = .next (let t := s.phaseConfigured i v
          State.put { t with bal := { t.bal with cmdState := 2 } } (.answer 0x2480 3 Abort.ok))) ∧
      (∀ (v : Nat), 4 < v →
        exec (.configPhase role v) s = .next (s.put (.answer 0x2480 3 Abort.valueRange))) ∧
      (∀ (v : Nat), v % 8 = 0 → (∀ d ∈ [3, 4, 5], bit v d = true → bit (s.meterBal i).mask d = false) →
        exec (.clearDetectors role v) s = .next (State.put { s with bal := { s.bal with cmdState := 2 } } (.answer 0x2480 4 Abort.ok))) ∧
      (∀ (v : Nat) (t : State), v % 8 ≠ 0 → (∀ d ∈ [3, 4, 5], bit v d = false) → s.sendCtl 0x8100 i 7 (v % 8) 0 [] = some t →
        exec (.clearDetectors role v) s = .next (State.put { t with bal := { t.bal with cmdState := 1 } } (.answer 0x2480 4 Abort.ok))) ∧
      (∀ (b : Bytes) (t : State), b.length = 8 → s.meter (fieldLE b 0 4) ≠ none → fieldLE b 6 1 ≤ 1 →
        State.sendCtl { s with bal := { s.bal with bulk := [0, 0, maxU32] } } 0x8100 (fieldLE b 0 4) (if fieldLE b 6 1 = 0 then 4 else 5) (fieldLE b 4 2) 1 []
          = some t →
        exec (.memberBulk role b) s = .next (t.put (.answer 0x2481 0 Abort.ok))) ∧
      (∀ (b : Bytes), b.length % 8 ≠ 0 → exec (.memberBulk role b) s = .next (s.put (.answer 0x2481 0 Abort.valueRange))))

/-- R288, R291: the segment grid takes V1 records, each predicting the cycle that follows it, goes on by a period when none comes, runs free after a
loss, and re-anchors after V1 returns, at a boundary at which its engine is quiet. R294 to R298, R303, R306, R309, R310, R318: reception goes from
preamble to sync word to header; what cannot be read leaves the end of the frame unknown. R310, R325, R441: a good frame for the concentrator enters
the engine's ingest queue after its metadata cell, and its ACK window is the engine's. -/
def Obligations.PlcReception : Prop :=
  ((∀ (s s1 : State) (e : Fin 3) (r : Bytes), s.live = true → s.plc.v1 = none → s.popPacket 50 = some (s1, r, false) → bit (fieldLE r 13 1) 0 = false →
      exec (.segmentGridPredict e) s =
        .next (State.updEng { s1 with plc := { s1.plc with v1 := some r } } e (fun x =>
          let y := { x with usedSeq := some (fieldLE r 20 4) }
          if x.free then { y with reanchor := true } else y.predict s1.td0 (cycleOf e r s1.nominalPeriod)))) ∧
    (∀ (s s1 : State) (e : Fin 3) (r : Bytes), s.live = true → s.plc.v1 = none → s.popPacket 50 = some (s1, r, false) → bit (fieldLE r 13 1) 0 = true →
      let s2 : State := { s1 with plc := { s1.plc with v1 := some r } }
      exec (.segmentGridPredict e) s = .next (((s2.gridFree 0 (s.eng e).period).gridFree 1 (s.eng e).period).gridFree 2 (s.eng e).period)) ∧
    (∀ (s : State) (e : Fin 3), s.live = true → s.plc.v1 = none → s.popPacket 50 = none → exec (.segmentGridPredict e) s = .next s) ∧
    (∀ (s : State) (e : Fin 3), s.live = true → (s.eng e).nextCycle s.td0 = none →
      let c := (s.eng e).cycleAt s.td0
      (c.1 + (c.2 : Int) * 65536 ≤ s.td0 →
        exec (.gridExtend e) s = .next (s.updEng e (fun y => { y with cycles := [(c.1 + (c.2 : Int) * 65536, c.2)] }))) ∧
      (s.td0 < c.1 + (c.2 : Int) * 65536 → exec (.gridExtend e) s = .next s)) ∧
    (∀ (s : State) (e : Fin 3) (c : Int × Nat), s.live = true → (s.eng e).nextCycle s.td0 = some c → exec (.gridExtend e) s = .next s) ∧
    (∀ (s : State) (e : Fin 3) (r : Bytes) (b : Int × Nat), s.live = true → s.plc.v1 = some r → s.boundaryNow e = some b → (s.eng e).free = true →
      (s.eng e).reanchor = true → (s.eng e).rx = .search → (s.eng e).sendUntil ≤ s.now → bit (fieldLE r 13 1) 0 = false → s.plc.freeRaised = false →
      let c := cycleOf e r s.nominalPeriod
      exec (.segmentTimerLocked e) s = .next (s.updEng e (fun y => y.anchor (c.1 - (c.2 : Int) * 65536, c.2)))) ∧
    (∀ (s : State) (e : Fin 3), s.live = true → ((s.eng e).free = false ∨ s.boundaryNow e = none) → exec (.segmentTimerLocked e) s = .next s)) ∧
  (∀ (s : State) (e : Fin 3), s.running = true →
      let lost : Engine → Engine := fun y => { y with rx := .search, unknownEnd := true, quiet := 0, openA := none, ackMine := false }
      (s.engineOn e = true → (s.eng e).rx = .search → (s.eng e).sendUntil ≤ s.now →
        exec (.preambleDetected e) s = .next ((s.plcCount e 1 1).updEng e (fun y => { y with rx := .preamble s.now, listenTo := 0 }))) ∧
      (s.engineOn e = false → exec (.preambleDetected e) s = .next s) ∧
      (∀ (since wrong : Nat), (s.eng e).rx = .preamble since → wrong ≤ 2 → s.now ≤ since + symCounts (s.band e) 20 →
        exec (.syncWordFound e wrong) s = .next ((s.plcCount e 2 1).updEng e (fun y =>
          { y with rx := .synced (s.tdAt 0 (s.now - cNs (s.plcRxDelay e))), band := [], syms := [], symClear := false }))) ∧
      (∀ (since wrong : Nat), (s.eng e).rx = .preamble since → 2 < wrong → s.now ≤ since + symCounts (s.band e) 20 →
        exec (.syncWordFound e wrong) s = .next s) ∧
      (∀ (since wrong : Nat), (s.eng e).rx = .preamble since → since + symCounts (s.band e) 20 < s.now →
        exec (.syncWordFound e wrong) s = .next ((s.accessCount e 4).updEng e lost)) ∧
      (∀ (since : Nat), (s.eng e).rx = .preamble since → since + symCounts (s.band e) 20 ≤ s.now →
        exec (.syncWordNotFound e) s = .next ((s.accessCount e 4).updEng e lost)) ∧
      (∀ (since : Nat), (s.eng e).rx = .preamble since → s.now < since + symCounts (s.band e) 20 → exec (.syncWordNotFound e) s = .next s) ∧
      (∀ stamp : Int, (s.eng e).rx = .synced stamp →
        let b := s.band e
        let l := ((s.eng e).symbols b (frameSpan b stamp 0).1).take (headSymbols b)
        let h := bytesOfBits 9 (headerBits b l)
        (l.length < headSymbols b → exec (.headerDecoded e ()) s = .next s) ∧
        (headSymbols b ≤ l.length → plcHeaderOk h = false → exec (.headerDecoded e ()) s = .next (((s.plcCount e 3 1).accessCount e 4).updEng e lost)) ∧
        (headSymbols b ≤ l.length → plcHeaderOk h = true →
          let s1 := s.updEng e (fun y => { y with
            openA := some ((s.eng e).windowAfter (frameSpan b stamp (hdrDur h)).2), ackMine := false, unknownEnd := false, deadline := 0, doneB := none })
          (hdrTx h = 0 → exec (.headerDecoded e ()) s = .next ((s1.plcCount e 8 1).updEng e (fun y => { y with rx := .search }))) ∧
          (hdrTx h ≠ 0 → s.mapOf e (hdrTx h) (hdrMap h) = none →
            exec (.headerDecoded e ()) s = .next ((s1.plcCount e 4 1).updEng e (fun y => { y with rx := .search }))) ∧
          (∀ map, hdrTx h ≠ 0 → s.mapOf e (hdrTx h) (hdrMap h) = some map →
            exec (.headerDecoded e ()) s = .next (s1.updEng e (fun y => { y with rx := .payload stamp h }))))) ∧
      (∀ (stamp : Int) (h : Bytes), (s.eng e).rx = .payload stamp h →
        let b := s.band e
        let pay := (((s.eng e).symbols b (frameSpan b stamp (hdrDur h)).1).drop (headSymbols b)).take (hdrDur h)
        let data := decodePayload (hdrLen h) (payloadSofts ((s.mapOf e (hdrTx h) (hdrMap h)).getD []) b (hdrSeg h) (hdrPeriod h) pay 0)
        let erased := ((List.range (preSymbols b + hdrDur h)).filter ((s.eng e).erasedSym b (frameSpan b stamp (hdrDur h)).1)).length
        (pay.length < hdrDur h → exec (.plcFrameEnd e () () () ()) s = .next s) ∧
        (hdrDur h ≤ pay.length → crc32 (data.take (hdrLen h)) ≠ fieldLE data (hdrLen h) 4 →
          exec (.plcFrameEnd e () () () ()) s =
            .next ((((s.plcCount e 10 erased).updEng e (fun y => { y with rx := .search })).plcCount e 5 1).chargeLink (hdrTx h) 0 (e + 1) (e + 1)))) ∧
      ((s.eng e).rx = .search → exec (.plcFrameEnd e () () () ()) s = .next s) ∧
      ((s.eng e).unknownEnd = true → 2 ≤ (s.eng e).quiet → exec (.energyBelowBusy e) s =
        .next (s.updEng e (fun y => { y with unknownEnd := false, openA := some ((s.eng e).windowAfter s.td0), ackMine := false, deadline := 0 }))) ∧
      (((s.eng e).unknownEnd = false ∨ (s.eng e).quiet < 2) → exec (.energyBelowBusy e) s = .next s)) ∧
  (∀ (s : State) (e : Fin 3) (stamp : Int) (h : Bytes), s.running = true → s.plc.engines.length = 3 → (s.eng e).rx = .payload stamp h →
      let x := s.eng e
      let b := s.band e
      let pay := ((x.symbols b (frameSpan b stamp (hdrDur h)).1).drop (headSymbols b)).take (hdrDur h)
      let data := decodePayload (hdrLen h) (payloadSofts ((s.mapOf e (hdrTx h) (hdrMap h)).getD []) b (hdrSeg h) (hdrPeriod h) pay 0)
      let f := data.take (hdrLen h)
      hdrDur h ≤ pay.length → crc32 f = fieldLE data (hdrLen h) 4 → hopToUs f = true → hdrTx h = 0xFFFE → s.plc.links = [] → s.plc.routes = [] →
      ∃ t, exec (.plcFrameEnd e () () () ()) s = .next t ∧ (t.eng e).rx = .search ∧ (t.eng e).openA = some (x.windowAfter (frameSpan b stamp (hdrDur h)).2) ∧
        ((t.eng e).ackMine = true ↔ fDest f = 0) ∧ t.mtr = s.mtr ∧ t.lane = s.lane ∧ t.cfg = s.cfg ∧
        lookupKey (fSrc f) t.plc.lastRoute = some (validReverse (fRoute f).reverse))

/-- R284, R301, R304, R305, R307, R313 to R319: gain and blanking, the access of a frame to the medium, and its transmission. R327 to R333: neighbour
queries and reports, the ageing of links, and pinned routes. -/
def Obligations.PlcAccess : Prop :=
  (∀ (s : State) (e : Fin 3), s.running = true →
      (∀ samples : List Int, s.engineOn e = true → s.cfgN (0x2801 + e) 8 = 0xFF → ((s.eng e).rx ≠ .search ∨ s.now < (s.eng e).gainAt + cMs 1) →
        (s.eng e).sendUntil ≤ s.now → s.plc.engines.length = 3 →
        let f := at' s.sense.fir (8 + e)
        ∃ t, exec (.plcAgcStep e samples) s = .next t ∧ (t.eng e).gain = (s.eng e).gain ∧ (t.eng e).gainAt = (s.eng e).gainAt ∧
          t = s.updEng e (fun y => Engine.gainStep (Engine.adcSamples (s.band e) (max 1 (at' f.decim f.bank)) (at' f.coefs f.bank)
            (s.cfgN (0x2801 + e) 2) (s.cfgN (0x2801 + e) 3) s.td0 samples y) 0xFF ((s.eng e).rx == .search) s.now)) ∧
      (∀ samples : List Int, (s.engineOn e = false ∨ s.now < (s.eng e).sendUntil) → exec (.plcAgcStep e samples) s = .next s) ∧
      ((s.eng e).txReq = none → exec (.plcTransmit e) s = .next s) ∧
      (∀ (f : Bytes) (id : Nat) (b : Int × Nat), (s.eng e).txReq = some (f, id) → s.engineOn e = true → s.boundaryNow e = some b →
        (s.eng e).sendUntil ≤ s.now → s.plc.engines.length = 3 →
        ∃ t, exec (.plcTransmit e) s = .next t ∧ (t.eng e).txReq = none ∧ (t.eng e).rx = .search ∧ s.now ≤ (t.eng e).sendUntil ∧
          (∃ hd tones dac, t.out = s.out ++ [.plc e hd tones dac]) ∧
          t = { s with plc := t.plc, out := t.out, queue := t.queue, dict := { s.dict with subs := t.dict.subs }, vaultNv := { s.vaultNv with log := t.vaultNv.log } }) ∧
      (∀ (f : Bytes) (id : Nat), (s.eng e).txReq = some (f, id) → s.engineOn e = true → (s.boundaryNow e = none ∨ s.now < (s.eng e).sendUntil) →
        exec (.plcTransmit e) s = .next s) ∧
      (∀ (f : Bytes) (id : Nat), (s.eng e).txReq = some (f, id) → s.engineOn e = false →
        exec (.plcTransmit e) s = .next (s.updEng e (fun y => { y with txReq := none }))) ∧
      (∀ b : Int × Nat, s.macFetch e = s → s.boundaryNow e = some b →
        ((s.eng e).openA ≠ some b.1 → exec (.ackWindowOpen e) s = .next s) ∧
        ((s.eng e).openA = some b.1 → ((s.eng e).acks.find? (fun a => a.deadline == (s.eng e).deadline)) = none →
          exec (.ackWindowOpen e) s = .next (s.updEng e (fun y => { y with acks := [], ackMine := false }))) ∧
        (∀ a : AckReq, (s.eng e).openA = some b.1 → ((s.eng e).acks.find? (fun a => a.deadline == (s.eng e).deadline)) = some a →
          s.engineOn e = true → (s.eng e).ackMine = true → s.mediumBusy e b.1 = false → (s.eng e).deadline ≠ 0 →
          let s1 := s.updEng e (fun y => { y with acks := [], ackMine := false })
          let r := s1.buildAck a (.route (s1.ackHops e (s1.meter a.meter) (s.eng e).lastHops)) ((s.eng e).ready.any (fun f => f.meter == a.meter))
            (s1.mapReport e (s.eng e).lastTx)
          (∀ f, r.2 = some f → exec (.ackWindowOpen e) s = .next ((r.1.accessCount e 1).updEng e (fun y => { y with txReq := some (f, 0) }))) ∧
          (r.2 = none → exec (.ackWindowOpen e) s = .next r.1))) ∧
      (∀ (f : MacFrame) (b : Int × Nat), s.macFetch e = s → s.boundaryNow e = some b → s.engineOn e = true → (s.eng e).doneB ≠ some b.1 →
        bestFrame (s.eng e).ready = some f → (s.eng e).txReq = none → (s.eng e).mayStart b.1 f.prio = true →
        let s1 := s.updEng e (fun y => { y with doneB := some b.1 })
        (s.mediumBusy e b.1 = true → exec (.backoffBoundary e ()) s = .next (s1.accessCount e 3)) ∧
        (s.mediumBusy e b.1 = false → f.backoff = 0 → exec (.backoffBoundary e ()) s = .next ((s1.accessCount e 2).updEng e (fun y =>
          { y with ready := y.ready.erase f, txReq := some (f.frame, s.cfgB (plcBlk e) 0x2800 2) }))) ∧
        (s.mediumBusy e b.1 = false → f.backoff ≠ 0 → exec (.backoffBoundary e ()) s = .next (s1.updEng e (fun y =>
          { y with ready := y.ready.map (fun g => if g == f then { g with backoff := g.backoff - 1 } else g) })))) ∧
      (∀ b : Int × Nat, s.macFetch e = s → s.boundaryNow e = some b → ((s.eng e).doneB = some b.1 ∨ s.engineOn e = false) →
        exec (.backoffBoundary e ()) s = .next s)) ∧
  ((∀ (s : State), s.running = true → s.cfgB .plc0 0x2850 6 ≠ 0 → s.plc.queryAt.getD 0 0 + cSec (s.cfgB .plc0 0x2850 6) ≤ s.now → s.mtr.table = [] →
      exec .neighbourQueryPeriod s = .next { s with plc := { s.plc with queryAt := [s.now] } }) ∧
    (∀ (s : State), s.running = true → s.cfgB .plc0 0x2850 6 = 0 → exec .neighbourQueryPeriod s = .next s) ∧
    (∀ (s : State) (i : Nat) (d : Bytes) (rest : List (Nat × Bytes)) (m : Meter), s.live = true → s.plc.reports = (i, d) :: rest → s.meter i = some m →
      fieldLE d 0 1 = 1 → fieldLE d 1 2 ≠ 0xFFFE → fieldLE d 1 2 ≠ m.short →
      let s1 : State := { s with plc := { s.plc with reports := rest } }
      exec .neighbourReport s = .next ((s1.measureLink (fieldLE d 1 2) m.short ((s1.plcTarget m).1 + 1) (fieldInt d 3 2 * 256) false).recompute m.short 6)) ∧
    (∀ (s : State), s.live = true → s.plc.reports = [] → exec .neighbourReport s = .next s) ∧
    (∀ (s : State), s.live = true → (∀ l ∈ s.plc.links, s.now < l.lastAt + cSec (s.cfgB (plcBlk (l.engine - 1)) 0x2850 5)) → exec .linkAgeExpire s = .next s) ∧
    (∀ (s : State) (l : Link), s.live = true → s.plc.links = [l] → l.lastAt + cSec (s.cfgB (plcBlk (l.engine - 1)) 0x2850 5) ≤ s.now → s.plc.routes = [] →
      exec .linkAgeExpire s = .next { s with plc := { s.plc with links := [] } }) ∧
    (∀ (s : State) (role i : Nat) (m : Meter) (v : Bytes), TakesCommands s → roleMay role .operator = true → s.selected = some (i, m) → v.length = 16 →
      1 ≤ fieldLE v 0 1 → fieldLE v 0 1 ≤ 3 → fieldLE v 1 1 = 0 →
      exec (.routePin role v) s = .next ((s.adoptRoute (s.routeOf m.short) m.short (fieldLE v 0 1) []
        (s.bottleneckOf ⟨m.short, fieldLE v 0 1, [], 0, true, 0, false⟩) true 4).put (.answer 0x2853 1 Abort.ok))) ∧
    (∀ (s : State) (role i : Nat) (m : Meter) (v : Bytes), TakesCommands s → roleMay role .operator = true → s.selected = some (i, m) → v.length = 16 →
      1 ≤ fieldLE v 0 1 → fieldLE v 0 1 ≤ 3 → 7 < fieldLE v 1 1 → exec (.routePin role v) s = .next (s.put (.answer 0x2853 1 Abort.valueInconsistent))) ∧
    (∀ (s : State) (role i : Nat) (m : Meter) (r : Route), TakesCommands s → roleMay role .operator = true → s.selected = some (i, m) →
      s.routeOf m.short = some r →
      exec (.routeUnpin role 1) s = .next (State.put (if r.pinned = true then (s.putRoute { r with pinned := false }).recompute m.short 5 else s)
        (.answer 0x2853 2 Abort.ok))))

/-- R338, R340 to R344: scripts, front-end alarms, and the IQ interface with its gain control. R350, R354, R358, R359, R364, R366, R367, R375, R382,
R389: slot boundaries, schedules, the seen cache, and reception up to the checks of a frame. -/
def Obligations.RadioReception : Prop :=
  ((∀ (s : State) (p : Fin 2) (miso : Bytes) (waits : List Bool), s.live = true → nextTrigger (s.port p).triggers = none →
      exec (.scriptRun p miso waits) s = .next s) ∧
    (∀ (s : State) (p : Fin 2) (miso : Bytes) (waits : List Bool) (t param : Nat), s.live = true →
      nextTrigger (s.port p).triggers = some (t, param) → s.scriptStart p t = none →
      let s0 := s.updPort p (fun y => { y with triggers := y.triggers.erase (t, param), ctl := s.ctlIdle p (s.port p).ctl, capture := (s.port p).capture })
      let d := (s0.event 0x3003 (spiCell p) ([byte p, byte t, 3, 0] ++ leBytes 2 1024)).triggerDone p t 3
      exec (.scriptRun p miso waits) s = .next (d.2.foldl (fun st q => st.trigger 3 p q.1 q.2) d.1)) ∧
    (∀ (s : State) (p : Fin 2) (role : Nat), TakesCommands s → roleMay role .operator = true →
      exec (.userA role p) s = .next (if s.inService (spiCell p) = true then (s.trigger 3 p 6 0).put (.answer 0x3006 (p + 1) Abort.ok)
        else s.put (.answer 0x3006 (p + 1) Abort.fenced)) ∧
      exec (.userB role p) s = .next (if s.inService (spiCell p) = true then (s.trigger 3 p 7 0).put (.answer 0x3006 (p + 1) Abort.ok)
        else s.put (.answer 0x3006 (p + 1) Abort.fenced))) ∧
    (∀ (s : State) (p : Fin 2) (line : Fin 4), s.live = true →
      exec (.frontEndAlarm p line) s = .next (if bit (s.portN p 21) line = false ∧ bit (s.portN p 23) line = true then
        s.event 0x3006 (spiCell p) [byte p, byte line] else s)) ∧
    (∀ (s : State) (p : Fin 2) (cause : Fin 3), s.live = true → bit (s.cfgB (radioBlk p) 0x3000 1) p = true → (s.port p).iqCause = 0 →
      exec (.iqLinkFault p cause) s = .next (((s.stopDemods p 0).updPort p (fun x => { x with iqCause := cause + 1, iqSince := s.now })).event 0x3001
        (iqCell p) [byte p, byte (cause + 1)])) ∧
    (∀ (s : State) (p : Fin 2) (cause : Fin 3), s.live = true → (s.port p).iqCause ≠ 0 → exec (.iqLinkFault p cause) s = .next s) ∧
    (∀ (s : State) (p : Fin 2), s.live = true → (s.port p).iqCause ≠ 0 →
      exec (.iqLinkRestored p) s = .next (((s.resetChannelizer p).updPort p (fun y => { y with
          iqCause := 0, iqSince := s.now + cUs 30
          demods := y.demods.map (fun d => if d.state = 0 ∧ d.assigned then { d with state := 1 } else d) })).event 0x3002 (iqCell p)
        ([byte p, 0, 0, 0] ++ leBytes 4 (min maxU32 ((s.now - (s.port p).iqSince) / cMs 1))))) ∧
    (∀ (s : State) (p : Fin 2), s.live = true → (s.port p).iqCause = 0 → exec (.iqLinkRestored p) s = .next s) ∧
    (∀ (s : State) (p : Fin 2) (samples : List (Int × Int)), s.live = true → s.portOn p = false → exec (.agcBlock p samples) s = .next s) ∧
    (∀ (s : State) (p : Fin 2) (samples : List (Int × Int)), s.live = true → s.portOn p = true → s.inService (iqCell p) = true → s.portN p 16 ≠ 0xFF →
      (s.port p).powerBlocks < 99 →
      let w := phaseTrig (s.portI p 5)
      let r := correctSamples (s.portN p 2 == 1) (s.portN p 3) (s.portI p 4) w.2 w.1 (s.port p).dcI (s.port p).dcQ samples
      let s1 := (s.channelize p r.2.2).updPort p (fun y => { y with
        dcI := r.1, dcQ := r.2.1, powerSum := (s.port p).powerSum + meanPower (r.2.2.map (fun v => (v.1 * v.1 + v.2 * v.2).toNat))
        powerBlocks := (s.port p).powerBlocks + 1 })
      (samples.any (fun v => v.1 == 2047 || v.1 == -2048 || v.2 == 2047 || v.2 == -2048) = false → exec (.agcBlock p samples) s = .next s1) ∧
      (samples.any (fun v => v.1 == 2047 || v.1 == -2048 || v.2 == 2047 || v.2 == -2048) = true →
        exec (.agcBlock p samples) s = .next ((s1.radioCount p 7 1).updPort p (fun y => { y with clipSecond := y.clipSecond + 1 })))) ∧
    (∀ (s : State) (p : Fin 2), s.live = true → 0 < (s.port p).clipSecond → s.perSecond (s.port p).clipAt = true →
      exec (.rxClipping p) s = .next ((s.updPort p (fun y => { y with clipSecond := 0, clipAt := some s.now })).event 0x3007 (iqCell p)
        ([byte p, 0, 0, 0] ++ leBytes 4 (s.port p).clipSecond))) ∧
    (∀ (s : State) (p : Fin 2), s.live = true → (s.port p).clipSecond = 0 → exec (.rxClipping p) s = .next s)) ∧
  (∀ (s : State) (p : Fin 2), s.live = true →
      (exec .seenEntryExpire s = .next { s with radio := { s.radio with seen := s.radio.seen.filter (fun e => decide (s.now < e.until')) } }) ∧
      (∀ b : Bytes, (s.mac p).pending = some b → s.slotBoundaryNow = true → (s.mac p).lastAsn ≠ asnOf (s.td 2) → (fieldLE b 8 5 = 0 ∨ fieldLE b 8 5 ≤ asnOf (s.td 2)) →
        exec (.scheduleActivated p) s = .next ((s.updMac p (fun m => { m with sched := b, pending := none })).event 0x3110 (radioMacCell p)
          (byte p :: leBytes 5 (asnOf (s.td 2)) ++ [0, 0] ++ leBytes 4 (schHash b)))) ∧
      (∀ b : Bytes, (s.mac p).pending = some b → fieldLE b 8 5 ≠ 0 → asnOf (s.td 2) < fieldLE b 8 5 → exec (.scheduleActivated p) s = .next s) ∧
      ((s.portOn p = false ∨ s.slotBoundaryNow = false) → exec (.slotBoundary p) s = .next s) ∧
      (s.portOn p = true → s.slotBoundaryNow = true → (s.mac p).lastAsn ≠ asnOf (s.td 2) → at' s.radio.stepped p = false → (s.mac p).children = [] → s.macFetch (3 + p) = s → (s.mac p).ready = [] →
        let sched := (s.mac p).sched
        let asn := asnOf (s.td 2)
        exec (.slotBoundary p) s = .next ((s.updMac p (fun m => { m with
            lastAsn := asn, slotFrames := [], wait := if (cellsAt sched asn).any (fun c => c.kind == 4) then m.wait - 1 else m.wait, ready := [] })).assignDemods p
          ((listenCells sched asn).map (fun c => (hopChannel (s.hopSeq p sched) asn c.choff, c))))) ∧
      (∀ (d : Fin 16) (coded : Bool), s.radioRuns = true → s.portOn p = true → (s.port p).iqCause = 0 → (s.port p).iqSince ≤ s.now →
        s.inService (iqCell p) = true → s.inService (demodCell p d) = true → (at' (s.port p).demods d).state = 1 →
        let dm := at' (s.port p).demods d
        exec (.sfdFound p d coded ()) s = .next ((s.radioCount p 1 1).updPort p (fun y => { y with demods := y.demods.set d { dm with
          state := 2, stamp := s.now - cNs (sfdDelay dm.mode + s.portN p 6), gainDb := s.gainDb p (s.port p).gainEntry
          coded := coded, slot := asnOf (s.td 2), slotAt := slotStart (s.td 2), gains := at' (s.port p).counters 12, moved := false, next := none
          due := phrPowers dm.mode coded - latePowers dm.mode } }))) ∧
      (∀ (d : Fin 16) (air : List Bool), s.radioRuns = true → (at' (s.port p).demods d).state ≠ 2 → exec (.radioFrameEnd p d air ()) s = .next s) ∧
      (∀ (d : Fin 16) (air : List Bool), s.radioRuns = true → (at' (s.port p).demods d).state = 2 →
        let phr := (airRead (at' (s.port p).demods d).coded air).1
        let psdu := (airRead (at' (s.port p).demods d).coded air).2
        let n := if bit phr 3 = true then 2 else 4
        (bit phr 0 = true → exec (.radioFrameEnd p d air ()) s = .next ((s.demodDone p d).radioCount p 2 1)) ∧
        (bit phr 0 = false → (bit phr 1 = true ∨ bit phr 2 = true ∨ phr / 32 < n + 1 ∨ 259 < phr / 32) →
          exec (.radioFrameEnd p d air ()) s = .next ((s.demodDone p d).radioCount p 3 1)) ∧
        (bit phr 0 = false → bit phr 1 = false → bit phr 2 = false → n + 1 ≤ phr / 32 → phr / 32 ≤ 259 →
          (psdu.length ≠ phr / 32 ∨ psdu.drop (phr / 32 - n) ≠ fcsOf n (psdu.take (phr / 32 - n))) →
          exec (.radioFrameEnd p d air ()) s = .next ((s.demodDone p d).radioCount p 4 1))))

/-- R355 to R357: a transmission is accepted or refused, its TX_ON is raised, its frame leaves, or it is abandoned, and its end raises TX_OFF. R354,
R359, R367, R368 to R370, R379, R383, R387, R390: a good frame in its window enters the port's ingest queue; and what a port sends in a slot. -/
def Obligations.RadioTransmission : Prop :=
  (∀ (s : State) (p : Fin 2) (j : TxJob), s.radioRuns = true →
      ((s.port p).tx.find? (fun k => k.phase == .asked) = some j →
        s.portOn p = true → s.inService (txCell p) = true → s.channelMode p j.channel j.mode = true → s.now + cUs (s.portN p 8) ≤ j.startAt →
        exec (.txRequest p) s = .next (s.updPort p (fun x => { x with tx := x.tx.map (fun k => if k == j then { k with phase := .accepted } else k) }))) ∧
      ((s.port p).tx.find? (fun k => k.phase == .asked) = some j → j.startAt < s.now + cUs (s.portN p 8) →
        exec (.txRequest p) s = .next (((s.radioCount p 10 1).updPort p (fun x => { x with tx := x.tx.erase j })).notSent p j)) ∧
      ((s.port p).tx.find? (fun k => k.phase == .accepted) = some j → j.startAt ≤ s.now + cUs (s.portN p 8) →
        exec (.txOn p) s =
          .next ((s.updPort p (fun x => { x with tx := x.tx.map (fun k => if k == j then { k with phase := .onRaised } else k) })).trigger 3 p 2 0)) ∧
      ((s.port p).tx.find? (fun k => k.phase == .accepted) = some j → s.now + cUs (s.portN p 8) < j.startAt → exec (.txOn p) s = .next s) ∧
      ((s.port p).tx.find? (fun k => k.phase == .onDone || k.phase == .onRaised || k.phase == .onFailed) = some j → s.now + cNs (s.portN p 7) < j.startAt →
        exec (.transmissionStart p) s = .next s) ∧
      ((s.port p).tx.find? (fun k => k.phase == .onDone || k.phase == .onRaised || k.phase == .onFailed) = some j → j.startAt ≤ s.now + cNs (s.portN p 7) →
        s.portOn p = true → s.inService (txCell p) = true → j.phase = .onDone → j.origin = 1 →
        let a := s.sentAs p j.frame.length true
        exec (.transmissionStart p) s = .next ((((s.radioCount p 9 1).updPort p (fun x => { x with
            air := some (s.airFor p j), tx := x.tx.map (fun k => if k == j then { k with phase := .sending } else k) })).dwellAdd p j.channel
              (s.airNs p j.mode a.1 a.2)).put (.radio p j.startAt j.channel j.mode a.2 (phrOf (s.portN p 10) (s.portN p 12 == 1) a.1)
            (j.frame ++ fcsOf (s.portN p 10) j.frame) (s.airFor p j)))) ∧
      ((s.port p).tx.find? (fun k => k.phase == .onDone || k.phase == .onRaised || k.phase == .onFailed) = some j → j.startAt ≤ s.now + cNs (s.portN p 7) →
        s.portOn p = true → s.inService (txCell p) = true → j.phase = .onFailed → exec (.transmissionStart p) s = .next (s.txAbandon p 2 j)) ∧
      (s.live = true → (s.port p).tx.find? (fun k => k.phase == .sending) = some j → s.airEnds p ≤ s.now →
        exec (.transmissionEnd p) s = .next ((s.updPort p (fun x => { x with tx := x.tx.erase j, air := none })).trigger 3 p 3 0)) ∧
      (s.live = true → (s.port p).tx.find? (fun k => k.phase == .sending) = some j → s.now < s.airEnds p →
        exec (.transmissionEnd p) s = .next s) ∧
      (s.live = true → (s.port p).tx = [] → exec (.transmissionEnd p) s = .next s)) ∧
  (∀ (s : State) (p : Fin 2), s.radioRuns = true →
      (∀ (d : Fin 16) (air : List Bool), (at' (s.port p).demods d).state = 2 →
        let dm := at' (s.port p).demods d
        let phr := (airRead dm.coded air).1
        let psdu := (airRead dm.coded air).2
        let n := if bit phr 3 = true then 2 else 4
        let f := psdu.take (phr / 32 - n)
        let off := nsOf (s.tdAt 2 dm.stamp) - s.shrNs p dm.mode - dm.slotAt
        let dl := s.counterOfTd2 (dm.slotAt + 21000000) - cUs (s.cfgN 0x4004 2)
        bit phr 0 = false → bit phr 1 = false → bit phr 2 = false → n + 1 ≤ phr / 32 → phr / 32 ≤ 259 →
        psdu.length = phr / 32 → psdu.drop (phr / 32 - n) = fcsOf n f →
        (s.power.phase = .lastGasp → fType f ≠ 2 → exec (.radioFrameEnd p d air ()) s = .next ((s.demodDone p d).radioCount p 6 1)) ∧
        (s.power.phase = .run → fType f ≤ 2 → s.inWindow p dm.cell off (s.tdAt 2 dm.stamp) = false →
          exec (.radioFrameEnd p d air ()) s = .next (((s.demodDone p d).radioCount p 5 1).macCount p 9)) ∧
        (∀ t, s.power.phase = .run → fType f ≤ 2 → s.inWindow p dm.cell off (s.tdAt 2 dm.stamp) = true →
          ((s.demodDone p d).macHears p dm f off dl).pushOrDrop (3 + p) (demodCell p d) (s.radioMeta p d dm f.length (phr / 32) dl (n == 4) ++ f) = (t, true) →
          exec (.radioFrameEnd p d air ()) s = .next (t.radioCount p 5 1))) ∧
      ((cellsAt (s.mac p).sched (asnOf (s.td 2))).any (fun c => c.kind == 0) = false → exec (.beaconSend p) s = .next s) ∧
      (∀ (c : CellDef) (f : Bytes) (r : State), (cellsAt (s.mac p).sched (asnOf (s.td 2))).find? (fun c => c.kind == 0) = some c → s.portOn p = true →
        (s.mac p).beaconAsn ≠ asnOf (s.td 2) → s.slotAhead = true → s.mtr.prevUntil = none →
        let ttl := s.cfgB (radioBlk p) 0x3102 3
        let fseq := ttl * 4096 + (s.mac p).beacons % 4096
        let start := slotStart (s.td 2) + 2000000
        let ch := hopChannel (s.hopSeq p (s.mac p).sched) (asnOf (s.td 2)) c.choff
        s.buildNetwork s.networkSlot s.net.gen 0xC (.flood fseq ttl)
          (leBytes 5 (asnOf (s.td 2)) ++ [0] ++ leBytes 4 (schHash (s.mac p).sched) ++ time80 (start * 65536)) = (r, some f) →
        let s1 := r.updMac p (fun x => { x with beacons := x.beacons + 1, beaconAsn := asnOf (s.td 2) })
        exec (.beaconSend p) s = .next (if s1.dwellOk p ch (s1.sendNs p c.mode f.length false) = true then
            (s1.markSeen p 0 fseq).askTx p ⟨f, ch, c.mode, s.counterOfTd2 start, 0, .asked, none⟩
          else s1.macCount p 2)) ∧
      (s.macFetch (3 + p) = s → s.now + cUs (s.cfgN 0x4004 2) < s.counterOfTd2 (slotStart (s.td 2) + 21000000) →
        exec (.radioAckSend p) s = .next s) ∧
      (s.macFetch (3 + p) = s → s.counterOfTd2 (slotStart (s.td 2) + 21000000) ≤ s.now + cUs (s.cfgN 0x4004 2) → (s.mac p).acks = [] →
        exec (.radioAckSend p) s = .next (s.updMac p (fun x => { x with acks := [] }))) ∧
      (s.macFetch (3 + p) = s → (s.mac p).ready = [] → (s.mac p).blocks = [] → exec (.downCellSend p) s = .next s) ∧
      (∀ (c : CellDef) (f : MacFrame), s.macFetch (3 + p) = s → s.dropTooLong p = s →
        (cellsAt (s.mac p).sched (asnOf (s.td 2))).find? (fun c => c.kind == 3 || c.kind == 5) = some c → c.kind = 3 → s.portOn p = true → s.txBusy p = false →
        s.slotAhead = true → (s.mac p).ready = [f] → f.kind = 0 → s.held p f.meter = false → s.fitsCell p c.mode f.frame.length = true →
        let ch := hopChannel (s.hopSeq p (s.mac p).sched) (asnOf (s.td 2)) c.choff
        s.dwellOk p ch (s.sendNs p c.mode f.frame.length false) = true →
        exec (.downCellSend p) s = .next ((s.updMac p (fun x => { x with ready := x.ready.erase f })).askTx p
          ⟨f.frame, ch, c.mode, s.counterOfTd2 (slotStart (s.td 2) + 2000000), 2, .asked, some f⟩)) ∧
      (s.macFetch (3 + p) = s → (s.mac p).ready = [] → (s.mac p).blocks = [] → (s.mac p).floodAcks = [] →
        exec (.floodCellSend p) s = .next (s.updMac p (fun m => { m with floodAcks := [] }))) ∧
      (∀ (c : CellDef) (f : MacFrame), s.macFetch (3 + p) = s → s.dropTooLong p = s → (p : Nat) < s.radio.macs.length → (s.mac p).floodAcks = [] →
        (cellsAt (s.mac p).sched (asnOf (s.td 2))).find? (fun c => c.kind == 4) = some c → s.portOn p = true → s.txBusy p = false →
        s.slotAhead = true → (s.mac p).ready = [f] → f.kind = 1 → f.prio < 3 → (s.mac p).blocks = [] → s.fitsCell p c.mode f.frame.length = true →
        let ch := hopChannel (s.hopSeq p (s.mac p).sched) (asnOf (s.td 2)) c.choff
        s.dwellOk p ch (s.sendNs p c.mode f.frame.length false) = true →
        exec (.floodCellSend p) s = .next (((s.updMac p (fun x => { x with ready := [] })).markSeen p (fOrigin f.frame) (fFseq f.frame)).askTx p
          ⟨f.frame, ch, c.mode, s.counterOfTd2 (slotStart (s.td 2) + 2000000), 3, .asked, some f⟩)) ∧
      (∀ (a : AckReq) (x : SlotFrame) (r : State) (f : Bytes), s.macFetch (3 + p) = s → (s.mac p).acks = [a] → claimOf (s.mac p).slotFrames a = some x →
        (p : Nat) < s.radio.macs.length → s.counterOfTd2 (slotStart (s.td 2) + 21000000) ≤ s.now + cUs (s.cfgN 0x4004 2) →
        let s1 := (s.updMac p (fun y => { y with acks := [] })).updMac p (fun y => { y with counters := upd y.counters 6 (· + 0) })
        s1.buildAck a (.route []) ((s.mac p).hasFor a.meter) [] = (r, some f) →
        let mode := if x.mode = 2 then 2 else 1
        let delta := max 0 (x.start - 2000000)
        let ns := s.sendNs p mode f.length true
        s.portOn p = true → s.txBusy p = false → delta + ns ≤ 4000000 → s.dwellOk p x.channel ns = true →
        exec (.radioAckSend p) s = .next (r.askTx p ⟨f, x.channel, mode, s.counterOfTd2 (slotStart (s.td 2) + 21000000 + delta), 1, .asked, none⟩)))

/-- R119, R400, R401, R403, R404, R410, R423: a command for a meter is queued, asked of its lane when it is taken, sent again with the same frame or
built anew after a time without an answer, given up after its tries, or cancelled while it waits. R411, R413, R417: a tariff table is loaded only
above its version, starts its campaign, and is assigned to a meter. -/
def Obligations.DownlinkCommands : Prop :=
  ((∀ (s : State) (role i : Nat) (m : Meter), TakesCommands s → roleMay role .operator = true → s.selected = some (i, m) →
      (∀ r : State × Nat, s.cfgN 0x3C10 1 = 0x10 → s.queueCommand i 0x10 (s.val 0x3C10 2) 0 = some r →
        exec (.commandRequest role 1) s = .next (State.put { r.1 with dist := { r.1.dist with lastTag := r.2 } } (.answer 0x3C10 3 Abort.ok))) ∧
      (s.cfgN 0x3C10 1 = 0x10 → s.queueCommand i 0x10 (s.val 0x3C10 2) 0 = none →
        exec (.commandRequest role 1) s = .next (s.put (.answer 0x3C10 3 Abort.noResource))) ∧
      (s.cfgN 0x3C10 1 = 0x80 → 1 ≤ (s.val 0x3C10 2).length → (s.val 0x3C10 2).length ≤ 181 → ∀ r, s.queueCommand i 0x80 (s.val 0x3C10 2) 0 = some r →
        exec (.commandRequest role 1) s = .next (State.put { r.1 with dist := { r.1.dist with lastTag := r.2 } } (.answer 0x3C10 3 Abort.ok))) ∧
      (s.cfgN 0x3C10 1 = 0x80 → 181 < (s.val 0x3C10 2).length →
        exec (.commandRequest role 1) s = .next (s.put (.answer 0x3C10 3 Abort.valueRange))) ∧
      (s.cfgN 0x3C10 1 = 0x12 → exec (.commandRequest role 1) s = .next (s.put (.answer 0x3C10 3 Abort.valueRange))) ∧
      (∀ c : MCmd, (s.cmds i).find? (fun c => c.tag == s.cfgN 0x3C11 1) = some c → c.state = 1 →
        exec (.commandCancel role 1) s = .next ((s.failCommand i c 4).put (.answer 0x3C11 6 Abort.ok))) ∧
      (∀ c : MCmd, (s.cmds i).find? (fun c => c.tag == s.cfgN 0x3C11 1) = some c → c.state ≠ 1 →
        exec (.commandCancel role 1) s = .next (s.put (.answer 0x3C11 6 Abort.valueInconsistent)))) ∧
    (∀ (s : State) (i : Nat) (m : Meter) (c : MCmd) (rest : List MCmd), s.running = true → s.meter i = some m → s.cmds i = c :: rest →
      (c.state = 1 → c.asked = false → bit m.rflags 1 = false → exec (.commandTake i) s = .next (s.askCommand i c.ident 0)) ∧
      (c.state = 1 → bit m.rflags 1 = false →
        s.commandTaken i c.ident 0 = ((s.updCmd i c.ident (fun x => { x with asked := false })).updMeter i (fun x =>
          { x with nextTag := (c.tag + 1) % 65536 })).buildAndSend i { c with asked := false }) ∧
      ((c.state ≠ 1 ∨ c.asked = true ∨ bit m.rflags 1 = true) → exec (.commandTake i) s = .next s) ∧
      (c.state = 2 → s.now < c.sentAt + c.heldFor + s.cmdTimeout m c → exec (.commandTimeout i) s = .next s) ∧
      (c.state = 2 → c.asked = false → c.sentAt + c.heldFor + s.cmdTimeout m c ≤ s.now →
        let s1 := if c.rebuild = true then s else s.downUnanswered i (fLseq c.frame)
        (s1.cfgN 0x3C00 3 ≤ c.tries → exec (.commandTimeout i) s = .next (s1.failCommand i c 1)) ∧
        (c.tries < s1.cfgN 0x3C00 3 → c.rebuild = true → exec (.commandTimeout i) s = .next (s1.askCommand i c.ident 1)) ∧
        (c.tries < s1.cfgN 0x3C00 3 → c.rebuild = false →
          exec (.commandTimeout i) s = .next (s1.sendCommand i m { c with resends := c.resends + 1 } c.frame (kindOf c.frame)))))) ∧
  (∀ (s : State) (role : Nat), TakesCommands s → roleMay role .operator = true →
      (∀ b : Bytes, 17 ≤ b.length → b.length ≤ 4112 → timeOk (slice b 4 12) = true → s.store.mode ≠ .readOnly →
        lookupKey (fieldLE b 0 1) s.distNv.tariffs = none → s.campaignRuns 0 (fieldLE b 0 1) = false →
        let table := fieldLE b 0 1
        let t := (State.writeTariff { s with distNv := { s.distNv with
          tariffs := insertKey table ⟨fieldLE b 2 2, slice b 4 12, b.drop 16⟩ s.distNv.tariffs } } table).tariffTargets table
        exec (.tariffLoad role b) s = .next ((t.1.startCampaign 0 table t.2).put (.answer 0x3C20 0 Abort.ok))) ∧
      (∀ (b : Bytes) (t : TariffTable), 17 ≤ b.length → b.length ≤ 4112 → timeOk (slice b 4 12) = true → s.store.mode ≠ .readOnly →
        lookupKey (fieldLE b 0 1) s.distNv.tariffs = some t → fieldLE b 2 2 ≤ t.version →
        exec (.tariffLoad role b) s = .next (s.put (.answer 0x3C20 0 Abort.valueInconsistent))) ∧
      (∀ (v i : Nat) (m : Meter), (v ≤ 255 ∨ v = 0xFFFF) → s.selected = some (i, m) →
        (∀ t, s.sendCtl 0x8100 i 14 v 0 [] = some t → exec (.tariffAssign role v) s = .next (t.put (.answer 0x3C23 0 Abort.ok))) ∧
        (s.sendCtl 0x8100 i 14 v 0 [] = none → exec (.tariffAssign role v) s = .next (s.put (.answer 0x3C23 0 Abort.busy)))) ∧
      (∀ v : Nat, 255 < v → v ≠ 0xFFFF → exec (.tariffAssign role v) s = .next (s.put (.answer 0x3C23 0 Abort.valueRange))))

/-- R411, R413 to R415, R422, R423: an image slot is opened, filled in order, checked against its size and digest, given targets, activated and
removed. R414, R415, R419 to R421: the rounds of a campaign: one starts when no offer is outstanding, sends its blocks one by one, and ends when its
answers have had their time. -/
def Obligations.Images : Prop :=
  (∀ (s : State) (role : Nat), TakesCommands s → roleMay role .operator = true → s.store.mode ≠ .readOnly →
      (∀ b : Bytes, b.length = 28 → fieldLE b 0 1 ≤ 3 → 0 < fieldLE b 8 4 → fieldLE b 8 4 ≤ 1048576 → s.campaign 1 (fieldLE b 0 1) = none →
        exec (.imageBeginSlot role b) s = .next ((s.putImage (fieldLE b 0 1) ⟨1, fieldLE b 4 4, fieldLE b 8 4, slice b 12 16, []⟩).put
          (.answer 0x3C30 0 Abort.ok))) ∧
      (∀ b : Bytes, b.length = 28 → fieldLE b 0 1 ≤ 3 → 1048576 < fieldLE b 8 4 →
        exec (.imageBeginSlot role b) s = .next (s.put (.answer 0x3C30 0 Abort.valueRange))) ∧
      (∀ (b : Bytes) (i : ImageSlot), 9 ≤ b.length → fieldLE b 0 1 ≤ 3 → i = at' s.distNv.images (fieldLE b 0 1) → i.state = 1 →
        fieldLE b 4 4 = i.data.length → i.data.length + (b.length - 8) ≤ i.size →
        exec (.imageChunk role b) s = .next (((s.putImage (fieldLE b 0 1) { i with data := i.data ++ b.drop 8 }).writeImage (fieldLE b 0 1) i.data.length
          (i.data.length + (b.length - 8))).put (.answer 0x3C31 0 Abort.ok))) ∧
      (∀ (b : Bytes) (i : ImageSlot), 9 ≤ b.length → fieldLE b 0 1 ≤ 3 → i = at' s.distNv.images (fieldLE b 0 1) → i.state = 1 →
        fieldLE b 4 4 ≠ i.data.length → exec (.imageChunk role b) s = .next (s.put (.answer 0x3C31 0 Abort.valueInconsistent))) ∧
      (∀ (slot : Nat) (i : ImageSlot), slot ≤ 3 → i = at' s.distNv.images slot → i.state = 1 → i.data.length = i.size →
        (sha384 i.data).take 16 = i.digest → (s.putImage slot { i with state := 2 }).campaign 1 slot = none →
        exec (.imageEndSlot role slot) s = .next (((s.putImage slot { i with state := 2 }).startCampaign 1 slot []).put (.answer 0x3C32 0 Abort.ok))) ∧
      (∀ (slot : Nat) (i : ImageSlot), slot ≤ 3 → i = at' s.distNv.images slot → i.state = 1 → i.data.length ≠ i.size →
        exec (.imageEndSlot role slot) s = .next ((s.emptyImage slot).put (.answer 0x3C32 0 Abort.valueInconsistent))) ∧
      (∀ (b : Bytes) (m : Meter), b.length = 8 → fieldLE b 0 1 ≤ 3 → s.campaign 1 (fieldLE b 0 1) = none → s.meter (fieldLE b 4 4) = some m →
        m.mayTarget 1 (fieldLE b 0 1) = true → (at' s.distNv.images (fieldLE b 0 1)).state ≠ 2 →
        exec (.imageTargets role b) s = .next ((((s.distCount 8 0).setField (fieldLE b 4 4) 6 (fieldLE b 0 1)).putCampaign
          ⟨1, fieldLE b 0 1, .idle, 0, [Target.mk (fieldLE b 4 4) 0 [] 0 false 0 0], [], 0⟩).put (.answer 0x3C33 0 Abort.ok))) ∧
      (∀ (b : Bytes), b.length = 16 → fieldLE b 0 1 ≤ 3 → timeOk (slice b 4 12) = true → fieldLE b 1 1 = 0 → s.campaign 1 (fieldLE b 0 1) = none →
        exec (.imageActivate role b) s = .next (s.put (.answer 0x3C34 0 Abort.ok))) ∧
      (∀ (b : Bytes) (c : Campaign) (t : Target), b.length = 16 → fieldLE b 0 1 ≤ 3 → timeOk (slice b 4 12) = true → fieldLE b 1 1 = 0 →
        s.campaign 1 (fieldLE b 0 1) = some c → c.targets = [t] → t.state = 3 →
        exec (.imageActivate role b) s = .next (((s.setTarget 1 (fieldLE b 0 1) { t with state := 6 }).engineCommand t.meter 0x13
          ([byte (fieldLE b 0 1), 0, 0, 0] ++ leBytes 4 (at' s.distNv.images (fieldLE b 0 1)).object ++ slice b 4 12)).put (.answer 0x3C34 0 Abort.ok))) ∧
      (∀ slot : Nat, slot ≤ 3 → s.campaign 1 slot = none → s.campaignRuns 1 slot = false →
        exec (.imageRemove role slot) s = .next ((State.emptyImage { s with dist := { s.dist with
          campaigns := s.dist.campaigns.filter (fun c => !(c.kind == 1 && c.slot == slot)) } } slot).put (.answer 0x3C35 0 Abort.ok))) ∧
      (∀ slot : Nat, 3 < slot → exec (.imageRemove role slot) s = .next (s.put (.answer 0x3C35 0 Abort.valueRange)))) ∧
  ((∀ (s : State) (kind : Fin 2) (slot : Fin 256) (c : Campaign), s.running = true → s.campaign kind slot = some c → c.phase = .offering →
      c.targets.any (fun t => t.state == 1) = false → exec (.roundStart kind slot) s = .next (s.startRound c)) ∧
    (∀ (s : State) (kind : Fin 2) (slot : Fin 256) (c : Campaign), s.running = true → s.campaign kind slot = some c →
      c.targets.any (fun t => t.state == 1) = true → exec (.roundStart kind slot) s = .next s) ∧
    (∀ (s : State) (kind : Fin 2) (slot : Fin 256) (c : Campaign), s.running = true → s.campaign kind slot = some c → c.phase = .round →
      c.lists.any (fun l => l.blocks != []) = false → c.lastBlockAt + cSec (s.cfgN 0x3C00 5 + s.cfgN 0x3C00 6 + 30) ≤ s.now → c.targets = [] →
      exec (.roundEnd kind slot) s = .next ((s.putCampaign { c with targets := [], lists := [] }).endCampaign kind slot)) ∧
    (∀ (s : State) (kind : Fin 2) (slot : Fin 256) (c : Campaign), s.running = true → s.campaign kind slot = some c →
      c.lists.any (fun l => l.blocks != []) = true → exec (.roundEnd kind slot) s = .next s) ∧
    (∀ (s : State) (port : Fin 5), s.running = true → s.dist.campaigns = [] → exec (.blockSend port) s = .next s) ∧
    (∀ (s s1 : State) (port : Fin 5) (c : Campaign) (l : BlockList) (b : Nat) (rest : List Nat), s.running = true → s.campaignTurn port = some c →
      c.lists.find? (fun l => l.port == (port : Nat)) = some l → l.blocks = b :: rest →
      let md := mediumOf port
      (s.askStore 42 distCell (c.kind * 256 + c.slot) b).bind (fun st => st.sendBlockAll port (s.blockBody c.kind c.slot md b).1 (s.blockKeys c md) l.routes (s.blockBody c.kind c.slot md b).2) = some s1 →
      let s2 := s1.putCampaign { c with lists := c.lists.map (fun y => if y.port = (port : Nat) then { y with blocks := rest } else y), lastBlockAt := s.now }
      exec (.blockSend port) s = .next (State.distCount { s2 with dist := { s2.dist with turns := s2.dist.turns.set port (c.kind * 256 + c.slot + 1) } }
        (if (port : Nat) ≤ 2 then 2 else 3) 1)) ∧
    (∀ (s : State) (port : Fin 5) (c : Campaign) (l : BlockList) (b : Nat) (rest : List Nat), s.running = true → s.campaignTurn port = some c →
      c.lists.find? (fun l => l.port == (port : Nat)) = some l → l.blocks = b :: rest →
      (s.askStore 42 distCell (c.kind * 256 + c.slot) b).bind (fun st => st.sendBlockAll port (s.blockBody c.kind c.slot (mediumOf port) b).1 (s.blockKeys c (mediumOf port)) l.routes
        (s.blockBody c.kind c.slot (mediumOf port) b).2) = none →
      exec (.blockSend port) s = .next (s.backpressure (8 + port))))

/-- R428, R431: a queue keeps its order: a cell that enters is the youngest, the moves between head, skein and tail change nothing, and what leaves
first is the oldest. R426, R428: the SRAM and the skein stay within bounds: if head and tail hold at most 16 cells each and every skein block 8, a
cell that enters keeps it so. -/
def Obligations.QueueDiscipline : Prop :=
  ((∀ (q q' : Queue) (limit : Nat) (poolFree : Bool) (c : QCell), q.placeMoving limit poolFree c = some q' → q'.cells = q.cells ++ [c]) ∧
    (∀ (q : Queue), q.spill.cells = q.cells) ∧ (∀ (q : Queue), q.refill.cells = q.cells) ∧ (∀ (q : Queue), q.tailToHead.cells = q.cells) ∧
    (∀ (q : Queue) (c : QCell) (r : List QCell), q.tailToHead.head = c :: r → q.cells = c :: ({ q.tailToHead with head := r } : Queue).cells)) ∧
  (∀ (q q' : Queue) (limit : Nat) (poolFree : Bool) (c : QCell), q.head.length ≤ 16 → q.tail.length ≤ 16 → (∀ b ∈ q.skein, b.length = 8) →
      q.placeMoving limit poolFree c = some q' →
      q'.head.length ≤ 16 ∧ q'.tail.length ≤ 16 ∧ (∀ b ∈ q'.skein, b.length = 8) ∧ q'.level = q.level + 1 ∧
      (q'.skein = q.skein ∨ q'.skein = q.skein.drop 1 ∨ 8 * q'.skein.length ≤ limit + 7))

/-- R425, R433, R434, R435, R437, R438: a push, a reservation, a pop, a status read and a DROP_PACKET. `quiet` is a queue with both marks off, for
which no event waits. -/
def Obligations.QueueCommands : Prop :=  ∀ (s : State) (i : Fin 64) (x : Queue), s.live = true → x = at' s.queue.queues i → (i : Nat) < s.queue.queues.length →
    let quiet := s.cfgN (0x4810 + i) 2 = 0 ∧ s.cfgN (0x4810 + i) 3 = 0xFFFFFFFF ∧ s.queue.waiting.any (fun w => w.queue == (i : Nat)) = false
    (∀ (producer tag : Nat) (data : Bytes), quiet → x.fenced = false → x.owner = none → x.cutting = false → x.losing = false → x.dropPending = false →
      tag % 4 = 3 → x.skein = [] → x.tail = [] → x.head.length < 16 → x.level + x.reserved < s.queueCap i →
      ∃ t, exec (.queuePush i producer false tag data) s = .next t ∧ t = { s with queue := t.queue } ∧
        (at' t.queue.queues i).cells = x.cells ++ [{ cellOf tag data with pushedAt := s.now }] ∧ (at' t.queue.queues i).owner = none ∧
        (∀ j, j ≠ (i : Nat) → at' t.queue.queues j = at' s.queue.queues j)) ∧
    (∀ (producer tag : Nat) (data : Bytes), s.pushCell i producer false (cellOf tag data) = none →
      exec (.queuePush i producer false tag data) s =
        .next { s with queue := { s.queue with queues := upd s.queue.queues i (fun q => { q with backpressured := true }) } }) ∧
    (∀ (producer tag : Nat) (data : Bytes), s.pushPacket i producer data = none →
      exec (.queuePush i producer true tag data) s = .next (s.overrun i)) ∧
    (∀ (n : Nat), x.fenced = false → x.level + x.reserved + n ≤ s.queueCap i →
      exec (.queueReserve i n) s =
        .next { s with queue := { s.queue with queues := s.queue.queues.set i { x with reserved := x.reserved + n } } }) ∧
    (∀ (n : Nat), (x.fenced = true ∨ s.queueCap i < x.level + x.reserved + n) →
      exec (.queueReserve i n) s =
        .next { s with queue := { s.queue with queues := upd s.queue.queues i (fun q => { q with backpressured := true }) } }) ∧
    (∀ (c : QCell) (r : List QCell), quiet → x.head = c :: r → x.fenced = false → x.dropPending = false →
      ∃ t, exec (.queuePop i) s = .next t ∧ t = { s with queue := t.queue } ∧ (at' t.queue.queues i).lastPop = c ∧
        x.cells = c :: (at' t.queue.queues i).cells ∧ (at' t.queue.queues i).popped = true) ∧
    (x.head = [] → x.skein = [] → x.tail = [] →
      ∃ t, exec (.queuePop i) s = .next t ∧ t = { s with queue := t.queue } ∧ (at' t.queue.queues i).underrun = true ∧
        (at' t.queue.queues i).underruns = x.underruns + 1 ∧ (at' t.queue.queues i).lastPop = x.lastPop) ∧
    (exec (.queueStatusRead i) s = .next ((State.put { s with queue := { s.queue with queues := upd s.queue.queues i (fun q => { q with
        highCrossed := false, lowCrossed := false, highCount := 0, lowCount := 0, underrun := false, overrun := false, backpressured := false }) } })
      (.value (0x4850 + i) 2 (leBytes 4 (x.status i))))) ∧
    (quiet → (x.popped = false ∨ x.lastPop.last = true ∨ x.dropPending = true ∨ x.dropDone = true) → 
      ∃ t, exec (.dropPacket i) s = .next t ∧ (at' t.queue.queues i).cells = x.cells ∧ (at' t.queue.queues i).discarded = x.discarded) ∧
    (quiet → x.popped = true → x.lastPop.last = false → x.dropPending = false → x.dropDone = false → (∀ c ∈ x.cells, c.last = false) →
      (∀ b ∈ x.skein, b.length = 8) →
      ∃ t, exec (.dropPacket i) s = .next t ∧ t = { s with queue := t.queue } ∧ (at' t.queue.queues i).cells = [] ∧
        (at' t.queue.queues i).dropPending = true ∧ (at' t.queue.queues i).discarded = x.discarded + x.cells.length)

/-- R428, R429: a block moves to the skein when 8 tail cells wait, the limit leaves room and the pool has a block, and back to the head when 8 places
are free; an exhausted pool is told once. R442, R443: the host's port: a pop gives tag and data of the oldest cell; Q7 is not popped; a wrong size is
TYPE_LENGTH; a full queue is BUSY. -/
def Obligations.SkeinAndHostPort : Prop :=
  (∀ (s : State) (i : Fin 64) (x : Queue), s.live = true → x = at' s.queue.queues i → (i : Nat) < s.queue.queues.length →
      (s.wantsSpill i = true → s.queue.poolFree = true →
        exec (.skeinSpill i) s = .next { s with queue := { s.queue with
          queues := upd s.queue.queues i (fun q => { q with skein := q.skein ++ [q.tail.take 8], tail := q.tail.drop 8 }), exhausted := false
          totals := upd s.queue.totals 1 (· + 1) } }) ∧
      (s.wantsSpill i = true → s.queue.poolFree = false → s.queue.exhausted = false →
        exec (.skeinSpill i) s = .next (State.event { s with queue := { s.queue with exhausted := true } } 0x4806 0x4000
          ([byte i, 0, 0, 0] ++ leBytes 4 s.queue.poolMiB))) ∧
      (∀ (b : List QCell) (r : List (List QCell)) (addr : Nat), x.skein = b :: r → x.head.length + 8 ≤ 16 → 
        s.queue.waiting.any (fun w => w.queue == (i : Nat)) = false →
        ∃ t, exec (.skeinRefill i false addr) s = .next t ∧ t = { s with queue := t.queue } ∧ (at' t.queue.queues i).cells = x.cells ∧
          (at' t.queue.queues i).skein = r) ∧
      (∀ (lost : Bool) (addr : Nat), x.skein = [] → exec (.skeinRefill i lost addr) s = .next s)) ∧
  (∀ (s : State) (role : Nat), TakesCommands s → roleMay role .operator = true →
      (∀ (c : QCell) (r : List QCell), s.hostQueue ≠ 7 → (at' s.queue.queues s.hostQueue).fenced = false →
        (at' s.queue.queues s.hostQueue).dropPending = false → (at' s.queue.queues s.hostQueue).head = c :: r →
        ∃ t : State, exec (.hostPop role 1) s = .next (t.put (.answer 0x48C0 2 Abort.ok)) ∧ t.queue.hostPop = leBytes 2 c.tag ++ c.data) ∧
      (s.hostQueue = 7 → exec (.hostPop role 1) s = .next (s.put (.answer 0x48C0 2 Abort.valueInconsistent))) ∧
      (s.hostQueue = 7 → exec (.hostDropPacket role 1) s = .next (s.put (.answer 0x48C0 5 Abort.valueInconsistent))) ∧
      (s.hostQueue ≠ 7 → exec (.hostDropPacket role 1) s = .next ((dropPacket s.hostQueue s).put (.answer 0x48C0 5 Abort.ok))) ∧
      (∀ (cell : Bytes), cell.length ≠ 66 → exec (.hostPush role cell) s = .next (s.put (.answer 0x48C0 4 Abort.typeLength))) ∧
      (∀ (cell : Bytes) (t : State), cell.length = 66 → s.hostQueue ≠ 7 → s.hostQueue ≠ 15 → 
        tagBad (at' s.queue.queues s.hostQueue) (fieldLE cell 0 2) = false → (at' s.queue.queues s.hostQueue).fenced = false →
        s.pushCell s.hostQueue 0x8100 false (cellOf (fieldLE cell 0 2) (cell.drop 2)) = some t →
        exec (.hostPush role cell) s = .next (t.put (.answer 0x48C0 4 Abort.ok))) ∧
      (∀ (cell : Bytes), cell.length = 66 → s.hostQueue ≠ 7 → s.hostQueue ≠ 15 → 
        tagBad (at' s.queue.queues s.hostQueue) (fieldLE cell 0 2) = false → (at' s.queue.queues s.hostQueue).fenced = false →
        s.pushCell s.hostQueue 0x8100 false (cellOf (fieldLE cell 0 2) (cell.drop 2)) = none →
        exec (.hostPush role cell) s = .next (s.put (.answer 0x48C0 4 Abort.busy))))

/-- R81: events that have waited 1 ms for a place are counted as lost against their sources; a source's losses are told once its queue has room. R19,
R21: in a window a region is granted at most its share while FabricBorrow is off, and the window changes the fabric alone. -/
def Obligations.EventsAndFabric : Prop :=
  ((∀ (s : State), s.live = true → ∃ t, exec .eventPlaceTimeout s = .next t ∧ t = { s with queue := t.queue, dict := t.dict } ∧
      (∀ w, w ∈ t.queue.waiting ↔ w ∈ s.queue.waiting ∧ s.now < w.since + cMs 1) ∧
      t.queue = { s.queue with waiting := t.queue.waiting } ∧ t.dict = { s.dict with lostEvents := t.dict.lostEvents }) ∧
    (∀ (s : State) (w : WaitingEvent), s.live = true → s.queue.waiting = [w] → w.since + cMs 1 ≤ s.now → s.dict.lostEvents = [] →
      exec .eventPlaceTimeout s = .next { s with queue := { s.queue with waiting := [] }, dict := { s.dict with lostEvents := [(w.record.cell, 1)] } }) ∧
    (∀ (s : State) (cell n : Nat), s.live = true → s.dict.lostEvents = [(cell, n)] → s.queue.waiting = [] →
      (at' s.queue.queues (eventQueue 0x1008 cell)).level + (at' s.queue.queues (eventQueue 0x1008 cell)).reserved < s.queueCap (eventQueue 0x1008 cell) →
      exec .eventsLost s = .next (State.event { s with dict := { s.dict with lostEvents := [] } } 0x1008 cell (leBytes 4 n))) ∧
    (∀ (s : State), s.live = true → s.dict.lostEvents = [] → exec .eventsLost s = .next s)) ∧
  (∀ (s : State) (requests : List (Nat × Nat)), s.live = true → ∃ t, exec (.fabricWindow requests) s = .next t ∧ t = { s with fabric := t.fabric } ∧
      (s.cfgN 0x6011 0 ≠ 1 → s.fabric.granted.length = 6 → ∀ r < 6, at' t.fabric.granted r ≤ s.share r))

/-- R450 to R452, R458, R459: a record of Q41 is appended while the store is READY and discarded and counted while it is READ_ONLY; records that have
waited BatchAge are sealed. R452, R461, R468, R471, R473, R475: a stripe is programmed with its parity, and its units are mapped when it is done; a
failed one is written again. -/
def Obligations.RecordsAndStripes : Prop :=
  ((∀ (s s1 : State) (b : Bytes), s.live = true → s.store.mode = .ready → s.appendBlocked = false → s.popPacket 41 = some (s1, b, false) → b.length = 32 →
      exec .recordAppend s = .next (s1.appendRecord b)) ∧
    (∀ (s s1 : State) (b : Bytes), s.live = true → s.store.mode = .readOnly → s.popPacket 41 = some (s1, b, false) → b.length = 32 →
      exec .recordAppend s = .next (let t := s1.storeCount 14 1
        { t with store := { t.store with discarded := sat32 s1.store.discarded } })) ∧
    (∀ (s : State), s.live = true → s.store.mode = .mounting → exec .recordAppend s = .next s) ∧
    (∀ (s : State) (r : Bytes), s.store.mode = .ready → s.store.openDay = s.utcDay → s.store.openRecs ≠ [] → s.store.openRecs.length < 511 →
      s.store.indexCount + 1 < s.cfgN 0x4C01 5 → s.store.nextAseq < s.root.floor →
      s.appendRecord r = State.storeCount { s with store := { s.store with
          nextAseq := s.store.nextAseq + 1, openRecs := s.store.openRecs ++ [(s.store.nextAseq, r)]
          index := addBatch (fieldLE r 4 3) (4 * s.store.openMun + s.store.openRecs.length / 128) s.store.index
          indexCount := s.store.indexCount + 1 } } (if 128 ≤ fieldLE r 7 1 then 2 else 1) 1) ∧
    (∀ (s : State), s.running = true → s.store.mode = .ready → s.cfgN 0x4C01 4 ≠ 0 → (s.stream 0).units = [] → s.store.openRecs ≠ [] →
      s.store.openSince + cSec (s.cfgN 0x4C01 4) ≤ s.now → exec .batchAgeSeal s = .next s.forceSeal) ∧
    (∀ (s : State), s.running = true → s.cfgN 0x4C01 4 = 0 → exec .batchAgeSeal s = .next s)) ∧
  ((∀ (s s1 : State) (k : Fin 4), s.live = true → s.store.mode = .ready → (s.stream k).flying = [] → (s.stream k).units ≠ [] → s.readyStream k = some s1 →
      let x := s1.stream k
      let dies := (s1.sb (x.sb.getD 0)).dies
      let cap := s1.stripeUnits dies
      0 < cap → cap ≤ x.units.length →
      exec (.stripeProgram k) s = .next (((s1.updNv (fun n => { n with
          pages := n.pages ++ s1.stripePages (x.sb.getD 0) x.page (s1.storeNv.pseq + 1) dies (x.units.take cap ++ List.replicate (cap - (x.units.take cap).length) (padUnit s.now))
          pseq := s1.storeNv.pseq + 1 })).updStream k (fun y => { y with
            units := x.units.drop cap, flying := x.units.take cap, flyingPseq := s1.storeNv.pseq + 1, page := y.page + 1
            force := y.force && x.units.drop cap != [] })).storeCount 4 1)) ∧
    (∀ (s : State) (k : Fin 4), s.live = true → (s.stream k).units = [] → exec (.stripeProgram k) s = .next s) ∧
    (∀ (s : State) (k : Fin 4), s.live = true → (s.stream k).flying ≠ [] → s.journalRoom ((s.stream k).flying.length + 1) = true →
      exec (.programComplete k none) s = .next (s.programDone k) ∧
      (∀ d p : Nat, exec (.programComplete k (some (d, p))) s = .next (s.programFailed k d p))) ∧
    (∀ (s : State) (k : Fin 4) (failed : Option (Nat × Nat)), s.live = true → (s.stream k).flying = [] → exec (.programComplete k failed) s = .next s) ∧
    (∀ (s : State) (k d p : Nat), k < s.store.streams.length → ((s.programFailed k d p).stream k).flying = []))

/-- R456, R462, R463, R476, R478: reads, the patrol and relocation. R457 to R459, R470, R471, R474, R475, R477: days are reclaimed, superblocks
collected, erased and moved, a die is given up, and a full store resumes. R457, R469, R479, R480, R484: checkpoints of the map, images of the meter
table, FORMAT, and RECLAIM_THROUGH. -/
def Obligations.StoreService : Prop :=
  ((∀ (s s1 : State) (q : Fin 2) (b : Bytes) (a : Bool) (reads : List UnitRead), s.live = true → s.storeReads = true →
      s.popPacket (42 + q) = some (s1, b, a) → exec (.storeRead q reads) s = .next (reads.foldl State.readEffects s1)) ∧
    (∀ (s : State) (q : Fin 2) (reads : List UnitRead), s.live = true → s.storeReads = false → exec (.storeRead q reads) s = .next s) ∧
    (∀ (s : State) (r : UnitRead) (l : Loc), lookupKey r.mun s.storeNv.map = some (some l) → r.bad = [] → r.retries = 0 → r.bits ≤ s.cfgN 0x4C01 9 →
      (s.die l.die).state ≠ 2 → s.readEffects r = (s.storeCount 9 r.corrected).storeCount 10 0) ∧
    (∀ (s : State) (sb : Nat) (r : UnitRead), s.running = true → s.store.mode = .ready → s.cfgN 0x4C01 10 ≠ 0 → sb < s.storeNv.sbs.length →
      (s.sb sb).state = .closed → (s.validIn sb).any (fun p => p.1 == r.mun) = true →
      exec (.patrolRead sb [r]) s = .next (s.readEffects r)) ∧
    (∀ (s : State) (sb : Nat) (reads : List UnitRead), s.running = true → s.cfgN 0x4C01 10 = 0 → exec (.patrolRead sb reads) s = .next s) ∧
    (∀ (s : State) (m : Nat) (l : Loc), s.running = true → s.store.mode = .ready → s.store.weak = [m] → lookupKey m s.storeNv.map = some (some l) →
      exec .unitRelocate s = .next (State.copyUnits { s with store := { s.store with weak := [] } } 2 3 [(m, l)])) ∧
    (∀ (s : State), s.running = true → s.store.mode = .readOnly → exec .unitRelocate s = .next s)) ∧
  ((∀ (s : State) (d : DayDir), s.running = true → s.store.mode = .ready → s.reclaimDue = true → s.journalRoom 1 = true → s.dueDay = some d →
      exec .dayReclaimed s = .next (s.reclaimSealed d.day)) ∧
    (∀ (s : State), s.running = true → s.reclaimDue = false → exec .dayReclaimed s = .next s) ∧
    (∀ (s : State) (i : Nat), s.running = true → s.store.mode = .ready → s.relocateDies = s → s.freeSbs.length < s.cfgN 0x4C01 3 →
      s.closedSbs.find? (fun i => s.validIn i == []) = some i →
      exec .garbageCollection s = .next (s.updSb i (fun b => { b with state := .erasing }))) ∧
    (∀ (s : State), s.running = true → s.store.mode = .readOnly → exec .garbageCollection s = .next s) ∧
    (∀ (s : State) (i : Nat), s.live = true → i < s.storeNv.sbs.length → (s.sb i).state = .erasing → s.journalRoom 2 = true →
      exec (.eraseComplete i none) s = .next ((((s.journal 0 i 0 3).updNv (fun n => { n with pages := n.pages.filter (fun p => p.at'.sb ≠ i) })).updSb i
        (fun b => { b with state := .free, erases := b.erases + 1 })).storeCount 8 1)) ∧
    (∀ (s : State) (i : Nat) (failed : Option (Nat × Nat)), s.live = true → (s.sb i).state = .free → exec (.eraseComplete i failed) s = .next s) ∧
    (∀ (s : State) (src dst : Nat), s.running = true → s.store.mode = .ready → (s.stream 3).sb = none → (s.stream 3).units = [] → (s.stream 3).flying = [] →
      s.cfgN 0x4C01 6 < s.eraseSpread → leastBy (fun i => (s.sb i).erases) s.closedSbs = some src →
      leastBy (fun i => 0xFFFFFFFF - (s.sb i).erases) s.freeSbs = some dst → s.validIn src ≠ [] →
      exec .wearMove s = .next (((s.openSb 3 dst).copyUnits 3 2 (s.validIn src)).event 0x4C0C 0x4200 (leBytes 2 src ++ leBytes 2 dst ++ leBytes 2 s.eraseSpread))) ∧
    (∀ (s : State), s.running = true → s.eraseSpread ≤ s.cfgN 0x4C01 6 → exec .wearMove s = .next s) ∧
    (∀ (s : State) (d : Fin 16), s.running = true → (s.die d).state = 2 →
      (List.range s.storeNv.sbs.length).all (fun i => !(s.sb i).dies.contains (d : Nat) || s.validIn i == []) = true →
      exec (.dieRebuildDone d) s = .next ((s.updDie d (fun x => { x with state := 3 })).event 0x4C08 (0x4300 + d)
        (leBytes 4 (s.die d).relocated ++ leBytes 4 ((s.now - (s.die d).retiringAt) / cSec 1)))) ∧
    (∀ (s : State) (d : Fin 16), s.running = true → (s.die d).state ≠ 2 → exec (.dieRebuildDone d) s = .next s) ∧
    (∀ (s : State), s.running = true → s.store.mode = .readOnly → 2 ≤ s.freeSbs.length → 2 ≤ s.activeDies.length →
      exec .storeResumed s = .next (State.event { s with store := { s.store with mode := .ready } } 0x4C04 0x4200 (leBytes 4 s.freeSbs.length))) ∧
    (∀ (s : State), s.running = true → s.store.mode = .readOnly → s.store.fullAt + cSec 3600 ≤ s.now → exec .storeFullHourly s = .next s.fullAlarm) ∧
    (∀ (s : State), s.running = true → s.store.mode = .ready → exec .storeFullHourly s = .next s)) ∧
  ((∀ (s : State), s.running = true → s.store.mode = .ready → s.store.ckpting = false → s.storeNv.otherHalf = true → s.root.units = 0 →
      exec .mapCheckpoint s = .next { s with store := { s.store with ckpting := true, ckptLocs := [] } }) ∧
    (∀ (s : State), s.running = true → s.store.ckpting = true → exec .mapCheckpoint s = .next s) ∧
    (∀ (s : State), s.live = true → s.store.ckpting = true → s.store.streams.any (fun x => (x.units ++ x.flying).any (fun u => u.kind == 6)) = false →
      exec .checkpointComplete s = .next (let t := s.updNv (fun n => { n with
          otherHalf := false, root := n.root.map (fun r => { r with checkpoint := s.store.ckptLocs, lastDurable := n.durable }) })
        { t with store := { t.store with ckpting := false, ckptLocs := [] } })) ∧
    (∀ (s t : State) (u : Fin 16384), s.live = true → s.store.mode = .ready → (s.unitUsed u = true ∨ s.store.dueUnits.contains (u : Nat) = true) → s.store.snaps.any (fun x => x.unit == (u : Nat)) = false →
      s.store.imagesOwed.contains (u : Nat) = false → s.pushPacket 40 0x2200 (leBytes 4 u) = some t →
      exec (.imageUnitWrite u) s = .next { t with store := { t.store with
        snaps := t.store.snaps ++ [Snap.mk u (t.imageBytes u)], dueUnits := t.store.dueUnits.filter (· ≠ (u : Nat)) } }) ∧
    (∀ (s : State) (u : Fin 16384), s.live = true → s.unitUsed u = false → s.store.dueUnits.contains (u : Nat) = false → exec (.imageUnitWrite u) s = .next s) ∧
    (∀ (s : State) (role : Nat), TakesCommands s → roleMay role .keyholder = true →
      (s.store.mode = .ready → exec (.format role 0xA5) s =
        .next (State.put { s with store := { s.store with mode := .formatting, formatReady := true } } (.answer 0x4C30 1 Abort.ok))) ∧
      (∀ v : Nat, v ≠ 0xA5 → exec (.format role v) s =
        .next (State.put { s with store := { s.store with abort := Abort.valueRange } } (.answer 0x4C30 1 Abort.valueRange))) ∧
      (s.store.mode = .formatting → exec (.format role 0xA5) s =
        .next (State.put { s with store := { s.store with abort := Abort.busy } } (.answer 0x4C30 1 Abort.busy)))) ∧
    (∀ (s : State) (bad : List (Nat × Nat × Nat)), s.running = true → s.store.mode = .formatting → s.store.formatReady = false →
      ∃ t, exec (.formatComplete bad) s = .next t ∧ t.store.mode = .ready ∧ t.store.imagesOwed = [] ∧ t.storeNv.map = [] ∧ t.storeNv.days = [] ∧
        t.store.nextAseq = 0 ∧ t.mtr = s.mtr ∧ t.cfg = s.cfg ∧ t.queue = s.queue) ∧
    (∀ (s : State) (bad : List (Nat × Nat × Nat)), s.running = true → s.store.mode = .ready → exec (.formatComplete bad) s = .next s) ∧
    (∀ (s : State) (role day : Nat), TakesCommands s → roleMay role .operator = true →
      (s.store.mode = .mounting → exec (.reclaimThrough role day) s =
        .next (State.put { s with store := { s.store with abort := Abort.notInState } } (.answer 0x4C30 3 Abort.notInState))) ∧
      (s.store.mode = .ready → s.reclaimable day = true → s.flushDay day = s → s.storeNv.days = [] → s.tryResume = s →
        exec (.reclaimThrough role day) s = .next (s.put (.answer 0x4C30 3 Abort.ok))) ∧
      (∀ d : DayDir, s.store.mode = .ready → s.reclaimable day = true → s.flushDay day = s → s.storeNv.days = [d] → d.day ≤ day →
        exec (.reclaimThrough role day) s = .next ((s.reclaimDay d).tryResume.put (.answer 0x4C30 3 Abort.ok)))))

/-- R490, R492, R514: frames of a port: one of a port not in use is not taken, a bad one is dropped and counted; departures and the link's state. R509
to R513: an import datagram is refused by its form, its tag or its gateway, or its frames enter Q6; a return datagram goes to the meter's gateway. -/
def Obligations.EthernetAndImport : Prop :=
  ((∀ (s : State) (p : Fin 2) (capture : Nat) (frame : Bytes), s.live = true → s.ethUsable p = false →
      exec (.ethFrameReceived p capture frame) s = .next s) ∧
    (∀ (s : State) (p : Fin 2) (capture : Nat) (frame : Bytes), s.live = true → s.ethUsable p = true → frame.length < 18 →
      exec (.ethFrameReceived p capture frame) s = .next ((s.ethCount p 1).ethCount p 2)) ∧
    (∀ (s : State) (p : Fin 2) (capture : Nat) (frame : Bytes), s.live = true → s.ethUsable p = true → 1522 < frame.length →
      leBytes 4 (crc32 (frame.take (frame.length - 4))) = frame.drop (frame.length - 4) →
      exec (.ethFrameReceived p capture frame) s = .next ((s.ethCount p 1).ethCount p 3)) ∧
    (∀ (s : State) (p : Fin 2) (capture : Nat) (frame : Bytes) (i : IpParts), s.live = true → s.ethUsable p = true → 18 ≤ frame.length → frame.length ≤ 1522 →
      let f := frame.take (frame.length - 4)
      leBytes 4 (crc32 f) = frame.drop (frame.length - 4) → (ethParts f).vlan.getD 0 = s.cfgN (0x5000 + p) 5 → (ethParts f).etherType = 0x0800 →
      ipParts 0x0800 (ethParts f).body = some i → i.frag = false → i.protocol = 17 → udpOk i = true →
      exec (.ethFrameReceived p capture frame) s = .next ((s.ethCount p 1).udpReceived p capture (s.cfgN (0x5000 + p) 5) f i)) ∧
    (∀ (s : State) (p : Fin 2) (capture tag : Nat) (frame : Bytes) (t : State), s.live = true → s.ethUsable p = true →
      ((s.ethCount p 8).put (.eth p frame)).pushOrDrop 53 (0x6000 + p)
        (padTo 64 (time80 (s.tdAt 0 (s.ethTxStamp p capture)) ++ [byte p, 0] ++ leBytes 2 tag ++ leBytes 2 frame.length) ++ frame) = (t, true) →
      exec (.departureEcho p capture tag frame) s = .next t) ∧
    (∀ (s : State) (p : Fin 2) (capture tag : Nat) (frame : Bytes), s.live = true → s.ethUsable p = false →
      exec (.departureEcho p capture tag frame) s = .next s) ∧
    (∀ (s : State) (p : Fin 2), s.live = true → s.cfgN (0x5000 + p) 1 = 1 → s.inService (0x6000 + p) = true → (at' s.up.eth p).up = false →
      exec (.ethLinkChanged p true) s = .next (State.event { s with up := { s.up with
        eth := upd s.up.eth p (fun y => { y with up := true, speed := s.cfgN (0x5000 + p) 2 }) } } 0x5001 (0x6000 + p)
        [byte p, 1, byte (s.cfgN (0x5000 + p) 2)])) ∧
    (∀ (s : State) (p : Fin 2), s.live = true → (at' s.up.eth p).up = true →
      exec (.ethLinkChanged p false) s = .next ((State.event { s with up := { s.up with
        eth := upd s.up.eth p (fun y => { y with up := false, speed := s.cfgN (0x5000 + p) 2 }) } } 0x5001 (0x6000 + p)
        [byte p, 0, byte (s.cfgN (0x5000 + p) 2)]).raiseError (0x6000 + p) 0x0016)) ∧
    (∀ (s : State) (p : Fin 2), s.live = true → (at' s.up.eth p).up = false → exec (.ethLinkChanged p false) s = .next s)) ∧
  ((∀ (s : State) (v : Via) (stamp : Int) (b : Bytes), s.running = true → s.cfgN 0x5020 1 = 0 → exec (.importDatagram v stamp b) s = .next s) ∧
    (∀ (s : State) (v : Via) (stamp : Int) (b : Bytes), s.running = true → s.cfgN 0x5020 1 ≠ 0 → s.inService 0x6200 = true → importBody b = none →
      exec (.importDatagram v stamp b) s = .next (s.impReject 1 (fieldLE b 4 8))) ∧
    (∀ (s : State) (v : Via) (stamp : Int) (b : Bytes) (es : List ImportEntry), s.running = true → s.cfgN 0x5020 1 ≠ 0 → s.inService 0x6200 = true →
      importBody b = some es → bit (fieldLE b 3 1) 0 = false → s.cfgN 0x5020 2 ≠ 0 → exec (.importDatagram v stamp b) s = .next (s.impReject 2 (fieldLE b 4 8))) ∧
    (∀ (s : State) (v : Via) (stamp : Int) (b : Bytes) (es : List ImportEntry), s.running = true → s.cfgN 0x5020 1 ≠ 0 → s.inService 0x6200 = true →
      importBody b = some es → bit (fieldLE b 3 1) 0 = false → s.cfgN 0x5020 2 = 0 → s.gatewayListed (fieldLE b 4 8) = true →
      exec (.importDatagram v stamp b) s = .next (es.foldl (fun st e => st.importEntry (fieldLE b 4 8) stamp e) (s.noteGateway (fieldLE b 4 8) v))) ∧
    (∀ (s s1 : State) (b : Bytes), s.live = true → s.inService 0x6200 = true → s.popPacket 14 = some (s1, b, false) →
      s1.up.imp.returns.find? (fun r => r.eui == fieldLE b 0 8) = none → exec .returnDatagram s = .next (s1.impCount 6).passReacks) ∧
    (∀ (s s1 : State) (b : Bytes) (r : ReturnEntry) (g : Gateway), s.live = true → s.inService 0x6200 = true → s.popPacket 14 = some (s1, b, false) →
      s1.up.imp.returns.find? (fun r => r.eui == fieldLE b 0 8) = some r → s1.up.imp.gateways.find? (fun x => x.eui == r.gateway) = some g →
      s1.cfgN 0x5020 2 = 0 →
      exec .returnDatagram s = .next (State.passReacks ((s1.takeImportSeq.1.impCount 5).udpSend
        { transport := if g.family = 4 then 0 else 1, port := g.ethPort, vlan := g.vlan, udpPort := g.udpPort, address := g.address } (s1.cfgN 0x5002 3)
        (returnBytes s1.up.imp.seq r.linkType (fieldLE b 8 4) (fieldLE b 0 8) (b.drop 64) none)))) ∧
    (∀ (s : State), s.live = true → s.popPacket 14 = none → exec .returnDatagram s = .next s.passReacks))

/-- R498 to R500, R505, R508: records enter the datagram in the making, which is sent when it has waited ExportHoldoff, or empty after silence. R501
to R504: an acknowledgement that is not good is dropped and counted; a good one frees what it covers and ends a stall; unacknowledged datagrams are
sent again; silence is a stall, and a long one sheds. R498, R506, R507: the key switch, the persistence of the acknowledged sequence, and a session on
demand. -/
def Obligations.Export : Prop :=
  ((∀ (s k s1 : State) (key b b' : Bytes) (q : Nat) (ls : ExportState) (ab : Bool), s.live = true → s.inService 0x6100 = true → s.pickExport = some (q, ls) →
      s.exportsToQ20 = false → s.exportTarget.isSome = true → s.exportKeyHeld = (k, some key) →
      ((at' s.queue.queues q).cells.take ((at' s.queue.queues q).cells.findIdx (·.last) + 1)).any (·.abort) = false →
      let t : State := { k with up := { k.up with exp := { ls with keyRaised := k.up.exp.keyRaised, state := k.up.exp.state } } }
      let r := exportRecord (exportOf q b).1 (exportOf q b).2.1 (exportOf q b).2.2
      t.peekPacket q = some b → t.kindOff q = false → t.popPacket q = some (s1, b', ab) → ls.building ≠ [] → ls.session = none →
      ls.building.length + r.length ≤ 1360 →
      exec .exportRecordTake s = .next (s1.updExp (fun y => { y with building := y.building ++ r, buildCount := y.buildCount + 1 }))) ∧
    (∀ (s : State), s.live = true → s.pickExport = none → exec .exportRecordTake s = .next s) ∧
    (∀ (s : State), s.live = true → s.inService 0x6100 = false → exec .exportRecordTake s = .next s) ∧
    (∀ (s : State), s.live = true → s.up.exp.building ≠ [] → s.up.exp.buildAt + cUs (s.cfgN 0x5010 3) ≤ s.now → s.inService 0x6100 = true → s.keyStale = false →
      exec .exportHoldoff s = .next s.closeDatagram) ∧
    (∀ (s : State), s.live = true → s.up.exp.building = [] → exec .exportHoldoff s = .next s) ∧
    (∀ (s : State), s.live = true → s.up.exp.building = [] → s.up.exp.lastSentAt + cSec (s.cfgN 0x5010 6) ≤ s.now → s.inService 0x6100 = true →
      s.mayStart = true → exec .keepAlive s = .next s.closeDatagram) ∧
    (∀ (s : State), s.live = true → s.up.exp.building ≠ [] → exec .keepAlive s = .next s) ∧
    (∀ (s k : State) (key : Bytes), s.exportKey = (k, some key) → s.up.exp.session = none →
      ((s.closeDatagram).up.exp.building = [] ∧ (s.closeDatagram).up.exp.outstanding.length = k.up.exp.outstanding.length + 1))) ∧
  ((∀ (s : State) (v : Via) (b : Bytes), s.live = true → s.inService 0x6100 = true → s.ackBad v b = true →
      exec (.exportAck v b) s =
        .next ((if s.keyInUse.isSome = true then s else (s.deliverKey .exporter s.up.exp.slot (.raw 3)).1).expCount 5 1)) ∧
    (∀ (s k : State) (v : Via) (b : Bytes), s.live = true → s.inService 0x6100 = true → s.ackBad v b = false → s.keyInUse.isSome = true →
      gmac (s.reg .exporter).key (exportIv 1 (fieldLE b 4 8)) (b.take 44) ≠ b.drop 44 → exec (.exportAck v b) s = .next (s.expCount 5 1)) ∧
    (∀ (s k : State) (v : Via) (b : Bytes), s.live = true → s.inService 0x6100 = true → s.ackBad v b = false →
      (if s.keyInUse.isSome = true then (s, 0) else s.deliverKey .exporter s.up.exp.slot (.raw 3)) = (k, 0) → gmac (k.reg .exporter).key (exportIv 1 (fieldLE b 4 8)) (b.take 44) = b.drop 44 →
      s.up.exp.state = 0 →
      exec (.exportAck v b) s = .next ((k.expCount 4 1).updExp (fun y => { y with
        cum := max s.up.exp.cum (fieldLE b 24 8), window := fieldLE b 40 2, ackHigh := some (fieldLE b 4 8)
        outstanding := unacked y.outstanding (fieldLE b 24 8) (fieldLE b 32 8), lastAckAt := s.now, state := 0, shedAt := none, shedSince := 0 }))) ∧
    (∀ (s k : State) (key : Bytes), s.live = true → s.inService 0x6100 = true → s.exportTarget.isSome = true → s.exportKeyHeld = (k, some key) →
      (s.up.exp.ackHigh = none ∨ s.up.exp.window ≠ 0) →
      exec .exportRetransmit s = .next ((s.up.exp.outstanding.filter (fun d => decide (d.sentAt + d.rto ≤ s.now))).foldl State.resend k)) ∧
    (∀ (s : State), s.live = true → s.inService 0x6100 = false → exec .exportRetransmit s = .next s) ∧
    (∀ (s : State), s.live = true → s.inService 0x6100 = false → s.up.exp.state = 0 →
      exec .exportStalled s = .next ((s.updExp (fun y => { y with state := 1, stalledAt := s.now })).event 0x5003 0x6100
        (leBytes 4 s.up.exp.outstanding.length ++ leBytes 8 s.up.exp.cum))) ∧
    (∀ (s : State), s.live = true → s.up.exp.state = 1 → exec .exportStalled s = .next s) ∧
    (∀ (s : State), s.live = true → s.up.exp.state = 1 → s.cfgN 0x5010 10 = 1 → s.up.exp.stalledAt + cSec (s.cfgN 0x5010 11) ≤ s.now →
      (∀ q ∈ [16, 17, 18, 19], (at' s.queue.queues q).level = 0) → exec .exportShed s = .next (s.updExp (fun y => { y with state := 2 }))) ∧
    (∀ (s : State), s.live = true → s.up.exp.state = 0 → exec .exportShed s = .next s)) ∧
  ((∀ (s k : State) (key : Bytes), s.live = true → s.keyStale = true → s.inService 0x6100 = true → s.exportKey = (k, some key) → s.up.exp.outstanding = [] →
      exec .exportKeySwitch s = .next (k.updExp (fun x => { x with slot := k.exportSlot.1, gen := k.exportSlot.2, keyWaitAt := none, session := some 1 }))) ∧
    (∀ (s k : State) (key : Bytes), s.live = true → s.keyStale = true → s.inService 0x6100 = true → s.exportKey = (k, some key) → s.up.exp.outstanding ≠ [] →
      s.up.exp.keyWaitAt = none → exec .exportKeySwitch s = .next (s.exportKeyHeld.1.updExp (fun y => { y with keyWaitAt := some s.now }))) ∧
    (∀ (s : State), s.live = true → s.keyStale = false → exec .exportKeySwitch s = .next s) ∧
    (∀ (s : State), s.live = true → s.up.exp.persistAt + cSec 1 ≤ s.now → s.upNv.cum ≠ s.up.exp.cum →
      exec .cumPersist s = .next { s with up := { s.up with exp := { s.up.exp with persistAt := s.now } }, upNv := { s.upNv with cum := s.up.exp.cum } }) ∧
    (∀ (s : State), s.live = true → s.now < s.up.exp.persistAt + cSec 1 → exec .cumPersist s = .next s) ∧
    (∀ (s : State) (role : Nat), TakesCommands s → roleMay role .operator = true →
      exec (.exportSessionStart role 1) s = .next (if s.inService 0x6100 = true then (s.updExp (fun x => { x with session := some 3 })).put (.answer 0x5011 3 Abort.ok)
        else s.put (.answer 0x5011 3 Abort.fenced))))

/-- R525 to R528: what an offset sample does: a jump of a synchronised domain is refused and starts HOLDOVER, a large offset or an unsynchronised
domain is stepped, a small one moves the frequency, and where the hardware servo is off the sample only judges the state; other sources take none.
R525: a source that stays away puts its domain into HOLDOVER, and one that stays away beyond HoldoverLimit leaves it unsynchronised, told by 0x5405.
R522, R525, R528, R529, R531: the commands on a domain. -/
def Obligations.TimeDomains : Prop :=
  (∀ (s : State) (k : Fin 8) (theta : Int), s.live = true →
      let s1 := s.updDom k (fun d => { d with lastOffset := theta, lastSampleAt := s.now })
      (sampled (s.source k) = false → exec (.offsetSample k theta) s = .next s) ∧
      (sampled (s.source k) = true → s.hardwareServo k = true → (s.dom k).sync = true → s.domCfg k 8 < theta.natAbs →
        exec (.offsetSample k theta) s = .next (((s1.refuseJump k 0 theta).enterHoldover k 2).settleTime)) ∧
      (sampled (s.source k) = true → s.hardwareServo k = true → (s.dom k).sync = false →
        exec (.offsetSample k theta) s = .next ((s1.servoStep k theta).settleTime)) ∧
      (sampled (s.source k) = true → s.hardwareServo k = true → (s.dom k).sync = true → theta.natAbs ≤ s.domCfg k 8 → theta.natAbs ≤ s.domCfg k 7 →
        exec (.offsetSample k theta) s = .next ((s1.servoFreq k theta).settleTime)) ∧
      (sampled (s.source k) = true → s.hardwareServo k = false → exec (.offsetSample k theta) s = .next ((s1.judgeSample k theta).settleTime))) ∧
  (∀ (s : State) (k : Fin 8), s.live = true →
      (sampled (s.source k) = true → (s.dom k).state = .locked → (s.dom k).lastSampleAt + cMs (s.domCfg k 9) ≤ s.now →
        exec (.sourceLost k) s = .next (s.enterHoldover k 1)) ∧
      (s.now < (s.dom k).lastSampleAt + cMs (s.domCfg k 9) → exec (.sourceLost k) s = .next s) ∧
      ((s.dom k).state = .holdover → s.source k ≠ 5 → (s.dom k).holdoverAt + cSec (s.domCfg k 10) ≤ s.now →
        exec (.syncLost k) s = .next (((s.updDom k (fun x => { x with state := .unsync, sync := false })).settleTime).event 0x5405 (domCell k)
          ([byte k, 0, 0, 0] ++ leBytes 4 ((s.now - (s.dom k).holdoverAt) / cSec 1)))) ∧
      ((s.dom k).state = .locked → exec (.syncLost k) s = .next s)) ∧
  (∀ (s : State) (k : Fin 8) (role : Nat), TakesCommands s → roleMay role .operator = true →
      (∀ v : Nat, s.source k = 0 → periodOk v = true →
        exec (.periodWrite k role v) s = .next ((s.setPeriod k v).put (.answer (0x5421 + k) 1 Abort.ok))) ∧
      (∀ v : Nat, s.source k = 0 → periodOk v = false → exec (.periodWrite k role v) s = .next (s.put (.answer (0x5421 + k) 1 Abort.valueRange))) ∧
      (∀ v : Nat, s.source k = 5 → exec (.periodWrite k role v) s = .next (s.put (.answer (0x5421 + k) 1 Abort.notInState))) ∧
      (∀ delta : Int, (s.dom k).sync = true → s.domCfg k 8 < delta.natAbs →
        exec (.stepRequest k role delta) s = .next ((s.refuseJump k 1 delta).put (.answer (0x5421 + k) 2 Abort.valueRange))) ∧
      (∀ delta : Int, (s.dom k).sync = true → delta.natAbs ≤ s.domCfg k 8 →
        exec (.stepRequest k role delta) s = .next (((s.stepDom k (nsUnits delta)).event 0x5403 (domCell k) ([byte k, 1, 0, 0] ++ leInt 8 delta)).put
          (.answer (0x5421 + k) 2 Abort.ok))) ∧
      (∀ delta : Int, exec (.forcedStep k role delta) s = .next ((s.forceStep k 2 (nsUnits delta)).put (.answer (0x5421 + k) 3 Abort.ok))) ∧
      (∀ b : Bytes, b.length = 12 → timeOk b = true →
        exec (.setTime k role b) s = .next ((s.forceStep k 3 (ofTime80 b - (s.dom k).at s.now)).put (.answer (0x5421 + k) 4 Abort.ok))) ∧
      (∀ b : Bytes, b.length = 12 → timeOk b = false → exec (.setTime k role b) s = .next (s.put (.answer (0x5421 + k) 4 Abort.valueRange))) ∧
      (exec (.clearSticky k role 1) s = .next ((s.updDom k (fun d => { d with jumpRefused := false, freezeGap := false })).put
        (.answer (0x5421 + k) 5 Abort.ok))))

/-- R532 to R535: the switching of pairs. R536, R539, R541, R542, R544, R547: the backup anchor, leap seconds, and samples from PTP frames, the
cascade and pulses. -/
def Obligations.PairsAndSources : Prop :=
  (∀ (s : State) (k : Fin 2), s.live = true →
      ((at' s.time.pairs k).enabled = false → exec (.pairSwitched k) s = .next s ∧ exec (.pairRevert k) s = .next s ∧ exec (.slewComplete k) s = .next s) ∧
      ((at' s.time.pairs k).enabled = true → s.lockedDom (s.selectedMember k) = false → s.lockedDom (2 * k + b2n (!(at' s.time.pairs k).partner)) = true →
        exec (.pairSwitched k) s = .next (s.switchPair k 1)) ∧
      ((at' s.time.pairs k).enabled = true → (at' s.time.pairs k).partner = true → s.cfgN 0x5430 3 = 1 → (s.dom (2 * k)).state = .locked →
        (s.dom (2 * k)).lockedAt + cSec (s.cfgN 0x5430 4) ≤ s.now → exec (.pairRevert k) s = .next (s.switchPair k 2)) ∧
      ((at' s.time.pairs k).enabled = true → (at' s.time.pairs k).slewing = true →
        (s.dom (s.selectedMember k)).at s.now = s.pairAt k s.now →
        exec (.slewComplete k) s = .next (((s.updPair k (fun x => { x with slewing := false, slewD := 0 })).settleTime).event 0x5407 (domCell (2 * k))
          ([byte k, 0, 0, 0] ++ leBytes 4 (min maxU32 ((s.now - (at' s.time.pairs k).slewFrom) / cUs 1)))))) ∧
  ((∀ (s : State), s.live = true → s.syncOf 0 = true → s.time.lastAnchorAt + cSec 60 ≤ s.now →
      exec .backupAnchor s = .next { s with time := { s.time with
        anchorTime := s.td0, anchorCount := s.time.backup, anchorValid := true, lastAnchorAt := s.now } }) ∧
    (∀ (s : State), s.live = true → s.syncOf 0 = false → exec .backupAnchor s = .next s) ∧
    (∀ (s : State), s.live = true → s.cfgI 0x5440 2 ≠ 0 → ((s.cfgN 0x5440 3 : Nat) : Int) ≤ secOf s.td0 →
      exec .leapApplied s = .next (((s.setRw 0x5440 1 (leInt 2 (s.utcOffset + s.cfgI 0x5440 2))).setRw 0x5440 2 [0]).event 0x540A 0x6400
        (leInt 2 (s.utcOffset + s.cfgI 0x5440 2) ++ leInt 1 (s.cfgI 0x5440 2)))) ∧
    (∀ (s : State), s.live = true → s.cfgI 0x5440 2 = 0 → exec .leapApplied s = .next s) ∧
    (∀ (s t : State) (p : Fin 2) (capture : Nat) (frame : Bytes), s.live = true →
      (s.timeCount 6).pushOrDrop 55 (0x6000 + p) (leBytes 8 capture ++ time80 (s.tdAt (s.portDomain p) (s.ethStamp p capture)) ++ [byte p] ++ zeros 43 ++ frame)
        = (t, true) →
      exec (.ptpFrameReceived p capture frame) s = .next (t.announce p frame)) ∧
    (∀ (s : State) (p : Fin 2) (t1 t4 : Int) (c2 c3 : Nat), s.live = true → (s.board.cascMaster = true ∨ s.casc.upstream ≠ p) →
      exec (.ihlostTimeExchange p t1 c2 c3 t4) s = .next s) ∧
    (∀ (s : State) (p : Fin 2) (k : Fin 8) (t1 t4 : Int) (c2 c3 : Nat), s.live = true → s.board.cascMaster = false → s.casc.upstream = p → s.source k = 3 →
      (∀ j : Fin 8, j ≠ k → s.source j ≠ 3) →
      let delay := (((s.dom k).at c2 - nsUnits 37 - t1) + (t4 - ((s.dom k).at c3 + nsUnits 24))) / 2 + nsUnits (s.cfgI 0x5460 (5 + p))
      exec (.ihlostTimeExchange p t1 c2 c3 t4) s = .next ((s.updDom k (fun d => { d with pathDelay := delay / 65536 })).sample k
        ((t1 + delay - ((s.dom k).at c2 - nsUnits 37)) / 65536))) ∧
    (∀ (s : State) (gpio : Fin 16) (stamp : Nat), s.live = true → (∀ k < 8, s.source k = 6 → s.domCfg k 2 ≠ (gpio : Nat)) →
      exec (.ppsEdge gpio stamp) s = .next s) ∧
    (∀ (s : State) (gpio : Fin 16) (k : Fin 8) (stamp : Nat), s.live = true → s.source k = 6 → s.domCfg k 2 = (gpio : Nat) →
      (∀ j : Fin 8, j ≠ k → s.source j ≠ 6) →
      let t := (s.dom k).at stamp
      let theta := (((t + nsUnits 500000000) / nsUnits 1000000000) * nsUnits 1000000000 - t) / 65536
      theta.natAbs < 500000000 → exec (.ppsEdge gpio stamp) s = .next (s.sample k theta)))

/-- R563, R565 to R569: a delivery is refused by the slot, or its tag, or loads the consumer's register with the slot's GEN; an import passes the
checks or is refused; the import completes or its unwrap fails; a slot is revoked and erased with what follows. -/
def Obligations.KeySlots : Prop :=  (∀ (s : State) (c : Consumer) (slot : Nat) (u : KeyUse), s.live = true → s.slotRefusal slot c u ≠ 0 →
    exec (.keyRequest c slot u) s = .next (s.put (.keyReply c.index slot (s.slotRefusal slot c u)))) ∧
  (∀ (s : State) (c : Consumer) (slot : Nat) (u : KeyUse), s.live = true → s.slotRefusal slot c u = 0 → s.tagOk slot = false →
    exec (.keyRequest c slot u) s = .next ((s.slotBad slot c.code).put (.keyReply c.index slot Abort.keySlotBad))) ∧
  (∀ (s : State) (c : Consumer) (slot usage : Nat), s.live = true → s.slotRefusal slot c (.raw usage) = 0 → s.tagOk slot = true →
    exec (.keyRequest c slot (.raw usage)) s = .next (({ s with vault := { s.vault with
      regs := s.vault.regs.set c.index { slot := slot, gen := polGen (s.slot slot).policy, key := (s.slot slot).key },
      counters := upd s.vault.counters 1 (· + 1) } }).put (.keyReply c.index slot 0))) ∧
  (∀ (s : State) (c : Consumer) (slot eui gen : Nat), s.live = true → s.slotRefusal slot c (.up eui gen) = 0 → s.tagOk slot = true →
    exec (.keyRequest c slot (.up eui gen)) s = .next (({ s with vault := { s.vault with
      regs := s.vault.regs.set c.index { slot := slot, gen := polGen (s.slot slot).policy, key := keyUp (s.slot slot).key eui gen },
      counters := upd (upd s.vault.counters 0 (· + 1)) 1 (· + 1) } }).put (.keyReply c.index slot 0))) ∧
  (∀ (s : State) (role : Nat) (blob : Bytes), TakesCommands s → roleMay role .keyholder = true → s.vault.pending = none →
    (fieldLE blob 1 1 ≤ 31 → s.inService (0xA000 + fieldLE blob 1 1) = true) → s.importCheck blob = 0 →
    exec (.keyImport role blob) s = .next (({ s with vault := { s.vault with
      importState := 1, importSlot := 0, importAbort := 0
      pending := some { blob := blob, slot := s.importSlot blob, startedAt := s.now } } }).put (.answer 0x5820 0 Abort.ok))) ∧
  (∀ (s : State) (role : Nat) (blob : Bytes), TakesCommands s → roleMay role .keyholder = true → s.vault.pending = none →
    (fieldLE blob 1 1 ≤ 31 → s.inService (0xA000 + fieldLE blob 1 1) = true) → s.importCheck blob ≠ 0 →
    exec (.keyImport role blob) s = .next (({ s with vault := { s.vault with
      importState := 3, importSlot := 0, importAbort := s.importCheck blob
      pending := none } }).put (.answer 0x5820 0 Abort.ok))) ∧
  (∀ (s : State) (i : PendingImport), s.live = true → s.vault.pending = some i →
    s.tagBroken (if fieldLE i.blob 2 1 = 1 then fieldLE i.blob 3 1 else 0) = true →
    exec .keyImported s = .next ((s.slotBad (if fieldLE i.blob 2 1 = 1 then fieldLE i.blob 3 1 else 0) 0).importResult 3 0 Abort.keySlotBad)) ∧
  (∀ (s : State) (i : PendingImport), s.live = true → s.vault.pending = some i →
    s.tagBroken (if fieldLE i.blob 2 1 = 1 then fieldLE i.blob 3 1 else 0) = false → s.importKey i.blob = none →
    exec .keyImported s = .next (s.importResult 3 0 Abort.unwrapFail)) ∧
  (∀ (s : State) (i : PendingImport) (key : Bytes), s.live = true → s.vault.pending = some i →
    s.tagBroken (if fieldLE i.blob 2 1 = 1 then fieldLE i.blob 3 1 else 0) = false → s.importKey i.blob = some key →
    let p := importedPolicy (s.slot i.slot).policy (fieldLE i.blob 8 8) (fieldLE i.blob 2 1) (fieldLE i.blob 3 1)
    exec .keyImported s = .next ((((s.fillSlot i.slot p key).importResult 2 i.slot 0).vaultCount 4 1).event 0x5804 (0xA000 + i.slot)
      ([byte i.slot, byte (polKind p)] ++ leBytes 2 (polGen p) ++
        [byte (fieldLE i.blob 2 1), if fieldLE i.blob 2 1 = 1 then byte (fieldLE i.blob 3 1) else 0xFF]))) ∧
  (∀ (s : State) (role slot : Nat), TakesCommands s → roleMay role .keyholder = true → 2 ≤ slot → slot ≤ 31 → polKind (s.slot slot).policy ≠ 0 →
    let targets := (s.family slot).filter (fun i => polState (s.slot i).policy ≠ 1)
    let t := ((targets.foldl State.revokeOne s).clearRegs (s.family slot)).vaultCount 5 targets.length
    exec (.keyRevoke role slot) s = .next ((({ t with vault := { t.vault with revoking := t.vault.revoking ++
      [({ slot := slot, count := targets.length, gen := polGen (t.slot slot).policy, since := s.now, slots := targets } : Revoking)] } }).finishRevokes).put
        (.answer 0x5822 0 Abort.ok))) ∧
  (∀ (s : State) (role slot : Nat), TakesCommands s → roleMay role .keyholder = true → (slot < 2 ∨ 31 < slot) →
    exec (.keyRevoke role slot) s = .next (s.put (.answer 0x5822 0 Abort.valueRange)) ∧
    exec (.keyErase role slot) s = .next (s.put (.answer 0x5823 0 Abort.valueRange))) ∧
  (∀ (s : State) (role slot : Nat), TakesCommands s → roleMay role .keyholder = true → 2 ≤ slot → slot ≤ 31 →
    (∀ c, c < 32 → s.isChild slot c = false) → polKind (s.slot slot).policy ≠ 0 →
    let p := genUp (setField 0 32 16 (polGen (s.slot slot).policy))
    exec (.keyErase role slot) s = .next ((((((s.setSlot slot (mkSlot slot p [])).saveSlot slot).clearRegs [slot]).notify slot).event 0x5806 (0xA000 + slot)
      ([byte slot, 0] ++ leBytes 2 (polGen p))).put (.answer 0x5823 0 Abort.ok))) ∧
  (∀ (s : State) (role slot c : Nat), TakesCommands s → roleMay role .keyholder = true → 2 ≤ slot → slot ≤ 31 → c < 32 → s.isChild slot c = true →
    exec (.keyErase role slot) s = .next (s.put (.answer 0x5823 0 Abort.valueInconsistent)))

/-- R586 to R589: an attestation taken and signed at the next tick; a challenge drawn, refused after 3 failures, answered once, lapsed; a session
opened by an authentic response that the state allows, or a failure counted; a session closed. -/
def Obligations.AttestAndDebug : Prop :=  (∀ (s : State) (role : Nat) (challenge : Bytes), TakesCommands s → roleMay role .operator = true → challenge.length = 32 → s.vault.attestAsked = none →
    s.vault.lockdown = false → (s.slot 0).key ≠ [] → polState (s.slot 0).policy ≠ 2 →
    exec (.attest role challenge) s = .next (if s.tagOk 0 = true then
        ({ s with vault := { s.vault with attestAsked := some challenge } }).put (.answer 0x5811 1 Abort.ok)
      else (s.slotBad 0 0).put (.answer 0x5811 1 Abort.keySlotBad))) ∧
  (∀ (s : State) (role : Nat) (challenge : Bytes), TakesCommands s → roleMay role .operator = true → challenge.length = 32 → s.vault.attestAsked ≠ none →
    exec (.attest role challenge) s = .next (s.put (.answer 0x5811 1 Abort.busy))) ∧
  (∀ (s : State) (c : Bytes), s.vault.attestAsked = some c → s.attestTick = { s with fresh := s.fresh + 1, vault := { s.vault with
      attestAsked := none
      attestSig := ecdsaSign (beNat (s.slot 0).key) (Config.freeNat s.fresh % (pN - 1) + 1)
        (labelAtt ++ euiBytes ++ padTo 48 s.vault.measurement ++ [byte s.lcs.code, byte s.vaultNv.fuses.stage] ++ c) } }) ∧
  (∀ (s : State) (role : Nat) (challenge : Bytes), TakesCommands s → roleMay role .operator = true → challenge.length ≠ 32 →
    exec (.attest role challenge) s = .next (s.put (.answer 0x5811 1 Abort.typeLength))) ∧
  (∀ (s : State), s.power.phase ≠ .held → s.vault.dbg.failures < 3 → s.vault.dbg.busy = false → s.vault.dbg.state ≠ 2 →
    let c := (s.vaultNv.debugCounter + 1) % 2 ^ 32
    exec .issueChallenge s = .next { s with fresh := s.fresh + 1, vaultNv := { s.vaultNv with debugCounter := c }
                                            vault := { s.vault with dbg := { s.vault.dbg with
      state := 1, scope := 0, issuedAt := s.now, answered := false
      challenge := challengeBytes s.lcs.code s.vaultNv.fuses.stage c (padTo 32 (Config.freeBytes s.fresh)) } } }) ∧
  (∀ (s : State), s.power.phase ≠ .held → 3 ≤ s.vault.dbg.failures → s.vault.dbg.busy = false → s.vault.dbg.state ≠ 2 →
    exec .issueChallenge s = .next { s with vault := { s.vault with dbg := { s.vault.dbg with state := 3 } } }) ∧
  (∀ (s : State), s.power.phase ≠ .held → (s.vault.dbg.busy = true ∨ s.vault.dbg.state = 2) → exec .issueChallenge s = .next s) ∧
  (∀ (s : State) (r : Bytes), s.power.phase ≠ .held → s.vault.dbg.state = 1 → s.vault.dbg.answered = false → s.vault.dbg.busy = false →
    s.now < s.vault.dbg.issuedAt + cSec 60 →
    exec (.submitResponse r) s = .next { s with vault := { s.vault with dbg := { s.vault.dbg with busy := true, answered := true, response := padTo 200 r } } }) ∧
  (∀ (s : State) (r : Bytes), (s.vault.dbg.state ≠ 1 ∨ s.vault.dbg.answered = true ∨ s.vault.dbg.issuedAt + cSec 60 ≤ s.now) →
    exec (.submitResponse r) s = .next s) ∧
  (∀ (s : State), s.power.phase ≠ .held → s.vault.dbg.state = 1 → s.vault.dbg.answered = false → s.vault.dbg.issuedAt + cSec 60 ≤ s.now →
    exec .challengeLapse s = .next { s with vault := { s.vault with dbg := { s.vault.dbg with state := 0, challenge := [] } } }) ∧
  (∀ (s : State), (s.vault.dbg.answered = true ∨ s.now < s.vault.dbg.issuedAt + cSec 60) → exec .challengeLapse s = .next s) ∧
  (∀ (s : State), s.power.phase ≠ .held →
    exec .closeSession s = .next { s with vault := { s.vault with dbg := { s.vault.dbg with state := 0, scope := 0, busy := false, challenge := [] } } }) ∧
  (∀ (s : State), s.power.phase ≠ .held → s.vault.dbg.busy = true → fieldLE s.vault.dbg.response 1 1 < 8 → s.responseAuthentic = true →
    s.debugAllowed (fieldLE s.vault.dbg.response 0 1) (fieldLE s.vault.dbg.response 1 1) = true →
    exec .debugAuthorised s = .next (({ s with vault := { s.vault with dbg := { s.vault.dbg with
      busy := false, state := 2, scope := fieldLE s.vault.dbg.response 1 1 } } }).event 0x580C 0xA300
        [byte (fieldLE s.vault.dbg.response 0 1), byte (fieldLE s.vault.dbg.response 1 1)])) ∧
  (∀ (s : State), s.power.phase ≠ .held → s.vault.dbg.busy = true → s.responseAuthentic = false → s.vault.dbg.failures < 2 →
    exec .debugAuthorised s = .next { s with vault := { s.vault with dbg := { s.vault.dbg with
      busy := false, state := 3, scope := 0, failures := s.vault.dbg.failures + 1 } } }) ∧
  (∀ (s : State), s.power.phase ≠ .held → s.vault.dbg.busy = true → s.responseAuthentic = false → 2 ≤ s.vault.dbg.failures →
    exec .debugAuthorised s = .next (({ s with vault := { s.vault with dbg := { s.vault.dbg with
      busy := false, state := 3, scope := 0, failures := 3 } } }).event 0x580D 0xA300 [3, byte (fieldLE s.vault.dbg.response 0 1)])) ∧
  (∀ (s : State), s.vault.dbg.busy = false → exec .debugAuthorised s = .next s)

/-- R571 to R576, R590: an armed source fires once under its response, by Record, Zeroise or Erase, or into the Hold log; one that is Off or not armed
does nothing; the mesh fires on the second disagreement in a row; a source rearms; the sticky bits clear; a lockdown is released by a restart. -/
def Obligations.TamperResponses : Prop :=  (∀ (s : State) (k : Fin 12), (k : Nat) ≠ 0 → (k : Nat) ≠ 1 → (k : Nat) ≠ 11 → s.tamperResponse k ≠ 0 → (at' s.vaultNv.sources k).armed = true →
    let s1 : State := { s with vaultNv := { s.vaultNv with sources := upd s.vaultNv.sources k (fun t => { t with active := true, armed := false }) } }
    let s2 := s1.noteFiring k (s.tamperResponse k) 0 s.time.backup
    (s.vaultRuns = true → s.tamperResponse k = 1 → exec (.tamperDetected k) s = .next s2) ∧
    (s.vaultRuns = true → s.tamperResponse k = 2 → exec (.tamperDetected k) s = .next (s2.zeroise k 2)) ∧
    (s.vaultRuns = true → 2 < s.tamperResponse k → exec (.tamperDetected k) s = .next (s2.eraseAll k)) ∧
    (s.vaultRuns = false → exec (.tamperDetected k) s = .next (s1.holdFire k (s.tamperResponse k)))) ∧
  (∀ (s : State) (k : Fin 12), ((k : Nat) < 2 ∨ (k : Nat) = 11 ∨ s.tamperResponse k = 0 ∨ (at' s.vaultNv.sources k).armed = false) →
    exec (.tamperDetected k) s = .next s) ∧
  (∀ (s : State) (p : Nat) (a b d : Bool), (p = 0 ∧ d = a) ∨ (p = 1 ∧ d = b) → s.tamperResponse p ≠ 0 → s.tamperResponse (1 - p) = 0 →
    let n := (at' s.vaultNv.sources p).misses
    let counted : Nat → State := fun k => { s with vaultNv := { s.vaultNv with sources := upd s.vaultNv.sources p (fun t => { t with misses := k }) } }
    (d = false → exec (.meshSample a b) s = .next (counted 0)) ∧
    (d = true → n = 0 → exec (.meshSample a b) s = .next (counted 1)) ∧
    (d = true → 1 ≤ n → exec (.meshSample a b) s = .next ((counted (n + 1)).tamperFire p))) ∧
  (∀ (s : State) (k : Fin 12) (n : Nat), s.cfgN 0x5831 6 ≤ n → exec (.tamperRearm k n) s = .next { s with vaultNv := { s.vaultNv with
    sources := upd s.vaultNv.sources k (fun t => { t with active := false, armed := true, misses := 0 }) } }) ∧
  (∀ (s : State) (k : Fin 12) (n : Nat), n < s.cfgN 0x5831 6 → exec (.tamperRearm k n) s = .next s) ∧
  (∀ (s : State) (role : Nat), TakesCommands s → roleMay role .keyholder = true →
    exec (.tamperStatusClear role 1) s = .next (({ s with vault := { s.vault with sticky := 0 } }).put (.answer 0x5832 3 Abort.ok))) ∧
  (∀ (s : State) (role : Nat), TakesCommands s → roleMay role .keyholder = true → s.power.phase = .run →
    exec (.lockdownRelease role 1) s = .next ((({ s with vaultNv := { s.vaultNv with
      battery := { s.vaultNv.battery with zeroiseOwed := false } } }).restart 5).put (.answer 0x5833 0 Abort.ok))) ∧
  (∀ (s : State) (role : Nat), TakesCommands s → roleMay role .keyholder = true → s.power.phase = .lastGasp →
    exec (.lockdownRelease role 1) s = .next (s.put (.answer 0x5833 0 Abort.busy)))

/-- R580 to R583: a life-cycle transition is accepted from the states that R581 names, with the device EUI as its value or a good bundle, while none
is under way and one bank is in use; it is refused otherwise, with the code kept. -/
def Obligations.LifeCycle : Prop :=  (∀ (s : State) (role : Nat) (b : Bytes), TakesCommands s → roleMay role .vendor = true → (s.lcs = .blank ∨ s.lcs = .returned) → s.vaultNv.fuses.stage < 12 →
    s.lifeBusy = false → s.bundleOk b (s.vaultNv.fuses.stage + 1) = true →
    exec (.provision role b) s = .next (({ s with
      vaultNv := { s.vaultNv with bundle := b, intent := some { source := s.lcs.code, target := 1, cause := 0, startedAt := s.now, bankDone := false, fusesDone := false } }
      vault := { s.vault with lifeStatus := 1, lifeAbort := 0 } }).put (.answer 0x5840 1 Abort.ok))) ∧
  (∀ (s : State) (role : Nat) (b : Bytes), TakesCommands s → roleMay role .vendor = true → s.lcs ≠ .blank → s.lcs ≠ .returned →
    exec (.provision role b) s = .next (({ s with vault := { s.vault with lifeStatus := if s.vault.lifeStatus = 1 then 1 else 2, lifeAbort := Abort.notInState } }).put
      (.answer 0x5840 1 Abort.notInState))) ∧
  (∀ (s : State) (role : Nat), TakesCommands s → roleMay role .keyholder = true → s.lifeBusy = false →
    let goes : Nat → Nat → Res := fun sub target => .next (State.put { s with
      vaultNv := { s.vaultNv with intent := some { source := s.lcs.code, target := target, cause := 0, startedAt := s.now, bankDone := false, fusesDone := false } }
      vault := { s.vault with lifeStatus := 1, lifeAbort := 0 } } (.answer 0x5840 sub Abort.ok))
    (s.lcs = .provisioned → exec (.deploy role Config.deviceEui) s = goes 2 2) ∧
    ((s.lcs = .provisioned ∨ s.lcs = .deployed) → exec (.returnDevice role Config.deviceEui) s = goes 3 3) ∧
    ((s.lcs = .provisioned ∨ s.lcs = .deployed) → exec (.lock role Config.deviceEui) s = goes 4 4)) ∧
  (∀ (s : State) (role eui : Nat), TakesCommands s → roleMay role .keyholder = true →
    let stays : Nat → Nat → Res := fun sub code => .next
      (State.put { s with vault := { s.vault with lifeStatus := if s.vault.lifeStatus = 1 then 1 else 2, lifeAbort := code } } (.answer 0x5840 sub code))
    (s.lcs ≠ .provisioned → exec (.deploy role eui) s = stays 2 Abort.notInState) ∧
    (s.lcs = .provisioned → eui ≠ Config.deviceEui → exec (.deploy role eui) s = stays 2 Abort.valueInconsistent) ∧
    (s.lcs ≠ .provisioned → s.lcs ≠ .deployed → exec (.returnDevice role eui) s = stays 3 Abort.notInState ∧
      exec (.lock role eui) s = stays 4 Abort.notInState) ∧
    ((s.lcs = .provisioned ∨ s.lcs = .deployed) → eui ≠ Config.deviceEui → exec (.returnDevice role eui) s = stays 3 Abort.valueInconsistent ∧
      exec (.lock role eui) s = stays 4 Abort.valueInconsistent) ∧
    (s.lcs = .provisioned → eui = Config.deviceEui → s.lifeBusy = true → exec (.deploy role eui) s = stays 2 Abort.busy))

/-- R592 to R596: a frame written is taken or discarded by its fault, an output frame leaves when its last byte has been clocked out, the flags byte
leaves and its sticky bits clear, a STATUS frame is answered. -/
def Obligations.ServicePort : Prop :=  (∀ (s : State) (f : Bytes), s.portRuns = true → s.writeFault f = 0 → (s.inRecovery = false ∨ portType f ≠ 1) →
    exec (.serviceWrite f) s = .next { s with fw := { s.fw with port := { s.fw.port with inputs := s.fw.port.inputs ++ [f.take (fieldLE f 1 2 + 8)] } } }) ∧
  (∀ (s : State) (f : Bytes), s.portRuns = true → s.writeFault f = 0 → s.inRecovery = true → portType f = 1 → exec (.serviceWrite f) s = .next s) ∧
  (∀ (s : State) (f : Bytes), s.portRuns = true → s.writeFault f = 7 →
    exec (.serviceWrite f) s = .next (((s.fwCount 7).updPortal (fun p => { p with crcErr := true })).portError 0)) ∧
  (∀ (s : State) (f : Bytes), s.portRuns = true → 4 ≤ s.fw.port.inputs.length →
    exec (.serviceWrite f) s = .next (((s.fwCount 8).updPortal (fun p => { p with overflow := true })).portError 1)) ∧
  (∀ (s : State) (f : Bytes), s.portRuns = true → s.writeFault f = 9 → exec (.serviceWrite f) s = .next ((s.fwCount 9).portError 2)) ∧
  (∀ (s : State) (n : Nat), s.portRuns = true → s.fw.port.outputs = [] → exec (.serviceRead n) s = .next (s.put (.svc (zeros (min n 3))))) ∧
  (∀ (s : State) (n : Nat) (f : Bytes) (r : List Bytes), s.portRuns = true → s.fw.port.outputs = f :: r → f.length ≤ n →
    exec (.serviceRead n) s = .next (({ s with fw := { s.fw with port := { s.fw.port with outputs := r } } }).put (.svc (f.take n)))) ∧
  (∀ (s : State) (n : Nat) (f : Bytes) (r : List Bytes), s.portRuns = true → s.fw.port.outputs = f :: r → n < f.length →
    exec (.serviceRead n) s = .next (s.put (.svc (f.take n)))) ∧
  (∀ (s : State), s.portRuns = true → exec .flags s = .next (({ s with fw := { s.fw with port := { s.fw.port with
    crcErr := false, overflow := false } } }).put (.svc [byte s.portFlags]))) ∧
  (∀ (s : State) (f : Bytes) (r : List Bytes), s.portRuns = true → s.fw.port.inputs = f :: r → portType f = 0x20 → s.fw.port.outputs.length < 16 →
    exec .status s = .next { s with fw := { s.fw with port := { s.fw.port with
      inputs := r, outputs := s.fw.port.outputs ++ [portFrame 0x20 s.statusPayload] } } }) ∧
  (∀ (s : State), s.portRuns = true → (s.fw.port.inputs = [] ∨ 16 ≤ s.fw.port.outputs.length) →
    exec .status s = .next s ∧ exec .imageBegin s = .next s ∧ exec .imageData s = .next s ∧ exec .imageEnd s = .next s)

/-- R597 to R603, R615, R617: staging opens by a length, takes its bytes in order, and ends staged or refused by the first check that fails; a staged
image is discarded. -/
def Obligations.ImageStaging : Prop :=  (∀ (s s1 : State) (p : Bytes), s.portRuns = true → s.takeInput 0x10 = some (s1, p) → s.inService updateCell = true → p.length = 4 →
    (s.fw.state < 3 ∨ 5 < s.fw.state) → leNat p ≠ 0 → leNat p ≤ 4194304 →
    exec .imageBegin s = .next (({ s1 with
      fwNv := { s.fwNv with slots := s.fwNv.slots.set s.idleSlot emptyFw, staged := false }
      fw := { s1.fw with state := 1, total := leNat p, next := 0, opened := true, hoVersion := 0 } }).frameDone 0x10 0)) ∧
  (∀ (s s1 : State) (p : Bytes), s.portRuns = true → s.takeInput 0x10 = some (s1, p) → s.inService updateCell = true → p.length = 4 →
    3 ≤ s.fw.state → s.fw.state ≤ 5 → exec .imageBegin s = .next (s1.frameDone 0x10 Abort.busy)) ∧
  (∀ (s s1 : State) (p : Bytes), s.portRuns = true → s.takeInput 0x11 = some (s1, p) → s.inService updateCell = true → 5 ≤ p.length → p.length ≤ 1028 →
    s.fw.opened = true → fieldLE p 0 4 = s.fw.next → fieldLE p 0 4 + (p.length - 4) ≤ s.fw.total →
    exec .imageData s = .next (({ s1 with
      fwNv := { s.fwNv with slots := upd s.fwNv.slots s.idleSlot (fun x => { x with image := x.image ++ p.drop 4 }) }
      fw := { s1.fw with next := s.fw.next + (p.length - 4) } }).frameDone 0x11 0)) ∧
  (∀ (s s1 : State) (p : Bytes), s.portRuns = true → s.takeInput 0x11 = some (s1, p) → s.inService updateCell = true → 5 ≤ p.length → p.length ≤ 1028 →
    (s.fw.opened = false ∨ fieldLE p 0 4 ≠ s.fw.next) → exec .imageData s = .next (s1.frameDone 0x11 Abort.blockSequence)) ∧
  (∀ (s s1 : State) (p : Bytes), s.portRuns = true → s.takeInput 0x12 = some (s1, p) → s.inService updateCell = true → s.fw.opened = true →
    s.fw.next = s.fw.total → (s1.checkImageSlot (s.fwSlot s.idleSlot).image).imageFault (s.fwSlot s.idleSlot).image = none → s.inRecovery = false →
    exec .imageEnd s = .next (((s1.checkImageSlot (s.fwSlot s.idleSlot).image).imageStaged (s.fwSlot s.idleSlot).image).frameDone 0x12 0)) ∧
  (∀ (s s1 : State) (p : Bytes) (check code : Nat), s.portRuns = true → s.takeInput 0x12 = some (s1, p) → s.inService updateCell = true → s.fw.opened = true →
    s.fw.next = s.fw.total → (s1.checkImageSlot (s.fwSlot s.idleSlot).image).imageFault (s.fwSlot s.idleSlot).image = some (check, code) →
    exec .imageEnd s = .next (((s1.checkImageSlot (s.fwSlot s.idleSlot).image).imageRefused check code (imgVersion (s.fwSlot s.idleSlot).image)).frameDone 0x12 code)) ∧
  (∀ (s : State) (role : Nat), TakesCommands s → roleMay role .operator = true → s.inService updateCell = true → s.fw.state = 2 →
    exec (.discardStaged role) s = .next (({ s with
      fwNv := { s.fwNv with slots := s.fwNv.slots.set s.idleSlot emptyFw, staged := false }
      fw := { s.fw with state := 0, hoVersion := 0, abort := 0 } }).put (.answer 0x5C10 1 0))) ∧
  (∀ (s : State) (role : Nat), TakesCommands s → roleMay role .operator = true → s.inService updateCell = true → s.fw.state ≠ 2 →
    exec (.discardStaged role) s = .next (({ s with fw := { s.fw with abort := Abort.notInState } }).put (.answer 0x5C10 1 Abort.notInState)))

/-- R605 to R608, R612 to R615: a handover starts, binds off, takes over or is abandoned; a restart-mode update boots the staged image; a probation
ends accepted, by its time, by the host's reversion or by a lost heartbeat. -/
def Obligations.HandoverAndProbation : Prop :=  (∀ (s : State) (role : Nat), TakesCommands s → roleMay role .operator = true → s.inService updateCell = true → s.fw.state = 2 → s.fw.hoVersion ≠ 0 →
    s.updateBusy = false → s.standbyWhole = true →
    exec (.hitlessHandover role) s = .next (((s.forwardSeal (s.fwSlot s.idleSlot).measure).updFw (fun u => { u with
      state := 3, step := 3, startedAt := s.now, stepAt := s.now + cMs 80, pauseAt := none, abort := 0 })).put (.answer 0x5C10 1 0))) ∧
  (∀ (s : State) (role : Nat), TakesCommands s → roleMay role .operator = true → s.inService updateCell = true →
    let refused : Nat → Res := fun code => .next (({ s with fw := { s.fw with abort := code } }).put (.answer 0x5C10 1 code))
    (s.fw.state ≠ 2 → exec (.hitlessHandover role) s = refused Abort.notInState ∧ exec (.restartModeUpdate role) s = refused Abort.notInState) ∧
    (s.fw.state = 2 → s.fw.hoVersion = 0 → exec (.hitlessHandover role) s = refused Abort.handoverRefused) ∧
    (s.fw.state = 2 → s.fw.hoVersion ≠ 0 → s.updateBusy = true → exec (.hitlessHandover role) s = refused Abort.busy ∧
      exec (.restartModeUpdate role) s = refused Abort.busy) ∧
    (s.fw.state ≠ 4 → exec (.revert role) s = refused Abort.notInState ∧ exec (.accept role) s = refused Abort.notInState)) ∧
  (∀ (s : State) (role : Nat), TakesCommands s → roleMay role .operator = true → s.inService updateCell = true → s.fw.state = 2 → s.updateBusy = false →
    let t := (s.forwardSeal (s.fwSlot s.idleSlot).measure).fwCount 6
    exec (.restartModeUpdate role) s = .next ((({ t with fwNv := { t.fwNv with
      active := s.idleSlot, previous := s.fwNv.active, probation := true, boots := 0
      schemaDue := schemaChanges (s.fwSlot s.fwNv.active) (s.fwSlot s.idleSlot), staged := false } }).restart 6).put (.answer 0x5C10 1 Abort.ok))) ∧
  (∀ (s : State), s.live = true → s.fw.state = 3 → s.vault.lockdown = false → s.mayAbandon 6 = false → s.fw.pauseAt = none → s.now ≤ s.fw.stepAt + cMs 1000 →
    exec .bindOff s = .next { s with fw := { s.fw with step := 5, pauseAt := some s.now } }) ∧
  (∀ (s : State) (t : Nat), s.live = true → s.fw.state = 3 → s.vault.lockdown = false → s.mayAbandon 6 = false → s.fw.pauseAt = some t → s.now ≤ t + cMs 2 →
    s.dict.held = [] →
    exec .bindOff s = .next (State.swapSets { s with fw := { s.fw with step := 6, pauseAt := none } } t)) ∧
  (∀ (s : State), s.live = true → s.fw.state ≠ 3 → exec .bindOff s = .next s) ∧
  (∀ (s : State) (cause : Nat), s.live = true → s.mayAbandon cause = true → exec (.handoverAbandoned cause) s = .next (s.abandon cause)) ∧
  (∀ (s : State) (cause : Nat), s.live = true → s.mayAbandon cause = false → exec (.handoverAbandoned cause) s = .next s) ∧
  (∀ (s : State) (role : Nat), TakesCommands s → roleMay role .operator = true → s.inService updateCell = true → s.fw.state = 4 →
    exec (.accept role) s = .next ((s.probationDone.updFw (fun u => { u with abort := 0 })).put (.answer 0x5C10 1 0)) ∧
    exec (.revert role) s = .next (((s.revertHitless 1).updFw (fun u => { u with abort := 0 })).put (.answer 0x5C10 1 0))) ∧
  (∀ (s : State), s.live = true → s.fw.state = 4 → s.fw.probationEnd ≤ s.now →
    let gone : Bank := { initBank with seq := (at' s.vaultNv.banks (1 - s.vault.bankInUse)).seq }
    exec .probationEnded s = .next ((({ s with
      vaultNv := { s.vaultNv with banks := s.vaultNv.banks.set (1 - s.vault.bankInUse) gone }
      vault := { s.vault with bothBanks := false }
      fwNv := { s.fwNv with floor := max s.fwNv.floor (s.fwSlot s.fwNv.active).floor, probation := false, boots := 0 }
      fw := { s.fw with state := 0 } } : State)).event 0x5C05 updateCell
        (leBytes 4 (s.fwSlot s.fwNv.active).version ++ leBytes 4 (max s.fwNv.floor (s.fwSlot s.fwNv.active).floor)))) ∧
  (∀ (s : State), s.live = true → (s.fw.state ≠ 4 ∨ s.now < s.fw.probationEnd) → exec .probationEnded s = .next s) ∧
  (∀ (s : State), s.running = true → s.fw.state = 4 → s.oldImageOk = true →
    let t := ((s.revertEvent 3 1 (s.fwSlot s.fwNv.active).version (s.fwSlot s.fwNv.previous).version).flush 2).bootOld.coldReset 6
    exec .heartbeatLost s = .next { t with powerNv := { t.powerNv with lastGaspResult := 0 } }) ∧
  (∀ (s : State), s.running = true → s.fw.state ≠ 4 → exec .heartbeatLost s = .next s)

/-- R622 to R625: the master enumerates when a link comes up, a leaf takes a number and passes the list on, the report of a pass forms the cascade; a
master that hears another's ENUMERATE tells it; a port that is down takes nothing. -/
def Obligations.CascadeFormation : Prop :=  (∀ (s : State) (p : Fin 2) (b : Bytes), s.live = true → (at' s.casc.ports p).up = true → s.board.cascMaster = true → fieldLE b 0 8 ≠ Config.deviceEui →
    exec (.enumerate p b) s = .next (s.sendConflict p Config.deviceEui)) ∧
  (∀ (s : State) (b : Bytes), s.live = true → (at' s.casc.ports 1).up = true → s.board.cascMaster = true → fieldLE b 0 8 = Config.deviceEui →
    s.casc.enumPort = 0 → s.casc.conflict = false → exec (.enumerate 1 b) s = .next ((s.enterNodes 0 (enumEntries (b.drop 10))).formDone 2)) ∧
  (∀ (s : State) (p : Fin 2) (b : Bytes), s.live = true → (at' s.casc.ports p).up = true → (at' s.casc.ports (1 - p)).up = true → s.board.cascMaster = false →
    s.casc.conflict = false → s.casc.heard = [] → enumEntries (b.drop 10) = [] → fieldLE b 8 1 ≤ 63 →
    exec (.enumerate p b) s = .next (State.sendEnumerate { s with casc := { s.casc with
      heard := [(fieldLE b 0 8, (p : Nat))], own := fieldLE b 8 1, masterEui := fieldLE b 0 8, enumPort := p, hops := fieldLE b 9 1, upstream := p } }
        (1 - p) (fieldLE b 0 8) (fieldLE b 9 1 + 1) [(fieldLE b 8 1, Config.deviceEui, (p : Nat), fieldLE b 9 1)])) ∧
  (∀ (s : State) (p : Fin 2) (b : Bytes), s.live = true → (at' s.casc.ports p).up = false →
    exec (.enumerate p b) s = .next s ∧ exec (.cascadeFormed p b) s = .next s) ∧
  (∀ (s : State) (b : Bytes), s.live = true → (at' s.casc.ports 1).up = true → s.board.cascMaster = true → s.casc.conflict = false → s.casc.enumPort = 1 →
    fieldLE b 0 8 = 0 → exec (.cascadeFormed 1 b) s = .next ((s.enterNodes 1 (enumEntries (b.drop 8))).formDone 1)) ∧
  (∀ (s : State) (b : Bytes), s.live = true → (at' s.casc.ports 0).up = true → (at' s.casc.ports 1).up = true → s.board.cascMaster = true →
    s.casc.conflict = false → s.casc.enumPort = 0 → fieldLE b 0 8 = 0 →
    exec (.cascadeFormed 0 b) s = .next ((s.enterNodes 0 (enumEntries (b.drop 8))).enumPass 1)) ∧
  (∀ (s : State) (p : Fin 2), s.live = true → (at' s.casc.ports p).up = false → s.ihUsed p = true → s.casc.topology < 3 → s.board.cascMaster = false →
    s.casc.conflict = false →
    exec (.ihlostLinkChanged p true) s = .next (State.event { s with casc := { s.casc with
      ports := upd s.casc.ports p (fun x => { x with up := true, txSeq := 0, rx := none, unacked := [] }) } } 0x5E03 (ihCell p) [byte p, 1])) ∧
  (∀ (s : State) (p : Fin 2), s.live = true → ((at' s.casc.ports p).up = true ∨ s.ihUsed p = false) → exec (.ihlostLinkChanged p true) s = .next s) ∧
  (∀ (s : State) (p : Fin 2), s.live = true → (at' s.casc.ports p).up = false → exec (.ihlostLinkChanged p false) s = .next s) ∧
  (∀ (s : State) (p : Fin 2), s.live = true → (at' s.casc.ports p).up = true →
    exec (.ihlostLinkChanged p false) s = .next ((s.raiseError (ihCell p) 0x0016).linkDown p)) ∧
  (∀ (s : State) (p : Nat), (at' s.casc.ports p).up = true →
    s.linkDown p = (((State.event { s with casc := { s.casc with ports := upd s.casc.ports p (fun x => { x with up := false }) } }
      0x5E03 (ihCell p) [byte p, 0]).ringBroken p).moveUnacked p).updIh p (fun x => { x with neighbour := 0xFF, neighbourEui := 0 }))

/-- R626, R627: an acknowledgement frees its message, a message that is not whole is counted, one already taken is acknowledged again, one ahead is
left; what is old goes again, and after 8 resends the link is down. -/
def Obligations.CascadeMessages : Prop :=  (∀ (s : State) (p : Fin 2) (h : Nat), s.live = true → (at' s.casc.ports p).up = true →
    exec (.ihlostMessage p (some h) []) s = .next { s with casc := { s.casc with
      ports := upd s.casc.ports p (fun x => { x with unacked := x.unacked.filter (fun u => u.hseq ≠ h) }) } }) ∧
  (∀ (s : State) (p : Fin 2) (m : Bytes), s.live = true → (at' s.casc.ports p).up = true → m ≠ [] → ihWhole m = false →
    exec (.ihlostMessage p none m) s = .next (s.cascCount 3)) ∧
  (∀ (s : State) (p : Fin 2) (m : Bytes), s.live = true → (at' s.casc.ports p).up = true → m ≠ [] → ihWhole m = true →
    (at' s.casc.ports p).rx = some (fieldLE m 6 2) → fieldLE m 6 2 < 65536 →
    exec (.ihlostMessage p none m) s = .next (s.put (.beat p 3 (fieldLE m 6 2)))) ∧
  (∀ (s : State) (p : Fin 2) (m : Bytes) (t : State), s.live = true → (at' s.casc.ports p).up = true → m ≠ [] → ihWhole m = true →
    (at' s.casc.ports p).rx = none → fieldLE m 3 1 = s.casc.own → fieldLE m 3 1 ≠ 0xFE →
    ((s.updIh p (fun x => { x with rx := some (fieldLE m 6 2) })).cascCount 2).takeMessage p (fieldLE m 0 1) (fieldLE m 1 1) (fieldLE m 2 1)
      (slice m 8 (fieldLE m 4 2)) = some t →
    exec (.ihlostMessage p none m) s = .next (t.put (.beat p 3 (fieldLE m 6 2)))) ∧
  (∀ (s : State) (p : Fin 2) (a : Option Nat) (m : Bytes), s.live = true → (at' s.casc.ports p).up = false → exec (.ihlostMessage p a m) s = .next s) ∧
  (∀ (s : State) (p : Fin 2), s.live = true → (at' s.casc.ports p).up = true → (∃ m ∈ (at' s.casc.ports p).unacked, m.sentAt + cUs 20 ≤ s.now) →
    (∀ m ∈ (at' s.casc.ports p).unacked, m.resends < 8) →
    exec (.hopResend p) s = .next ((at' s.casc.ports p).unacked.foldl (fun st m => (st.put (.ihlost p m.bytes)).cascCount 4)
      (s.updIh p (fun x => { x with unacked := x.unacked.map (fun m => { m with resends := m.resends + 1, sentAt := s.now }) })))) ∧
  (∀ (s : State) (p : Fin 2), s.live = true → (at' s.casc.ports p).up = true → (∃ m ∈ (at' s.casc.ports p).unacked, m.sentAt + cUs 20 ≤ s.now ∧ 8 ≤ m.resends) →
    exec (.hopResend p) s = .next (s.linkDown p)) ∧
  (∀ (s : State) (p : Fin 2), s.live = true → (∀ m ∈ (at' s.casc.ports p).unacked, s.now < m.sentAt + cUs 20) → exec (.hopResend p) s = .next s)

/-- R631 to R636: the directory takes a registration, a removal or a move; frames that nobody owns are exported, known ones forwarded; kept entries
expire; records are acknowledged once. -/
def Obligations.CascadeDirectory : Prop :=  (∀ (s : State) (u : DirUpdate) (r : List DirUpdate), s.live = true → s.board.cascMaster = true → s.casc.updates = u :: r → u.add = true →
    lookupKey u.eui s.casc.dir = none → s.casc.dir.length < 16777216 →
    exec .directoryUpdate s = .next { s with casc := { s.casc with dir := insertKey u.eui u.node s.casc.dir, updates := r } }) ∧
  (∀ (s : State) (u : DirUpdate) (r : List DirUpdate), s.live = true → s.board.cascMaster = true → s.casc.updates = u :: r → u.add = false →
    lookupKey u.eui s.casc.dir = some u.node →
    exec .directoryUpdate s = .next { s with casc := { s.casc with dir := eraseKey u.eui s.casc.dir, updates := r } }) ∧
  (∀ (s : State) (u : DirUpdate) (r : List DirUpdate) (o : Nat), s.live = true → s.board.cascMaster = true → s.casc.updates = u :: r → u.add = true →
    lookupKey u.eui s.casc.dir = some o → o ≠ u.node → o ≠ 0 → s.cascSend 1 6 o (leBytes 8 u.eui) = none →
    exec .directoryUpdate s = .next (((s.updCasc (fun c => { c with dir := insertKey u.eui u.node c.dir })).emit 0x5E0A (ihCell 0) u.meter
      (leBytes 8 u.eui ++ [byte o, byte u.node])).updCasc (fun c => { c with updates := c.updates.drop 1 }))) ∧
  (∀ (s : State), s.live = true → s.casc.updates = [] → exec .directoryUpdate s = .next s) ∧
  (∀ (s s1 : State) (origin : Nat) (b : Bytes) (r : List (Nat × Bytes)), s.live = true → (at' s.queue.queues 13).level = 0 →
    s.casc.forwards = (origin, b) :: r → s.routeForward origin b = some s1 →
    exec .forward s = .next (s1.updCasc (fun c => { c with forwards := r }))) ∧
  (∀ (s : State), s.live = true → (at' s.queue.queues 13).level = 0 → s.casc.forwards = [] → s.peekPacket 33 = none → exec .forward s = .next s) ∧
  (∀ (s : State) (origin o : Nat) (b : Bytes) (t : State), lookupKey (fEui (b.drop 64)) s.casc.dir = some o → o ≠ origin → o ≠ 0 →
    s.cascSend 2 2 o ([byte origin] ++ b) = some t → s.routeForward origin b = some t) ∧
  (∀ (s : State) (eui fc : Nat), s.live = true → exec (.forwardEntryExpire eui fc) s = .next { s with casc := { s.casc with
    kept := s.casc.kept.filter (fun k => !(k.eui == eui && k.fc == fc && decide (k.deadline ≤ s.now))) } }) ∧
  (∀ (s : State), s.live = true → s.masterFormed = false → exec .recordAck s = .next s) ∧
  (∀ (s s1 : State) (n : CascNode) (t : Nat), s.live = true → s.board.cascMaster = true → s.casc.formed = true → s.casc.nodes = [n] → n.taken = some t →
    n.acked ≠ some t → s.cascSend 1 11 n.node (leBytes 4 t) = some s1 →
    exec .recordAck s = .next (s1.updCasc (fun c => { c with nodes := c.nodes.map (fun x => if x.node = n.node then { x with acked := some t } else x) })))

/-- R628, R640, R643, R644: heartbeats are sent, taken and relayed; a master unheard for its timeout is lost, and regained once heartbeats return; a
leaf is marked lost; an epoch is relayed and counted, or discarded when past. -/
def Obligations.CascadeHeartbeats : Prop :=  (∀ (s : State), s.live = true → s.masterFormed = true → exec (.masterHeartbeat none) s = .next ((s.beatOut 0 1 0).beatOut 1 1 0)) ∧
  (∀ (s : State) (p : Fin 2), s.live = true → s.board.cascMaster = false → s.casc.own ≠ 0xFF → s.casc.upstream = p →
    exec (.masterHeartbeat (some p)) s = .next ((State.beatOut { s with casc := { s.casc with seenAt := s.now } } (1 - p) 1 0).reportCounts)) ∧
  (∀ (s : State) (p : Fin 2), s.live = true → (s.board.cascMaster = true ∨ s.casc.own = 0xFF ∨ s.casc.upstream ≠ p) →
    exec (.masterHeartbeat (some p)) s = .next s) ∧
  (∀ (s : State), s.live = true → s.leafPresent = true → s.casc.seenAt + cMs (s.cfgN 0x5E00 3) ≤ s.now →
    exec .masterLost s = .next (State.event { s with casc := { s.casc with masterLost := true, lostAt := s.now } } 0x5E06 (ihCell 0) [byte s.casc.hopsUp])) ∧
  (∀ (s : State), s.live = true → (s.leafPresent = false ∨ s.now < s.casc.seenAt + cMs (s.cfgN 0x5E00 3)) → exec .masterLost s = .next s) ∧
  (∀ (s : State) (k : Fin 64), s.live = true → s.board.cascMaster = true → (∃ n ∈ s.casc.nodes, n.node = (k : Nat) ∧ n.lost = false) →
    exec (.leafLost k) s = .next (State.event { s with casc := { s.casc with
      nodes := s.casc.nodes.map (fun x => if x.node = (k : Nat) then { x with lost := true, lostAt := s.now } else x) } } 0x5E08 (ihCell 0) [byte k])) ∧
  (∀ (s : State) (k : Fin 64), s.live = true → (s.board.cascMaster = false ∨ (∀ n ∈ s.casc.nodes, n.node = (k : Nat) → n.lost = true)) →
    exec (.leafLost k) s = .next s) ∧
  (∀ (s : State), s.live = true → s.board.cascMaster = false → s.casc.masterLost = true → s.casc.lostAt < s.casc.seenAt →
    let t := State.greetMaster { s with casc := { s.casc with masterLost := false } }
    exec .masterRegained s = .next (t.event 0x5E07 (ihCell 0) (zeros 4 ++ leBytes 4 ((s.now - s.casc.lostAt) / cSec 1) ++ leBytes 4 t.casc.resent))) ∧
  (∀ (s : State), s.live = true → s.casc.masterLost = false → exec .masterRegained s = .next s) ∧
  (∀ (s : State), s.live = true → s.masterFormed = true → s.cfgN 0x2000 4 = 1 →
    let t := s.td0 + nsUnits (s.cfgN 0x5E00 2 * 1000)
    exec (.sampleSyncEpoch none) s = .next ((State.beatOut { s with casc := { s.casc with epochs := s.casc.epochs ++ [t] } } 0 2 t).beatOut 1 2 t)) ∧
  (∀ (s : State), s.live = true → (s.masterFormed = false ∨ s.cfgN 0x2000 4 ≠ 1) → exec (.sampleSyncEpoch none) s = .next s) ∧
  (∀ (s : State) (p : Fin 2) (t : Int), s.live = true → s.leafPresent = true → s.casc.upstream = p → t < s.td0 →
    exec (.sampleSyncEpoch (some (p, t))) s = .next ((s.beatOut (1 - p) 2 t).cascCount 10)) ∧
  (∀ (s : State) (p : Fin 2) (t : Int), s.live = true → s.leafPresent = true → s.casc.upstream = p → s.td0 ≤ t → s.cfgN 0x2000 4 = 1 →
    exec (.sampleSyncEpoch (some (p, t))) s = .next ((s.beatOut (1 - p) 2 t).updCasc (fun c => { c with epochs := c.epochs ++ [t] })))

/-- R648, R651, R653, R654, R667, R668, R670: a good measure of an island, its fault, its return, its gate; an event of a crossing delivered, held or
merged, its fence and its clear. -/
def Obligations.IslandsAndCrossings : Prop :=  (∀ (s : State) (i : Fin 25) (locked : Bool) (kHz : Nat), s.live = true → s.islandCause i locked kHz = 0 →
    let measured := fun (x : Island) => { x with locked := locked, kHz := if s.nominalHz i = 0 ∨ x.inReset then 0 else kHz }
    exec (.islandFrequencyCheck i locked kHz) s = .next { s with isl := { s.isl with islands := upd s.isl.islands i measured } }) ∧
  (∀ (s : State) (i : Fin 25) (locked : Bool) (kHz : Nat), s.live = true → s.islandCause i locked kHz ≠ 0 →
    exec (.islandFrequencyCheck i locked kHz) s = .next ((s.updIsland i (fun x => { x with
      locked := locked, kHz := if s.nominalHz i = 0 ∨ x.inReset then 0 else kHz })).islandFault i (s.islandCause i locked kHz))) ∧
  (∀ (s : State) (i cause : Nat), (at' s.isl.islands i).fault = false →
    s.islandFault i cause = (((State.event { s with isl := { s.isl with islands := upd s.isl.islands i (fun y => { y with
      fault := true, inReset := true, faults := satAdd maxU8 y.faults 1, faultAt := s.now, faultTimes := y.faultTimes ++ [s.now] }) } } 0x6001 islandCell
        [byte i, byte cause]).raiseErrorAt (islandCollector i) (islandUnit i) 0x0015).islandReset i)) ∧
  (∀ (s : State) (i : Fin 25), s.live = true → (at' s.isl.islands i).fault = true →
    exec (.islandClockRestored i) s = .next ((State.event { s with isl := { s.isl with islands := upd s.isl.islands i (fun y => { y with
      fault := false, inReset := false, locked := true }) } } 0x6002 islandCell
        ([byte i, 0, 0, 0] ++ leBytes 4 (min maxU32 ((s.now - (at' s.isl.islands i).faultAt) / cUs 1)))).openCrossings i)) ∧
  (∀ (s : State) (i : Fin 25), s.live = true → (at' s.isl.islands i).fault = false → exec (.islandClockRestored i) s = .next s) ∧
  (∀ (s : State) (i : Fin 25), s.running = true → (at' s.isl.islands i).inReset = false → (i : Nat) ≠ 9 → (i : Nat) < 22 →
    exec (.islandGate i) s = .next { s with isl := { s.isl with islands := upd s.isl.islands i (fun x => { x with gated := true }) } }) ∧
  (∀ (s : State) (i : Fin 25), s.live = true → ((at' s.isl.islands i).inReset = true ∨ (i : Nat) = 9 ∨ 22 ≤ (i : Nat)) → exec (.islandGate i) s = .next s) ∧
  (∀ (s : State) (i : Fin 25), s.live = true →
    exec (.islandUngate i) s = .next { s with isl := { s.isl with islands := upd s.isl.islands i (fun x => { x with gated := false }) } }) ∧
  (∀ (s : State) (dst src : Fin 25), s.live = true →
    let x := s.crossing dst src
    let r := x.arrive s.now
    let y := { r.1 with overrun := true, merged := sat32 x.merged, mergedSince := x.mergedSince + 1 }
    let e := s.raiseErrorAt (islandBlockCollector dst) (islandUnit dst) 0x0002
    (x.fenced = true → exec (.crossingOverrun dst src) s = .next s) ∧
    (x.fenced = false → r.2 = false →
      exec (.crossingOverrun dst src) s = .next ((s.putCrossing r.1).updIsland dst (fun i => { i with gated := false }))) ∧
    (x.fenced = false → r.2 = true → s.perSecond x.eventAt = true →
      exec (.crossingOverrun dst src) s = .next ((e.putCrossing { y with eventAt := some s.now, mergedSince := 0 }).event 0x6003
        islandCell ([byte dst, byte src, 0, 0] ++ leBytes 4 (x.mergedSince + 1)))) ∧
    (x.fenced = false → r.2 = true → s.perSecond x.eventAt = false → exec (.crossingOverrun dst src) s = .next (e.putCrossing y))) ∧
  (∀ (x : Crossing) (now t : Nat), x.invertedAt = none ∨ (x.invertedAt = some t ∧ x.held = false ∧ t + spacing x.dst x.src ≤ now) →
    x.arrive now = (x.invert now, false)) ∧
  (∀ (x : Crossing) (now t : Nat), x.invertedAt = some t → now < t + spacing x.dst x.src →
    x.arrive now = if x.held = true then (x, true) else ({ x with held := true }, false)) ∧
  (∀ (s : State) (dst src : Fin 25) (side : Fin 3) (items : Nat), s.live = true →
    let x := (s.crossing dst src).settle s.now
    let n := items + b2n x.held
    let down := ((side : Nat) != 1 && (at' s.isl.islands dst).inReset) || ((side : Nat) != 0 && (at' s.isl.islands src).inReset)
    exec (.crossingFenced dst src side items) s = .next (((s.putCrossing { x with
      fenced := down, toggle := false, invertedAt := none, held := false, lostAtReset := satAdd maxU32 x.lostAtReset n }).event 0x6004 islandCell
        ([byte dst, byte src, byte side, 0] ++ leBytes 4 n)).abortProducers
          (fun p => ((side : Nat) != 1 && islandOf p == dst) || ((side : Nat) != 0 && islandOf p == src)))) ∧
  (∀ (s : State) (role : Nat), TakesCommands s → roleMay role .operator = true →
    let cleared := s.isl.crossings.map (fun c => { c with overrun := false, merged := 0, lostAtReset := 0 })
    exec (.crossingClear role 1) s = .next (({ s with isl := { s.isl with crossings := cleared } }).put (.answer 0x6021 0 Abort.ok)))

/-- R661 to R664: a glitch is counted, a change that held is taken, an activation delivered or one too many; an input active for its StuckTime is
masked, and an inactive one rearms. -/
def Obligations.FilteredInputs : Prop :=  (∀ (s : State) (i : Fin 25) (level : Bool) (ns : Nat), s.live = true → s.isInput i = false → exec (.inputChange i level ns) s = .next s) ∧
  (∀ (s : State) (i : Fin 25) (level : Bool) (ns : Nat), s.live = true → s.isInput i = true → ns < s.inputCfg i 1 →
    exec (.inputChange i level ns) s = .next { s with isl := { s.isl with inputs := upd s.isl.inputs i (fun x => { x with glitches := x.glitches + 1 }) } }) ∧
  (∀ (s : State) (i : Fin 25) (level : Bool) (ns : Nat), s.live = true → s.isInput i = true → s.inputCfg i 1 ≤ ns →
    let act := level == (s.inputCfg i 2 == 1)
    let t : State := { s with isl := { s.isl with inputs := upd s.isl.inputs i (fun x => { x with raw := level }) } }
    (act = (at' s.isl.inputs i).active → exec (.inputChange i level ns) s = .next t) ∧
    (act = false → (at' s.isl.inputs i).active = true → exec (.inputChange i level ns) s =
      .next { t with isl := { t.isl with inputs := upd t.isl.inputs i (fun x => { x with active := false }) } }) ∧
    (act = true → (at' s.isl.inputs i).active = false → exec (.inputChange i level ns) s = .next (t.activation i (s.now - ns / 2 - 2)))) ∧
  (∀ (s : State) (i stamp : Nat), (at' s.isl.inputs i).mask = .none → s.inputCfg i 4 = 0 →
    let t := (s.updInput i (fun y => { y with active := true, activeSince := stamp })).updInput i (fun y => { y with
      delivered := y.delivered + 1, windowAt := none, inWindow := 0 })
    s.activation i stamp = if i = 0 then t.crossEvent 20 9 else t) ∧
  (∀ (s : State) (i : Fin 25), s.live = true → s.isInput i = true → s.inputCfg i 3 ≠ 0 → (at' s.isl.inputs i).mask = .none → (at' s.isl.inputs i).active = true →
    (at' s.isl.inputs i).activeSince + cMs (s.inputCfg i 3) ≤ s.now →
    exec (.inputStuck i) s = .next (State.event { s with isl := { s.isl with inputs := upd s.isl.inputs i (fun y => { y with
      mask := .stuck, maskedAt := s.now, stuckCount := sat32 y.stuckCount }) } } 0x6005 0x6400 ([byte i, 0, 0, 0] ++ leBytes 4 (s.inputCfg i 3)))) ∧
  (∀ (s : State) (i : Fin 25), s.live = true → (s.inputCfg i 3 = 0 ∨ (at' s.isl.inputs i).active = false ∨
    s.now < (at' s.isl.inputs i).activeSince + cMs (s.inputCfg i 3)) → exec (.inputStuck i) s = .next s) ∧
  (∀ (s : State) (i : Fin 25), s.live = true → (at' s.isl.inputs i).active = false → (at' s.isl.inputs i).mask = .stuck →
    exec (.inputRearmed i) s = .next (State.event { s with isl := { s.isl with inputs := upd s.isl.inputs i (fun y => { y with mask := .none }) } } 0x6007 0x6400
      ([byte i, 1, 0, 0] ++ leBytes 4 (min maxU32 ((s.now - (at' s.isl.inputs i).maskedAt) / cMs 1))))) ∧
  (∀ (s : State) (i : Fin 25), s.live = true → (at' s.isl.inputs i).active = false → (at' s.isl.inputs i).mask = .chattering →
    (at' s.isl.inputs i).maskedAt + cMs (s.inputCfg i 6) ≤ s.now →
    exec (.inputRearmed i) s = .next (State.event { s with isl := { s.isl with inputs := upd s.isl.inputs i (fun y => { y with
      mask := .none, windowAt := none, inWindow := 0 }) } } 0x6007 0x6400
        ([byte i, 2, 0, 0] ++ leBytes 4 (min maxU32 ((s.now - (at' s.isl.inputs i).maskedAt) / cMs 1))))) ∧
  (∀ (s : State) (i : Fin 25), s.live = true → ((at' s.isl.inputs i).active = true ∨ (at' s.isl.inputs i).mask = .none) → exec (.inputRearmed i) s = .next s)

/-- R22, R23, R671 to R677, R680: reports move up the collectors, and the oldest error that waits is handled by its class; a permanent error retires a
cell, fences it or is a DEVICE_FAULT. -/
def Obligations.ErrorsContained : Prop :=  (∀ (s : State), s.live = true → s.health.raised = [] → exec (.errorReport none) s = .next s.forwardReports) ∧
  (∀ (s : State) (e : ErrReport), s.live = true → s.health.raised = [e] →
    exec (.errorReport none) s =
      .next (State.handleError { s.forwardReports with health := { s.forwardReports.health with raised := [] } } e [])) ∧
  (∀ (s : State) (n : NewError), s.live = true → s.health.raised = [] → n.code ≠ 0x0020 →
    let t := (s.raiseError n.cell n.code).forwardReports
    exec (.errorReport (some n)) s = .next (State.handleError { t with health := { t.health with raised := [] } }
      (ErrReport.mk n.cell n.code (errClass n.code) s.td0 n.cell) n.items)) ∧
  (∀ (s : State) (e : ErrReport) (bad : List Nat), e.cls = 0 → s.handleError e bad = s) ∧
  (∀ (s : State) (e : ErrReport) (bad : List Nat), e.cls ≠ 0 → e.code = 0x0015 → s.handleError e bad = s.judgeIslands e.entry) ∧
  (∀ (s : State) (e : ErrReport) (bad : List Nat), e.cls = 1 → e.code ≠ 0x0015 → s.inService (unitOf e.cell) = false → s.handleError e bad = s) ∧
  (∀ (s : State) (e : ErrReport) (bad : List Nat), e.cls = 1 → e.code ≠ 0x0015 → s.inService (unitOf e.cell) = true →
    s.handleError e bad = if (s.transient e).2 = 0 then (s.transient e).1
      else ((s.transient e).1.reportTo e.entry { e with code := (s.transient e).2, cls := 2 } 0).permanent e.cell (s.transient e).2 bad) ∧
  (∀ (s : State) (e : ErrReport) (bad : List Nat), e.cls = 2 → e.code ≠ 0x0015 → e.code ≠ 0x0020 → e.code ≠ 0x0035 →
    (e.code ≠ 0x0030 ∨ cellKind e.cell ≠ 0) → s.handleError e bad = s.permanent e.cell e.code bad) ∧
  (∀ (s : State) (cell code : Nat) (bad : List Nat),
    (critical (unitOf cell) = true → s.permanent cell code bad = s.deviceFaulted (unitOf cell) code) ∧
    (critical (unitOf cell) = false → s.inService (unitOf cell) = false → s.permanent cell code bad = s) ∧
    (critical (unitOf cell) = false → s.inService (unitOf cell) = true → cellKind (unitOf cell) ≤ 9 → s.permanent cell code bad = s.retire (unitOf cell) code bad) ∧
    (critical (unitOf cell) = false → s.inService (unitOf cell) = true → 9 < cellKind (unitOf cell) → s.permanent cell code bad = s.fence (unitOf cell) code)) ∧
  (∀ (s : State) (cell item : Nat), s.live = true → 1 ≤ (s.cellRec cell).attempts → (s.cellRec cell).attempts ≤ 3 →
    (s.cellRec cell).failedAt + cUs (s.kindPolicy cell 3 * 4 ^ ((s.cellRec cell).attempts - 1)) ≤ s.now → 2 ≤ cellKind cell →
    exec (.retry cell item true) s = .next (s.updCell cell (fun x => { x with attempts := 0 })) ∧
    exec (.retry cell item false) s = .next (s.raiseError cell (s.cellRec cell).lastCode)) ∧
  (∀ (s : State) (cell item : Nat) (ok : Bool), s.live = true → ((s.cellRec cell).attempts = 0 ∨ 4 ≤ (s.cellRec cell).attempts ∨
    s.now < (s.cellRec cell).failedAt + cUs (s.kindPolicy cell 3 * 4 ^ ((s.cellRec cell).attempts - 1))) → exec (.retry cell item ok) s = .next s)

/-- R677, R685 to R688, R695: cells retired and returned by command, the failover of the control cores, the self-test, a collector cleared. -/
def Obligations.CellService : Prop :=  (∀ (s : State) (role v : Nat), TakesCommands s → roleMay role .operator = true →
    ((cellDefined v = false ∨ 9 < cellKind v) → exec (.retireCell role v) s = .next (s.put (.answer 0x6422 1 Abort.valueInconsistent))) ∧
    (cellDefined v = true → cellKind v ≤ 9 → s.inService v = false → exec (.retireCell role v) s = .next (s.put (.answer 0x6422 1 Abort.fenced))) ∧
    (cellDefined v = true → cellKind v ≤ 9 → s.inService v = true →
      exec (.retireCell role v) s = .next ((((s.reportTo v (ErrReport.mk v 0x0036 2 s.td0 v) 0).forwardReports).permanent v 0x0036 []).put
        (.answer 0x6422 1 Abort.ok))) ∧
    (s.cellStatus v ≠ .returnReady → s.cellStatus v ≠ .held → exec (.returnCell role v) s = .next (s.put (.answer 0x6422 2 Abort.valueInconsistent))) ∧
    ((s.cellStatus v = .returnReady ∨ s.cellStatus v = .held) → exec (.returnCell role v) s =
      .next ((s.updCell v (fun r => { r with returnAsked := true })).put (.answer 0x6422 2 Abort.ok)))) ∧
  (∀ (s : State) (role : Nat), TakesCommands s → roleMay role .operator = true → s.cfgN 0x6420 0 = 0xE100 →
    let c : Collector := { (lookupKey 0xE100 s.health.collectors).getD emptyCollector with counts := [0, 0, 0], first := none }
    exec (.clearCollector role 1) s = .next (({ s with health := { s.health with
      collectors := insertKey 0xE100 c s.health.collectors, regionFaults := 0 } }).put (.answer 0x6422 3 Abort.ok))) ∧
  (∀ (s : State) (role a : Nat), TakesCommands s → roleMay role .operator = true → s.cfgN 0x6420 0 = a → a ≠ 0xE100 → a % 8192 ≠ 0x1F00 →
    let c : Collector := { (lookupKey a s.health.collectors).getD emptyCollector with counts := [0, 0, 0], first := none }
    exec (.clearCollector role 1) s = .next (({ s with health := { s.health with
      collectors := insertKey a c s.health.collectors } }).put (.answer 0x6422 3 Abort.ok))) ∧
  (∀ (s : State) (k us : Nat), s.live = true → s.health.failover = some k →
    exec (.controlFailover true us) s = .next (State.event { s with
      health := { s.health with failover := none }, fw := { s.fw with activeSet := 1 - s.fw.activeSet } } 0x6406 (coreCell k)
        ([0, byte k] ++ leBytes 2 (min maxU16 us))) ∧
    exec (.controlFailover false us) s = .next (State.event { s.coldControl with
      health := { s.health with failover := none }, fw := { s.fw with activeSet := 1 - s.fw.activeSet } } 0x6406 (coreCell k)
        ([1, byte k] ++ leBytes 2 (min maxU16 us)))) ∧
  (∀ (s : State) (h : Bool) (us : Nat), s.live = true → s.health.failover = none → exec (.controlFailover h us) s = .next s) ∧
  (∀ (s : State) (cell word : Nat) (space : Fin 2), s.live = true → ((s.cellRec cell).status = .fenced ∨ (s.cellRec cell).status = .retired) →
    ((s.cellRec cell).lastTest = 0 ∨ (s.cellRec cell).lastTest + cSec (s.kindPolicy cell 5) ≤ s.now) →
    exec (.selfTest cell true space word) s = .next (s.updCell cell (fun x => { x with lastTest := s.now, tested := true, status := .returnReady })) ∧
    exec (.selfTest cell false space word) s = .next (((s.updCell cell (fun x => { x with lastTest := s.now })).raiseError cell 0x0035).event 0x6403 cell
      ([byte (cellKind cell), byte space, 0, 0] ++ leBytes 4 word))) ∧
  (∀ (s : State) (cell word : Nat) (pass : Bool) (space : Fin 2), s.live = true → (s.cellRec cell).status = .inService →
    exec (.selfTest cell pass space word) s = .next s)

/-- R689 to R694: a freeze by the pin or the debug mailbox, its release by the last requester, and the swatch. -/
def Obligations.FreezeAndSwatch : Prop :=  (∀ (s : State), (s.power.phase = .run ∨ s.power.phase = .castOn ∨ s.power.phase = .flushed ∨ s.power.phase = .stopped) → s.cfgN 0x6441 1 = 1 →
    s.health.frozen = false →
    exec (.freeze 0) s = .next (State.cutSending { s with health := { s.health with
      frozen := true, freezePin := true, frozenBackup := s.time.backup, freezes := sat32 s.health.freezes, lastRequester := 1 } })) ∧
  (∀ (s : State), (s.power.phase = .run ∨ s.power.phase = .castOn ∨ s.power.phase = .flushed ∨ s.power.phase = .stopped) → s.debugGrants 0 = true →
    s.health.frozen = true → exec (.freeze 1) s = .next { s with health := { s.health with freezeDebug := true } }) ∧
  (∀ (s : State), s.cfgN 0x6441 1 ≠ 1 → exec (.freeze 0) s = .next s) ∧
  (∀ (s : State), s.debugGrants 0 = false → exec (.freeze 1) s = .next s) ∧
  (∀ (s : State) (r : Fin 2), (s.power.phase = .lastGasp ∨ s.power.phase = .held ∨ s.power.phase = .refHeld) → exec (.freeze r) s = .next s) ∧
  (∀ (s : State), s.health.frozen = true → s.health.freezeDebug = true →
    exec (.freezeReleased 0) s = .next { s with health := { s.health with freezePin := false, lastRequester := 1 } }) ∧
  (∀ (s : State), s.health.frozen = true → s.health.freezePin = false →
    exec (.freezeReleased 1) s = .next (State.thaw { s with health := { s.health with freezeDebug := false, lastRequester := 2 } })) ∧
  (∀ (s : State) (r : Fin 2), s.health.frozen = false → exec (.freezeReleased r) s = .next s) ∧
  (∀ (s : State) (cell space addr : Nat) (present secret : Bool), s.power.phase ≠ .held → s.debugGrants 0 = false →
    exec (.swData cell space addr present secret) s = .next (({ s with health := { s.health with swatch := { s.health.swatch with
      cell := cell, space := space, addr := (addr + 1) % 2 ^ 32, denied := true, masked := false } } }).put (.value cell addr (zeros 4)))) ∧
  (∀ (s : State) (cell space addr : Nat), s.power.phase ≠ .held → s.debugGrants 0 = true → s.health.frozen = true → cellDefined cell = true → space ≤ 1 →
    secretCell cell = false →
    exec (.swData cell space addr true false) s = .next (({ s with fresh := s.fresh + 1, health := { s.health with swatch := { s.health.swatch with
      cell := cell, space := space, addr := (addr + 1) % 2 ^ 32, denied := false, masked := false } } }).put
        (.value cell addr (padTo 4 (Config.freeBytes s.fresh))))) ∧
  (∀ (s : State) (cell space addr : Nat) (secret : Bool), s.power.phase ≠ .held → s.debugGrants 0 = true → s.health.frozen = true → cellDefined cell = true →
    space ≤ 1 → (secretCell cell = true ∨ secret = true) →
    exec (.swData cell space addr true secret) s = .next (({ s with health := { s.health with swatch := { s.health.swatch with
      cell := cell, space := space, addr := (addr + 1) % 2 ^ 32, denied := false, masked := true } } }).put (.value cell addr (zeros 4)))) ∧
  (∀ (s : State), s.power.phase ≠ .held →
    let w := s.health.swatch
    exec .swStatus s = .next (({ s with health := { s.health with swatch := { w with error := false } } }).put (.value 0 0x14
      (leBytes 4 (b2n s.health.frozen + 2 * b2n w.error + 4 * b2n w.masked + 8 * b2n (w.denied || !s.debugGrants 0))))))

/-- R698, R704, R705, R707 to R713: the cold resets by PORST_N, by a brown-out and by the end of a power failure, the last gasp and its stop, a
restart by command. -/
def Obligations.ResetsAndLastGasp : Prop :=  (∀ (s : State), (s.power.phase = .run ∨ s.power.phase = .stopped ∨ s.power.phase = .refHeld) →
    exec .porst s = .next (State.coldReset { s with powerNv := { s.powerNv with lastGaspResult := 0 } } 1)) ∧
  (∀ (s : State), s.power.phase = .flushed → exec .porst s = .next (State.coldReset { s with powerNv := { s.powerNv with lastGaspResult := 1 } } 1)) ∧
  (∀ (s : State), s.power.phase = .lastGasp →
    exec .porst s = .next (State.coldReset { s with powerNv := { s.powerNv with gaspCut := some (min 7 s.power.gaspStep, 1), lastGaspResult := 2 } } 1)) ∧
  (∀ (s : State), (s.power.phase = .castOn ∨ s.power.phase = .held) → exec .porst s = .next (s.coldReset 1)) ∧
  (∀ (s : State), (s.power.phase = .run ∨ s.power.phase = .refHeld) →
    exec .brownOut s = .next (State.coldReset { s with powerNv := { s.powerNv with lastGaspResult := 3 } } 2)) ∧
  (∀ (s : State), s.power.phase = .lastGasp →
    exec .brownOut s = .next (State.coldReset { s with powerNv := { s.powerNv with gaspCut := some (min 7 s.power.gaspStep, 2), lastGaspResult := 2 } } 2)) ∧
  (∀ (s : State), (s.power.phase = .flushed ∨ s.power.phase = .held) →
    exec .brownOut s = .next { s.coldReset 0 with power := { initPower 0 with phase := .held, pendingCause := 0 } }) ∧
  (∀ (s : State), s.power.phase = .castOn → exec .brownOut s = .next (s.coldReset 2)) ∧
  (∀ (s : State), (s.power.phase = .flushed ∨ s.power.phase = .stopped) → exec .pfailReleased s = .next (s.coldReset 3)) ∧
  (∀ (s : State), s.power.phase = .lastGasp → exec .pfailReleased s = .next { s with power := { s.power with pfailLow := false } }) ∧
  (∀ (s : State), (s.power.phase = .run ∨ s.power.phase = .castOn ∨ s.power.phase = .held ∨ s.power.phase = .refHeld) → exec .pfailReleased s = .next s) ∧
  (∀ (s : State), s.power.phase = .run → s.health.frozen = false → exec .lastGasp s = .next (s.gaspStart 1)) ∧
  (∀ (s : State), s.power.phase = .run → s.health.frozen = true → exec .lastGasp s = .next (s.thaw.gaspStart 1)) ∧
  (∀ (s : State), s.power.phase ≠ .run → exec .lastGasp s = .next s) ∧
  (∀ (s : State) (late : Nat), s.power.phase = .lastGasp → s.power.gaspAt + cMs 180 ≤ s.now → s.power.pfailLow = true →
    ∃ t, exec (.lastGaspStop late) s = .next t ∧ t.powerNv.lastGaspResult = 1) ∧
  (∀ (s : State) (late : Nat), (s.power.phase ≠ .lastGasp ∨ s.now < s.power.gaspAt + cMs 180) → exec (.lastGaspStop late) s = .next s) ∧
  (∀ (s : State) (role : Nat), TakesCommands s → roleMay role .operator = true → s.power.phase = .run →
    exec (.deviceRestart role 1) s = .next ((s.restart 4).put (.answer 0x6810 0 Abort.ok))) ∧
  (∀ (s : State) (role v : Nat), TakesCommands s → roleMay role .operator = true → v ≠ 1 →
    exec (.deviceRestart role v) s = .next (s.put (.answer 0x6810 0 Abort.valueRange))) ∧
  (∀ (s : State) (role : Nat), TakesCommands s → roleMay role .operator = true → s.power.phase = .lastGasp →
    exec (.deviceRestart role 1) s = .next (s.put (.answer 0x6810 0 Abort.busy)))

/-- R697, R703, R707 to R709: the reference clock lost and restored, its limit, a supply warning, the periodic save, and cast-on from reset. -/
def Obligations.ClocksSupplyAndCastOn : Prop :=  (∀ (s : State), s.live = true → s.power.refLostAt = none →
    exec .referenceLost s = .next ((State.event { s with power := { s.power with refLostAt := some s.now, refSource := 2 } } 0x6803 0x6400
      [byte s.power.refSource]).tamperFire 10)) ∧
  (∀ (s : State) (t : Nat), s.live = true → s.power.refLostAt = some t → exec .referenceLost s = .next s) ∧
  (∀ (s : State) (t : Nat), s.live = true → s.power.refLostAt = some t → t + cMs 100 ≤ s.now → s.power.phase = .run →
    let f := s.flush 3
    exec .referenceLossLimit s = .next { f with power := { f.power with phase := .refHeld }, powerNv := { f.powerNv with lastGaspResult := 0 } }) ∧
  (∀ (s : State), s.live = true → (s.power.refLostAt = none ∨ s.power.phase = .lastGasp) → exec .referenceLossLimit s = .next s) ∧
  (∀ (s : State) (t : Nat), s.live = true → s.power.refLostAt = some t → s.now ≤ t + cMs 100 →
    exec .referenceRestored s = .next (State.event { s with power := { s.power with refLostAt := none, refSource := if s.board.refclk then 1 else 0 } } 0x6804 0x6400
      ([0, 0, 0, 0] ++ leBytes 4 ((s.now - t) / 500)))) ∧
  (∀ (s : State), s.power.phase = .refHeld → exec .referenceRestored s = .next (s.coldReset 7)) ∧
  (∀ (s : State), s.live = true → s.power.refLostAt = none → exec .referenceRestored s = .next s) ∧
  (∀ (s : State) (rail : Fin 7) (bank mV : Nat), s.live = true → warnLevel rail (s.board.banks33.getD bank false) ≤ mV →
    exec (.supplyWarning rail bank mV) s = .next { s with power := { s.power with
      supply := (match measureOf rail with | some k => s.power.supply.set k mV | none => s.power.supply)
      railWarn := if (rail : Nat) = 5 then (if clearBit s.power.railWarn (8 + bank) / 256 = 0 then clearBit (clearBit s.power.railWarn (8 + bank)) 5
        else setBit (clearBit s.power.railWarn (8 + bank)) 5) else clearBit s.power.railWarn rail } }) ∧
  (∀ (s : State) (rail : Fin 7) (bank mV : Nat), s.live = true → mV < warnLevel rail (s.board.banks33.getD bank false) →
    s.perSecond (s.power.warnEventAt.getD rail none) = true → at' s.power.warnLowest (rail : Nat) = 0 →
    exec (.supplyWarning rail bank mV) s = .next (State.event { s with power := { s.power with
      supply := (match measureOf rail with | some k => s.power.supply.set k mV | none => s.power.supply)
      railWarn := if (rail : Nat) = 5 then (if setBit s.power.railWarn (8 + bank) / 256 = 0 then clearBit (setBit s.power.railWarn (8 + bank)) 5
        else setBit (setBit s.power.railWarn (8 + bank)) 5) else setBit s.power.railWarn rail
      warnEventAt := s.power.warnEventAt.set rail (some s.now), warnLowest := s.power.warnLowest.set rail 0 } }
        0x6805 powerCell ([byte rail, 0] ++ leBytes 2 mV))) ∧
  (∀ (s : State), s.running = true → s.power.lastSaveAt + cSec 60 ≤ s.now →
    exec .periodicSave s = .next { s with
      senseNv := { s.senseNv with saved := s.sense.energy }
      time := { s.time with savedTd0 := s.td0, savedDiffs := (List.range 8).map (fun k => if k = 0 then none else some (s.td k - s.td0)) }
      power := { s.power with lastSaveAt := s.now } }) ∧
  (∀ (s : State), s.running = true → s.now < s.power.lastSaveAt + cSec 60 → exec .periodicSave s = .next s) ∧
  (∀ (s : State) (i : CastOnInput), ((s.power.phase ≠ .castOn ∧ s.power.phase ≠ .held) ∨ s.inRecovery = true ∨ s.health.frozen = true) →
    exec (.castOn i) s = .next s) ∧
  (∀ (s : State) (i : CastOnInput), s.power.phase = .castOn → s.inRecovery = false → s.health.frozen = false → i.vbatLost = false →
    exec (.castOn i) s = .next (castOnRun i 10 ((State.loadSettings { s with
      board := i.board
      time := { s.time with counter := cUs (i.times.getD 9 0), backup := (s.time.backup + i.backup) % 2 ^ 48 }
      powerNv := { s.powerNv with castOnCount := sat32 s.powerNv.castOnCount } }).seedTime 0)))
end

