-- ==== Sys2Proof/Laws/Events.lean ====
section
/-!
SUPPORT. What raising events and moving cells through queues can change, said once: the queues, the subscriptions that take the events, and the
vault's log of events (R79, R81, R579). Everything else of the state stands.
-/
namespace Sys2Proof.Laws

open Sys2Proof.Machine

/-- `t` differs from `s` at most in the queues, in the subscriptions and in the vault's log. -/
def EventsOnly (s t : State) : Prop :=
  ∃ (q : QueueState) (u : List (Option Subscription)) (l : List Bytes),
    t = { s with queue := q, dict := { s.dict with subs := u }, vaultNv := { s.vaultNv with log := l } }

theorem EventsOnly.refl (s : State) : EventsOnly s s := ⟨s.queue, s.dict.subs, s.vaultNv.log, rfl⟩

theorem EventsOnly.trans {s t u : State} (h : EventsOnly s t) (k : EventsOnly t u) : EventsOnly s u := by
  obtain ⟨_, _, _, rfl⟩ := h
  obtain ⟨q, u, l, rfl⟩ := k
  exact ⟨q, u, l, rfl⟩

theorem vaultLogTake_eventsOnly (s : State) (e : EventRec) : EventsOnly s (s.vaultLogTake e) := by
  unfold State.vaultLogTake; split
  · exact ⟨s.queue, s.dict.subs, _, rfl⟩
  · exact .refl s

theorem deliver_eventsOnly (s : State) (e : EventRec) : EventsOnly s (s.deliver e) := ⟨s.queue, _, s.vaultNv.log, rfl⟩

theorem backpressure_eventsOnly (s : State) (i : Nat) : EventsOnly s (s.backpressure i) := ⟨_, s.dict.subs, s.vaultNv.log, rfl⟩

theorem queueTotal_eventsOnly (s : State) (i n : Nat) : EventsOnly s (s.queueTotal i n) := ⟨_, s.dict.subs, s.vaultNv.log, rfl⟩

theorem countMoves_eventsOnly (s : State) (a b : Queue) : EventsOnly s (s.countMoves a b) := by
  unfold State.countMoves
  split
  · exact queueTotal_eventsOnly ..
  · split
    · exact ⟨_, s.dict.subs, s.vaultNv.log, rfl⟩
    · exact .refl _

theorem putQueue_eventsOnly (s : State) (i : Nat) (q : Queue) : EventsOnly s (s.putQueue i q).1 := ⟨_, s.dict.subs, s.vaultNv.log, rfl⟩

theorem pushRaw_eventsOnly {s t : State} {i p : Nat} {r : Bool} {c : QCell} {evs : List RawEvent} (h : s.pushRaw i p r c = some (t, evs)) :
    EventsOnly s t := by
  unfold State.pushRaw at h
  dsimp only at h
  repeat' (split at h)
  all_goals first
    | (cases h; done)
    | (obtain rfl := congrArg Prod.fst (Option.some.inj h)
       first
         | exact ((countMoves_eventsOnly s _ _).trans (queueTotal_eventsOnly _ 1 1)).trans (putQueue_eventsOnly _ i _)
         | exact ⟨_, s.dict.subs, s.vaultNv.log, rfl⟩)

theorem pushAllRaw_eventsOnly (cs : List QCell) : ∀ {s t : State} {i p : Nat} {r : Bool} {evs : List RawEvent},
    s.pushAllRaw i p r cs = some (t, evs) → EventsOnly s t := by
  induction cs with
  | nil => intro s t i p r evs h; simp only [State.pushAllRaw, Option.some.injEq, Prod.mk.injEq] at h; obtain ⟨rfl, -⟩ := h; exact .refl _
  | cons c cs ih =>
    intro s t i p r evs h
    simp only [State.pushAllRaw] at h
    split at h
    · exact absurd h (by simp)
    · rename_i s1 e1 h1
      split at h
      · exact absurd h (by simp)
      · rename_i s2 e2 h2
        simp only [Option.some.injEq, Prod.mk.injEq] at h
        obtain ⟨rfl, -⟩ := h
        exact (pushRaw_eventsOnly h1).trans (ih h2)

theorem foldl_eventsOnly {α : Type} (f : State → α → State) (h : ∀ s x, EventsOnly s (f s x)) (l : List α) (s : State) :
    EventsOnly s (l.foldl f s) := by
  induction l generalizing s with
  | nil => exact .refl _
  | cons x l ih => exact (h s x).trans (ih _)

theorem emitRec_eventsOnly (n : Nat) : ∀ (s : State) (e : EventRec), EventsOnly s (s.emitRec n e) := by
  induction n with
  | zero => intro s e; exact ⟨_, s.dict.subs, s.vaultNv.log, rfl⟩
  | succ n ih =>
    intro s e
    simp only [State.emitRec]
    split
    · exact ⟨_, s.dict.subs, s.vaultNv.log, rfl⟩
    · split
      · exact ⟨_, s.dict.subs, s.vaultNv.log, rfl⟩
      · rename_i h
        exact ((pushAllRaw_eventsOnly _ h).trans (deliver_eventsOnly _ e)).trans (foldl_eventsOnly _ (fun st r => ih st _) _ _)

/-- Raising an event. -/
theorem emit_eventsOnly (s : State) (code cell meter : Nat) (data : Bytes) : EventsOnly s (s.emit code cell meter data) :=
  (vaultLogTake_eventsOnly _ _).trans (emitRec_eventsOnly _ _ _)

/-- Raising an event about no meter. -/
theorem event_eventsOnly (s : State) (code cell : Nat) (data : Bytes) : EventsOnly s (s.event code cell data) := emit_eventsOnly ..

theorem emitAll_eventsOnly (s : State) (evs : List RawEvent) : EventsOnly s (s.emitAll evs) :=
  foldl_eventsOnly _ (fun _ _ => emit_eventsOnly ..) _ _

/-- A packet that enters. -/
theorem pushPacket_eventsOnly {s t : State} {i p : Nat} {b : Bytes} (h : s.pushPacket i p b = some t) : EventsOnly s t := by
  unfold State.pushPacket at h
  split at h
  · exact absurd h (by simp)
  · rename_i h1
    simp only [Option.some.injEq] at h
    exact h ▸ (pushAllRaw_eventsOnly _ h1).trans (emitAll_eventsOnly ..)

/-- A packet of a producer that waits. -/
theorem sendPacket_eventsOnly (s : State) (i p : Nat) (b : Bytes) : EventsOnly s (s.sendPacket i p b).1 := by
  unfold State.sendPacket; split
  · exact pushPacket_eventsOnly ‹_›
  · exact backpressure_eventsOnly ..

theorem overrun_eventsOnly (s : State) (i : Nat) : EventsOnly s (s.overrun i) := by
  unfold State.overrun; dsimp only; split
  · exact EventsOnly.trans (t := { s with queue := { s.queue with queues := s.queue.queues.set i { (at' s.queue.queues i) with
      overruns := (at' s.queue.queues i).overruns + 1, overrun := true, droppedSince := 0, overrunEventAt := some s.now } } })
      ⟨_, s.dict.subs, s.vaultNv.log, rfl⟩ (event_eventsOnly ..)
  · exact ⟨_, s.dict.subs, s.vaultNv.log, rfl⟩

/-- A packet of a producer that does not wait. -/
theorem pushOrDrop_eventsOnly (s : State) (i p : Nat) (b : Bytes) : EventsOnly s (s.pushOrDrop i p b).1 := by
  unfold State.pushOrDrop; split
  · exact pushPacket_eventsOnly ‹_›
  · exact overrun_eventsOnly ..

end Sys2Proof.Laws
end

