-- ==== Sys2Proof/Laws/Gates.lean ====
section
/-!
SUPPORT. When a command comes about: what each gate of the shared operations answers, once for all the commands behind it.
-/
namespace Sys2Proof.Laws
open Sys2Proof.Machine

/-- While the device runs, a step of it has its effect. -/
theorem whenLive_live {s : State} (h : s.live = true) (f : State → State) : s.whenLive f = .next (f s) := by
  simp [State.whenLive, h]

/-- While it does not run, nothing comes about. -/
theorem whenLive_idle {s : State} (h : s.live = false) (f : State → State) : s.whenLive f = .next s := by
  simp [State.whenLive, h]

theorem whenRunning_running {s : State} (h : s.running = true) (f : State → State) : s.whenRunning f = .next (f s) := by
  simp [State.whenRunning, h]

theorem whenRunning_idle {s : State} (h : s.running = false) (f : State → State) : s.whenRunning f = .next s := by
  simp [State.whenRunning, h]

theorem whenRadio_runs {s : State} (h : s.radioRuns = true) (f : State → State) : s.whenRadio f = .next (f s) := by
  simp [State.whenRadio, h]

theorem whenRadio_idle {s : State} (h : s.radioRuns = false) (f : State → State) : s.whenRadio f = .next s := by
  simp [State.whenRadio, h]

theorem whenLanes_runs {s : State} (h : LanesRun s) (f : State → State) : s.whenLanes f = .next (f s) := by
  simp [State.whenLanes, h.1, h.2]

theorem whenLanes_idle {s : State} (h : s.live = false ∨ s.health.deviceFault = true) (f : State → State) : s.whenLanes f = .next s := by
  rcases h with h | h <;> simp [State.whenLanes, h]

theorem whenPort_runs {s : State} (h : s.portRuns = true) (f : State → State) : s.whenPort f = .next (f s) := by
  simp [State.whenPort, h]

theorem whenPort_idle {s : State} (h : s.portRuns = false) (f : State → State) : s.whenPort f = .next s := by
  simp [State.whenPort, h]

theorem whenPowered_on {s : State} (h : s.power.phase ≠ .held) (f : State → State) : s.whenPowered f = .next (f s) := by
  simp [State.whenPowered, h]

theorem whenPowered_held {s : State} (h : s.power.phase = .held) (f : State → State) : s.whenPowered f = .next s := by
  simp [State.whenPowered, h]

/-- A command written by a role that its object allows does what it does, and its answer leaves. -/
theorem command_taken {s : State} (h : TakesCommands s) {role : Nat} {col : RoleCol} (r : roleMay role col = true) (idx sub : Nat)
    (f : State → State × Nat) : s.command idx sub role col f = .next ((f s).1.put (.answer idx sub (f s).2)) := by
  simp [State.command, h.1, h.2.1, h.2.2, r]

/-- R53: a command written by a role that its object shuts out is answered with ROLE_DENIED, and nothing else comes about. -/
theorem command_denied {s : State} (h : TakesCommands s) {role : Nat} {col : RoleCol} (r : roleMay role col = false) (idx sub : Nat)
    (f : State → State × Nat) : s.command idx sub role col f = .next (s.put (.answer idx sub Abort.roleDenied)) := by
  simp [State.command, h.1, h.2.1, h.2.2, r]

/-- Where writes are not taken, a command does nothing. -/
theorem command_idle {s : State} (h : ¬ TakesCommands s) (idx sub role : Nat) (col : RoleCol) (f : State → State × Nat) :
    s.command idx sub role col f = .next s := by
  have : (s.live && !s.health.deviceFault && s.fw.pauseAt.isNone) = false := by
    by_contra c
    simp only [Bool.not_eq_false, Bool.and_eq_true, Bool.not_eq_true', Option.isNone_iff_eq_none] at c
    exact h ⟨c.1.1, c.1.2, c.2⟩
  simp [State.command, this]

/-- A frozen device neither runs nor takes frames by its ports. -/
theorem live_of_frozen {s : State} (h : s.health.frozen = true) : s.live = false ∧ s.running = false ∧ s.radioRuns = false ∧ s.portRuns = false := by
  simp [State.live, State.running, State.radioRuns, State.portRuns, h]

/-- A device in reset neither runs nor takes commands. -/
theorem live_of_castOn {s : State} (h : s.power.phase = .castOn) : s.live = false ∧ s.running = false ∧ s.radioRuns = false := by
  simp [State.live, State.running, State.radioRuns, h]

theorem one_one (f : State → State × Nat) (s : State) : one 1 f s = f s := rfl

end Sys2Proof.Laws
end

