-- ==== Sys2Proof/Laws/State.lean ====
section
/-!
SUPPORT. What the updates of one part of the state leave and change: one lemma for each field of State and each update, so that no proof unfolds a
record update.
-/
namespace Sys2Proof.Laws
open Sys2Proof.Machine

variable (s : State)

@[simp] theorem put_pending (o : Out) : (s.put o).pending = s.pending := rfl
@[simp] theorem put_out (o : Out) : (s.put o).out = s.out ++ [o] := rfl
@[simp] theorem put_fresh (o : Out) : (s.put o).fresh = s.fresh := rfl
@[simp] theorem put_cfg (o : Out) : (s.put o).cfg = s.cfg := rfl
@[simp] theorem put_dict (o : Out) : (s.put o).dict = s.dict := rfl
@[simp] theorem put_queue (o : Out) : (s.put o).queue = s.queue := rfl
@[simp] theorem put_time (o : Out) : (s.put o).time = s.time := rfl
@[simp] theorem put_health (o : Out) : (s.put o).health = s.health := rfl
@[simp] theorem put_fabric (o : Out) : (s.put o).fabric = s.fabric := rfl
@[simp] theorem put_isl (o : Out) : (s.put o).isl = s.isl := rfl
@[simp] theorem put_power (o : Out) : (s.put o).power = s.power := rfl
@[simp] theorem put_powerNv (o : Out) : (s.put o).powerNv = s.powerNv := rfl
@[simp] theorem put_board (o : Out) : (s.put o).board = s.board := rfl
@[simp] theorem put_vault (o : Out) : (s.put o).vault = s.vault := rfl
@[simp] theorem put_vaultNv (o : Out) : (s.put o).vaultNv = s.vaultNv := rfl
@[simp] theorem put_mtr (o : Out) : (s.put o).mtr = s.mtr := rfl
@[simp] theorem put_net (o : Out) : (s.put o).net = s.net := rfl
@[simp] theorem put_dist (o : Out) : (s.put o).dist = s.dist := rfl
@[simp] theorem put_distNv (o : Out) : (s.put o).distNv = s.distNv := rfl
@[simp] theorem put_lane (o : Out) : (s.put o).lane = s.lane := rfl
@[simp] theorem put_vee (o : Out) : (s.put o).vee = s.vee := rfl
@[simp] theorem put_bal (o : Out) : (s.put o).bal = s.bal := rfl
@[simp] theorem put_sense (o : Out) : (s.put o).sense = s.sense := rfl
@[simp] theorem put_senseNv (o : Out) : (s.put o).senseNv = s.senseNv := rfl
@[simp] theorem put_plc (o : Out) : (s.put o).plc = s.plc := rfl
@[simp] theorem put_radio (o : Out) : (s.put o).radio = s.radio := rfl
@[simp] theorem put_store (o : Out) : (s.put o).store = s.store := rfl
@[simp] theorem put_storeNv (o : Out) : (s.put o).storeNv = s.storeNv := rfl
@[simp] theorem put_up (o : Out) : (s.put o).up = s.up := rfl
@[simp] theorem put_upNv (o : Out) : (s.put o).upNv = s.upNv := rfl
@[simp] theorem put_fw (o : Out) : (s.put o).fw = s.fw := rfl
@[simp] theorem put_fwNv (o : Out) : (s.put o).fwNv = s.fwNv := rfl
@[simp] theorem put_casc (o : Out) : (s.put o).casc = s.casc := rfl

@[simp] theorem updRole_pending (role : Nat) (f : RoleState → RoleState) : (s.updRole role f).pending = s.pending := rfl
@[simp] theorem updRole_out (role : Nat) (f : RoleState → RoleState) : (s.updRole role f).out = s.out := rfl
@[simp] theorem updRole_fresh (role : Nat) (f : RoleState → RoleState) : (s.updRole role f).fresh = s.fresh := rfl
@[simp] theorem updRole_cfg (role : Nat) (f : RoleState → RoleState) : (s.updRole role f).cfg = s.cfg := rfl
@[simp] theorem updRole_dict (role : Nat) (f : RoleState → RoleState) : (s.updRole role f).dict = { s.dict with roles := upd s.dict.roles role f } := rfl
@[simp] theorem updRole_queue (role : Nat) (f : RoleState → RoleState) : (s.updRole role f).queue = s.queue := rfl
@[simp] theorem updRole_time (role : Nat) (f : RoleState → RoleState) : (s.updRole role f).time = s.time := rfl
@[simp] theorem updRole_health (role : Nat) (f : RoleState → RoleState) : (s.updRole role f).health = s.health := rfl
@[simp] theorem updRole_fabric (role : Nat) (f : RoleState → RoleState) : (s.updRole role f).fabric = s.fabric := rfl
@[simp] theorem updRole_isl (role : Nat) (f : RoleState → RoleState) : (s.updRole role f).isl = s.isl := rfl
@[simp] theorem updRole_power (role : Nat) (f : RoleState → RoleState) : (s.updRole role f).power = s.power := rfl
@[simp] theorem updRole_powerNv (role : Nat) (f : RoleState → RoleState) : (s.updRole role f).powerNv = s.powerNv := rfl
@[simp] theorem updRole_board (role : Nat) (f : RoleState → RoleState) : (s.updRole role f).board = s.board := rfl
@[simp] theorem updRole_vault (role : Nat) (f : RoleState → RoleState) : (s.updRole role f).vault = s.vault := rfl
@[simp] theorem updRole_vaultNv (role : Nat) (f : RoleState → RoleState) : (s.updRole role f).vaultNv = s.vaultNv := rfl
@[simp] theorem updRole_mtr (role : Nat) (f : RoleState → RoleState) : (s.updRole role f).mtr = s.mtr := rfl
@[simp] theorem updRole_net (role : Nat) (f : RoleState → RoleState) : (s.updRole role f).net = s.net := rfl
@[simp] theorem updRole_dist (role : Nat) (f : RoleState → RoleState) : (s.updRole role f).dist = s.dist := rfl
@[simp] theorem updRole_distNv (role : Nat) (f : RoleState → RoleState) : (s.updRole role f).distNv = s.distNv := rfl
@[simp] theorem updRole_lane (role : Nat) (f : RoleState → RoleState) : (s.updRole role f).lane = s.lane := rfl
@[simp] theorem updRole_vee (role : Nat) (f : RoleState → RoleState) : (s.updRole role f).vee = s.vee := rfl
@[simp] theorem updRole_bal (role : Nat) (f : RoleState → RoleState) : (s.updRole role f).bal = s.bal := rfl
@[simp] theorem updRole_sense (role : Nat) (f : RoleState → RoleState) : (s.updRole role f).sense = s.sense := rfl
@[simp] theorem updRole_senseNv (role : Nat) (f : RoleState → RoleState) : (s.updRole role f).senseNv = s.senseNv := rfl
@[simp] theorem updRole_plc (role : Nat) (f : RoleState → RoleState) : (s.updRole role f).plc = s.plc := rfl
@[simp] theorem updRole_radio (role : Nat) (f : RoleState → RoleState) : (s.updRole role f).radio = s.radio := rfl
@[simp] theorem updRole_store (role : Nat) (f : RoleState → RoleState) : (s.updRole role f).store = s.store := rfl
@[simp] theorem updRole_storeNv (role : Nat) (f : RoleState → RoleState) : (s.updRole role f).storeNv = s.storeNv := rfl
@[simp] theorem updRole_up (role : Nat) (f : RoleState → RoleState) : (s.updRole role f).up = s.up := rfl
@[simp] theorem updRole_upNv (role : Nat) (f : RoleState → RoleState) : (s.updRole role f).upNv = s.upNv := rfl
@[simp] theorem updRole_fw (role : Nat) (f : RoleState → RoleState) : (s.updRole role f).fw = s.fw := rfl
@[simp] theorem updRole_fwNv (role : Nat) (f : RoleState → RoleState) : (s.updRole role f).fwNv = s.fwNv := rfl
@[simp] theorem updRole_casc (role : Nat) (f : RoleState → RoleState) : (s.updRole role f).casc = s.casc := rfl

@[simp] theorem setSub_pending (k : Nat) (u : Option Subscription) : (s.setSub k u).pending = s.pending := rfl
@[simp] theorem setSub_out (k : Nat) (u : Option Subscription) : (s.setSub k u).out = s.out := rfl
@[simp] theorem setSub_fresh (k : Nat) (u : Option Subscription) : (s.setSub k u).fresh = s.fresh := rfl
@[simp] theorem setSub_cfg (k : Nat) (u : Option Subscription) : (s.setSub k u).cfg = s.cfg := rfl
@[simp] theorem setSub_dict (k : Nat) (u : Option Subscription) : (s.setSub k u).dict = { s.dict with subs := s.dict.subs.set k u } := rfl
@[simp] theorem setSub_queue (k : Nat) (u : Option Subscription) : (s.setSub k u).queue = s.queue := rfl
@[simp] theorem setSub_time (k : Nat) (u : Option Subscription) : (s.setSub k u).time = s.time := rfl
@[simp] theorem setSub_health (k : Nat) (u : Option Subscription) : (s.setSub k u).health = s.health := rfl
@[simp] theorem setSub_fabric (k : Nat) (u : Option Subscription) : (s.setSub k u).fabric = s.fabric := rfl
@[simp] theorem setSub_isl (k : Nat) (u : Option Subscription) : (s.setSub k u).isl = s.isl := rfl
@[simp] theorem setSub_power (k : Nat) (u : Option Subscription) : (s.setSub k u).power = s.power := rfl
@[simp] theorem setSub_powerNv (k : Nat) (u : Option Subscription) : (s.setSub k u).powerNv = s.powerNv := rfl
@[simp] theorem setSub_board (k : Nat) (u : Option Subscription) : (s.setSub k u).board = s.board := rfl
@[simp] theorem setSub_vault (k : Nat) (u : Option Subscription) : (s.setSub k u).vault = s.vault := rfl
@[simp] theorem setSub_vaultNv (k : Nat) (u : Option Subscription) : (s.setSub k u).vaultNv = s.vaultNv := rfl
@[simp] theorem setSub_mtr (k : Nat) (u : Option Subscription) : (s.setSub k u).mtr = s.mtr := rfl
@[simp] theorem setSub_net (k : Nat) (u : Option Subscription) : (s.setSub k u).net = s.net := rfl
@[simp] theorem setSub_dist (k : Nat) (u : Option Subscription) : (s.setSub k u).dist = s.dist := rfl
@[simp] theorem setSub_distNv (k : Nat) (u : Option Subscription) : (s.setSub k u).distNv = s.distNv := rfl
@[simp] theorem setSub_lane (k : Nat) (u : Option Subscription) : (s.setSub k u).lane = s.lane := rfl
@[simp] theorem setSub_vee (k : Nat) (u : Option Subscription) : (s.setSub k u).vee = s.vee := rfl
@[simp] theorem setSub_bal (k : Nat) (u : Option Subscription) : (s.setSub k u).bal = s.bal := rfl
@[simp] theorem setSub_sense (k : Nat) (u : Option Subscription) : (s.setSub k u).sense = s.sense := rfl
@[simp] theorem setSub_senseNv (k : Nat) (u : Option Subscription) : (s.setSub k u).senseNv = s.senseNv := rfl
@[simp] theorem setSub_plc (k : Nat) (u : Option Subscription) : (s.setSub k u).plc = s.plc := rfl
@[simp] theorem setSub_radio (k : Nat) (u : Option Subscription) : (s.setSub k u).radio = s.radio := rfl
@[simp] theorem setSub_store (k : Nat) (u : Option Subscription) : (s.setSub k u).store = s.store := rfl
@[simp] theorem setSub_storeNv (k : Nat) (u : Option Subscription) : (s.setSub k u).storeNv = s.storeNv := rfl
@[simp] theorem setSub_up (k : Nat) (u : Option Subscription) : (s.setSub k u).up = s.up := rfl
@[simp] theorem setSub_upNv (k : Nat) (u : Option Subscription) : (s.setSub k u).upNv = s.upNv := rfl
@[simp] theorem setSub_fw (k : Nat) (u : Option Subscription) : (s.setSub k u).fw = s.fw := rfl
@[simp] theorem setSub_fwNv (k : Nat) (u : Option Subscription) : (s.setSub k u).fwNv = s.fwNv := rfl
@[simp] theorem setSub_casc (k : Nat) (u : Option Subscription) : (s.setSub k u).casc = s.casc := rfl

@[simp] theorem updDom_pending (k : Nat) (f : Domain → Domain) : (s.updDom k f).pending = s.pending := rfl
@[simp] theorem updDom_out (k : Nat) (f : Domain → Domain) : (s.updDom k f).out = s.out := rfl
@[simp] theorem updDom_fresh (k : Nat) (f : Domain → Domain) : (s.updDom k f).fresh = s.fresh := rfl
@[simp] theorem updDom_cfg (k : Nat) (f : Domain → Domain) : (s.updDom k f).cfg = s.cfg := rfl
@[simp] theorem updDom_dict (k : Nat) (f : Domain → Domain) : (s.updDom k f).dict = s.dict := rfl
@[simp] theorem updDom_queue (k : Nat) (f : Domain → Domain) : (s.updDom k f).queue = s.queue := rfl
@[simp] theorem updDom_time (k : Nat) (f : Domain → Domain) : (s.updDom k f).time = { s.time with domains := upd s.time.domains k f } := rfl
@[simp] theorem updDom_health (k : Nat) (f : Domain → Domain) : (s.updDom k f).health = s.health := rfl
@[simp] theorem updDom_fabric (k : Nat) (f : Domain → Domain) : (s.updDom k f).fabric = s.fabric := rfl
@[simp] theorem updDom_isl (k : Nat) (f : Domain → Domain) : (s.updDom k f).isl = s.isl := rfl
@[simp] theorem updDom_power (k : Nat) (f : Domain → Domain) : (s.updDom k f).power = s.power := rfl
@[simp] theorem updDom_powerNv (k : Nat) (f : Domain → Domain) : (s.updDom k f).powerNv = s.powerNv := rfl
@[simp] theorem updDom_board (k : Nat) (f : Domain → Domain) : (s.updDom k f).board = s.board := rfl
@[simp] theorem updDom_vault (k : Nat) (f : Domain → Domain) : (s.updDom k f).vault = s.vault := rfl
@[simp] theorem updDom_vaultNv (k : Nat) (f : Domain → Domain) : (s.updDom k f).vaultNv = s.vaultNv := rfl
@[simp] theorem updDom_mtr (k : Nat) (f : Domain → Domain) : (s.updDom k f).mtr = s.mtr := rfl
@[simp] theorem updDom_net (k : Nat) (f : Domain → Domain) : (s.updDom k f).net = s.net := rfl
@[simp] theorem updDom_dist (k : Nat) (f : Domain → Domain) : (s.updDom k f).dist = s.dist := rfl
@[simp] theorem updDom_distNv (k : Nat) (f : Domain → Domain) : (s.updDom k f).distNv = s.distNv := rfl
@[simp] theorem updDom_lane (k : Nat) (f : Domain → Domain) : (s.updDom k f).lane = s.lane := rfl
@[simp] theorem updDom_vee (k : Nat) (f : Domain → Domain) : (s.updDom k f).vee = s.vee := rfl
@[simp] theorem updDom_bal (k : Nat) (f : Domain → Domain) : (s.updDom k f).bal = s.bal := rfl
@[simp] theorem updDom_sense (k : Nat) (f : Domain → Domain) : (s.updDom k f).sense = s.sense := rfl
@[simp] theorem updDom_senseNv (k : Nat) (f : Domain → Domain) : (s.updDom k f).senseNv = s.senseNv := rfl
@[simp] theorem updDom_plc (k : Nat) (f : Domain → Domain) : (s.updDom k f).plc = s.plc := rfl
@[simp] theorem updDom_radio (k : Nat) (f : Domain → Domain) : (s.updDom k f).radio = s.radio := rfl
@[simp] theorem updDom_store (k : Nat) (f : Domain → Domain) : (s.updDom k f).store = s.store := rfl
@[simp] theorem updDom_storeNv (k : Nat) (f : Domain → Domain) : (s.updDom k f).storeNv = s.storeNv := rfl
@[simp] theorem updDom_up (k : Nat) (f : Domain → Domain) : (s.updDom k f).up = s.up := rfl
@[simp] theorem updDom_upNv (k : Nat) (f : Domain → Domain) : (s.updDom k f).upNv = s.upNv := rfl
@[simp] theorem updDom_fw (k : Nat) (f : Domain → Domain) : (s.updDom k f).fw = s.fw := rfl
@[simp] theorem updDom_fwNv (k : Nat) (f : Domain → Domain) : (s.updDom k f).fwNv = s.fwNv := rfl
@[simp] theorem updDom_casc (k : Nat) (f : Domain → Domain) : (s.updDom k f).casc = s.casc := rfl

@[simp] theorem updIsland_pending (i : Nat) (f : Island → Island) : (s.updIsland i f).pending = s.pending := rfl
@[simp] theorem updIsland_out (i : Nat) (f : Island → Island) : (s.updIsland i f).out = s.out := rfl
@[simp] theorem updIsland_fresh (i : Nat) (f : Island → Island) : (s.updIsland i f).fresh = s.fresh := rfl
@[simp] theorem updIsland_cfg (i : Nat) (f : Island → Island) : (s.updIsland i f).cfg = s.cfg := rfl
@[simp] theorem updIsland_dict (i : Nat) (f : Island → Island) : (s.updIsland i f).dict = s.dict := rfl
@[simp] theorem updIsland_queue (i : Nat) (f : Island → Island) : (s.updIsland i f).queue = s.queue := rfl
@[simp] theorem updIsland_time (i : Nat) (f : Island → Island) : (s.updIsland i f).time = s.time := rfl
@[simp] theorem updIsland_health (i : Nat) (f : Island → Island) : (s.updIsland i f).health = s.health := rfl
@[simp] theorem updIsland_fabric (i : Nat) (f : Island → Island) : (s.updIsland i f).fabric = s.fabric := rfl
@[simp] theorem updIsland_isl (i : Nat) (f : Island → Island) : (s.updIsland i f).isl = { s.isl with islands := upd s.isl.islands i f } := rfl
@[simp] theorem updIsland_power (i : Nat) (f : Island → Island) : (s.updIsland i f).power = s.power := rfl
@[simp] theorem updIsland_powerNv (i : Nat) (f : Island → Island) : (s.updIsland i f).powerNv = s.powerNv := rfl
@[simp] theorem updIsland_board (i : Nat) (f : Island → Island) : (s.updIsland i f).board = s.board := rfl
@[simp] theorem updIsland_vault (i : Nat) (f : Island → Island) : (s.updIsland i f).vault = s.vault := rfl
@[simp] theorem updIsland_vaultNv (i : Nat) (f : Island → Island) : (s.updIsland i f).vaultNv = s.vaultNv := rfl
@[simp] theorem updIsland_mtr (i : Nat) (f : Island → Island) : (s.updIsland i f).mtr = s.mtr := rfl
@[simp] theorem updIsland_net (i : Nat) (f : Island → Island) : (s.updIsland i f).net = s.net := rfl
@[simp] theorem updIsland_dist (i : Nat) (f : Island → Island) : (s.updIsland i f).dist = s.dist := rfl
@[simp] theorem updIsland_distNv (i : Nat) (f : Island → Island) : (s.updIsland i f).distNv = s.distNv := rfl
@[simp] theorem updIsland_lane (i : Nat) (f : Island → Island) : (s.updIsland i f).lane = s.lane := rfl
@[simp] theorem updIsland_vee (i : Nat) (f : Island → Island) : (s.updIsland i f).vee = s.vee := rfl
@[simp] theorem updIsland_bal (i : Nat) (f : Island → Island) : (s.updIsland i f).bal = s.bal := rfl
@[simp] theorem updIsland_sense (i : Nat) (f : Island → Island) : (s.updIsland i f).sense = s.sense := rfl
@[simp] theorem updIsland_senseNv (i : Nat) (f : Island → Island) : (s.updIsland i f).senseNv = s.senseNv := rfl
@[simp] theorem updIsland_plc (i : Nat) (f : Island → Island) : (s.updIsland i f).plc = s.plc := rfl
@[simp] theorem updIsland_radio (i : Nat) (f : Island → Island) : (s.updIsland i f).radio = s.radio := rfl
@[simp] theorem updIsland_store (i : Nat) (f : Island → Island) : (s.updIsland i f).store = s.store := rfl
@[simp] theorem updIsland_storeNv (i : Nat) (f : Island → Island) : (s.updIsland i f).storeNv = s.storeNv := rfl
@[simp] theorem updIsland_up (i : Nat) (f : Island → Island) : (s.updIsland i f).up = s.up := rfl
@[simp] theorem updIsland_upNv (i : Nat) (f : Island → Island) : (s.updIsland i f).upNv = s.upNv := rfl
@[simp] theorem updIsland_fw (i : Nat) (f : Island → Island) : (s.updIsland i f).fw = s.fw := rfl
@[simp] theorem updIsland_fwNv (i : Nat) (f : Island → Island) : (s.updIsland i f).fwNv = s.fwNv := rfl
@[simp] theorem updIsland_casc (i : Nat) (f : Island → Island) : (s.updIsland i f).casc = s.casc := rfl

@[simp] theorem updInput_pending (i : Nat) (f : Input → Input) : (s.updInput i f).pending = s.pending := rfl
@[simp] theorem updInput_out (i : Nat) (f : Input → Input) : (s.updInput i f).out = s.out := rfl
@[simp] theorem updInput_fresh (i : Nat) (f : Input → Input) : (s.updInput i f).fresh = s.fresh := rfl
@[simp] theorem updInput_cfg (i : Nat) (f : Input → Input) : (s.updInput i f).cfg = s.cfg := rfl
@[simp] theorem updInput_dict (i : Nat) (f : Input → Input) : (s.updInput i f).dict = s.dict := rfl
@[simp] theorem updInput_queue (i : Nat) (f : Input → Input) : (s.updInput i f).queue = s.queue := rfl
@[simp] theorem updInput_time (i : Nat) (f : Input → Input) : (s.updInput i f).time = s.time := rfl
@[simp] theorem updInput_health (i : Nat) (f : Input → Input) : (s.updInput i f).health = s.health := rfl
@[simp] theorem updInput_fabric (i : Nat) (f : Input → Input) : (s.updInput i f).fabric = s.fabric := rfl
@[simp] theorem updInput_isl (i : Nat) (f : Input → Input) : (s.updInput i f).isl = { s.isl with inputs := upd s.isl.inputs i f } := rfl
@[simp] theorem updInput_power (i : Nat) (f : Input → Input) : (s.updInput i f).power = s.power := rfl
@[simp] theorem updInput_powerNv (i : Nat) (f : Input → Input) : (s.updInput i f).powerNv = s.powerNv := rfl
@[simp] theorem updInput_board (i : Nat) (f : Input → Input) : (s.updInput i f).board = s.board := rfl
@[simp] theorem updInput_vault (i : Nat) (f : Input → Input) : (s.updInput i f).vault = s.vault := rfl
@[simp] theorem updInput_vaultNv (i : Nat) (f : Input → Input) : (s.updInput i f).vaultNv = s.vaultNv := rfl
@[simp] theorem updInput_mtr (i : Nat) (f : Input → Input) : (s.updInput i f).mtr = s.mtr := rfl
@[simp] theorem updInput_net (i : Nat) (f : Input → Input) : (s.updInput i f).net = s.net := rfl
@[simp] theorem updInput_dist (i : Nat) (f : Input → Input) : (s.updInput i f).dist = s.dist := rfl
@[simp] theorem updInput_distNv (i : Nat) (f : Input → Input) : (s.updInput i f).distNv = s.distNv := rfl
@[simp] theorem updInput_lane (i : Nat) (f : Input → Input) : (s.updInput i f).lane = s.lane := rfl
@[simp] theorem updInput_vee (i : Nat) (f : Input → Input) : (s.updInput i f).vee = s.vee := rfl
@[simp] theorem updInput_bal (i : Nat) (f : Input → Input) : (s.updInput i f).bal = s.bal := rfl
@[simp] theorem updInput_sense (i : Nat) (f : Input → Input) : (s.updInput i f).sense = s.sense := rfl
@[simp] theorem updInput_senseNv (i : Nat) (f : Input → Input) : (s.updInput i f).senseNv = s.senseNv := rfl
@[simp] theorem updInput_plc (i : Nat) (f : Input → Input) : (s.updInput i f).plc = s.plc := rfl
@[simp] theorem updInput_radio (i : Nat) (f : Input → Input) : (s.updInput i f).radio = s.radio := rfl
@[simp] theorem updInput_store (i : Nat) (f : Input → Input) : (s.updInput i f).store = s.store := rfl
@[simp] theorem updInput_storeNv (i : Nat) (f : Input → Input) : (s.updInput i f).storeNv = s.storeNv := rfl
@[simp] theorem updInput_up (i : Nat) (f : Input → Input) : (s.updInput i f).up = s.up := rfl
@[simp] theorem updInput_upNv (i : Nat) (f : Input → Input) : (s.updInput i f).upNv = s.upNv := rfl
@[simp] theorem updInput_fw (i : Nat) (f : Input → Input) : (s.updInput i f).fw = s.fw := rfl
@[simp] theorem updInput_fwNv (i : Nat) (f : Input → Input) : (s.updInput i f).fwNv = s.fwNv := rfl
@[simp] theorem updInput_casc (i : Nat) (f : Input → Input) : (s.updInput i f).casc = s.casc := rfl

@[simp] theorem updCell_pending (a : Nat) (f : CellRec → CellRec) : (s.updCell a f).pending = s.pending := rfl
@[simp] theorem updCell_out (a : Nat) (f : CellRec → CellRec) : (s.updCell a f).out = s.out := rfl
@[simp] theorem updCell_fresh (a : Nat) (f : CellRec → CellRec) : (s.updCell a f).fresh = s.fresh := rfl
@[simp] theorem updCell_cfg (a : Nat) (f : CellRec → CellRec) : (s.updCell a f).cfg = s.cfg := rfl
@[simp] theorem updCell_dict (a : Nat) (f : CellRec → CellRec) : (s.updCell a f).dict = s.dict := rfl
@[simp] theorem updCell_queue (a : Nat) (f : CellRec → CellRec) : (s.updCell a f).queue = s.queue := rfl
@[simp] theorem updCell_time (a : Nat) (f : CellRec → CellRec) : (s.updCell a f).time = s.time := rfl
@[simp] theorem updCell_health (a : Nat) (f : CellRec → CellRec) : (s.updCell a f).health = { s.health with cells := insertKey a (f (s.cellRec a)) s.health.cells } := rfl
@[simp] theorem updCell_fabric (a : Nat) (f : CellRec → CellRec) : (s.updCell a f).fabric = s.fabric := rfl
@[simp] theorem updCell_isl (a : Nat) (f : CellRec → CellRec) : (s.updCell a f).isl = s.isl := rfl
@[simp] theorem updCell_power (a : Nat) (f : CellRec → CellRec) : (s.updCell a f).power = s.power := rfl
@[simp] theorem updCell_powerNv (a : Nat) (f : CellRec → CellRec) : (s.updCell a f).powerNv = s.powerNv := rfl
@[simp] theorem updCell_board (a : Nat) (f : CellRec → CellRec) : (s.updCell a f).board = s.board := rfl
@[simp] theorem updCell_vault (a : Nat) (f : CellRec → CellRec) : (s.updCell a f).vault = s.vault := rfl
@[simp] theorem updCell_vaultNv (a : Nat) (f : CellRec → CellRec) : (s.updCell a f).vaultNv = s.vaultNv := rfl
@[simp] theorem updCell_mtr (a : Nat) (f : CellRec → CellRec) : (s.updCell a f).mtr = s.mtr := rfl
@[simp] theorem updCell_net (a : Nat) (f : CellRec → CellRec) : (s.updCell a f).net = s.net := rfl
@[simp] theorem updCell_dist (a : Nat) (f : CellRec → CellRec) : (s.updCell a f).dist = s.dist := rfl
@[simp] theorem updCell_distNv (a : Nat) (f : CellRec → CellRec) : (s.updCell a f).distNv = s.distNv := rfl
@[simp] theorem updCell_lane (a : Nat) (f : CellRec → CellRec) : (s.updCell a f).lane = s.lane := rfl
@[simp] theorem updCell_vee (a : Nat) (f : CellRec → CellRec) : (s.updCell a f).vee = s.vee := rfl
@[simp] theorem updCell_bal (a : Nat) (f : CellRec → CellRec) : (s.updCell a f).bal = s.bal := rfl
@[simp] theorem updCell_sense (a : Nat) (f : CellRec → CellRec) : (s.updCell a f).sense = s.sense := rfl
@[simp] theorem updCell_senseNv (a : Nat) (f : CellRec → CellRec) : (s.updCell a f).senseNv = s.senseNv := rfl
@[simp] theorem updCell_plc (a : Nat) (f : CellRec → CellRec) : (s.updCell a f).plc = s.plc := rfl
@[simp] theorem updCell_radio (a : Nat) (f : CellRec → CellRec) : (s.updCell a f).radio = s.radio := rfl
@[simp] theorem updCell_store (a : Nat) (f : CellRec → CellRec) : (s.updCell a f).store = s.store := rfl
@[simp] theorem updCell_storeNv (a : Nat) (f : CellRec → CellRec) : (s.updCell a f).storeNv = s.storeNv := rfl
@[simp] theorem updCell_up (a : Nat) (f : CellRec → CellRec) : (s.updCell a f).up = s.up := rfl
@[simp] theorem updCell_upNv (a : Nat) (f : CellRec → CellRec) : (s.updCell a f).upNv = s.upNv := rfl
@[simp] theorem updCell_fw (a : Nat) (f : CellRec → CellRec) : (s.updCell a f).fw = s.fw := rfl
@[simp] theorem updCell_fwNv (a : Nat) (f : CellRec → CellRec) : (s.updCell a f).fwNv = s.fwNv := rfl
@[simp] theorem updCell_casc (a : Nat) (f : CellRec → CellRec) : (s.updCell a f).casc = s.casc := rfl

@[simp] theorem updLane_pending (l : Nat) (f : Lane → Lane) : (s.updLane l f).pending = s.pending := rfl
@[simp] theorem updLane_out (l : Nat) (f : Lane → Lane) : (s.updLane l f).out = s.out := rfl
@[simp] theorem updLane_fresh (l : Nat) (f : Lane → Lane) : (s.updLane l f).fresh = s.fresh := rfl
@[simp] theorem updLane_cfg (l : Nat) (f : Lane → Lane) : (s.updLane l f).cfg = s.cfg := rfl
@[simp] theorem updLane_dict (l : Nat) (f : Lane → Lane) : (s.updLane l f).dict = s.dict := rfl
@[simp] theorem updLane_queue (l : Nat) (f : Lane → Lane) : (s.updLane l f).queue = s.queue := rfl
@[simp] theorem updLane_time (l : Nat) (f : Lane → Lane) : (s.updLane l f).time = s.time := rfl
@[simp] theorem updLane_health (l : Nat) (f : Lane → Lane) : (s.updLane l f).health = s.health := rfl
@[simp] theorem updLane_fabric (l : Nat) (f : Lane → Lane) : (s.updLane l f).fabric = s.fabric := rfl
@[simp] theorem updLane_isl (l : Nat) (f : Lane → Lane) : (s.updLane l f).isl = s.isl := rfl
@[simp] theorem updLane_power (l : Nat) (f : Lane → Lane) : (s.updLane l f).power = s.power := rfl
@[simp] theorem updLane_powerNv (l : Nat) (f : Lane → Lane) : (s.updLane l f).powerNv = s.powerNv := rfl
@[simp] theorem updLane_board (l : Nat) (f : Lane → Lane) : (s.updLane l f).board = s.board := rfl
@[simp] theorem updLane_vault (l : Nat) (f : Lane → Lane) : (s.updLane l f).vault = s.vault := rfl
@[simp] theorem updLane_vaultNv (l : Nat) (f : Lane → Lane) : (s.updLane l f).vaultNv = s.vaultNv := rfl
@[simp] theorem updLane_mtr (l : Nat) (f : Lane → Lane) : (s.updLane l f).mtr = s.mtr := rfl
@[simp] theorem updLane_net (l : Nat) (f : Lane → Lane) : (s.updLane l f).net = s.net := rfl
@[simp] theorem updLane_dist (l : Nat) (f : Lane → Lane) : (s.updLane l f).dist = s.dist := rfl
@[simp] theorem updLane_distNv (l : Nat) (f : Lane → Lane) : (s.updLane l f).distNv = s.distNv := rfl
@[simp] theorem updLane_lane (l : Nat) (f : Lane → Lane) : (s.updLane l f).lane = { s.lane with lanes := upd s.lane.lanes l f } := rfl
@[simp] theorem updLane_vee (l : Nat) (f : Lane → Lane) : (s.updLane l f).vee = s.vee := rfl
@[simp] theorem updLane_bal (l : Nat) (f : Lane → Lane) : (s.updLane l f).bal = s.bal := rfl
@[simp] theorem updLane_sense (l : Nat) (f : Lane → Lane) : (s.updLane l f).sense = s.sense := rfl
@[simp] theorem updLane_senseNv (l : Nat) (f : Lane → Lane) : (s.updLane l f).senseNv = s.senseNv := rfl
@[simp] theorem updLane_plc (l : Nat) (f : Lane → Lane) : (s.updLane l f).plc = s.plc := rfl
@[simp] theorem updLane_radio (l : Nat) (f : Lane → Lane) : (s.updLane l f).radio = s.radio := rfl
@[simp] theorem updLane_store (l : Nat) (f : Lane → Lane) : (s.updLane l f).store = s.store := rfl
@[simp] theorem updLane_storeNv (l : Nat) (f : Lane → Lane) : (s.updLane l f).storeNv = s.storeNv := rfl
@[simp] theorem updLane_up (l : Nat) (f : Lane → Lane) : (s.updLane l f).up = s.up := rfl
@[simp] theorem updLane_upNv (l : Nat) (f : Lane → Lane) : (s.updLane l f).upNv = s.upNv := rfl
@[simp] theorem updLane_fw (l : Nat) (f : Lane → Lane) : (s.updLane l f).fw = s.fw := rfl
@[simp] theorem updLane_fwNv (l : Nat) (f : Lane → Lane) : (s.updLane l f).fwNv = s.fwNv := rfl
@[simp] theorem updLane_casc (l : Nat) (f : Lane → Lane) : (s.updLane l f).casc = s.casc := rfl

@[simp] theorem putHist_pending (m : Nat) (h : Hist) : (s.putHist m h).pending = s.pending := rfl
@[simp] theorem putHist_out (m : Nat) (h : Hist) : (s.putHist m h).out = s.out := rfl
@[simp] theorem putHist_fresh (m : Nat) (h : Hist) : (s.putHist m h).fresh = s.fresh := rfl
@[simp] theorem putHist_cfg (m : Nat) (h : Hist) : (s.putHist m h).cfg = s.cfg := rfl
@[simp] theorem putHist_dict (m : Nat) (h : Hist) : (s.putHist m h).dict = s.dict := rfl
@[simp] theorem putHist_queue (m : Nat) (h : Hist) : (s.putHist m h).queue = s.queue := rfl
@[simp] theorem putHist_time (m : Nat) (h : Hist) : (s.putHist m h).time = s.time := rfl
@[simp] theorem putHist_health (m : Nat) (h : Hist) : (s.putHist m h).health = s.health := rfl
@[simp] theorem putHist_fabric (m : Nat) (h : Hist) : (s.putHist m h).fabric = s.fabric := rfl
@[simp] theorem putHist_isl (m : Nat) (h : Hist) : (s.putHist m h).isl = s.isl := rfl
@[simp] theorem putHist_power (m : Nat) (h : Hist) : (s.putHist m h).power = s.power := rfl
@[simp] theorem putHist_powerNv (m : Nat) (h : Hist) : (s.putHist m h).powerNv = s.powerNv := rfl
@[simp] theorem putHist_board (m : Nat) (h : Hist) : (s.putHist m h).board = s.board := rfl
@[simp] theorem putHist_vault (m : Nat) (h : Hist) : (s.putHist m h).vault = s.vault := rfl
@[simp] theorem putHist_vaultNv (m : Nat) (h : Hist) : (s.putHist m h).vaultNv = s.vaultNv := rfl
@[simp] theorem putHist_mtr (m : Nat) (h : Hist) : (s.putHist m h).mtr = s.mtr := rfl
@[simp] theorem putHist_net (m : Nat) (h : Hist) : (s.putHist m h).net = s.net := rfl
@[simp] theorem putHist_dist (m : Nat) (h : Hist) : (s.putHist m h).dist = s.dist := rfl
@[simp] theorem putHist_distNv (m : Nat) (h : Hist) : (s.putHist m h).distNv = s.distNv := rfl
@[simp] theorem putHist_lane (m : Nat) (h : Hist) : (s.putHist m h).lane = s.lane := rfl
@[simp] theorem putHist_vee (m : Nat) (h : Hist) : (s.putHist m h).vee = { s.vee with hist := insertKey m h s.vee.hist } := rfl
@[simp] theorem putHist_bal (m : Nat) (h : Hist) : (s.putHist m h).bal = s.bal := rfl
@[simp] theorem putHist_sense (m : Nat) (h : Hist) : (s.putHist m h).sense = s.sense := rfl
@[simp] theorem putHist_senseNv (m : Nat) (h : Hist) : (s.putHist m h).senseNv = s.senseNv := rfl
@[simp] theorem putHist_plc (m : Nat) (h : Hist) : (s.putHist m h).plc = s.plc := rfl
@[simp] theorem putHist_radio (m : Nat) (h : Hist) : (s.putHist m h).radio = s.radio := rfl
@[simp] theorem putHist_store (m : Nat) (h : Hist) : (s.putHist m h).store = s.store := rfl
@[simp] theorem putHist_storeNv (m : Nat) (h : Hist) : (s.putHist m h).storeNv = s.storeNv := rfl
@[simp] theorem putHist_up (m : Nat) (h : Hist) : (s.putHist m h).up = s.up := rfl
@[simp] theorem putHist_upNv (m : Nat) (h : Hist) : (s.putHist m h).upNv = s.upNv := rfl
@[simp] theorem putHist_fw (m : Nat) (h : Hist) : (s.putHist m h).fw = s.fw := rfl
@[simp] theorem putHist_fwNv (m : Nat) (h : Hist) : (s.putHist m h).fwNv = s.fwNv := rfl
@[simp] theorem putHist_casc (m : Nat) (h : Hist) : (s.putHist m h).casc = s.casc := rfl

@[simp] theorem updEng_pending (e : Nat) (f : Engine → Engine) : (s.updEng e f).pending = s.pending := rfl
@[simp] theorem updEng_out (e : Nat) (f : Engine → Engine) : (s.updEng e f).out = s.out := rfl
@[simp] theorem updEng_fresh (e : Nat) (f : Engine → Engine) : (s.updEng e f).fresh = s.fresh := rfl
@[simp] theorem updEng_cfg (e : Nat) (f : Engine → Engine) : (s.updEng e f).cfg = s.cfg := rfl
@[simp] theorem updEng_dict (e : Nat) (f : Engine → Engine) : (s.updEng e f).dict = s.dict := rfl
@[simp] theorem updEng_queue (e : Nat) (f : Engine → Engine) : (s.updEng e f).queue = s.queue := rfl
@[simp] theorem updEng_time (e : Nat) (f : Engine → Engine) : (s.updEng e f).time = s.time := rfl
@[simp] theorem updEng_health (e : Nat) (f : Engine → Engine) : (s.updEng e f).health = s.health := rfl
@[simp] theorem updEng_fabric (e : Nat) (f : Engine → Engine) : (s.updEng e f).fabric = s.fabric := rfl
@[simp] theorem updEng_isl (e : Nat) (f : Engine → Engine) : (s.updEng e f).isl = s.isl := rfl
@[simp] theorem updEng_power (e : Nat) (f : Engine → Engine) : (s.updEng e f).power = s.power := rfl
@[simp] theorem updEng_powerNv (e : Nat) (f : Engine → Engine) : (s.updEng e f).powerNv = s.powerNv := rfl
@[simp] theorem updEng_board (e : Nat) (f : Engine → Engine) : (s.updEng e f).board = s.board := rfl
@[simp] theorem updEng_vault (e : Nat) (f : Engine → Engine) : (s.updEng e f).vault = s.vault := rfl
@[simp] theorem updEng_vaultNv (e : Nat) (f : Engine → Engine) : (s.updEng e f).vaultNv = s.vaultNv := rfl
@[simp] theorem updEng_mtr (e : Nat) (f : Engine → Engine) : (s.updEng e f).mtr = s.mtr := rfl
@[simp] theorem updEng_net (e : Nat) (f : Engine → Engine) : (s.updEng e f).net = s.net := rfl
@[simp] theorem updEng_dist (e : Nat) (f : Engine → Engine) : (s.updEng e f).dist = s.dist := rfl
@[simp] theorem updEng_distNv (e : Nat) (f : Engine → Engine) : (s.updEng e f).distNv = s.distNv := rfl
@[simp] theorem updEng_lane (e : Nat) (f : Engine → Engine) : (s.updEng e f).lane = s.lane := rfl
@[simp] theorem updEng_vee (e : Nat) (f : Engine → Engine) : (s.updEng e f).vee = s.vee := rfl
@[simp] theorem updEng_bal (e : Nat) (f : Engine → Engine) : (s.updEng e f).bal = s.bal := rfl
@[simp] theorem updEng_sense (e : Nat) (f : Engine → Engine) : (s.updEng e f).sense = s.sense := rfl
@[simp] theorem updEng_senseNv (e : Nat) (f : Engine → Engine) : (s.updEng e f).senseNv = s.senseNv := rfl
@[simp] theorem updEng_plc (e : Nat) (f : Engine → Engine) : (s.updEng e f).plc = { s.plc with engines := upd s.plc.engines e f } := rfl
@[simp] theorem updEng_radio (e : Nat) (f : Engine → Engine) : (s.updEng e f).radio = s.radio := rfl
@[simp] theorem updEng_store (e : Nat) (f : Engine → Engine) : (s.updEng e f).store = s.store := rfl
@[simp] theorem updEng_storeNv (e : Nat) (f : Engine → Engine) : (s.updEng e f).storeNv = s.storeNv := rfl
@[simp] theorem updEng_up (e : Nat) (f : Engine → Engine) : (s.updEng e f).up = s.up := rfl
@[simp] theorem updEng_upNv (e : Nat) (f : Engine → Engine) : (s.updEng e f).upNv = s.upNv := rfl
@[simp] theorem updEng_fw (e : Nat) (f : Engine → Engine) : (s.updEng e f).fw = s.fw := rfl
@[simp] theorem updEng_fwNv (e : Nat) (f : Engine → Engine) : (s.updEng e f).fwNv = s.fwNv := rfl
@[simp] theorem updEng_casc (e : Nat) (f : Engine → Engine) : (s.updEng e f).casc = s.casc := rfl

@[simp] theorem updPort_pending (p : Nat) (f : RadioPort → RadioPort) : (s.updPort p f).pending = s.pending := rfl
@[simp] theorem updPort_out (p : Nat) (f : RadioPort → RadioPort) : (s.updPort p f).out = s.out := rfl
@[simp] theorem updPort_fresh (p : Nat) (f : RadioPort → RadioPort) : (s.updPort p f).fresh = s.fresh := rfl
@[simp] theorem updPort_cfg (p : Nat) (f : RadioPort → RadioPort) : (s.updPort p f).cfg = s.cfg := rfl
@[simp] theorem updPort_dict (p : Nat) (f : RadioPort → RadioPort) : (s.updPort p f).dict = s.dict := rfl
@[simp] theorem updPort_queue (p : Nat) (f : RadioPort → RadioPort) : (s.updPort p f).queue = s.queue := rfl
@[simp] theorem updPort_time (p : Nat) (f : RadioPort → RadioPort) : (s.updPort p f).time = s.time := rfl
@[simp] theorem updPort_health (p : Nat) (f : RadioPort → RadioPort) : (s.updPort p f).health = s.health := rfl
@[simp] theorem updPort_fabric (p : Nat) (f : RadioPort → RadioPort) : (s.updPort p f).fabric = s.fabric := rfl
@[simp] theorem updPort_isl (p : Nat) (f : RadioPort → RadioPort) : (s.updPort p f).isl = s.isl := rfl
@[simp] theorem updPort_power (p : Nat) (f : RadioPort → RadioPort) : (s.updPort p f).power = s.power := rfl
@[simp] theorem updPort_powerNv (p : Nat) (f : RadioPort → RadioPort) : (s.updPort p f).powerNv = s.powerNv := rfl
@[simp] theorem updPort_board (p : Nat) (f : RadioPort → RadioPort) : (s.updPort p f).board = s.board := rfl
@[simp] theorem updPort_vault (p : Nat) (f : RadioPort → RadioPort) : (s.updPort p f).vault = s.vault := rfl
@[simp] theorem updPort_vaultNv (p : Nat) (f : RadioPort → RadioPort) : (s.updPort p f).vaultNv = s.vaultNv := rfl
@[simp] theorem updPort_mtr (p : Nat) (f : RadioPort → RadioPort) : (s.updPort p f).mtr = s.mtr := rfl
@[simp] theorem updPort_net (p : Nat) (f : RadioPort → RadioPort) : (s.updPort p f).net = s.net := rfl
@[simp] theorem updPort_dist (p : Nat) (f : RadioPort → RadioPort) : (s.updPort p f).dist = s.dist := rfl
@[simp] theorem updPort_distNv (p : Nat) (f : RadioPort → RadioPort) : (s.updPort p f).distNv = s.distNv := rfl
@[simp] theorem updPort_lane (p : Nat) (f : RadioPort → RadioPort) : (s.updPort p f).lane = s.lane := rfl
@[simp] theorem updPort_vee (p : Nat) (f : RadioPort → RadioPort) : (s.updPort p f).vee = s.vee := rfl
@[simp] theorem updPort_bal (p : Nat) (f : RadioPort → RadioPort) : (s.updPort p f).bal = s.bal := rfl
@[simp] theorem updPort_sense (p : Nat) (f : RadioPort → RadioPort) : (s.updPort p f).sense = s.sense := rfl
@[simp] theorem updPort_senseNv (p : Nat) (f : RadioPort → RadioPort) : (s.updPort p f).senseNv = s.senseNv := rfl
@[simp] theorem updPort_plc (p : Nat) (f : RadioPort → RadioPort) : (s.updPort p f).plc = s.plc := rfl
@[simp] theorem updPort_radio (p : Nat) (f : RadioPort → RadioPort) : (s.updPort p f).radio = { s.radio with ports := upd s.radio.ports p f } := rfl
@[simp] theorem updPort_store (p : Nat) (f : RadioPort → RadioPort) : (s.updPort p f).store = s.store := rfl
@[simp] theorem updPort_storeNv (p : Nat) (f : RadioPort → RadioPort) : (s.updPort p f).storeNv = s.storeNv := rfl
@[simp] theorem updPort_up (p : Nat) (f : RadioPort → RadioPort) : (s.updPort p f).up = s.up := rfl
@[simp] theorem updPort_upNv (p : Nat) (f : RadioPort → RadioPort) : (s.updPort p f).upNv = s.upNv := rfl
@[simp] theorem updPort_fw (p : Nat) (f : RadioPort → RadioPort) : (s.updPort p f).fw = s.fw := rfl
@[simp] theorem updPort_fwNv (p : Nat) (f : RadioPort → RadioPort) : (s.updPort p f).fwNv = s.fwNv := rfl
@[simp] theorem updPort_casc (p : Nat) (f : RadioPort → RadioPort) : (s.updPort p f).casc = s.casc := rfl

@[simp] theorem updMac_pending (p : Nat) (f : RadioMac → RadioMac) : (s.updMac p f).pending = s.pending := rfl
@[simp] theorem updMac_out (p : Nat) (f : RadioMac → RadioMac) : (s.updMac p f).out = s.out := rfl
@[simp] theorem updMac_fresh (p : Nat) (f : RadioMac → RadioMac) : (s.updMac p f).fresh = s.fresh := rfl
@[simp] theorem updMac_cfg (p : Nat) (f : RadioMac → RadioMac) : (s.updMac p f).cfg = s.cfg := rfl
@[simp] theorem updMac_dict (p : Nat) (f : RadioMac → RadioMac) : (s.updMac p f).dict = s.dict := rfl
@[simp] theorem updMac_queue (p : Nat) (f : RadioMac → RadioMac) : (s.updMac p f).queue = s.queue := rfl
@[simp] theorem updMac_time (p : Nat) (f : RadioMac → RadioMac) : (s.updMac p f).time = s.time := rfl
@[simp] theorem updMac_health (p : Nat) (f : RadioMac → RadioMac) : (s.updMac p f).health = s.health := rfl
@[simp] theorem updMac_fabric (p : Nat) (f : RadioMac → RadioMac) : (s.updMac p f).fabric = s.fabric := rfl
@[simp] theorem updMac_isl (p : Nat) (f : RadioMac → RadioMac) : (s.updMac p f).isl = s.isl := rfl
@[simp] theorem updMac_power (p : Nat) (f : RadioMac → RadioMac) : (s.updMac p f).power = s.power := rfl
@[simp] theorem updMac_powerNv (p : Nat) (f : RadioMac → RadioMac) : (s.updMac p f).powerNv = s.powerNv := rfl
@[simp] theorem updMac_board (p : Nat) (f : RadioMac → RadioMac) : (s.updMac p f).board = s.board := rfl
@[simp] theorem updMac_vault (p : Nat) (f : RadioMac → RadioMac) : (s.updMac p f).vault = s.vault := rfl
@[simp] theorem updMac_vaultNv (p : Nat) (f : RadioMac → RadioMac) : (s.updMac p f).vaultNv = s.vaultNv := rfl
@[simp] theorem updMac_mtr (p : Nat) (f : RadioMac → RadioMac) : (s.updMac p f).mtr = s.mtr := rfl
@[simp] theorem updMac_net (p : Nat) (f : RadioMac → RadioMac) : (s.updMac p f).net = s.net := rfl
@[simp] theorem updMac_dist (p : Nat) (f : RadioMac → RadioMac) : (s.updMac p f).dist = s.dist := rfl
@[simp] theorem updMac_distNv (p : Nat) (f : RadioMac → RadioMac) : (s.updMac p f).distNv = s.distNv := rfl
@[simp] theorem updMac_lane (p : Nat) (f : RadioMac → RadioMac) : (s.updMac p f).lane = s.lane := rfl
@[simp] theorem updMac_vee (p : Nat) (f : RadioMac → RadioMac) : (s.updMac p f).vee = s.vee := rfl
@[simp] theorem updMac_bal (p : Nat) (f : RadioMac → RadioMac) : (s.updMac p f).bal = s.bal := rfl
@[simp] theorem updMac_sense (p : Nat) (f : RadioMac → RadioMac) : (s.updMac p f).sense = s.sense := rfl
@[simp] theorem updMac_senseNv (p : Nat) (f : RadioMac → RadioMac) : (s.updMac p f).senseNv = s.senseNv := rfl
@[simp] theorem updMac_plc (p : Nat) (f : RadioMac → RadioMac) : (s.updMac p f).plc = s.plc := rfl
@[simp] theorem updMac_radio (p : Nat) (f : RadioMac → RadioMac) : (s.updMac p f).radio = { s.radio with macs := upd s.radio.macs p f } := rfl
@[simp] theorem updMac_store (p : Nat) (f : RadioMac → RadioMac) : (s.updMac p f).store = s.store := rfl
@[simp] theorem updMac_storeNv (p : Nat) (f : RadioMac → RadioMac) : (s.updMac p f).storeNv = s.storeNv := rfl
@[simp] theorem updMac_up (p : Nat) (f : RadioMac → RadioMac) : (s.updMac p f).up = s.up := rfl
@[simp] theorem updMac_upNv (p : Nat) (f : RadioMac → RadioMac) : (s.updMac p f).upNv = s.upNv := rfl
@[simp] theorem updMac_fw (p : Nat) (f : RadioMac → RadioMac) : (s.updMac p f).fw = s.fw := rfl
@[simp] theorem updMac_fwNv (p : Nat) (f : RadioMac → RadioMac) : (s.updMac p f).fwNv = s.fwNv := rfl
@[simp] theorem updMac_casc (p : Nat) (f : RadioMac → RadioMac) : (s.updMac p f).casc = s.casc := rfl

@[simp] theorem updNv_pending (f : StoreNv → StoreNv) : (s.updNv f).pending = s.pending := rfl
@[simp] theorem updNv_out (f : StoreNv → StoreNv) : (s.updNv f).out = s.out := rfl
@[simp] theorem updNv_fresh (f : StoreNv → StoreNv) : (s.updNv f).fresh = s.fresh := rfl
@[simp] theorem updNv_cfg (f : StoreNv → StoreNv) : (s.updNv f).cfg = s.cfg := rfl
@[simp] theorem updNv_dict (f : StoreNv → StoreNv) : (s.updNv f).dict = s.dict := rfl
@[simp] theorem updNv_queue (f : StoreNv → StoreNv) : (s.updNv f).queue = s.queue := rfl
@[simp] theorem updNv_time (f : StoreNv → StoreNv) : (s.updNv f).time = s.time := rfl
@[simp] theorem updNv_health (f : StoreNv → StoreNv) : (s.updNv f).health = s.health := rfl
@[simp] theorem updNv_fabric (f : StoreNv → StoreNv) : (s.updNv f).fabric = s.fabric := rfl
@[simp] theorem updNv_isl (f : StoreNv → StoreNv) : (s.updNv f).isl = s.isl := rfl
@[simp] theorem updNv_power (f : StoreNv → StoreNv) : (s.updNv f).power = s.power := rfl
@[simp] theorem updNv_powerNv (f : StoreNv → StoreNv) : (s.updNv f).powerNv = s.powerNv := rfl
@[simp] theorem updNv_board (f : StoreNv → StoreNv) : (s.updNv f).board = s.board := rfl
@[simp] theorem updNv_vault (f : StoreNv → StoreNv) : (s.updNv f).vault = s.vault := rfl
@[simp] theorem updNv_vaultNv (f : StoreNv → StoreNv) : (s.updNv f).vaultNv = s.vaultNv := rfl
@[simp] theorem updNv_mtr (f : StoreNv → StoreNv) : (s.updNv f).mtr = s.mtr := rfl
@[simp] theorem updNv_net (f : StoreNv → StoreNv) : (s.updNv f).net = s.net := rfl
@[simp] theorem updNv_dist (f : StoreNv → StoreNv) : (s.updNv f).dist = s.dist := rfl
@[simp] theorem updNv_distNv (f : StoreNv → StoreNv) : (s.updNv f).distNv = s.distNv := rfl
@[simp] theorem updNv_lane (f : StoreNv → StoreNv) : (s.updNv f).lane = s.lane := rfl
@[simp] theorem updNv_vee (f : StoreNv → StoreNv) : (s.updNv f).vee = s.vee := rfl
@[simp] theorem updNv_bal (f : StoreNv → StoreNv) : (s.updNv f).bal = s.bal := rfl
@[simp] theorem updNv_sense (f : StoreNv → StoreNv) : (s.updNv f).sense = s.sense := rfl
@[simp] theorem updNv_senseNv (f : StoreNv → StoreNv) : (s.updNv f).senseNv = s.senseNv := rfl
@[simp] theorem updNv_plc (f : StoreNv → StoreNv) : (s.updNv f).plc = s.plc := rfl
@[simp] theorem updNv_radio (f : StoreNv → StoreNv) : (s.updNv f).radio = s.radio := rfl
@[simp] theorem updNv_store (f : StoreNv → StoreNv) : (s.updNv f).store = s.store := rfl
@[simp] theorem updNv_storeNv (f : StoreNv → StoreNv) : (s.updNv f).storeNv = f s.storeNv := rfl
@[simp] theorem updNv_up (f : StoreNv → StoreNv) : (s.updNv f).up = s.up := rfl
@[simp] theorem updNv_upNv (f : StoreNv → StoreNv) : (s.updNv f).upNv = s.upNv := rfl
@[simp] theorem updNv_fw (f : StoreNv → StoreNv) : (s.updNv f).fw = s.fw := rfl
@[simp] theorem updNv_fwNv (f : StoreNv → StoreNv) : (s.updNv f).fwNv = s.fwNv := rfl
@[simp] theorem updNv_casc (f : StoreNv → StoreNv) : (s.updNv f).casc = s.casc := rfl

@[simp] theorem updExp_pending (f : ExportState → ExportState) : (s.updExp f).pending = s.pending := rfl
@[simp] theorem updExp_out (f : ExportState → ExportState) : (s.updExp f).out = s.out := rfl
@[simp] theorem updExp_fresh (f : ExportState → ExportState) : (s.updExp f).fresh = s.fresh := rfl
@[simp] theorem updExp_cfg (f : ExportState → ExportState) : (s.updExp f).cfg = s.cfg := rfl
@[simp] theorem updExp_dict (f : ExportState → ExportState) : (s.updExp f).dict = s.dict := rfl
@[simp] theorem updExp_queue (f : ExportState → ExportState) : (s.updExp f).queue = s.queue := rfl
@[simp] theorem updExp_time (f : ExportState → ExportState) : (s.updExp f).time = s.time := rfl
@[simp] theorem updExp_health (f : ExportState → ExportState) : (s.updExp f).health = s.health := rfl
@[simp] theorem updExp_fabric (f : ExportState → ExportState) : (s.updExp f).fabric = s.fabric := rfl
@[simp] theorem updExp_isl (f : ExportState → ExportState) : (s.updExp f).isl = s.isl := rfl
@[simp] theorem updExp_power (f : ExportState → ExportState) : (s.updExp f).power = s.power := rfl
@[simp] theorem updExp_powerNv (f : ExportState → ExportState) : (s.updExp f).powerNv = s.powerNv := rfl
@[simp] theorem updExp_board (f : ExportState → ExportState) : (s.updExp f).board = s.board := rfl
@[simp] theorem updExp_vault (f : ExportState → ExportState) : (s.updExp f).vault = s.vault := rfl
@[simp] theorem updExp_vaultNv (f : ExportState → ExportState) : (s.updExp f).vaultNv = s.vaultNv := rfl
@[simp] theorem updExp_mtr (f : ExportState → ExportState) : (s.updExp f).mtr = s.mtr := rfl
@[simp] theorem updExp_net (f : ExportState → ExportState) : (s.updExp f).net = s.net := rfl
@[simp] theorem updExp_dist (f : ExportState → ExportState) : (s.updExp f).dist = s.dist := rfl
@[simp] theorem updExp_distNv (f : ExportState → ExportState) : (s.updExp f).distNv = s.distNv := rfl
@[simp] theorem updExp_lane (f : ExportState → ExportState) : (s.updExp f).lane = s.lane := rfl
@[simp] theorem updExp_vee (f : ExportState → ExportState) : (s.updExp f).vee = s.vee := rfl
@[simp] theorem updExp_bal (f : ExportState → ExportState) : (s.updExp f).bal = s.bal := rfl
@[simp] theorem updExp_sense (f : ExportState → ExportState) : (s.updExp f).sense = s.sense := rfl
@[simp] theorem updExp_senseNv (f : ExportState → ExportState) : (s.updExp f).senseNv = s.senseNv := rfl
@[simp] theorem updExp_plc (f : ExportState → ExportState) : (s.updExp f).plc = s.plc := rfl
@[simp] theorem updExp_radio (f : ExportState → ExportState) : (s.updExp f).radio = s.radio := rfl
@[simp] theorem updExp_store (f : ExportState → ExportState) : (s.updExp f).store = s.store := rfl
@[simp] theorem updExp_storeNv (f : ExportState → ExportState) : (s.updExp f).storeNv = s.storeNv := rfl
@[simp] theorem updExp_up (f : ExportState → ExportState) : (s.updExp f).up = { s.up with exp := f s.up.exp } := rfl
@[simp] theorem updExp_upNv (f : ExportState → ExportState) : (s.updExp f).upNv = s.upNv := rfl
@[simp] theorem updExp_fw (f : ExportState → ExportState) : (s.updExp f).fw = s.fw := rfl
@[simp] theorem updExp_fwNv (f : ExportState → ExportState) : (s.updExp f).fwNv = s.fwNv := rfl
@[simp] theorem updExp_casc (f : ExportState → ExportState) : (s.updExp f).casc = s.casc := rfl

@[simp] theorem updFw_pending (f : UpdateState → UpdateState) : (s.updFw f).pending = s.pending := rfl
@[simp] theorem updFw_out (f : UpdateState → UpdateState) : (s.updFw f).out = s.out := rfl
@[simp] theorem updFw_fresh (f : UpdateState → UpdateState) : (s.updFw f).fresh = s.fresh := rfl
@[simp] theorem updFw_cfg (f : UpdateState → UpdateState) : (s.updFw f).cfg = s.cfg := rfl
@[simp] theorem updFw_dict (f : UpdateState → UpdateState) : (s.updFw f).dict = s.dict := rfl
@[simp] theorem updFw_queue (f : UpdateState → UpdateState) : (s.updFw f).queue = s.queue := rfl
@[simp] theorem updFw_time (f : UpdateState → UpdateState) : (s.updFw f).time = s.time := rfl
@[simp] theorem updFw_health (f : UpdateState → UpdateState) : (s.updFw f).health = s.health := rfl
@[simp] theorem updFw_fabric (f : UpdateState → UpdateState) : (s.updFw f).fabric = s.fabric := rfl
@[simp] theorem updFw_isl (f : UpdateState → UpdateState) : (s.updFw f).isl = s.isl := rfl
@[simp] theorem updFw_power (f : UpdateState → UpdateState) : (s.updFw f).power = s.power := rfl
@[simp] theorem updFw_powerNv (f : UpdateState → UpdateState) : (s.updFw f).powerNv = s.powerNv := rfl
@[simp] theorem updFw_board (f : UpdateState → UpdateState) : (s.updFw f).board = s.board := rfl
@[simp] theorem updFw_vault (f : UpdateState → UpdateState) : (s.updFw f).vault = s.vault := rfl
@[simp] theorem updFw_vaultNv (f : UpdateState → UpdateState) : (s.updFw f).vaultNv = s.vaultNv := rfl
@[simp] theorem updFw_mtr (f : UpdateState → UpdateState) : (s.updFw f).mtr = s.mtr := rfl
@[simp] theorem updFw_net (f : UpdateState → UpdateState) : (s.updFw f).net = s.net := rfl
@[simp] theorem updFw_dist (f : UpdateState → UpdateState) : (s.updFw f).dist = s.dist := rfl
@[simp] theorem updFw_distNv (f : UpdateState → UpdateState) : (s.updFw f).distNv = s.distNv := rfl
@[simp] theorem updFw_lane (f : UpdateState → UpdateState) : (s.updFw f).lane = s.lane := rfl
@[simp] theorem updFw_vee (f : UpdateState → UpdateState) : (s.updFw f).vee = s.vee := rfl
@[simp] theorem updFw_bal (f : UpdateState → UpdateState) : (s.updFw f).bal = s.bal := rfl
@[simp] theorem updFw_sense (f : UpdateState → UpdateState) : (s.updFw f).sense = s.sense := rfl
@[simp] theorem updFw_senseNv (f : UpdateState → UpdateState) : (s.updFw f).senseNv = s.senseNv := rfl
@[simp] theorem updFw_plc (f : UpdateState → UpdateState) : (s.updFw f).plc = s.plc := rfl
@[simp] theorem updFw_radio (f : UpdateState → UpdateState) : (s.updFw f).radio = s.radio := rfl
@[simp] theorem updFw_store (f : UpdateState → UpdateState) : (s.updFw f).store = s.store := rfl
@[simp] theorem updFw_storeNv (f : UpdateState → UpdateState) : (s.updFw f).storeNv = s.storeNv := rfl
@[simp] theorem updFw_up (f : UpdateState → UpdateState) : (s.updFw f).up = s.up := rfl
@[simp] theorem updFw_upNv (f : UpdateState → UpdateState) : (s.updFw f).upNv = s.upNv := rfl
@[simp] theorem updFw_fw (f : UpdateState → UpdateState) : (s.updFw f).fw = f s.fw := rfl
@[simp] theorem updFw_fwNv (f : UpdateState → UpdateState) : (s.updFw f).fwNv = s.fwNv := rfl
@[simp] theorem updFw_casc (f : UpdateState → UpdateState) : (s.updFw f).casc = s.casc := rfl

@[simp] theorem updCasc_pending (f : CascState → CascState) : (s.updCasc f).pending = s.pending := rfl
@[simp] theorem updCasc_out (f : CascState → CascState) : (s.updCasc f).out = s.out := rfl
@[simp] theorem updCasc_fresh (f : CascState → CascState) : (s.updCasc f).fresh = s.fresh := rfl
@[simp] theorem updCasc_cfg (f : CascState → CascState) : (s.updCasc f).cfg = s.cfg := rfl
@[simp] theorem updCasc_dict (f : CascState → CascState) : (s.updCasc f).dict = s.dict := rfl
@[simp] theorem updCasc_queue (f : CascState → CascState) : (s.updCasc f).queue = s.queue := rfl
@[simp] theorem updCasc_time (f : CascState → CascState) : (s.updCasc f).time = s.time := rfl
@[simp] theorem updCasc_health (f : CascState → CascState) : (s.updCasc f).health = s.health := rfl
@[simp] theorem updCasc_fabric (f : CascState → CascState) : (s.updCasc f).fabric = s.fabric := rfl
@[simp] theorem updCasc_isl (f : CascState → CascState) : (s.updCasc f).isl = s.isl := rfl
@[simp] theorem updCasc_power (f : CascState → CascState) : (s.updCasc f).power = s.power := rfl
@[simp] theorem updCasc_powerNv (f : CascState → CascState) : (s.updCasc f).powerNv = s.powerNv := rfl
@[simp] theorem updCasc_board (f : CascState → CascState) : (s.updCasc f).board = s.board := rfl
@[simp] theorem updCasc_vault (f : CascState → CascState) : (s.updCasc f).vault = s.vault := rfl
@[simp] theorem updCasc_vaultNv (f : CascState → CascState) : (s.updCasc f).vaultNv = s.vaultNv := rfl
@[simp] theorem updCasc_mtr (f : CascState → CascState) : (s.updCasc f).mtr = s.mtr := rfl
@[simp] theorem updCasc_net (f : CascState → CascState) : (s.updCasc f).net = s.net := rfl
@[simp] theorem updCasc_dist (f : CascState → CascState) : (s.updCasc f).dist = s.dist := rfl
@[simp] theorem updCasc_distNv (f : CascState → CascState) : (s.updCasc f).distNv = s.distNv := rfl
@[simp] theorem updCasc_lane (f : CascState → CascState) : (s.updCasc f).lane = s.lane := rfl
@[simp] theorem updCasc_vee (f : CascState → CascState) : (s.updCasc f).vee = s.vee := rfl
@[simp] theorem updCasc_bal (f : CascState → CascState) : (s.updCasc f).bal = s.bal := rfl
@[simp] theorem updCasc_sense (f : CascState → CascState) : (s.updCasc f).sense = s.sense := rfl
@[simp] theorem updCasc_senseNv (f : CascState → CascState) : (s.updCasc f).senseNv = s.senseNv := rfl
@[simp] theorem updCasc_plc (f : CascState → CascState) : (s.updCasc f).plc = s.plc := rfl
@[simp] theorem updCasc_radio (f : CascState → CascState) : (s.updCasc f).radio = s.radio := rfl
@[simp] theorem updCasc_store (f : CascState → CascState) : (s.updCasc f).store = s.store := rfl
@[simp] theorem updCasc_storeNv (f : CascState → CascState) : (s.updCasc f).storeNv = s.storeNv := rfl
@[simp] theorem updCasc_up (f : CascState → CascState) : (s.updCasc f).up = s.up := rfl
@[simp] theorem updCasc_upNv (f : CascState → CascState) : (s.updCasc f).upNv = s.upNv := rfl
@[simp] theorem updCasc_fw (f : CascState → CascState) : (s.updCasc f).fw = s.fw := rfl
@[simp] theorem updCasc_fwNv (f : CascState → CascState) : (s.updCasc f).fwNv = s.fwNv := rfl
@[simp] theorem updCasc_casc (f : CascState → CascState) : (s.updCasc f).casc = f s.casc := rfl

@[simp] theorem updMeterBal_pending (m : Nat) (f : MeterBal → MeterBal) : (s.updMeterBal m f).pending = s.pending := rfl
@[simp] theorem updMeterBal_out (m : Nat) (f : MeterBal → MeterBal) : (s.updMeterBal m f).out = s.out := rfl
@[simp] theorem updMeterBal_fresh (m : Nat) (f : MeterBal → MeterBal) : (s.updMeterBal m f).fresh = s.fresh := rfl
@[simp] theorem updMeterBal_cfg (m : Nat) (f : MeterBal → MeterBal) : (s.updMeterBal m f).cfg = s.cfg := rfl
@[simp] theorem updMeterBal_dict (m : Nat) (f : MeterBal → MeterBal) : (s.updMeterBal m f).dict = s.dict := rfl
@[simp] theorem updMeterBal_queue (m : Nat) (f : MeterBal → MeterBal) : (s.updMeterBal m f).queue = s.queue := rfl
@[simp] theorem updMeterBal_time (m : Nat) (f : MeterBal → MeterBal) : (s.updMeterBal m f).time = s.time := rfl
@[simp] theorem updMeterBal_health (m : Nat) (f : MeterBal → MeterBal) : (s.updMeterBal m f).health = s.health := rfl
@[simp] theorem updMeterBal_fabric (m : Nat) (f : MeterBal → MeterBal) : (s.updMeterBal m f).fabric = s.fabric := rfl
@[simp] theorem updMeterBal_isl (m : Nat) (f : MeterBal → MeterBal) : (s.updMeterBal m f).isl = s.isl := rfl
@[simp] theorem updMeterBal_power (m : Nat) (f : MeterBal → MeterBal) : (s.updMeterBal m f).power = s.power := rfl
@[simp] theorem updMeterBal_powerNv (m : Nat) (f : MeterBal → MeterBal) : (s.updMeterBal m f).powerNv = s.powerNv := rfl
@[simp] theorem updMeterBal_board (m : Nat) (f : MeterBal → MeterBal) : (s.updMeterBal m f).board = s.board := rfl
@[simp] theorem updMeterBal_vault (m : Nat) (f : MeterBal → MeterBal) : (s.updMeterBal m f).vault = s.vault := rfl
@[simp] theorem updMeterBal_vaultNv (m : Nat) (f : MeterBal → MeterBal) : (s.updMeterBal m f).vaultNv = s.vaultNv := rfl
@[simp] theorem updMeterBal_mtr (m : Nat) (f : MeterBal → MeterBal) : (s.updMeterBal m f).mtr = s.mtr := rfl
@[simp] theorem updMeterBal_net (m : Nat) (f : MeterBal → MeterBal) : (s.updMeterBal m f).net = s.net := rfl
@[simp] theorem updMeterBal_dist (m : Nat) (f : MeterBal → MeterBal) : (s.updMeterBal m f).dist = s.dist := rfl
@[simp] theorem updMeterBal_distNv (m : Nat) (f : MeterBal → MeterBal) : (s.updMeterBal m f).distNv = s.distNv := rfl
@[simp] theorem updMeterBal_lane (m : Nat) (f : MeterBal → MeterBal) : (s.updMeterBal m f).lane = s.lane := rfl
@[simp] theorem updMeterBal_vee (m : Nat) (f : MeterBal → MeterBal) : (s.updMeterBal m f).vee = s.vee := rfl
@[simp] theorem updMeterBal_bal (m : Nat) (f : MeterBal → MeterBal) : (s.updMeterBal m f).bal = { s.bal with meters := insertKey m (f (s.meterBal m)) s.bal.meters } := rfl
@[simp] theorem updMeterBal_sense (m : Nat) (f : MeterBal → MeterBal) : (s.updMeterBal m f).sense = s.sense := rfl
@[simp] theorem updMeterBal_senseNv (m : Nat) (f : MeterBal → MeterBal) : (s.updMeterBal m f).senseNv = s.senseNv := rfl
@[simp] theorem updMeterBal_plc (m : Nat) (f : MeterBal → MeterBal) : (s.updMeterBal m f).plc = s.plc := rfl
@[simp] theorem updMeterBal_radio (m : Nat) (f : MeterBal → MeterBal) : (s.updMeterBal m f).radio = s.radio := rfl
@[simp] theorem updMeterBal_store (m : Nat) (f : MeterBal → MeterBal) : (s.updMeterBal m f).store = s.store := rfl
@[simp] theorem updMeterBal_storeNv (m : Nat) (f : MeterBal → MeterBal) : (s.updMeterBal m f).storeNv = s.storeNv := rfl
@[simp] theorem updMeterBal_up (m : Nat) (f : MeterBal → MeterBal) : (s.updMeterBal m f).up = s.up := rfl
@[simp] theorem updMeterBal_upNv (m : Nat) (f : MeterBal → MeterBal) : (s.updMeterBal m f).upNv = s.upNv := rfl
@[simp] theorem updMeterBal_fw (m : Nat) (f : MeterBal → MeterBal) : (s.updMeterBal m f).fw = s.fw := rfl
@[simp] theorem updMeterBal_fwNv (m : Nat) (f : MeterBal → MeterBal) : (s.updMeterBal m f).fwNv = s.fwNv := rfl
@[simp] theorem updMeterBal_casc (m : Nat) (f : MeterBal → MeterBal) : (s.updMeterBal m f).casc = s.casc := rfl

end Sys2Proof.Laws
end

