-- ==== Sys2Proof/Laws/Store.lean ====
section
/-!
SUPPORT. What sealing units and closing an index can change, said once: the store and its non-volatile part. Everything else of the state stands.
-/
namespace Sys2Proof.Laws
open Sys2Proof.Machine

/-- `t` differs from `s` at most in the store. -/
def StoreOnly (s t : State) : Prop := t = { s with store := t.store, storeNv := t.storeNv }

theorem StoreOnly.refl (s : State) : StoreOnly s s := rfl

theorem StoreOnly.trans {s t u : State} (h : StoreOnly s t) (k : StoreOnly t u) : StoreOnly s u := by
  unfold StoreOnly at *
  rw [h] at k
  exact k

theorem enqueue_storeOnly (s : State) (k : Nat) (c : Bool) (u : UnitBuf) : StoreOnly s (s.enqueue k c u) := rfl

theorem takeMun_storeOnly (s : State) : StoreOnly s s.takeMun.1 := rfl

theorem writeSegments_storeOnly (n : Nat) (s : State) (b : Bytes) : StoreOnly s (State.writeSegments n s b) := by
  induction n generalizing s b with
  | zero => exact .refl s
  | succ n ih =>
    unfold State.writeSegments
    split
    · exact .refl s
    · exact ((takeMun_storeOnly s).trans (enqueue_storeOnly ..)).trans (ih ..)

theorem closeIndex_storeOnly (s : State) : StoreOnly s s.closeIndex :=
  (writeSegments_storeOnly _ s _).trans rfl

theorem sealUnit_storeOnly (s : State) : StoreOnly s s.sealUnit := by
  unfold State.sealUnit
  split
  · exact .refl s
  · rfl

theorem closeDay_storeOnly (s : State) : StoreOnly s s.closeDay := by
  unfold State.closeDay
  split
  · exact (sealUnit_storeOnly s).trans (closeIndex_storeOnly _)
  · exact .refl s

end Sys2Proof.Laws
end

