-- ==== Sys2Proof/WellFormed.lean ====
section
/-!
DEFINITION. Which commands are well formed: the operands lie in the ranges that their objects' types and the manual's layouts allow.
-/
namespace Sys2Proof

open Machine

/-- R53: the five roles. -/
def roleOk (role : Nat) : Bool := decide (role < 5)

/-- R47: an unsigned number of `n` bytes. -/
def fits (n v : Nat) : Bool := decide (v < 256 ^ n)

/-- R47: a signed number of `n` bytes. -/
def fitsSigned (n : Nat) (v : Int) : Bool := decide (-(256 ^ n : Nat) ≤ 2 * v ∧ 2 * v < (256 ^ n : Nat))

/-- R608: the causes of abandonment. -/
def causeOk (cause : Nat) : Bool := decide (1 ≤ cause ∧ cause ≤ 7)

/-- R62, R75: where a message came from: transports 0 to 3, two Ethernet ports, 12 bits of VLAN, a UDP port, an address of 16 bytes or none. -/
def viaOk (v : Via) : Bool :=
  decide (v.transport < 4 ∧ v.port < 2 ∧ v.vlan < 4096 ∧ v.udpPort < 65536) && (v.address.length == 16 || v.address == [])

/-- R490: no message or frame is longer than 65,535 bytes; what a port takes of it is the receiver's check. -/
def frameOk (b : Bytes) : Bool := decide (b.length < 65536)

/-- R47: a BLOB has at most 65,536 bytes. -/
def blobOk (b : Bytes) : Bool := decide (b.length ≤ 65536)

/-- Well-formed commands. -/
def Instr.wellFormed (i : Instr) : Bool :=
  match i with
  | .configCommit role v => roleOk role && fits 1 v
  | .configSetCheck => true
  | .blockEpochSwitch _ => true
  | .configEpochLate => true
  | .discardStagedSet role v => roleOk role && fits 1 v
  | .restoreDefaults role v => roleOk role && fits 1 v
  | .fabricWindow _ => true
  | .read message via => frameOk message && viaOk via
  | .write message via => frameOk message && viaOk via
  | .readBlock message via => frameOk message && viaOk via
  | .writeBlock message via => frameOk message && viaOk via
  | .commit message via => frameOk message && viaOk via
  | .subscribeCreate message via => frameOk message && viaOk via
  | .subscribeCancel message via => frameOk message && viaOk via
  | .subscribeRenew message via => frameOk message && viaOk via
  | .notify _ => true
  | .subscriptionExpired _ => true
  | .blockSessionEnd _ => true
  | .eventsLost => true
  | .nodeTimeout => true
  | .leafResult => true
  | .errorReport _ => true
  | .dispatch => true
  | .laneMapMove _ => true
  | .fetch _ => true
  | .identify _ _ => true
  | .derive _ _ => true
  | .decrypt _ _ => true
  | .decode _ _ => true
  | .validate _ _ => true
  | .estimate _ _ => true
  | .balanceContribution _ _ => true
  | .verify _ _ => true
  | .commitOrSquash _ _ => true
  | .recordAndAcknowledge _ _ => true
  | .exportEnqueue _ _ => true
  | .generationNotice _ => true
  | .quarantineSummary => true
  | .latencyExceeded => true
  | .latencyStatsClear role v => roleOk role && fits 1 v
  | .meterRekey role v => roleOk role && fits 1 v
  | .rekeySend meter => fits 4 meter
  | .rekeyRetry meter => fits 4 meter
  | .joinAcceptSend => true
  | .joinExpired meter => fits 4 meter
  | .meterRemove role v => roleOk role && fits 1 v
  | .meterSelectEui role eui => roleOk role && fits 8 eui
  | .networkKeyGraceEnd => true
  | .veeRecord => true
  | .sweepStep meter => fits 4 meter
  | .editApply role v => roleOk role && fits 8 v
  | .editApplied => true
  | .editRelease role v => roleOk role && fits 8 v
  | .meterClassMove role v => roleOk role && fits 1 v
  | .historyRebuild meter => fits 4 meter
  | .syncEvent _ => true
  | .syncNow role v => roleOk role && fits 1 v
  | .localReset _ => true
  | .gridUnlocked _ => true
  | .measurementBlock instants _ => instants.all (fun b => b.length == 8 && b.all (fun w => decide (w < 2 ^ 512)))
  | .channelOverrange _ => true
  | .zeroCrossing _ bits n _ _ _ _ => decide (bits < 2 ^ (32 * n))
  | .voltageLost _ => true
  | .energyReset role mask => roleOk role && fits 1 mask
  | .balanceDeltaApply => true
  | .balanceCorrectionApply => true
  | .sensingBlockApply => true
  | .groupIntervalClose _ => true
  | .utcDayClose => true
  | .phaseReport => true
  | .addGroup role v => roleOk role && fits 2 v
  | .removeGroup role v => roleOk role && fits 2 v
  | .configPhase role v => roleOk role && fits 1 v
  | .clearDetectors role v => roleOk role && fits 1 v
  | .memberBulk role list => roleOk role && blobOk list
  | .segmentGridPredict _ => true
  | .segmentTimerLocked _ => true
  | .preambleDetected _ => true
  | .syncWordFound _ _ => true
  | .headerDecoded _ _ => true
  | .plcFrameEnd _ _ _ _ _ => true
  | .plcTransmit _ => true
  | .plcAgcStep _ _ => true
  | .backoffBoundary _ _ => true
  | .ackWindowOpen _ => true
  | .neighbourQueryPeriod => true
  | .neighbourReport => true
  | .linkAgeExpire => true
  | .routePin role v => roleOk role && v.length == 16
  | .routeUnpin role v => roleOk role && fits 1 v
  | .iqLinkFault _ _ => true
  | .iqLinkRestored _ => true
  | .scriptRun _ _ _ => true
  | .userA role _ => roleOk role
  | .userB role _ => roleOk role
  | .frontEndAlarm _ _ => true
  | .sfdFound _ _ _ _ => true
  | .radioFrameEnd _ _ _ _ => true
  | .txRequest _ => true
  | .txOn _ => true
  | .transmissionStart _ => true
  | .transmissionEnd _ => true
  | .agcBlock _ _ => true
  | .rxClipping _ => true
  | .slotBoundary _ => true
  | .scheduleActivated _ => true
  | .beaconSend _ => true
  | .radioAckSend _ => true
  | .downCellSend _ => true
  | .floodCellSend _ => true
  | .seenEntryExpire => true
  | .commandRequest role v => roleOk role && fits 1 v
  | .commandTake meter => fits 4 meter
  | .commandTimeout meter => fits 4 meter
  | .commandCancel role v => roleOk role && fits 1 v
  | .tariffLoad role b => roleOk role && blobOk b
  | .tariffAssign role v => roleOk role && fits 2 v
  | .imageBeginSlot role b => roleOk role && b.length == 28
  | .imageChunk role b => roleOk role && blobOk b
  | .imageEndSlot role slot => roleOk role && fits 1 slot
  | .imageTargets role b => roleOk role && blobOk b
  | .imageActivate role b => roleOk role && b.length == 16
  | .imageRemove role slot => roleOk role && fits 1 slot
  | .roundStart _ _ => true
  | .roundEnd _ _ => true
  | .blockSend _ => true
  | .queuePush _ _ _ tag _ => fits 2 tag
  | .queuePop _ => true
  | .dropPacket _ => true
  | .queueReserve _ _ => true
  | .skeinSpill _ => true
  | .skeinRefill _ _ addr => fits 4 addr
  | .queueStatusRead _ => true
  | .hostPop role v => roleOk role && fits 1 v
  | .hostPush role cell => roleOk role && cell.length == 66
  | .hostDropPacket role v => roleOk role && fits 1 v
  | .recordAppend => true
  | .stripeProgram _ => true
  | .programComplete _ _ => true
  | .batchAgeSeal => true
  | .storeRead _ _ => true
  | .dayReclaimed => true
  | .reclaimThrough role day => roleOk role && fits 4 day
  | .storeFullHourly => true
  | .storeResumed => true
  | .garbageCollection => true
  | .eraseComplete _ _ => true
  | .wearMove => true
  | .patrolRead _ _ => true
  | .unitRelocate => true
  | .dieRebuildDone _ => true
  | .mapCheckpoint => true
  | .checkpointComplete => true
  | .imageUnitWrite _ => true
  | .format role v => roleOk role && fits 1 v
  | .ethFrameReceived _ capture frame => fits 8 capture && frameOk frame
  | .ethLinkChanged _ _ => true
  | .exportRecordTake => true
  | .exportHoldoff => true
  | .exportAck via datagram => viaOk via && frameOk datagram
  | .exportRetransmit => true
  | .exportStalled => true
  | .exportShed => true
  | .keepAlive => true
  | .exportKeySwitch => true
  | .cumPersist => true
  | .exportSessionStart role v => roleOk role && fits 1 v
  | .importDatagram via _ datagram => viaOk via && frameOk datagram
  | .returnDatagram => true
  | .departureEcho _ capture tag frame => fits 8 capture && fits 2 tag && frameOk frame
  | .offsetSample _ _ => true
  | .sourceLost _ => true
  | .syncLost _ => true
  | .periodWrite _ role v => roleOk role && fits 8 v
  | .stepRequest _ role delta => roleOk role && fitsSigned 8 delta
  | .forcedStep _ role delta => roleOk role && fitsSigned 8 delta
  | .setTime _ role time => roleOk role && time.length == 12
  | .clearSticky _ role v => roleOk role && fits 1 v
  | .pairSwitched _ => true
  | .pairRevert _ => true
  | .slewComplete _ => true
  | .backupAnchor => true
  | .leapApplied => true
  | .ptpFrameReceived _ capture frame => fits 8 capture && frameOk frame
  | .ihlostTimeExchange _ _ c2 c3 _ => fits 8 c2 && fits 8 c3
  | .ppsEdge _ stamp => fits 8 stamp
  | .keyRequest _ slot _ => fits 1 slot
  | .keyImport role blob => roleOk role && blobOk blob
  | .keyImported => true
  | .keyRevoke role slot => roleOk role && fits 1 slot
  | .keyErase role slot => roleOk role && fits 1 slot
  | .tamperDetected _ => true
  | .meshSample _ _ => true
  | .tamperRearm _ _ => true
  | .tamperStatusClear role v => roleOk role && fits 1 v
  | .lockdownRelease role v => roleOk role && fits 1 v
  | .provision role bundle => roleOk role && blobOk bundle
  | .deploy role eui => roleOk role && fits 8 eui
  | .returnDevice role eui => roleOk role && fits 8 eui
  | .lock role eui => roleOk role && fits 8 eui
  | .issueChallenge => true
  | .submitResponse _ => true
  | .debugAuthorised => true
  | .closeSession => true
  | .challengeLapse => true
  | .attest role challenge => roleOk role && challenge.length == 32
  | .serviceWrite _ => true
  | .serviceRead _ => true
  | .flags => true
  | .status => true
  | .imageBegin => true
  | .imageData => true
  | .imageEnd => true
  | .hitlessHandover role => roleOk role
  | .bindOff => true
  | .handoverAbandoned cause => causeOk cause
  | .restartModeUpdate role => roleOk role
  | .revert role => roleOk role
  | .accept role => roleOk role
  | .discardStaged role => roleOk role
  | .probationEnded => true
  | .heartbeatLost => true
  | .enumerate _ _ => true
  | .cascadeFormed _ _ => true
  | .ihlostLinkChanged _ _ => true
  | .ihlostMessage _ _ message => frameOk message
  | .hopResend _ => true
  | .masterHeartbeat _ => true
  | .masterLost => true
  | .leafLost _ => true
  | .masterRegained => true
  | .directoryUpdate => true
  | .forward => true
  | .forwardEntryExpire eui fc => fits 8 eui && fits 4 fc
  | .recordAck => true
  | .sampleSyncEpoch _ => true
  | .islandFrequencyCheck _ _ kHz => fits 4 kHz
  | .islandClockRestored _ => true
  | .islandUngate _ => true
  | .crossingOverrun _ _ => true
  | .crossingFenced _ _ _ _ => true
  | .crossingClear role v => roleOk role && fits 1 v
  | .inputChange _ _ _ => true
  | .inputStuck _ => true
  | .inputRearmed _ => true
  | .retry cell _ _ => fits 2 cell
  | .retireCell role v => roleOk role && fits 2 v
  | .controlFailover _ _ => true
  | .selfTest cell _ _ _ => fits 2 cell
  | .returnCell role v => roleOk role && fits 2 v
  | .clearCollector role v => roleOk role && fits 1 v
  | .freeze _ => true
  | .freezeReleased _ => true
  | .swData cell space addr _ _ => fits 2 cell && fits 1 space && fits 4 addr
  | .swStatus => true
  | .castOn _ => true
  | .porst => true
  | .brownOut => true
  | .lastGasp => true
  | .lastGaspStop _ => true
  | .pfailReleased => true
  | .deviceRestart role v => roleOk role && fits 1 v
  | .referenceLost => true
  | .referenceRestored => true
  | .referenceLossLimit => true
  | .supplyWarning _ _ mV => fits 2 mV
  | .periodicSave => true
  | .syncWordNotFound _ => true
  | .gridExtend _ => true
  | .energyBelowBusy _ => true
  | .eventPlaceTimeout => true
  | .formatComplete _ => true
  | .islandGate _ => true

end Sys2Proof
end

