-- ==== Sys2Proof/Tests/Slice0.lean ====
section
/-!
SUPPORT. Tests: every check of WellFormed refuses an ill-formed command, small steps worked out by hand from the rules, and for the hypotheses of
every statement a state and operands that meet them.
-/
set_option Elab.async false

namespace Sys2Proof.Tests
open Sys2Proof Sys2Proof.Machine

/-- The machine cast on, with everything else as reset leaves it. -/
def run : State := { State.reset with power := { State.reset.power with phase := .run } }

/-- A state in whose queue `q` one packet waits. -/
def holding (s : State) (q : Nat) (b : Bytes) : State :=
  { s with queue := { s.queue with queues := upd s.queue.queues q (fun x => { x with head := cellsOf b }) } }

/-- What is left when the packet at the front of a queue is taken, and its bytes. -/
def rest (s : State) (q : Nat) : State := ((s.popPacket q).getD (s, [], true)).1
def front (s : State) (q : Nat) : Bytes := ((s.popPacket q).getD (s, [], true)).2.1

theorem popped {s : State} {q : Nat} (h : (s.popPacket q).isSome = true) (k : ((s.popPacket q).getD (s, [], true)).2.2 = false) :
    s.popPacket q = some (rest s q, front s q, false) := by
  obtain ⟨x, e⟩ := Option.isSome_iff_exists.mp h
  unfold rest front
  rw [e] at k ⊢
  obtain ⟨a, b, c⟩ := x
  simp only [Option.getD_some] at k ⊢
  rw [k]

theorem got {α : Type} {x : Option α} (h : x.isSome = true) : x = some (x.get h) := (Option.some_get h).symm

/-- A meter, and the machine with it registered at index 0. -/
def mm : Meter := { (default : Meter) with eui := 5, short := 7, groups := [1, 0xFFFF, 0xFFFF, 0xFFFF] }
def having (m : Meter) : State := { run with mtr := { run.mtr with table := [(0, m)] } }
def met : State := having mm

/-- The counter, and TD0 in seconds, set. -/
def clock (s : State) (n : Nat) : State := { s with time := { s.time with counter := n } }
def secs (s : State) (n : Nat) : State :=
  { s with time := { s.time with domains := upd s.time.domains 0 (fun d => { d with offset := n * 65536000000000, anchor := s.time.counter }) } }

/-- The value of an object set; a cell fenced; a queue fenced; room reserved in a queue. -/
def sett (s : State) (idx sub : Nat) (v : Bytes) : State :=
  { s with cfg := { s.cfg with active := insertKey (objKey idx sub) v s.cfg.active } }
def without (s : State) (a : Nat) : State :=
  { s with health := { s.health with cells := insertKey a { (default : CellRec) with status := .fenced } s.health.cells } }
def shut (s : State) (q : Nat) : State :=
  { s with queue := { s.queue with queues := upd s.queue.queues q (fun x => { x with fenced := true }) } }
def reserved (s : State) (q n : Nat) : State :=
  { s with queue := { s.queue with queues := upd s.queue.queues q (fun x => { x with reserved := n }) } }

/-- An item at a stage, and a lane in which items are in flight or await their records. -/
def item (i n : Nat) : Item := { (default : Item) with ident := i, next := n }
def inLane (xs : List Item) : State := met.updLane 0 (fun x => { x with items := xs })
def doneLane (xs : List Item) : State := met.updLane 0 (fun x => { x with done := xs })

/-- A frame of type 1 whose other bytes are 1, so that its generation is 257 and its counter 0x01010101. -/
def ones : Bytes := 0x10#8 :: List.replicate 39 1#8

/-- The entry of an enabled group of 15 minutes, and such a group with interval 0 open. -/
def entry : Bytes := [1, 15] ++ zeros 30
def grp : Group := { (default : Group) with entry := entry, opens := [{ (default : GInt) with id := 0 }] }
def grouped (g : Nat) (x : Group) : State := { met with bal := { met.bal with groups := [(g, x)] } }

/-- A meter's phase report, with a crossing of L1 at time 0 in hand. -/
def reporting (tm : Int) : State :=
  { met with bal := { met.bal with reports := [⟨0, 1, tm⟩], crossings := [⟨1, 0, 20000000, false⟩] } }

/-- The first engine, the first chain and the first radio port and MAC changed. -/
def eng0 (s : State) (f : Engine → Engine) : State := { s with plc := { s.plc with engines := upd s.plc.engines 0 f } }
def chain0 (f : Chain → Chain) : State := { run with sense := { run.sense with chains := upd run.sense.chains 0 f } }
def phase0 (s : State) (f : PhaseV → PhaseV) : State := { s with sense := { s.sense with phases := upd s.sense.phases 0 f } }
def port0 (s : State) (f : RadioPort → RadioPort) : State := { s with radio := { s.radio with ports := upd s.radio.ports 0 f } }
def mac0 (s : State) (f : RadioMac → RadioMac) : State := { s with radio := { s.radio with macs := upd s.radio.macs 0 f } }

/-- A header of a Beyqua frame: transmitter, length, segment 0 with map 0, duration 1, period 20,000, with its CRC. -/
def header (tx len : Nat) : Bytes :=
  let h := leBytes 2 tx ++ [byte len, 0] ++ leBytes 2 1 ++ leBytes 2 20000
  h ++ [byte (crc8 h)]

/-- A control item that waits in Q37, the lane map brought up to date. -/
def ctlIn : State := holding run 37 (Ctl.bytes ⟨1, 0, 5, 0, 0, []⟩)
def mapped : State := { ctlIn.syncMap with lane := ctlIn.syncMap.lane }

theorem paired {α β : Type} {x : α × β} {b : β} (h : x.2 = b) : x = (x.1, b) := by rw [← h]

/-- Both radio ports in use, with one channel; a schedule of one slot with one cell of a kind, a child that may be sent to, and a wide guard. -/
def rad : State := sett (sett (sett run 0x3000 1 [3]) 0x3001 1 (leBytes 4 900000000)) 0x3010 0 (leBytes 4 900200000 ++ [1, 3, 0, 0] ++ zeros 2040)
def schedule (kind : Nat) : Bytes := [1, 0, 1, 0] ++ zeros 10 ++ [0xFF, 0xFF] ++ zeros 16 ++ [0, 0, 0, byte kind, 1, 0, 0, 0]
def sched0 (s : State) (kind : Nat) : State :=
  mac0 s (fun m => { m with sched := schedule kind, children := [{ (default : Child) with meter := 0, state := 1 }] })
def job (ph : TxPhase) (start : Nat) : TxJob := ⟨[0], 0, 0, start, 1, ph, none⟩
def demod0 (s : State) (f : Demod → Demod) : State := port0 s (fun x => { x with demods := upd x.demods 0 f })

/-- A PSDU: a frame of four zero bytes with its FCS of two. -/
def psdu : Bytes := zeros 4 ++ fcsOf 2 (zeros 4)

/-- A command, a campaign, a queue changed. -/
def mcmd (st : Nat) : MCmd := { (default : MCmd) with state := st }
def cmds (s : State) (l : List MCmd) : State := { s with dist := { s.dist with queues := [(0, l)] } }
def camp (s : State) (c : Campaign) : State := { s with dist := { s.dist with campaigns := [c] } }
def image0 (s : State) (f : ImageSlot → ImageSlot) : State := { s with distNv := { s.distNv with images := upd s.distNv.images 0 f } }
def queue0 (f : Queue → Queue) : State := { run with queue := { run.queue with queues := upd run.queue.queues 0 f } }
def eightCells : List QCell := List.replicate 8 default
def pool (s : State) (n : Nat) : State := { s with queue := { s.queue with poolMiB := n } }

/-- The store and what it holds changed; a store that is READY, one that is read-only. -/
def inStore (s : State) (f : StoreState → StoreState) : State := { s with store := f s.store }
def inNv (s : State) (f : StoreNv → StoreNv) : State := { s with storeNv := f s.storeNv }
def ready (s : State) : State := inStore s (fun x => { x with mode := .ready })
def full (s : State) : State := inStore s (fun x => { x with mode := .readOnly })
def stream0 (s : State) (f : Stream → Stream) : State := inStore s (fun x => { x with streams := upd x.streams 0 f })
def sblocks (s : State) (l : List Superblock) : State := inNv s (fun n => { n with sbs := l })
def unit5 (s : State) : State := inNv s (fun n => { n with map := [(5, some ⟨0, 0, 0, 0⟩)] })
def sblock (st : SbState) (erases : Nat) : Superblock := { (default : Superblock) with state := st, erases := erases }

/-- Ethernet port 0 up; a frame with its FCS; a UDP datagram of no bytes in IPv4. -/
def eth0 (s : State) (f : EthPort → EthPort) : State := { s with up := { s.up with eth := upd s.up.eth 0 f } }
def wired : State := eth0 (sett run 0x5000 1 [1]) (fun y => { y with up := true })
def framed (f : Bytes) : Bytes := f ++ leBytes 4 (crc32 f)
theorem framed_ok (f : Bytes) : leBytes 4 (crc32 (List.take (List.length (framed f) - 4) (framed f))) = List.drop (List.length (framed f) - 4) (framed f) := by
  simp [framed, leBytes]
def udp : Bytes := zeros 12 ++ [8, 0] ++ [0x45, 0, 0, 28] ++ zeros 4 ++ [0, 17, 0xBA, 0xD2] ++ zeros 8 ++ [0, 0, 0, 0, 0, 8, 0, 0]
def imp (s : State) (f : ImportState → ImportState) : State := { s with up := { s.up with imp := f s.up.imp } }

/-- Something in the time state, the power state, the vault, the health state, the islands, the cascade, the uplink and the firmware changed. -/
def inTime (f : TimeState → TimeState) : State := { run with time := f run.time }
def dom0 (s : State) (f : Domain → Domain) : State := { s with time := { s.time with domains := upd s.time.domains 0 f } }
def inPower (f : PowerState → PowerState) : State := { run with power := f run.power }
def phased (p : PowerPhase) : State := inPower (fun x => { x with phase := p })
def inVault (s : State) (f : VaultState → VaultState) : State := { s with vault := f s.vault }
def slotted (s : State) (i policy : Nat) (key : Bytes) : State :=
  inVault s (fun x => { x with slots := x.slots.set i (mkSlot i policy key) })
def fused (n : Nat) : State := { run with vaultNv := { run.vaultNv with fuses := { run.vaultNv.fuses with stage := n } } }
def inHealth (f : HealthState → HealthState) : State := { run with health := f run.health }
def failed (a : Nat) (f : CellRec → CellRec) : State :=
  inHealth (fun x => { x with cells := insertKey a (f default) x.cells })
def inIsl (f : IslandState → IslandState) : State := { run with isl := f run.isl }
def input0 (f : Input → Input) : State := inIsl (fun x => { x with inputs := upd x.inputs 0 f })
def inCasc (s : State) (f : CascState → CascState) : State := { s with casc := f s.casc }
def ih0 (s : State) (f : IhPort → IhPort) : State := inCasc s (fun x => { x with ports := upd x.ports 0 f })
def linked : State := ih0 run (fun x => { x with up := true })
def master (s : State) : State := { s with board := { s.board with cascMaster := true } }
def inExp (s : State) (f : ExportState → ExportState) : State := { s with up := { s.up with exp := f s.up.exp } }
def inFw (s : State) (f : UpdateState → UpdateState) : State := { s with fw := f s.fw }
def sealed (b : Bool) (l : List Blk) : State :=
  { run with cfg := { run.cfg with sets := [{ (default : Sealed) with published := b, switched := l }] } }

/-- The tag of a slot that `mkSlot` made is right, and one of more than four bytes is wrong. -/
theorem tag_good {s : State} {i p : Nat} {k : Bytes} (h : s.slot i = mkSlot i p k) : s.tagOk i = true := by
  simp [State.tagOk, h, mkSlot]
theorem tag_bad {s : State} {i : Nat} (h : 4 < (s.slot i).tag.length) : s.tagOk i = false := by
  simp only [State.tagOk, decide_eq_false_iff_not]
  intro e
  rw [e] at h
  simp [slotTag] at h
def leaf (s : State) : State := { s with board := { s.board with cascMaster := false } }
def placed (s : State) : State := inCasc (leaf s) (fun c => { c with own := 1, upstream := 0, formed := true })
def link1 (s : State) : State := inCasc s (fun x => { x with ports := upd x.ports 1 (fun y => { y with up := true }) })
def grants : State := inHealth (fun x => { x with frozen := true })

/-- A message of an enumeration that another device began. -/
def strange : Bytes := if Config.deviceEui = 0 then 1#8 :: zeros 9 else zeros 10
theorem strange_ne : fieldLE strange 0 8 ≠ Config.deviceEui := by
  unfold strange
  split
  · next h => rw [h]; decide +kernel
  · next h => exact fun e => h (e.symm.trans (by decide +kernel))
def island3 (f : Island → Island) : State := inIsl (fun x => { x with islands := upd x.islands 3 f })
def crossing0 (f : Crossing → Crossing) : State := run.putCrossing (f (run.crossing 0 1))

/-- Role 1 with a key in slot 5, a request under it with sequence 1, and what the check of its key leaves. -/
def key0 : Bytes := zeros 32
def keyed : State := sett (slotted run 5 (1 + 2 ^ 19 + 2 ^ 27) key0) 0x1031 2 [5]
def via0 : Via := ⟨0, 0, 0, 0, []⟩
def dmsg (op : Nat) (pay : Bytes) : Bytes := dictMessage key0 0 1 op 1 0 pay
def dreq (op : Nat) (pay : Bytes) : DictMsg := ⟨1, op, 1, 0, pay⟩
def loaded (s : State) : State :=
  ({ s with vault := { s.vault with regs := s.vault.regs.set Consumer.dictAuth.index ⟨5, 0, key0⟩ } } : State).vaultCount 2 1

theorem roleKey_loaded {s : State} (h1 : s.roleSlot 1 = 5) (h2 : s.slotRefusal 5 .dictAuth (.raw 3) = 0)
    (h3 : s.slot 5 = mkSlot 5 (1 + 2 ^ 19 + 2 ^ 27) key0) (h4 : ((loaded s).reg .dictAuth).key = key0) :
    s.roleKey 1 = (loaded s, some key0) := by
  have e : s.deliverKey .dictAuth 5 (.raw 3) = (loaded s, 0) := by
    simp only [State.deliverKey, h2, tag_good h3, h3, ne_eq, not_true_eq_false, if_false, Bool.not_true, Bool.false_eq_true]
    rfl
  simp only [State.roleKey, h1, e, if_true, h4]

theorem beBytes_length (n v : Nat) : (beBytes n v).length = n := by
  unfold beBytes
  rw [List.length_reverse]
  induction n generalizing v with
  | zero => rfl
  | succ n ih => simp [leBytes, ih]
theorem j0_length : (aesEncrypt key0 (gcmJ0 (dictIv 0 1 1))).length = 16 := by decide +kernel
theorem tag_length (b : Bytes) : (dictTag key0 0 1 1 b).length = 16 := by
  simp [dictTag, gmac, gcmTag, xorBytes, bitsBlock, beBytes_length, j0_length]

theorem slice_left (b t : Bytes) (o n : Nat) (h : o + n ≤ b.length) : slice (b ++ t) o n = slice b o n := by
  unfold slice
  rw [List.drop_append_of_le_length (by omega), List.take_append_of_le_length (by rw [List.length_drop]; omega)]
theorem field_left (b t : Bytes) (o n : Nat) (h : o + n ≤ b.length) : fieldLE (b ++ t) o n = fieldLE b o n := by
  unfold fieldLE
  rw [slice_left b t o n h]

theorem took {s : State} {op : Nat} {pay : Bytes} (hk : s.roleKey 1 = (loaded s, some key0)) (hl : s.live = true)
    (ho : s.dictOverload = false) (hn : fieldLE (dictBody 0 1 op 1 0 pay) 14 2 = pay.length) (h0 : pay.length ≤ 1044)
    (hv : fieldLE (dictBody 0 1 op 1 0 pay) 0 1 = 1) (hw : fieldLE (dictBody 0 1 op 1 0 pay) 1 1 = 0)
    (hf : (⟨fieldLE (dictBody 0 1 op 1 0 pay) 2 1, fieldLE (dictBody 0 1 op 1 0 pay) 3 1, fieldLE (dictBody 0 1 op 1 0 pay) 4 8,
      fieldLE (dictBody 0 1 op 1 0 pay) 12 2, slice (dictBody 0 1 op 1 0 pay) 16 pay.length⟩ : DictMsg) = dreq op pay)
    (hj : (at' (loaded s).dict.roles 1).judge 1 = .fresh) (hb : payloadAbort op pay = 0) :
    Accepted s (dmsg op pay) via0 (dreq op pay) key0 := by
  have e : dmsg op pay = dictBody 0 1 op 1 0 pay ++ dictTag key0 0 1 1 (dictBody 0 1 op 1 0 pay) := rfl
  have l : (dmsg op pay).length = pay.length + 32 := by
    rw [e, List.length_append, tag_length]; simp [dictBody, leBytes]
  have lb : (dictBody 0 1 op 1 0 pay).length = pay.length + 16 := by simp [dictBody, leBytes]
  refine ⟨hl, by decide, ho, ?_, by show (s.roleKey 1).2 = _; rw [hk], ?_,
    by show (at' (s.roleKey 1).1.dict.roles 1).judge 1 = _; rw [hk]; exact hj, rfl, hb⟩
  · have h : (dmsg op pay).length = pay.length + 32 ∧ pay.length ≤ 1044 ∧ fieldLE (dmsg op pay) 0 1 = 1 ∧ fieldLE (dmsg op pay) 1 1 = 0 :=
      ⟨l, h0, by rw [e, field_left _ _ _ _ (by omega)]; exact hv, by rw [e, field_left _ _ _ _ (by omega)]; exact hw⟩
    have n : fieldLE (dmsg op pay) 14 2 = pay.length := by rw [e, field_left _ _ _ _ (by omega)]; exact hn
    simp only [dictParse, n, if_pos h]
    rw [e, field_left _ _ 2 1 (by omega), field_left _ _ 3 1 (by omega), field_left _ _ 4 8 (by omega), field_left _ _ 12 2 (by omega),
      slice_left _ _ _ _ (by omega), hf]
  · rw [l, e, show pay.length + 32 - 16 = (dictBody 0 1 op 1 0 pay).length by omega, List.take_left, List.drop_left]
    rfl

/-- The state in which such a request is executed. -/
def after (s : State) : State := (((loaded s).updRole 1 (fun x => x.accept 1)).dictCount 1).countWindow
theorem admitted_after {s : State} {op : Nat} {pay : Bytes} (hk : s.roleKey 1 = (loaded s, some key0)) :
    s.admitted (dreq op pay) = after s := by
  show (((s.roleKey 1).1.updRole 1 (fun x => x.accept 1)).dictCount 1).countWindow = _
  rw [hk]; rfl
theorem runs {s : State} {op : Nat} {pay : Bytes} (hk : s.roleKey 1 = (loaded s, some key0)) (h1 : (after s).roleRefused 1 0 = false)
    (h2 : (after s).health.deviceFault = false) (h3 : (after s).fw.pauseAt = none) : Executes s (dreq op pay) via0 := by
  refine ⟨?_, ?_, ?_⟩ <;> rw [admitted_after hk] <;> assumption
theorem keyed_key : keyed.roleKey 1 = (loaded keyed, some key0) := roleKey_loaded rfl (by decide +kernel) rfl (by decide +kernel)

/-- A subscription of role 1 with an event that waits, and a state that has it. -/
def sub0 : Subscription := { (default : Subscription) with role := 1, buffered := [⟨0, 0, zeros 32⟩] }
def subbed (s : State) (u : Subscription) : State := { s with dict := { s.dict with subs := s.dict.subs.set 0 (some u) } }
theorem subbed_key : (subbed keyed sub0).roleKey 1 = (loaded (subbed keyed sub0), some key0) :=
  roleKey_loaded rfl (by decide +kernel) rfl (by decide +kernel)

theorem leNat_leBytes (n v : Nat) (h : v < 256 ^ n) : leNat (leBytes n v) = v := by
  induction n generalizing v with
  | zero => simp [leBytes, leNat]; omega
  | succ n ih =>
    have : v / 256 < 256 ^ n := Nat.div_lt_of_lt_mul (by rw [Nat.pow_succ] at h; omega)
    simp [leBytes, leNat, ih _ this]
    omega
theorem own_eui : fieldLE (leBytes 8 Config.deviceEui) 0 8 = Config.deviceEui :=
  leNat_leBytes 8 _ Config.euiWord.isLt

/-- A delivery of a key that `mkSlot` placed, and the export key so delivered. -/
def delivered (s : State) (c : Consumer) (slot p : Nat) (k : Bytes) (u : Nat) : State :=
  ({ s with vault := { s.vault with regs := s.vault.regs.set c.index ⟨slot, polGen p, (KeyUse.raw u).key k⟩ } } : State).vaultCount 2 1
theorem deliver_ok {s : State} {c : Consumer} {slot p u : Nat} {k : Bytes} (h1 : s.slotRefusal slot c (.raw u) = 0)
    (h2 : s.slot slot = mkSlot slot p k) : s.deliverKey c slot (.raw u) = (delivered s c slot p k u, 0) := by
  simp only [State.deliverKey, h1, tag_good h2, h2, ne_eq, not_true_eq_false, if_false, Bool.not_true, Bool.false_eq_true]
  rfl
def pol6 : Nat := 1 + 127 * 2 ^ 16 + 31 * 2 ^ 24
def exporting : State := sett (slotted (sett run 0x5010 1 [6]) 6 pol6 key0) 0x5011 1 [0, 0, 1, 0]
def exported (s : State) : State :=
  (delivered s .exporter 6 pol6 key0 1).updExp (fun x => { x with keyRaised := false, state := if x.state = 3 then 0 else x.state })
theorem export_key {s : State} (h0 : s.cfgN 0x5010 1 = 6) (h1 : s.slotRefusal 6 .exporter (.raw 1) = 0)
    (h2 : s.slot 6 = mkSlot 6 pol6 key0) (h3 : ((delivered s .exporter 6 pol6 key0 1).reg .exporter).key = key0) :
    s.exportKey = (exported s, some key0) := by
  simp only [State.exportKey, h0, deliver_ok h1 h2, if_true, h3]
  rfl
theorem export_held {s : State} (h : s.exportKey = (exported s, some key0)) (hs : s.keyStale = false) :
    s.exportKeyHeld = (exported s, some key0) := by
  simp [State.exportKeyHeld, h, hs]
/-- A key of the export engine that is the one in use. -/
def keyHeld (s : State) : State := inExp s (fun x => { x with slot := 6, gen := 0 })

/-- The symbols that a header's tones make, newest first. -/
def heardSyms (s : State) (h : Bytes) : List (List Nat) :=
  (((headTones (s.band 0) h).drop 32).map (fun l => (List.range (2 * bandPairs (s.band 0))).map (fun t => if l.contains t then 1000 else 0))).reverse
def heard (h : Bytes) : State := eng0 run (fun x => { x with rx := .synced 0, syms := heardSyms run h })
def header3 : Bytes :=
  let h := leBytes 2 0xFFFE ++ [8, 24] ++ leBytes 2 1 ++ leBytes 2 20000
  h ++ [byte (crc8 h)]
/-- The bits of a radio frame with an FCS of two bytes. -/
def aired : List Bool := phrBits (phrOf 2 false 6) ++ octetBits psdu
/-- A gateway to which a return goes. -/
def gated : State :=
  sett (imp (holding run 14 (zeros 64)) (fun x => { x with returns := [⟨0, 9, 0, 0, 0⟩], gateways := [{ (default : Gateway) with eui := 9 }] })) 0x5020 2 [0]
/-- A key to be imported into slot 7 under the key of slot 6, and its blob. -/
def polNew : Nat := 3 + 2 ^ 18 + 2 ^ 26
def wrapped : Bytes := keyWrap key0 (leBytes 8 polNew ++ zeros 16)
def blobNew : Bytes := [1, 7, 1, 6, 0, 0, 0, 0] ++ leBytes 8 polNew ++ zeros 16 ++ zeros 97 ++ zeros 3 ++ wrapped
def kekAt : State := slotted run 6 (4 + 127 * 2 ^ 16) key0

/-! ### WellFormed: a term that each check refuses -/

theorem test_bad_role : (Instr.configCommit 5 1).wellFormed = false := by decide
theorem test_bad_u8 : (Instr.configCommit 1 256).wellFormed = false := by decide
theorem test_bad_i64 : (Instr.stepRequest 0 1 (2 ^ 63)).wellFormed = false := by decide +kernel
theorem test_good_i64 : (Instr.stepRequest 0 1 (-2 ^ 63)).wellFormed = true := by decide +kernel
theorem test_bad_cause : (Instr.handoverAbandoned 0).wellFormed = false := by decide
theorem test_bad_via : (Instr.read [] ⟨4, 0, 0, 0, []⟩).wellFormed = false := by decide
theorem test_bad_address : (Instr.read [] ⟨0, 0, 0, 0, [1]⟩).wellFormed = false := by decide
theorem test_bad_frame : (Instr.exportAck ⟨0, 0, 0, 0, []⟩ (zeros 65536)).wellFormed = false := by decide +kernel
theorem test_bad_blob : (Instr.tariffLoad 1 (zeros 65537)).wellFormed = false := by decide +kernel
theorem test_bad_length : (Instr.setTime 0 1 (zeros 11)).wellFormed = false := by decide
theorem test_bad_instants : (Instr.measurementBlock [[0]] 0).wellFormed = false := by decide
theorem test_bad_crossing_bits : (Instr.zeroCrossing 0 (2 ^ 32) 1 () () () ()).wellFormed = false := by decide

/-! ### Small steps -/

/-- What an outcome's next state shows. -/
def shows {α : Type} (o : Host.Outcome State Fault Refusal) (f : State → α) : Option α :=
  match o with | .next t => some (f t) | _ => none

/-- R8: a command at the front of the queue is taken, the rest stays. -/
theorem test_step_takes_front :
    shows (step { run with pending := [.eventsLost, .dispatch] }) (fun t => decide (t.pending = [.dispatch])) = some true := by decide +kernel
/-- R32: a commit seals the staged set and empties it. -/
theorem test_commit_seals :
    shows (exec (.configCommit 1 1) { run with cfg := { run.cfg with staged := [(objKey 0x2400 1, [1])] } })
      (fun t => (t.cfg.sets.length, t.cfg.staged.length)) = some (1, 0) := by decide +kernel
/-- R53: an observer commits nothing. -/
theorem test_observer_commits_nothing :
    shows (exec (.configCommit 0 1) run) (fun t => t.cfg.sets.length) = some 0 := by decide +kernel
/-- The check value of CRC-32 over the ASCII digits 1 to 9. -/
theorem test_crc32 : crc32 [0x31, 0x32, 0x33, 0x34, 0x35, 0x36, 0x37, 0x38, 0x39] = 0xCBF43926 := by decide +kernel
/-- FIPS 197, appendix C.3: AES-256 of the example block. -/
theorem test_aes256 : aesEncrypt ((List.range 32).map byte) ((List.range 16).map (fun i => byte (17 * i))) =
    [0x8E, 0xA2, 0xB7, 0xCA, 0x51, 0x67, 0x45, 0xBF, 0xEA, 0xFC, 0x49, 0x90, 0x4B, 0x49, 0x60, 0x89] := by decide +kernel
/-- R594: a frame of a type that no row of the service port has is counted as bad and not taken. -/
theorem test_bad_port_frame :
    shows (exec (.serviceWrite [0]) run) (fun t => t.fw.port.inputs.length) = some 0 := by decide +kernel
/-- R654, R653: two events closer than the spacing are two pulses; the second waits. -/
theorem test_second_event_waits :
    ((crossing0 (fun x => { x with invertedAt := some 0 })).crossing 0 1).arrive 0 =
      ({ (crossing0 (fun x => { x with invertedAt := some 0 })).crossing 0 1 with held := true }, false) := by decide +kernel
/-- R234: a phase without a crossing for three nominal periods has lost its voltage. -/
theorem test_voltage_lost :
    shows (exec (.voltageLost 0) (phase0 (clock run (10 ^ 12)) (fun x => { x with lost := false }))) (fun t => (at' t.sense.phases 0).lost) = some true := by
  decide +kernel

/-! ### Hypotheses that can be met -/

theorem witness_IdleStep_1 : ∃ (s : State), s.pending = [] ∧ s.counts = false :=
  ⟨State.reset, by decide +kernel, by decide +kernel⟩

theorem witness_IdleStep_2 : ∃ (s : State), s.pending = [] ∧ s.counts = true ∧ s.live = false ∧ s.vault.lifeStatus ≠ 1 :=
  ⟨{ run with power := { run.power with phase := .flushed } }, by decide +kernel, by decide +kernel, by decide +kernel, by decide +kernel⟩

theorem witness_FirstErrorRecord_1 : ∃ (c : Collector) (e : ErrReport) (f : ErrReport), c.first = none ∧ e.time = f.time ∧ e.cell < f.cell :=
  ⟨{ (default : Collector) with first := none }, { (default : ErrReport) with cell := 0 }, { (default : ErrReport) with cell := 1 }, by decide +kernel, by decide +kernel, by decide +kernel⟩

theorem witness_StagedSetCommands_1 : ∃ (s : State) (role : Nat), TakesCommands s ∧ roleMay role .operator = true ∧ s.cfg.sets.length < 2 :=
  ⟨run, 1, ⟨rfl, rfl, rfl⟩, by decide +kernel, by decide +kernel⟩

theorem witness_StagedSetCommands_2 : ∃ (s : State) (role : Nat), TakesCommands s ∧ roleMay role .operator = true ∧ 2 ≤ s.cfg.sets.length :=
  ⟨{ run with cfg := { run.cfg with sets := [default, default] } }, 1, ⟨rfl, rfl, rfl⟩, by decide +kernel, by decide +kernel⟩

theorem witness_StagedSetCommands_3 : ∃ (s : State) (role : Nat), TakesCommands s ∧ roleMay role .operator = true :=
  ⟨run, 1, ⟨rfl, rfl, rfl⟩, by decide +kernel⟩

theorem witness_StagedSetCommands_4 : ∃ (s : State) (role : Nat) (new : Settings), TakesCommands s ∧ roleMay role .operator = true ∧ (new = List.foldl (fun acc o => insertKey (objKey o.1 o.2) (defaultOf s.board.cascMaster o.1 o.2) acc) s.cfg.staged restorable) :=
  ⟨run, 1, _, ⟨rfl, rfl, rfl⟩, by decide +kernel, rfl⟩

theorem witness_EpochSteps_2 : ∃ (s : State) (p : Sealed) (rest : List Sealed), s.running = true ∧ s.cfg.sets = p :: rest ∧ p.published = false ∧ firstFailure (s.setFailures p.values) = none :=
  ⟨{ run with cfg := { run.cfg with sets := [{ (default : Sealed) with published := false }] } }, _, _, rfl, rfl, rfl, rfl⟩

theorem witness_LaneFront_6 : ∃ (s : State) (l : Fin 4) (i : Input4) (rest : List Input4), LanesRun s ∧ (s.laneOf ↑l).input = i :: rest ∧ (s.laneOf ↑l).mayFetch = true ∧ ↑l < s.lane.lanes.length :=
  ⟨run.updLane 0 (fun x => { x with input := [default] }), 0, _, _, ⟨rfl, rfl⟩, rfl, by decide +kernel, by decide +kernel⟩

theorem witness_LaneFront_7 : ∃ (s : State) (l : Fin 4), LanesRun s ∧ (s.laneOf ↑l).mayFetch = false :=
  ⟨run.updLane 3 (fun x => { x with mode := .retired }), 3, ⟨rfl, rfl⟩, by decide +kernel⟩

theorem witness_VeeRecords_1 : ∃ (s : State) (s1 : State) (b : Bytes), s.live = true ∧ s.popPacket 40 = some (s1, b, false) ∧ s.inService 8960 = true ∧ rIsState (List.take 32 b) = true :=
  ⟨holding run 40 ([0,0,0,0,0,0,0,192] ++ zeros 24), rest (holding run 40 ([0,0,0,0,0,0,0,192] ++ zeros 24)) 40, front (holding run 40 ([0,0,0,0,0,0,0,192] ++ zeros 24)) 40, rfl, popped (by decide +kernel) (by decide +kernel), by decide +kernel, by decide +kernel⟩

theorem witness_HistoryAndEdits_8 : ∃ (s : State) (role : Nat) (m : Nat) (mr : Meter), TakesCommands s ∧ roleMay role .operator = true ∧ s.selected = some (m, mr) ∧ s.vee.toRebuild.contains m = false ∧ s.editCheck ≠ 0 :=
  ⟨{ run with mtr := { run.mtr with table := [(0, default)] } }, 1, _, _, ⟨rfl, rfl, rfl⟩, by decide +kernel, rfl, rfl, by decide +kernel⟩

theorem witness_EpochSteps_5 : ∃ (s : State) (p : Sealed) (rest : List Sealed) (b : Blk), s.live = true ∧ s.cfg.sets = p :: rest ∧ p.published = true ∧ p.switched.contains b = false ∧ s.blkFenced b = false ∧ s.now < p.publishedAt + cSec 2 :=
  ⟨{ run with cfg := { run.cfg with sets := [{ (default : Sealed) with published := true }] } }, _, _, .vee, rfl, rfl, rfl, rfl, by decide +kernel, by decide +kernel⟩

theorem witness_EpochSteps_6 : ∃ (s : State) (p : Sealed) (rest : List Sealed) (late : List Blk), s.live = true ∧ s.cfg.sets = p :: rest ∧ p.published = true ∧ p.publishedAt + cSec 2 ≤ s.now ∧ (late = List.filter (fun b => !p.switched.contains b && !s.blkFenced b && !p.lateRaised.contains b) allBlks) ∧ late ≠ [] :=
  ⟨{ clock run (10 ^ 12) with cfg := { run.cfg with sets := [{ (default : Sealed) with published := true }] } }, _, _, _, rfl, rfl, rfl, by decide +kernel, rfl, by decide +kernel⟩

theorem witness_EpochSteps_7 : ∃ (s : State) (p : Sealed) (rest : List Sealed), s.cfg.sets = p :: rest ∧ p.published = true ∧ (∀ b ∈ allBlks, p.switched.contains b = true ∨ s.blkFenced b = true) :=
  ⟨{ run with cfg := { run.cfg with sets := [{ (default : Sealed) with published := true, switched := allBlks }] } }, _, _, rfl, rfl, by decide +kernel⟩

theorem witness_RoleDenied_1 : ∃ (c : Instr) (s : State) (idx : Nat) (sub : Nat) (role : Nat) (col : RoleCol), Instr.cmdObject c = some (idx, sub, role, col) ∧ TakesCommands s ∧ roleMay role col = false :=
  ⟨.configCommit 0 1, run, _, _, _, _, rfl, ⟨rfl, rfl, rfl⟩, rfl⟩

theorem witness_RequestIntake_4 : ∃ (r : RoleState) (seq : Nat), r.high < seq :=
  ⟨default, 1, by decide +kernel⟩

theorem witness_RequestIntake_5 : ∃ (r : RoleState) (seq : Nat), 0 < seq ∧ seq + 63 < r.high :=
  ⟨{ (default : RoleState) with high := 65 }, 1, by decide +kernel, by decide +kernel⟩

theorem witness_RequestIntake_6 : ∃ (r : RoleState) (seq : Nat), 0 < seq ∧ seq ≤ r.high ∧ r.high ≤ seq + 63 :=
  ⟨{ (default : RoleState) with high := 64 }, 1, by decide +kernel, by decide +kernel, by decide +kernel⟩

theorem witness_RequestIntake_7 : ∃ (r : RoleState) (seq : Nat), r.bitmap < 2 ^ 64 ∧ r.judge seq = SeqVerdict.fresh :=
  ⟨default, 1, by decide +kernel, by decide +kernel⟩

theorem witness_RequestIntake_8 : ∃ (r : RoleState) (seq : Nat), r.bitmap < 2 ^ 64 ∧ r.judge seq = SeqVerdict.fresh ∧ r.high ≤ r.floor :=
  ⟨default, 1, by decide +kernel, by decide +kernel, by decide +kernel⟩

theorem witness_MeterSecurity_1 : ∃ (s : State) (role : Nat) (i : Nat) (m : Meter) (t : State), TakesCommands s ∧ s.selected = some (i, m) ∧ roleMay role .keyholder = true ∧ m.pendingGen = 0 ∧ m.gen ≠ 65535 ∧ s.sendCtl 33024 i 1 0 0 [] = some t :=
  ⟨met, 4, _, _, _, ⟨rfl, rfl, rfl⟩, rfl, by decide +kernel, rfl, by decide +kernel, got (by decide +kernel)⟩

theorem witness_MeterSecurity_2 : ∃ (s : State) (role : Nat) (i : Nat) (m : Meter), TakesCommands s ∧ s.selected = some (i, m) ∧ roleMay role .keyholder = true ∧ m.pendingGen ≠ 0 :=
  ⟨having { mm with pendingGen := 1 }, 4, _, _, ⟨rfl, rfl, rfl⟩, rfl, by decide +kernel, by decide +kernel⟩

theorem witness_MeterSecurity_3 : ∃ (s : State) (role : Nat) (i : Nat) (m : Meter) (t : State), TakesCommands s ∧ s.selected = some (i, m) ∧ roleMay role .operator = true ∧ s.sendCtl 33024 i 2 0 0 [] = some t :=
  ⟨met, 1, _, _, _, ⟨rfl, rfl, rfl⟩, rfl, by decide +kernel, got (by decide +kernel)⟩

theorem witness_MeterSecurity_4 : ∃ (s : State) (role : Nat) (i : Nat) (m : Meter), TakesCommands s ∧ s.selected = some (i, m) ∧ roleMay role .operator = true ∧ s.sendCtl 33024 i 2 0 0 [] = none :=
  ⟨shut met 37, 1, _, _, ⟨rfl, rfl, rfl⟩, rfl, by decide +kernel, rfl⟩

theorem witness_MeterSecurity_5 : ∃ (s : State) (role : Nat) (i : Nat) (m : Meter) (v : Nat) (t : State), TakesCommands s ∧ s.selected = some (i, m) ∧ roleMay role .operator = true ∧ v ≤ 63 ∧ s.sendCtl 33024 i 3 v 0 [] = some t :=
  ⟨met, 1, _, _, 63, _, ⟨rfl, rfl, rfl⟩, rfl, by decide +kernel, by decide +kernel, got (by decide +kernel)⟩

theorem witness_MeterSecurity_6 : ∃ (s : State) (role : Nat) (i : Nat) (m : Meter) (v : Nat), TakesCommands s ∧ s.selected = some (i, m) ∧ roleMay role .operator = true ∧ 63 < v :=
  ⟨met, 1, _, _, 64, ⟨rfl, rfl, rfl⟩, rfl, by decide +kernel, by decide +kernel⟩

theorem witness_MeterSecurity_7 : ∃ (s : State) (role : Nat) (i : Nat) (m : Meter) (eui : Nat) (k : Nat), TakesCommands s ∧ s.selected = some (i, m) ∧ roleMay role .operator = true ∧ s.indexOf eui = some k :=
  ⟨met, 1, _, _, 5, _, ⟨rfl, rfl, rfl⟩, rfl, by decide +kernel, rfl⟩

theorem witness_MeterSecurity_8 : ∃ (s : State) (role : Nat) (i : Nat) (m : Meter) (eui : Nat), TakesCommands s ∧ s.selected = some (i, m) ∧ roleMay role .operator = true ∧ s.indexOf eui = none :=
  ⟨met, 1, _, _, 6, ⟨rfl, rfl, rfl⟩, rfl, by decide +kernel, by decide +kernel⟩

theorem witness_MeterSecurity_13 : ∃ (s : State) (r : Rekey), s.running = true ∧ (List.find? (fun x => x.meter == r.meter) s.mtr.rekeys = some r) ∧ s.now < r.dueAt :=
  ⟨{ met with mtr := { met.mtr with rekeys := [⟨0, 0, 1, false, 0, false⟩] } }, ⟨0, 0, 1, false, 0, false⟩, rfl, rfl, by decide +kernel⟩

theorem witness_MeterSecurity_14 : ∃ (s : State) (s1 : State) (b : Bytes), s.running = true ∧ s.popPacket 48 = some (s1, b, false) ∧ s1.meter (joinAnswerOf b).meter = none :=
  ⟨holding run 48 (zeros 12), rest (holding run 48 (zeros 12)) 48, front (holding run 48 (zeros 12)) 48, rfl, popped (by decide +kernel) (by decide +kernel), by decide +kernel⟩

theorem witness_MeterSecurity_18 : ∃ (s : State) (t : State) (k : Nat) (at0 : Nat) (m : Meter), s.running = true ∧ s.meter k = some m ∧ lookupKey k s.mtr.joins = some at0 ∧ m.state = 1 ∧ at0 + cSec (s.cfgN 14354 3) ≤ s.now ∧ s.sendCtl 8704 k 6 0 0 [] = some t :=
  ⟨{ clock (having { mm with state := 1 }) (10 ^ 15) with mtr := { (having { mm with state := 1 }).mtr with joins := [(0, 0)] } }, _, 0, 0, _, rfl, rfl, rfl, rfl, by decide +kernel, got (by decide +kernel)⟩

theorem witness_MeterSecurity_19 : ∃ (s : State) (k : Nat) (at0 : Nat) (m : Meter), s.running = true ∧ s.meter k = some m ∧ lookupKey k s.mtr.joins = some at0 ∧ s.now < at0 + cSec (s.cfgN 14354 3) :=
  ⟨{ met with mtr := { met.mtr with joins := [(0, 1)] } }, 0, 1, _, rfl, rfl, rfl, by decide +kernel⟩

theorem witness_MeterSecurity_20 : ∃ (s : State) (u : Nat), s.running = true ∧ s.mtr.prevUntil = some u ∧ u ≤ s.now :=
  ⟨{ run with mtr := { run.mtr with prevUntil := some 0 } }, 0, rfl, rfl, by decide +kernel⟩

theorem witness_LaneFront_1 : ∃ (s : State) (s0 : State) (s1 : State) (q : Nat) (ls : LaneState) (b : Bytes) (e : Nat), LanesRun s ∧ s0 = s.syncMap ∧ (∃ l < 4, (s0.laneOf l).serves = true) ∧ s0.pickQueue = some (q, ls) ∧ { s0 with lane := ls }.popPacket q = some (s1, b, false) ∧ headEui q b = some e ∧ ((s1.lane.moving.any fun m => m.bucket == bucketOf e) = false) :=
  ⟨ctlIn, ctlIn.syncMap, rest mapped 37, 37, ctlIn.syncMap.lane, front mapped 37, 5, ⟨rfl, rfl⟩, rfl, by decide +kernel, by decide +kernel, popped (by decide +kernel) (by decide +kernel), by decide +kernel, by decide +kernel⟩

theorem witness_LaneFront_14 : ∃ (s : State) (l : Fin 4) (i : Nat) (it : Item), LanesRun s ∧ s.item (↑l) i = some it ∧ it.next = 3 ∧ (((s.laneOf ↑l).items.any fun y => y.next == 4 && y.mark.isNone) = true) :=
  ⟨inLane [item 1 4, item 2 3], 0, 2, _, ⟨rfl, rfl⟩, rfl, rfl, by decide +kernel⟩

theorem witness_LaneMiddle_19 : ∃ (it : Item) (o : Nat), it.mark = some o :=
  ⟨{ item 1 9 with mark := some 6 }, 6, rfl⟩

theorem witness_LaneMiddle_20 : ∃ (it : Item), it.mark = none ∧ it.tag ≠ fTag it.frame :=
  ⟨{ item 1 9 with tag := [1] }, by decide +kernel, by decide +kernel⟩

theorem witness_LaneMiddle_21 : ∃ (s : State) (it : Item) (m : Meter) (w : Window), it.mark = none ∧ it.tag = fTag it.frame ∧ fType it.frame ≠ 3 ∧ selectWindow m (fGen it.frame) s.secs32 (s.cfgIn it.cfg 14354 2) = Sum.inl w :=
  ⟨run, { item 1 9 with frame := ones, tag := List.replicate 12 1 }, { mm with gen := 257 }, .current, by decide +kernel, by decide +kernel, by decide +kernel, by decide +kernel⟩

theorem witness_LaneMiddle_22 : ∃ (s : State) (it : Item) (m : Meter) (w : Window), it.mark = none ∧ it.tag = fTag it.frame ∧ fType it.frame ≠ 3 ∧ selectWindow m (fGen it.frame) s.secs32 (s.cfgIn it.cfg 14354 2) = Sum.inl w ∧ judgeWindow m w (fFc it.frame) = 0 :=
  ⟨run, { item 1 9 with frame := ones, tag := List.replicate 12 1 }, { mm with gen := 257 }, .current, by decide +kernel, by decide +kernel, by decide +kernel, by decide +kernel, by decide +kernel⟩

theorem witness_LaneMiddle_23 : ∃ (s : State) (it : Item) (m : Meter) (w : Window), it.mark = none ∧ it.tag = fTag it.frame ∧ fType it.frame ≠ 3 ∧ selectWindow m (fGen it.frame) s.secs32 (s.cfgIn it.cfg 14354 2) = Sum.inl w ∧ judgeWindow m w (fFc it.frame) ≠ 0 :=
  ⟨run, { item 1 9 with frame := ones, tag := List.replicate 12 1 }, { mm with gen := 257, fcHigh := 2 ^ 30 }, .current, by decide +kernel, by decide +kernel, by decide +kernel, by decide +kernel, by decide +kernel⟩

theorem witness_LaneBack_8 : ∃ (s : State) (l : Fin 4) (i : Nat) (it : Item), LanesRun s ∧ (List.find? (fun y => y.ident == i) (s.laneOf ↑l).done = some it) ∧ it.next = 11 ∧ (((List.takeWhile (fun y => y.ident != i) (s.laneOf ↑l).done).any fun y => y.eui == it.eui && y.next == 11) = true) :=
  ⟨doneLane [item 1 11, item 2 11], 0, 2, _, ⟨rfl, rfl⟩, rfl, rfl, rfl⟩

theorem witness_LaneBack_9 : ∃ (s : State) (l : Fin 4) (i : Nat) (it : Item), LanesRun s ∧ (List.find? (fun y => y.ident == i) (s.laneOf ↑l).done = some it) ∧ it.next = 11 ∧ (((List.takeWhile (fun y => y.ident != i) (s.laneOf ↑l).done).any fun y => y.eui == it.eui && y.next == 11) = false) ∧ it.records = [] ∧ it.ackReq = [] ∧ it.verdict ≠ 0 :=
  ⟨doneLane [{ item 1 11 with verdict := 1 }], 0, 1, _, ⟨rfl, rfl⟩, rfl, rfl, rfl, rfl, rfl, by decide +kernel⟩

theorem witness_LaneBack_10 : ∃ (s : State) (l : Fin 4) (i : Nat) (it : Item) (b : Bytes) (t : State), LanesRun s ∧ (List.find? (fun y => y.ident == i) (s.laneOf ↑l).done = some it) ∧ it.next = 11 ∧ (((List.takeWhile (fun y => y.ident != i) (s.laneOf ↑l).done).any fun y => y.eui == it.eui && y.next == 11) = false) ∧ it.records = [b] ∧ it.ackReq = [] ∧ it.verdict = 0 ∧ it.exportCells = [] ∧ s.pushReserved 40 (laneCell ↑l) b = some t :=
  ⟨reserved (doneLane [{ item 1 11 with records := [zeros 32] }]) 40 1, 0, 1, _, zeros 32, _, ⟨rfl, rfl⟩, rfl, rfl, rfl, rfl, rfl, rfl, rfl, got (by decide +kernel)⟩

theorem witness_LaneBack_14 : ∃ (s : State) (l : Fin 4) (i : Nat) (it : Item) (t : State), LanesRun s ∧ (List.find? (fun y => y.ident == i) (s.laneOf ↑l).done = some it) ∧ it.next = 12 ∧ (((List.takeWhile (fun y => y.ident != i) (s.laneOf ↑l).done).any fun y => y.eui == it.eui) = false) ∧ s.pushReserved (it.exportPacket ↑l).1 (laneCell ↑l) (it.exportPacket ↑l).2 = some t :=
  ⟨reserved (doneLane [item 1 12]) 16 1, 0, 1, _, _, ⟨rfl, rfl⟩, rfl, rfl, rfl, got (by decide +kernel)⟩

theorem witness_LaneBack_15 : ∃ (s : State) (l : Fin 4) (i : Nat) (it : Item), LanesRun s ∧ (List.find? (fun y => y.ident == i) (s.laneOf ↑l).done = some it) ∧ it.next = 12 ∧ (((List.takeWhile (fun y => y.ident != i) (s.laneOf ↑l).done).any fun y => y.eui == it.eui) = true) :=
  ⟨doneLane [item 1 11, item 2 12], 0, 2, _, ⟨rfl, rfl⟩, rfl, rfl, rfl⟩

theorem witness_LaneBack_16 : ∃ (s : State) (l : Fin 4) (n : Notice), s.live = true ∧ (List.find? (fun n => n.lane == ↑l) s.vault.notices = some n) :=
  ⟨{ run with vault := { run.vault with notices := [⟨0, 2, 1⟩] } }, 0, _, rfl, rfl⟩

theorem witness_LaneBack_17 : ∃ (s : State), s.live = true ∧ ((s.lane.second.any fun x => decide (x ≠ 0)) = true) ∧ s.lane.summaryAt + cSec 1 ≤ s.now :=
  ⟨{ clock run (10 ^ 12) with lane := { run.lane with second := [1, 0, 0, 0, 0, 0] } }, rfl, by decide +kernel, by decide +kernel⟩

theorem witness_LaneBack_18 : ∃ (s : State), s.live = true ∧ s.lane.lateSecond ≠ 0 ∧ s.perSecond s.lane.lateEventAt = true :=
  ⟨{ run with lane := { run.lane with lateSecond := 1 } }, rfl, by decide +kernel, by decide +kernel⟩

theorem witness_LaneBack_19 : ∃ (s : State) (role : Nat), TakesCommands s ∧ roleMay role .operator = true :=
  ⟨run, 1, ⟨rfl, rfl, rfl⟩, by decide +kernel⟩

theorem witness_VeeRecords_2 : ∃ (s : State) (s1 : State) (b : Bytes) (mr : Meter), s.live = true ∧ s.popPacket 40 = some (s1, b, false) ∧ s.inService 8960 = true ∧ rIsState (List.take 32 b) = false ∧ s1.meter (rMeter (List.take 32 b)) = some mr ∧ ((s1.rebuildMeter (rMeter (List.take 32 b))).histOf (rMeter (List.take 32 b))).below (rInterval (List.take 32 b)) = false :=
  ⟨holding met 40 (zeros 32), rest (holding met 40 (zeros 32)) 40, front (holding met 40 (zeros 32)) 40, mm, rfl, popped (by decide +kernel) (by decide +kernel), by decide +kernel, by decide +kernel, rfl, by decide +kernel⟩

theorem witness_VeeRecords_3 : ∃ (s : State) (s1 : State) (b : Bytes) (t : State), s.live = true ∧ s.popPacket 40 = some (s1, b, false) ∧ s.inService 8960 = false ∧ s1.pushPacket 41 16384 (List.take 32 b) = some t :=
  ⟨without (holding run 40 (zeros 32)) 0x2300, rest (without (holding run 40 (zeros 32)) 0x2300) 40, front (without (holding run 40 (zeros 32)) 0x2300) 40, _, rfl, popped (by decide +kernel) (by decide +kernel), by decide +kernel, got (by decide)⟩

theorem witness_VeeRecords_4 : ∃ (s : State) (s1 : State) (b : Bytes), s.live = true ∧ s.popPacket 40 = some (s1, b, false) ∧ s.inService 8960 = false ∧ s1.pushPacket 41 16384 (List.take 32 b) = none :=
  ⟨shut (without (holding run 40 (zeros 32)) 0x2300) 41, rest (shut (without (holding run 40 (zeros 32)) 0x2300) 41) 40, front (shut (without (holding run 40 (zeros 32)) 0x2300) 41) 40, rfl, popped (by decide +kernel) (by decide +kernel), by decide +kernel, by decide +kernel⟩

theorem witness_VeeRecords_5 : ∃ (r : Bytes), rMethod r = 0 ∧ rOutcome r = 2 :=
  ⟨zeros 7 ++ [2] ++ zeros 24, by decide +kernel, by decide +kernel⟩

theorem witness_VeeRecords_6 : ∃ (w0 : VeeWork) (m : Nat) (r : Bytes), rMethod r = 0 ∧ rOutcome r ≠ 2 ∧ (((w0.hist m fun h => h.raise (rInterval r)).1.histOf m).at (rInterval r) = HistState.missing) :=
  ⟨(run, ⟨[], [], []⟩), 0, zeros 32, by decide +kernel, by decide +kernel, by decide +kernel⟩

theorem witness_VeeRecords_9 : ∃ (w0 : VeeWork) (m : Nat) (r : Bytes), rMethod r = 0 ∧ rOutcome r ≠ 2 ∧ (((w0.hist m fun h => h.raise (rInterval r)).1.histOf m).at (rInterval r) = HistState.real) :=
  ⟨({ run with vee := { run.vee with hist := [(0, { (default : Hist) with high := some 0, states := [(0, .real)] })] } }, ⟨[], [], []⟩), 0, zeros 32, by decide +kernel, by decide +kernel, by decide +kernel⟩

theorem witness_VeeRecords_10 : ∃ (w0 : VeeWork) (m : Nat) (r : Bytes), rMethod r = 0 ∧ rOutcome r ≠ 2 ∧ (((w0.hist m fun h => h.raise (rInterval r)).1.histOf m).at (rInterval r) = HistState.edited) :=
  ⟨({ run with vee := { run.vee with hist := [(0, { (default : Hist) with high := some 0, states := [(0, .edited)] })] } }, ⟨[], [], []⟩), 0, zeros 32, by decide +kernel, by decide +kernel, by decide +kernel⟩

theorem witness_VeeRecords_11 : ∃ (w0 : VeeWork) (m : Nat) (r : Bytes), rMethod r ≠ 0 ∧ (((w0.hist m fun h => h.raise (rInterval r)).1.histOf m).at (rInterval r) = HistState.missing) :=
  ⟨(run, ⟨[], [], []⟩), 0, zeros 7 ++ [4] ++ zeros 24, by decide +kernel, by decide +kernel⟩

theorem witness_VeeRecords_13 : ∃ (w0 : VeeWork) (m : Nat) (r : Bytes), rMethod r ≠ 0 ∧ (((w0.hist m fun h => h.raise (rInterval r)).1.histOf m).at (rInterval r) = HistState.real ∨ ((w0.hist m fun h => h.raise (rInterval r)).1.histOf m).at (rInterval r) = HistState.edited) :=
  ⟨({ run with vee := { run.vee with hist := [(0, { (default : Hist) with high := some 0, states := [(0, .edited)] })] } }, ⟨[], [], []⟩), 0, zeros 7 ++ [4] ++ zeros 24, by decide +kernel, by decide +kernel⟩

theorem witness_HistoryAndEdits_3 : ∃ (s : State) (m : Nat), s.running = true ∧ s.vee.toRebuild.contains m = false :=
  ⟨run, 0, rfl, by decide +kernel⟩

theorem witness_HistoryAndEdits_4 : ∃ (s : State) (m : Nat) (f : Nat) (hi : Nat) (mr : Meter), s.running = true ∧ s.meter m = some mr ∧ s.hasPacket 40 = false ∧ s.inService 8960 = true ∧ s.vee.toRebuild.contains m = false ∧ (s.histOf m).firstReal = some f ∧ (s.histOf m).high = some hi :=
  ⟨{ met with vee := { met.vee with hist := [(0, { (default : Hist) with high := some 5, firstReal := some 1 })] } }, 0, _, _, _, rfl, rfl, by decide +kernel, by decide +kernel, by decide +kernel, rfl, rfl⟩

theorem witness_HistoryAndEdits_6 : ∃ (s : State), s.running = true ∧ s.hasPacket 40 = true :=
  ⟨holding run 40 (zeros 32), rfl, by decide +kernel⟩

theorem witness_HistoryAndEdits_7 : ∃ (s : State) (role : Nat) (m : Nat) (mr : Meter) (t : State), TakesCommands s ∧ roleMay role .operator = true ∧ s.selected = some (m, mr) ∧ s.vee.toRebuild.contains m = false ∧ s.editCheck = 0 ∧ s.pushPacket 44 33024 ({ meter := m, interval := s.cfgN 17440 1, mask := s.cfgN 17440 2 % 16, vals := s.val 17440 3, outcome := s.cfgN 17440 4, editId := s.cfgN 17440 5 } : Edit).bytes = some t :=
  ⟨sett (secs met (10 ^ 6)) 0x4420 2 [15], 1, _, _, _, ⟨rfl, rfl, rfl⟩, by decide +kernel, rfl, rfl, by decide +kernel, got (by decide +kernel)⟩

theorem witness_HistoryAndEdits_9 : ∃ (s : State) (s1 : State) (b : Bytes) (ab : Bool), s.running = true ∧ s.hasPacket 40 = false ∧ s.inService 8960 = true ∧ s.popPacket 44 = some (s1, b, ab) ∧ s1.meter (editOf b).meter = none :=
  ⟨holding run 44 (zeros 34), rest (holding run 44 (zeros 34)) 44, front (holding run 44 (zeros 34)) 44, false, rfl, by decide +kernel, by decide +kernel, popped (by decide) (by decide), by decide +kernel⟩

theorem witness_HistoryAndEdits_11 : ∃ (s : State) (s1 : State) (b : Bytes) (ab : Bool) (mr : Meter), s.running = true ∧ s.hasPacket 40 = false ∧ s.inService 8960 = true ∧ s.popPacket 44 = some (s1, b, ab) ∧ s1.meter (editOf b).meter = some mr ∧ (s1.histOf (editOf b).meter).below (editOf b).interval = false :=
  ⟨holding met 44 (zeros 34), rest (holding met 44 (zeros 34)) 44, front (holding met 44 (zeros 34)) 44, false, mm, rfl, by decide +kernel, by decide +kernel, popped (by decide) (by decide), rfl, by decide +kernel⟩

theorem witness_HistoryAndEdits_12 : ∃ (s : State) (role : Nat) (m : Nat) (mr : Meter), TakesCommands s ∧ roleMay role .operator = true ∧ s.selected = some (m, mr) ∧ s.vee.toRebuild.contains m = false ∧ s.inService 8960 = true ∧ (s.histOf m).inWindow (s.cfgN 17440 1) = true ∧ (s.histOf m).at (s.cfgN 17440 1) ≠ HistState.edited :=
  ⟨{ met with vee := { met.vee with hist := [(0, { (default : Hist) with high := some 0 })] } }, 1, _, _, ⟨rfl, rfl, rfl⟩, by decide +kernel, rfl, rfl, by decide +kernel, rfl, by decide +kernel⟩

theorem witness_HistoryAndEdits_13 : ∃ (s : State) (role : Nat) (m : Nat) (mr : Meter) (t : State), TakesCommands s ∧ roleMay role .operator = true ∧ s.selected = some (m, mr) ∧ s.vee.toRebuild.contains m = false ∧ s.inService 8960 = true ∧ (s.histOf m).inWindow (s.cfgN 17440 1) = true ∧ (s.histOf m).at (s.cfgN 17440 1) = HistState.edited ∧ ((((s.putHist m ((s.histOf m).set (s.cfgN 17440 1) HistState.missing)).pushPacket 41 8960 (intervalRecord (s.cfgN 17440 1) m (recordFlags 2 4 false) 0 (2 ^ 14) (List.replicate 4 absentVal))).bind fun t => t.pushPacket 17 8960 (intervalRecord (s.cfgN 17440 1) m (recordFlags 2 4 false) 0 (2 ^ 14) (List.replicate 4 absentVal))) = some t) :=
  ⟨{ met with vee := { met.vee with hist := [(0, { (default : Hist) with high := some 0, states := [(0, .edited)] })] } }, 1, _, _, _, ⟨rfl, rfl, rfl⟩, by decide +kernel, rfl, rfl, by decide +kernel, rfl, rfl, got (by decide +kernel)⟩

theorem witness_Sensing_1 : ∃ (s : State) (c : Nat), s.live = true ∧ s.cfgN 8192 4 = 0 ∧ s.sense.needAlign = some c :=
  ⟨run, _, rfl, by decide +kernel, rfl⟩

theorem witness_Sensing_2 : ∃ (s : State), s.live = true ∧ s.cfgN 8192 4 = 0 ∧ s.sense.needAlign = none ∧ s.sense.syncNow = false ∧ -↑(s.cfgN 8192 5) ≤ s.gridErrorNow ∧ s.gridErrorNow ≤ ↑(s.cfgN 8192 5) :=
  ⟨{ run with sense := { run.sense with needAlign := none } }, rfl, by decide +kernel, by decide +kernel, by decide +kernel, by decide +kernel, by decide +kernel⟩

theorem witness_Sensing_3 : ∃ (s : State) (source : Fin 3), s.live = true ∧ s.cfgN 8192 4 ≠ ↑source :=
  ⟨run, 1, rfl, by decide +kernel⟩

theorem witness_Sensing_4 : ∃ (s : State) (role : Nat), TakesCommands s ∧ roleMay role .operator = true :=
  ⟨run, 1, ⟨rfl, rfl, rfl⟩, by decide +kernel⟩

theorem witness_Sensing_5 : ∃ (s : State) (c : Fin 8), s.live = true ∧ (at' s.sense.chains ↑c).pendingReset = true :=
  ⟨chain0 (fun x => { x with pendingReset := true }), 0, rfl, by decide +kernel⟩

theorem witness_Sensing_6 : ∃ (s : State) (c : Fin 8), s.live = true ∧ (at' s.sense.chains ↑c).pendingReset = false :=
  ⟨run, 7, rfl, by decide +kernel⟩

theorem witness_Sensing_7 : ∃ (s : State) (steer : Int), s.live = true ∧ -20000 ≤ steer ∧ steer ≤ 20000 :=
  ⟨run, 20000, rfl, by decide +kernel, by decide +kernel⟩

theorem witness_Sensing_8 : ∃ (s : State) (steer : Int), s.live = true ∧ (steer < -20000 ∨ 20000 < steer) ∧ s.sense.locked = true :=
  ⟨{ run with sense := { run.sense with locked := true } }, -20001, rfl, by decide +kernel, by decide +kernel⟩

theorem witness_Sensing_10 : ∃ (s : State), s.live = true :=
  ⟨run, rfl⟩

theorem witness_Sensing_15 : ∃ (s : State) (c : Fin 8), s.live = true ∧ (List.foldl (fun x1 x2 => x1 + x2) 0 (at' s.sense.chains ↑c).overs ≠ 0) ∧ s.perSecond (at' s.sense.chains ↑c).overAt = true :=
  ⟨chain0 (fun x => { x with overs := [1, 0, 0, 0] }), 0, rfl, by decide +kernel, by decide +kernel⟩

theorem witness_Sensing_16 : ∃ (s : State) (c : Fin 8), s.live = true ∧ (List.foldl (fun x1 x2 => x1 + x2) 0 (at' s.sense.chains ↑c).overs = 0) :=
  ⟨run, 7, rfl, by decide +kernel⟩

theorem witness_Sensing_17 : ∃ (s : State) (role : Nat) (mask : Nat), TakesCommands s ∧ roleMay role .operator = true ∧ 0 < mask ∧ mask ≤ 7 :=
  ⟨run, 1, 7, ⟨rfl, rfl, rfl⟩, by decide +kernel, by decide +kernel, by decide +kernel⟩

theorem witness_Sensing_18 : ∃ (s : State) (role : Nat) (mask : Nat), TakesCommands s ∧ roleMay role .operator = true ∧ (mask = 0 ∨ 7 < mask) :=
  ⟨run, 1, 8, ⟨rfl, rfl, rfl⟩, by decide +kernel, by decide +kernel⟩

theorem witness_Sensing_25 : ∃ (s : State) (p : Fin 3), s.live = true ∧ (at' s.sense.phases ↑p).lost = true :=
  ⟨phase0 run (fun x => { x with lost := true }), 0, rfl, by decide +kernel⟩

theorem witness_Balance_1 : ∃ (s : State) (d : Delta) (r : List Delta) (m : Meter) (g : Nat) (x : Group) (x' : Group), s.live = true ∧ s.bal.inbox = d :: r ∧ s.inService 9216 = true ∧ s.meter d.meter = some m ∧ m.groups = [g, 65535, 65535, 65535] ∧ g ≠ 65535 ∧ lookupKey g s.bal.groups = some x ∧ gLen x.entry % max 1 d.len = 0 ∧ gCascade x.entry = false ∧ x.touch (d.interval * d.len / max 1 (gLen x.entry)) ({ group := g, meter := d.meter, supply := gCheckSupply x.entry && gCheck x.entry == d.meter, phase := (s.meterBal d.meter).phase, delta := d, home := true } : Contribution).addTo = some x' :=
  ⟨{ grouped 1 grp with bal := { (grouped 1 grp).bal with inbox := [default] } }, default, _, _, 1, _, _, rfl, rfl, by decide +kernel, rfl, rfl, by decide +kernel, rfl, rfl, rfl, got (by decide +kernel)⟩

theorem witness_Balance_2 : ∃ (s : State) (d : Delta) (r : List Delta), s.live = true ∧ s.bal.inbox = d :: r ∧ s.inService 9216 = false :=
  ⟨without { run with bal := { run.bal with inbox := [default] } } 0x2400, _, _, rfl, rfl, by decide +kernel⟩

theorem witness_Balance_3 : ∃ (s : State) (s1 : State) (b : Bytes) (m : Meter), s.live = true ∧ s.popPacket 39 = some (s1, b, false) ∧ s1.inService 9216 = true ∧ s1.meter (fieldLE b 0 4) = some m :=
  ⟨holding met 39 (zeros 32), rest (holding met 39 (zeros 32)) 39, front (holding met 39 (zeros 32)) 39, mm, rfl, popped (by decide +kernel) (by decide +kernel), by decide +kernel, rfl⟩

theorem witness_Balance_4 : ∃ (s : State) (s1 : State) (b : Bytes), s.live = true ∧ s.popPacket 39 = some (s1, b, false) ∧ s1.inService 9216 = true ∧ s1.meter (fieldLE b 0 4) = none :=
  ⟨holding run 39 (zeros 32), rest (holding run 39 (zeros 32)) 39, front (holding run 39 (zeros 32)) 39, rfl, popped (by decide +kernel) (by decide +kernel), by decide +kernel, by decide +kernel⟩

theorem witness_Balance_5 : ∃ (s : State) (s1 : State) (b : Bytes) (g : Nat) (x : Group) (y : Group), s.live = true ∧ s.popPacket 52 = some (s1, b, false) ∧ s1.inService 9216 = true ∧ s1.bal.groups = [(g, x)] ∧ gCheckSupply x.entry = false ∧ gCascade x.entry = false ∧ x.touch (intervalOf (s1.blockUtc b) (max 1 (gLen x.entry))) (addBlock (gPhases x.entry) b x.carry) = some y :=
  ⟨holding (grouped 1 grp) 52 (zeros 64), rest (holding (grouped 1 grp) 52 (zeros 64)) 52, front (holding (grouped 1 grp) 52 (zeros 64)) 52, 1, grp, _, rfl, popped (by decide +kernel) (by decide +kernel), by decide +kernel, by decide +kernel, by decide +kernel, by decide +kernel, got (by decide +kernel)⟩

theorem witness_Balance_6 : ∃ (s : State) (g : Fin 4096), s.live = true ∧ s.inService 9216 = true ∧ lookupKey (↑g) s.bal.groups = none ∧ gEnabled (s.groupNow ↑g) = true :=
  ⟨sett run 0x2410 0 entry, 0, rfl, by decide +kernel, by decide +kernel, by decide +kernel⟩

theorem witness_Balance_7 : ∃ (s : State) (g : Fin 4096) (x : Group), s.live = true ∧ s.inService 9216 = true ∧ lookupKey (↑g) s.bal.groups = some x ∧ s.utcNow < ↑((x.lastClosed + 2) * gLen x.entry * 60 + s.cfgB Blk.balance 9216 1) :=
  ⟨grouped 0 grp, 0, _, rfl, by decide +kernel, rfl, by decide +kernel⟩

theorem witness_Balance_8 : ∃ (s : State) (g : Fin 4096) (x : Group), s.live = true ∧ s.inService 9216 = true ∧ lookupKey (↑g) s.bal.groups = some x ∧ ↑((x.lastClosed + 2) * gLen x.entry * 60 + s.cfgB Blk.balance 9216 1) ≤ s.utcNow ∧ gEnabled (s.groupNow ↑g) = false :=
  ⟨secs (grouped 0 grp) (10 ^ 9), 0, _, rfl, by decide +kernel, rfl, by decide +kernel, by decide +kernel⟩

theorem witness_Balance_11 : ∃ (s : State), s.live = true ∧ s.inService 9216 = true ∧ s.utcDay - 1 ≤ s.bal.dayClosed :=
  ⟨run, rfl, by decide +kernel, by decide +kernel⟩

theorem witness_Balance_12 : ∃ (s : State), s.live = true ∧ s.inService 9216 = true ∧ s.bal.dayClosed < s.utcDay - 1 :=
  ⟨secs run (10 * 86400), rfl, by decide +kernel, by decide +kernel⟩

theorem witness_PhaseAndMembership_9 : ∃ (s : State) (role : Nat) (i : Nat) (m : Meter) (v : Nat), TakesCommands s ∧ roleMay role .operator = true ∧ s.selected = some (i, m) ∧ 4 < v :=
  ⟨met, 1, _, _, 5, ⟨rfl, rfl, rfl⟩, by decide +kernel, rfl, by decide +kernel⟩

theorem witness_PhaseAndMembership_10 : ∃ (s : State) (role : Nat) (i : Nat) (m : Meter) (v : Nat), TakesCommands s ∧ roleMay role .operator = true ∧ s.selected = some (i, m) ∧ v % 8 = 0 ∧ (∀ d ∈ [3, 4, 5], bit v d = true → bit (s.meterBal i).mask d = false) :=
  ⟨met, 1, _, _, 0, ⟨rfl, rfl, rfl⟩, by decide +kernel, rfl, by decide +kernel, by decide +kernel⟩

theorem witness_PhaseAndMembership_11 : ∃ (s : State) (role : Nat) (i : Nat) (m : Meter) (v : Nat) (t : State), TakesCommands s ∧ roleMay role .operator = true ∧ s.selected = some (i, m) ∧ v % 8 ≠ 0 ∧ (∀ d ∈ [3, 4, 5], bit v d = false) ∧ s.sendCtl 33024 i 7 (v % 8) 0 [] = some t :=
  ⟨met, 1, _, _, 1, _, ⟨rfl, rfl, rfl⟩, by decide +kernel, rfl, by decide +kernel, by decide +kernel, got (by decide +kernel)⟩

theorem witness_PhaseAndMembership_12 : ∃ (s : State) (role : Nat) (i : Nat) (m : Meter) (b : Bytes) (t : State), TakesCommands s ∧ roleMay role .operator = true ∧ s.selected = some (i, m) ∧ List.length b = 8 ∧ s.meter (fieldLE b 0 4) ≠ none ∧ fieldLE b 6 1 ≤ 1 ∧ { s with bal := { s.bal with bulk := [0, 0, maxU32] } }.sendCtl 33024 (fieldLE b 0 4) (if fieldLE b 6 1 = 0 then 4 else 5) (fieldLE b 4 2) 1 [] = some t :=
  ⟨met, 1, _, _, leBytes 4 0 ++ [2, 0, 0, 0], _, ⟨rfl, rfl, rfl⟩, by decide +kernel, rfl, by decide +kernel, by decide +kernel, by decide +kernel, got (by decide +kernel)⟩

theorem witness_PhaseAndMembership_13 : ∃ (s : State) (role : Nat) (i : Nat) (m : Meter) (b : Bytes), TakesCommands s ∧ roleMay role .operator = true ∧ s.selected = some (i, m) ∧ List.length b % 8 ≠ 0 :=
  ⟨met, 1, _, _, [0], ⟨rfl, rfl, rfl⟩, by decide +kernel, rfl, by decide +kernel⟩

theorem witness_PlcReception_3 : ∃ (s : State), s.live = true ∧ s.plc.v1 = none ∧ s.popPacket 50 = none :=
  ⟨run, rfl, by decide +kernel, by decide +kernel⟩

theorem witness_PlcReception_9 : ∃ (s : State) (e : Fin 3), s.running = true ∧ s.engineOn ↑e = true ∧ (s.eng ↑e).rx = PlcRx.search ∧ (s.eng ↑e).sendUntil ≤ s.now :=
  ⟨sett run 0x2800 1 [7], 0, rfl, by decide +kernel, by decide +kernel, by decide +kernel⟩

theorem witness_PlcReception_10 : ∃ (s : State) (e : Fin 3), s.running = true ∧ s.engineOn ↑e = false :=
  ⟨without run 0, 0, rfl, by decide +kernel⟩

theorem witness_PlcReception_11 : ∃ (s : State) (e : Fin 3) (since : Nat) (wrong : Nat), s.running = true ∧ (s.eng ↑e).rx = PlcRx.preamble since ∧ wrong ≤ 2 ∧ s.now ≤ since + symCounts (s.band ↑e) 20 :=
  ⟨eng0 run (fun x => { x with rx := .preamble 0 }), 0, _, 2, rfl, rfl, by decide +kernel, by decide +kernel⟩

theorem witness_PlcReception_23 : ∃ (s : State) (e : Fin 3), s.running = true ∧ (s.eng ↑e).rx = PlcRx.search :=
  ⟨run, 0, rfl, by decide +kernel⟩

theorem witness_PlcAccess_3 : ∃ (s : State) (e : Fin 3), s.running = true ∧ (s.eng ↑e).txReq = none :=
  ⟨run, 2, rfl, by decide +kernel⟩

theorem witness_PlcAccess_15 : ∃ (s : State), s.running = true ∧ s.cfgB Blk.plc0 10320 6 ≠ 0 ∧ s.plc.queryAt.getD 0 0 + cSec (s.cfgB Blk.plc0 10320 6) ≤ s.now ∧ s.mtr.table = [] :=
  ⟨clock (sett run 0x2850 6 [1]) (10 ^ 12), rfl, by decide +kernel, by decide +kernel, by decide +kernel⟩

theorem witness_PlcAccess_16 : ∃ (s : State), s.running = true ∧ s.cfgB Blk.plc0 10320 6 = 0 :=
  ⟨sett run 0x2850 6 [0], rfl, by decide +kernel⟩

theorem witness_PlcAccess_17 : ∃ (s : State) (i : Nat) (d : Bytes) (rest : List (Nat × Bytes)) (m : Meter), s.live = true ∧ s.plc.reports = (i, d) :: rest ∧ s.meter i = some m ∧ fieldLE d 0 1 = 1 ∧ fieldLE d 1 2 ≠ 65534 ∧ fieldLE d 1 2 ≠ m.short :=
  ⟨{ met with plc := { met.plc with reports := [(0, [1, 1, 0])] } }, _, _, _, _, rfl, rfl, rfl, rfl, by decide +kernel, by decide +kernel⟩

theorem witness_PlcAccess_18 : ∃ (s : State), s.live = true ∧ s.plc.reports = [] :=
  ⟨run, rfl, by decide +kernel⟩

theorem witness_PlcAccess_21 : ∃ (s : State) (role : Nat) (i : Nat) (m : Meter) (v : Bytes), TakesCommands s ∧ roleMay role .operator = true ∧ s.selected = some (i, m) ∧ List.length v = 16 ∧ 1 ≤ fieldLE v 0 1 ∧ fieldLE v 0 1 ≤ 3 ∧ fieldLE v 1 1 = 0 :=
  ⟨met, 1, _, _, [1] ++ zeros 15, ⟨rfl, rfl, rfl⟩, by decide +kernel, rfl, by decide +kernel, by decide +kernel, by decide +kernel, by decide +kernel⟩

theorem witness_PlcAccess_23 : ∃ (s : State) (role : Nat) (i : Nat) (m : Meter) (r : Route), TakesCommands s ∧ roleMay role .operator = true ∧ s.selected = some (i, m) ∧ s.routeOf m.short = some r :=
  ⟨{ met with plc := { met.plc with routes := [{ (default : Route) with short := 7 }] } }, 1, _, _, _, ⟨rfl, rfl, rfl⟩, by decide +kernel, rfl, rfl⟩

theorem witness_RadioReception_1 : ∃ (s : State) (p : Fin 2), s.live = true ∧ nextTrigger (s.port ↑p).triggers = none :=
  ⟨run, 0, rfl, by decide +kernel⟩

theorem witness_RadioReception_2 : ∃ (s : State) (p : Fin 2) (t : Nat) (param : Nat), s.live = true ∧ nextTrigger (s.port ↑p).triggers = some (t, param) ∧ s.scriptStart (↑p) t = none :=
  ⟨port0 run (fun x => { x with triggers := [(0, 0)] }), 0, _, _, rfl, rfl, rfl⟩

theorem witness_RadioReception_3 : ∃ (s : State) (role : Nat), TakesCommands s ∧ roleMay role .operator = true :=
  ⟨run, 1, ⟨rfl, rfl, rfl⟩, by decide +kernel⟩

theorem witness_RadioReception_4 : ∃ (s : State), s.live = true :=
  ⟨run, rfl⟩

theorem witness_RadioReception_5 : ∃ (s : State) (p : Fin 2), s.live = true ∧ bit (s.cfgB (radioBlk ↑p) 12288 1) ↑p = true ∧ (s.port ↑p).iqCause = 0 :=
  ⟨rad, 0, rfl, by decide +kernel, by decide +kernel⟩

theorem witness_RadioReception_6 : ∃ (s : State) (p : Fin 2), s.live = true ∧ (s.port ↑p).iqCause ≠ 0 :=
  ⟨port0 run (fun x => { x with iqCause := 1 }), 0, rfl, by decide +kernel⟩

theorem witness_RadioReception_7 : ∃ (s : State) (p : Fin 2), s.live = true ∧ (s.port ↑p).iqCause = 0 :=
  ⟨run, 1, rfl, by decide +kernel⟩

theorem witness_RadioReception_8 : ∃ (s : State) (p : Fin 2), s.live = true ∧ s.portOn ↑p = false :=
  ⟨sett run 0x3000 1 [0], 0, rfl, by decide +kernel⟩

theorem witness_RadioReception_11 : ∃ (s : State) (p : Fin 2), s.live = true ∧ 0 < (s.port ↑p).clipSecond ∧ s.perSecond (s.port ↑p).clipAt = true :=
  ⟨port0 run (fun x => { x with clipSecond := 1 }), 0, rfl, by decide +kernel, by decide +kernel⟩

theorem witness_RadioReception_12 : ∃ (s : State) (p : Fin 2), s.live = true ∧ (s.port ↑p).clipSecond = 0 :=
  ⟨run, 1, rfl, by decide +kernel⟩

theorem witness_RadioReception_14 : ∃ (s : State) (p : Fin 2) (b : Bytes), s.live = true ∧ (s.mac ↑p).pending = some b ∧ fieldLE b 8 5 ≠ 0 ∧ asnOf (s.td 2) < fieldLE b 8 5 :=
  ⟨mac0 run (fun m => { m with pending := some (zeros 8 ++ [1] ++ zeros 23) }), 0, _, rfl, rfl, by decide +kernel, by decide +kernel⟩

theorem witness_RadioReception_17 : ∃ (s : State) (p : Fin 2) (d : Fin 16), s.live = true ∧ s.radioRuns = true ∧ s.portOn ↑p = true ∧ (s.port ↑p).iqCause = 0 ∧ (s.port ↑p).iqSince ≤ s.now ∧ s.inService (iqCell ↑p) = true ∧ s.inService (demodCell ↑p ↑d) = true ∧ (at' (s.port ↑p).demods ↑d).state = 1 :=
  ⟨demod0 rad (fun x => { x with state := 1 }), 0, 0, rfl, rfl, by decide +kernel, by decide +kernel, by decide +kernel, by decide +kernel, by decide +kernel, by decide +kernel⟩

theorem witness_RadioReception_18 : ∃ (s : State) (p : Fin 2) (d : Fin 16), s.live = true ∧ s.radioRuns = true ∧ (at' (s.port ↑p).demods ↑d).state ≠ 2 :=
  ⟨run, 1, 15, rfl, rfl, by decide +kernel⟩

theorem witness_RadioTransmission_1 : ∃ (s : State) (p : Fin 2) (j : TxJob), s.radioRuns = true ∧ (List.find? (fun k => k.phase == TxPhase.asked) (s.port ↑p).tx = some j) ∧ s.portOn ↑p = true ∧ s.inService (txCell ↑p) = true ∧ s.channelMode (↑p) j.channel j.mode = true ∧ s.now + cUs (s.portN (↑p) 8) ≤ j.startAt :=
  ⟨port0 rad (fun x => { x with tx := [job .asked (10 ^ 12)] }), 0, _, rfl, rfl, by decide +kernel, by decide +kernel, rfl, by decide +kernel⟩

theorem witness_RadioTransmission_2 : ∃ (s : State) (p : Fin 2) (j : TxJob), s.radioRuns = true ∧ (List.find? (fun k => k.phase == TxPhase.asked) (s.port ↑p).tx = some j) ∧ j.startAt < s.now + cUs (s.portN (↑p) 8) :=
  ⟨clock (port0 rad (fun x => { x with tx := [job .asked 0] })) 1, 0, _, rfl, rfl, by decide +kernel⟩

theorem witness_RadioTransmission_3 : ∃ (s : State) (p : Fin 2) (j : TxJob), s.radioRuns = true ∧ (List.find? (fun k => k.phase == TxPhase.accepted) (s.port ↑p).tx = some j) ∧ j.startAt ≤ s.now + cUs (s.portN (↑p) 8) :=
  ⟨port0 rad (fun x => { x with tx := [job .accepted 0] }), 0, _, rfl, rfl, by decide +kernel⟩

theorem witness_RadioTransmission_4 : ∃ (s : State) (p : Fin 2) (j : TxJob), s.radioRuns = true ∧ (List.find? (fun k => k.phase == TxPhase.accepted) (s.port ↑p).tx = some j) ∧ s.now + cUs (s.portN (↑p) 8) < j.startAt :=
  ⟨port0 rad (fun x => { x with tx := [job .accepted (10 ^ 12)] }), 0, _, rfl, rfl, by decide +kernel⟩

theorem witness_RadioTransmission_5 : ∃ (s : State) (p : Fin 2) (j : TxJob), s.radioRuns = true ∧ (List.find? (fun k => k.phase == TxPhase.onDone || k.phase == TxPhase.onRaised || k.phase == TxPhase.onFailed) (s.port ↑p).tx = some j) ∧ s.now + cNs (s.portN (↑p) 7) < j.startAt :=
  ⟨port0 rad (fun x => { x with tx := [job .onDone (10 ^ 12)] }), 0, _, rfl, rfl, by decide +kernel⟩

theorem witness_RadioTransmission_6 : ∃ (s : State) (p : Fin 2) (j : TxJob), s.radioRuns = true ∧ (List.find? (fun k => k.phase == TxPhase.onDone || k.phase == TxPhase.onRaised || k.phase == TxPhase.onFailed) (s.port ↑p).tx = some j) ∧ j.startAt ≤ s.now + cNs (s.portN (↑p) 7) ∧ s.portOn ↑p = true ∧ s.inService (txCell ↑p) = true ∧ j.phase = TxPhase.onDone ∧ j.origin = 1 :=
  ⟨port0 rad (fun x => { x with tx := [job .onDone 0] }), 0, _, rfl, rfl, by decide +kernel, by decide +kernel, by decide +kernel, rfl, rfl⟩

theorem witness_RadioTransmission_7 : ∃ (s : State) (p : Fin 2) (j : TxJob), s.radioRuns = true ∧ (List.find? (fun k => k.phase == TxPhase.onDone || k.phase == TxPhase.onRaised || k.phase == TxPhase.onFailed) (s.port ↑p).tx = some j) ∧ j.startAt ≤ s.now + cNs (s.portN (↑p) 7) ∧ s.portOn ↑p = true ∧ s.inService (txCell ↑p) = true ∧ j.phase = TxPhase.onFailed :=
  ⟨port0 rad (fun x => { x with tx := [job .onFailed 0] }), 0, _, rfl, rfl, by decide +kernel, by decide +kernel, by decide +kernel, rfl⟩

theorem witness_RadioTransmission_10 : ∃ (s : State) (p : Fin 2), s.radioRuns = true ∧ s.live = true ∧ (s.port ↑p).tx = [] :=
  ⟨run, 0, rfl, rfl, by decide +kernel⟩

theorem witness_RadioTransmission_14 : ∃ (s : State) (p : Fin 2), s.radioRuns = true ∧ (((cellsAt (s.mac ↑p).sched (asnOf (s.td 2))).any fun c => c.kind == 0) = false) :=
  ⟨run, 0, rfl, by decide +kernel⟩

theorem witness_RadioTransmission_18 : ∃ (s : State) (p : Fin 2), s.radioRuns = true ∧ s.macFetch (3 + ↑p) = s ∧ (s.mac ↑p).ready = [] ∧ (s.mac ↑p).blocks = [] :=
  ⟨run, 1, rfl, rfl, by decide +kernel, by decide +kernel⟩

theorem witness_RadioTransmission_20 : ∃ (s : State) (p : Fin 2), s.radioRuns = true ∧ s.macFetch (3 + ↑p) = s ∧ (s.mac ↑p).ready = [] ∧ (s.mac ↑p).blocks = [] ∧ (s.mac ↑p).floodAcks = [] :=
  ⟨run, 1, rfl, rfl, by decide +kernel, by decide +kernel, by decide +kernel⟩

theorem witness_DownlinkCommands_1 : ∃ (s : State) (role : Nat) (i : Nat) (m : Meter) (r : State × Nat), TakesCommands s ∧ roleMay role .operator = true ∧ s.selected = some (i, m) ∧ s.cfgN 15376 1 = 16 ∧ s.queueCommand i 16 (s.val 15376 2) 0 = some r :=
  ⟨sett met 0x3C10 1 [0x10], 1, _, _, _, ⟨rfl, rfl, rfl⟩, by decide +kernel, rfl, by decide +kernel, got (by decide +kernel)⟩

theorem witness_DownlinkCommands_2 : ∃ (s : State) (role : Nat) (i : Nat) (m : Meter), TakesCommands s ∧ roleMay role .operator = true ∧ s.selected = some (i, m) ∧ s.cfgN 15376 1 = 16 ∧ s.queueCommand i 16 (s.val 15376 2) 0 = none :=
  ⟨cmds (sett met 0x3C10 1 [0x10]) (List.replicate 4 (mcmd 1)), 1, _, _, ⟨rfl, rfl, rfl⟩, by decide +kernel, rfl, by decide +kernel, rfl⟩

theorem witness_DownlinkCommands_5 : ∃ (s : State) (role : Nat) (i : Nat) (m : Meter), TakesCommands s ∧ roleMay role .operator = true ∧ s.selected = some (i, m) ∧ s.cfgN 15376 1 = 18 :=
  ⟨sett met 0x3C10 1 [0x12], 1, _, _, ⟨rfl, rfl, rfl⟩, by decide +kernel, rfl, by decide +kernel⟩

theorem witness_DownlinkCommands_6 : ∃ (s : State) (role : Nat) (i : Nat) (m : Meter) (c : MCmd), TakesCommands s ∧ roleMay role .operator = true ∧ s.selected = some (i, m) ∧ (List.find? (fun c => c.tag == s.cfgN 15377 1) (s.cmds i) = some c) ∧ c.state = 1 :=
  ⟨cmds met [mcmd 1], 1, _, _, _, ⟨rfl, rfl, rfl⟩, by decide +kernel, rfl, rfl, rfl⟩

theorem witness_DownlinkCommands_7 : ∃ (s : State) (role : Nat) (i : Nat) (m : Meter) (c : MCmd), TakesCommands s ∧ roleMay role .operator = true ∧ s.selected = some (i, m) ∧ (List.find? (fun c => c.tag == s.cfgN 15377 1) (s.cmds i) = some c) ∧ c.state ≠ 1 :=
  ⟨cmds met [mcmd 2], 1, _, _, _, ⟨rfl, rfl, rfl⟩, by decide +kernel, rfl, rfl, by decide +kernel⟩

theorem witness_DownlinkCommands_9 : ∃ (s : State) (i : Nat) (m : Meter) (c : MCmd) (rest : List MCmd), s.running = true ∧ s.meter i = some m ∧ s.cmds i = c :: rest ∧ c.state = 1 ∧ bit m.rflags 1 = false :=
  ⟨cmds met [mcmd 1], 0, _, _, _, rfl, rfl, rfl, rfl, rfl⟩

theorem witness_DownlinkCommands_11 : ∃ (s : State) (i : Nat) (m : Meter) (c : MCmd) (rest : List MCmd), s.running = true ∧ s.meter i = some m ∧ s.cmds i = c :: rest ∧ c.state = 2 ∧ s.now < c.sentAt + c.heldFor + s.cmdTimeout m c :=
  ⟨cmds met [{ mcmd 2 with sentAt := 1 }], 0, _, _, _, rfl, rfl, rfl, rfl, by decide +kernel⟩

theorem witness_DownlinkCommands_15 : ∃ (s : State) (role : Nat) (b : Bytes), TakesCommands s ∧ roleMay role .operator = true ∧ 17 ≤ List.length b ∧ List.length b ≤ 4112 ∧ timeOk (slice b 4 12) = true ∧ s.store.mode ≠ StoreMode.readOnly ∧ lookupKey (fieldLE b 0 1) s.distNv.tariffs = none ∧ s.campaignRuns 0 (fieldLE b 0 1) = false :=
  ⟨run, 1, zeros 17, ⟨rfl, rfl, rfl⟩, by decide +kernel, by decide +kernel, by decide +kernel, by decide +kernel, by decide +kernel, by decide +kernel, by decide +kernel⟩

theorem witness_DownlinkCommands_16 : ∃ (s : State) (role : Nat) (b : Bytes) (t : TariffTable), TakesCommands s ∧ roleMay role .operator = true ∧ 17 ≤ List.length b ∧ List.length b ≤ 4112 ∧ timeOk (slice b 4 12) = true ∧ s.store.mode ≠ StoreMode.readOnly ∧ lookupKey (fieldLE b 0 1) s.distNv.tariffs = some t ∧ fieldLE b 2 2 ≤ t.version :=
  ⟨{ run with distNv := { run.distNv with tariffs := [(0, default)] } }, 1, zeros 17, _, ⟨rfl, rfl, rfl⟩, by decide +kernel, by decide +kernel, by decide +kernel, by decide +kernel, by decide +kernel, rfl, by decide +kernel⟩

theorem witness_DownlinkCommands_19 : ∃ (s : State) (role : Nat) (v : Nat), TakesCommands s ∧ roleMay role .operator = true ∧ 255 < v ∧ v ≠ 65535 :=
  ⟨run, 1, 256, ⟨rfl, rfl, rfl⟩, by decide +kernel, by decide +kernel, by decide +kernel⟩

theorem witness_Images_1 : ∃ (s : State) (role : Nat) (b : Bytes), TakesCommands s ∧ roleMay role .operator = true ∧ s.store.mode ≠ StoreMode.readOnly ∧ List.length b = 28 ∧ fieldLE b 0 1 ≤ 3 ∧ 0 < fieldLE b 8 4 ∧ fieldLE b 8 4 ≤ 1048576 ∧ s.campaign 1 (fieldLE b 0 1) = none :=
  ⟨run, 1, zeros 8 ++ [1] ++ zeros 19, ⟨rfl, rfl, rfl⟩, by decide +kernel, by decide +kernel, by decide +kernel, by decide +kernel, by decide +kernel, by decide +kernel, by decide +kernel⟩

theorem witness_Images_2 : ∃ (s : State) (role : Nat) (b : Bytes), TakesCommands s ∧ roleMay role .operator = true ∧ s.store.mode ≠ StoreMode.readOnly ∧ List.length b = 28 ∧ fieldLE b 0 1 ≤ 3 ∧ 1048576 < fieldLE b 8 4 :=
  ⟨run, 1, zeros 8 ++ leBytes 4 1048577 ++ zeros 16, ⟨rfl, rfl, rfl⟩, by decide +kernel, by decide +kernel, by decide +kernel, by decide +kernel, by decide +kernel⟩

theorem witness_Images_3 : ∃ (s : State) (role : Nat) (b : Bytes) (i : ImageSlot), TakesCommands s ∧ roleMay role .operator = true ∧ s.store.mode ≠ StoreMode.readOnly ∧ 9 ≤ List.length b ∧ fieldLE b 0 1 ≤ 3 ∧ i = at' s.distNv.images (fieldLE b 0 1) ∧ i.state = 1 ∧ fieldLE b 4 4 = List.length i.data ∧ List.length i.data + (List.length b - 8) ≤ i.size :=
  ⟨image0 run (fun i => { i with state := 1, size := 1 }), 1, zeros 9, _, ⟨rfl, rfl, rfl⟩, by decide +kernel, by decide +kernel, by decide +kernel, by decide +kernel, rfl, rfl, rfl, by decide +kernel⟩

theorem witness_Images_4 : ∃ (s : State) (role : Nat) (b : Bytes) (i : ImageSlot), TakesCommands s ∧ roleMay role .operator = true ∧ s.store.mode ≠ StoreMode.readOnly ∧ 9 ≤ List.length b ∧ fieldLE b 0 1 ≤ 3 ∧ i = at' s.distNv.images (fieldLE b 0 1) ∧ i.state = 1 ∧ fieldLE b 4 4 ≠ List.length i.data :=
  ⟨image0 run (fun i => { i with state := 1, size := 1 }), 1, zeros 4 ++ [1] ++ zeros 4, _, ⟨rfl, rfl, rfl⟩, by decide +kernel, by decide +kernel, by decide +kernel, by decide +kernel, rfl, rfl, by decide +kernel⟩

theorem witness_Images_5 : ∃ (s : State) (role : Nat) (slot : Nat) (i : ImageSlot), TakesCommands s ∧ roleMay role .operator = true ∧ s.store.mode ≠ StoreMode.readOnly ∧ slot ≤ 3 ∧ i = at' s.distNv.images slot ∧ i.state = 1 ∧ List.length i.data = i.size ∧ List.take 16 (sha384 i.data) = i.digest ∧ (s.putImage slot { i with state := 2 }).campaign 1 slot = none :=
  ⟨image0 run (fun i => { i with state := 1, digest := List.take 16 (sha384 []) }), 1, 0, _, ⟨rfl, rfl, rfl⟩, by decide +kernel, by decide +kernel, by decide +kernel, rfl, rfl, rfl, by decide +kernel, rfl⟩

theorem witness_Images_6 : ∃ (s : State) (role : Nat) (slot : Nat) (i : ImageSlot), TakesCommands s ∧ roleMay role .operator = true ∧ s.store.mode ≠ StoreMode.readOnly ∧ slot ≤ 3 ∧ i = at' s.distNv.images slot ∧ i.state = 1 ∧ List.length i.data ≠ i.size :=
  ⟨image0 run (fun i => { i with state := 1, size := 1 }), 1, 0, _, ⟨rfl, rfl, rfl⟩, by decide +kernel, by decide +kernel, by decide +kernel, rfl, rfl, by decide +kernel⟩

theorem witness_Images_7 : ∃ (s : State) (role : Nat) (b : Bytes) (m : Meter), TakesCommands s ∧ roleMay role .operator = true ∧ s.store.mode ≠ StoreMode.readOnly ∧ List.length b = 8 ∧ fieldLE b 0 1 ≤ 3 ∧ s.campaign 1 (fieldLE b 0 1) = none ∧ s.meter (fieldLE b 4 4) = some m ∧ m.mayTarget 1 (fieldLE b 0 1) = true ∧ (at' s.distNv.images (fieldLE b 0 1)).state ≠ 2 :=
  ⟨having { mm with state := 2 }, 1, zeros 8, _, ⟨rfl, rfl, rfl⟩, by decide +kernel, by decide +kernel, by decide +kernel, by decide +kernel, by decide +kernel, rfl, rfl, by decide +kernel⟩

theorem witness_Images_8 : ∃ (s : State) (role : Nat) (b : Bytes), TakesCommands s ∧ roleMay role .operator = true ∧ s.store.mode ≠ StoreMode.readOnly ∧ List.length b = 16 ∧ fieldLE b 0 1 ≤ 3 ∧ timeOk (slice b 4 12) = true ∧ fieldLE b 1 1 = 0 ∧ s.campaign 1 (fieldLE b 0 1) = none :=
  ⟨run, 1, zeros 16, ⟨rfl, rfl, rfl⟩, by decide +kernel, by decide +kernel, by decide +kernel, by decide +kernel, by decide +kernel, by decide +kernel, by decide +kernel⟩

theorem witness_Images_9 : ∃ (s : State) (role : Nat) (b : Bytes) (c : Campaign) (t : Target), TakesCommands s ∧ roleMay role .operator = true ∧ s.store.mode ≠ StoreMode.readOnly ∧ List.length b = 16 ∧ fieldLE b 0 1 ≤ 3 ∧ timeOk (slice b 4 12) = true ∧ fieldLE b 1 1 = 0 ∧ s.campaign 1 (fieldLE b 0 1) = some c ∧ c.targets = [t] ∧ t.state = 3 :=
  ⟨camp run { (default : Campaign) with kind := 1, targets := [{ (default : Target) with state := 3 }] }, 1, zeros 16, _, { (default : Target) with state := 3 }, ⟨rfl, rfl, rfl⟩, by decide +kernel, by decide +kernel, by decide +kernel, by decide +kernel, by decide +kernel, by decide +kernel, rfl, rfl, by decide +kernel⟩

theorem witness_Images_10 : ∃ (s : State) (role : Nat) (slot : Nat), TakesCommands s ∧ roleMay role .operator = true ∧ s.store.mode ≠ StoreMode.readOnly ∧ slot ≤ 3 ∧ s.campaign 1 slot = none ∧ s.campaignRuns 1 slot = false :=
  ⟨run, 1, 3, ⟨rfl, rfl, rfl⟩, by decide +kernel, by decide +kernel, by decide +kernel, by decide +kernel, by decide +kernel⟩

theorem witness_Images_11 : ∃ (s : State) (role : Nat) (slot : Nat), TakesCommands s ∧ roleMay role .operator = true ∧ s.store.mode ≠ StoreMode.readOnly ∧ 3 < slot :=
  ⟨run, 1, 4, ⟨rfl, rfl, rfl⟩, by decide +kernel, by decide +kernel, by decide +kernel⟩

theorem witness_Images_12 : ∃ (s : State) (kind : Fin 2) (slot : Fin 256) (c : Campaign), s.running = true ∧ s.campaign ↑kind ↑slot = some c ∧ c.phase = CampPhase.offering ∧ ((c.targets.any fun t => t.state == 1) = false) :=
  ⟨camp run { (default : Campaign) with phase := .offering }, 0, 0, _, rfl, rfl, rfl, rfl⟩

theorem witness_Images_13 : ∃ (s : State) (kind : Fin 2) (slot : Fin 256) (c : Campaign), s.running = true ∧ s.campaign ↑kind ↑slot = some c ∧ ((c.targets.any fun t => t.state == 1) = true) :=
  ⟨camp run { (default : Campaign) with targets := [{ (default : Target) with state := 1 }] }, 0, 0, _, rfl, rfl, rfl⟩

theorem witness_Images_14 : ∃ (s : State) (kind : Fin 2) (slot : Fin 256) (c : Campaign), s.running = true ∧ s.campaign ↑kind ↑slot = some c ∧ c.phase = CampPhase.round ∧ ((c.lists.any fun l => l.blocks != []) = false) ∧ c.lastBlockAt + cSec (s.cfgN 15360 5 + s.cfgN 15360 6 + 30) ≤ s.now ∧ c.targets = [] :=
  ⟨clock (camp run { (default : Campaign) with phase := .round }) (10 ^ 15), 0, 0, { (default : Campaign) with phase := .round }, rfl, rfl, by decide +kernel, by decide +kernel, by decide +kernel, by decide +kernel⟩

theorem witness_Images_15 : ∃ (s : State) (kind : Fin 2) (slot : Fin 256) (c : Campaign), s.running = true ∧ s.campaign ↑kind ↑slot = some c ∧ ((c.lists.any fun l => l.blocks != []) = true) :=
  ⟨camp run { (default : Campaign) with lists := [⟨0, [1], []⟩] }, 0, 0, _, rfl, rfl, rfl⟩

theorem witness_Images_16 : ∃ (s : State), s.running = true ∧ s.dist.campaigns = [] :=
  ⟨run, rfl, by decide +kernel⟩

theorem witness_QueueDiscipline_1 : ∃ (q : Queue) (q' : Queue) (limit : Nat) (poolFree : Bool) (c : QCell), q.placeMoving limit poolFree c = some q' :=
  ⟨default, _, 0, true, default, rfl⟩

theorem witness_QueueDiscipline_2 : ∃ (q : Queue) (c : QCell) (r : List QCell), q.tailToHead.head = c :: r :=
  ⟨{ (default : Queue) with tail := [default] }, _, _, rfl⟩

theorem witness_QueueDiscipline_3 : ∃ (q : Queue) (q' : Queue) (limit : Nat) (poolFree : Bool) (c : QCell), q.head.length ≤ 16 ∧ q.tail.length ≤ 16 ∧ (∀ b ∈ q.skein, b.length = 8) ∧ q.placeMoving limit poolFree c = some q' :=
  ⟨default, _, 0, true, default, by decide +kernel, by decide +kernel, by decide +kernel, rfl⟩

theorem witness_QueueDiscipline_4 : ∃ (q : Queue) (q' : Queue) (limit : Nat) (poolFree : Bool) (c : QCell) (b : List QCell), q.head.length ≤ 16 ∧ q.tail.length ≤ 16 ∧ (∀ b ∈ q.skein, b.length = 8) ∧ q.placeMoving limit poolFree c = some q' ∧ b ∈ q'.skein :=
  ⟨{ (default : Queue) with skein := [eightCells] }, { (default : Queue) with skein := [eightCells], tail := [default] }, 0, true, default, eightCells, by decide +kernel, by decide +kernel, by decide +kernel, rfl, by decide +kernel⟩

theorem witness_QueueCommands_1 : ∃ (s : State) (i : Fin 64) (x : Queue) (tag : Nat), s.live = true ∧ x = at' s.queue.queues ↑i ∧ ↑i < s.queue.queues.length ∧ (s.cfgN (18448 + ↑i) 2 = 0 ∧ s.cfgN (18448 + ↑i) 3 = 4294967295 ∧ (s.queue.waiting.any fun w => w.queue == ↑i) = false) ∧ x.fenced = false ∧ x.owner = none ∧ x.cutting = false ∧ x.losing = false ∧ x.dropPending = false ∧ tag % 4 = 3 ∧ x.skein = [] ∧ x.tail = [] ∧ x.head.length < 16 ∧ x.level + x.reserved < s.queueCap ↑i :=
  ⟨run, 0, _, 3, rfl, rfl, by decide +kernel, by decide +kernel, rfl, rfl, rfl, rfl, rfl, by decide +kernel, rfl, rfl, by decide +kernel, by decide +kernel⟩

theorem witness_QueueCommands_2 : ∃ (s : State) (i : Fin 64) (x : Queue) (producer : Nat) (tag : Nat) (data : Bytes), s.live = true ∧ x = at' s.queue.queues ↑i ∧ ↑i < s.queue.queues.length ∧ s.pushCell (↑i) producer false (cellOf tag data) = none :=
  ⟨shut run 0, 0, _, 0, 3, [], rfl, rfl, by decide +kernel, by decide +kernel⟩

theorem witness_QueueCommands_3 : ∃ (s : State) (i : Fin 64) (x : Queue) (producer : Nat) (data : Bytes), s.live = true ∧ x = at' s.queue.queues ↑i ∧ ↑i < s.queue.queues.length ∧ s.pushPacket (↑i) producer data = none :=
  ⟨shut run 0, 0, _, 0, [1], rfl, rfl, by decide +kernel, by decide +kernel⟩

theorem witness_QueueCommands_4 : ∃ (s : State) (i : Fin 64) (x : Queue) (n : Nat), s.live = true ∧ x = at' s.queue.queues ↑i ∧ ↑i < s.queue.queues.length ∧ x.fenced = false ∧ x.level + x.reserved + n ≤ s.queueCap ↑i :=
  ⟨run, 0, _, 32, rfl, rfl, by decide +kernel, rfl, by decide +kernel⟩

theorem witness_QueueCommands_5 : ∃ (s : State) (i : Fin 64) (x : Queue) (n : Nat), s.live = true ∧ x = at' s.queue.queues ↑i ∧ ↑i < s.queue.queues.length ∧ (x.fenced = true ∨ s.queueCap ↑i < x.level + x.reserved + n) :=
  ⟨run, 0, _, 33, rfl, rfl, by decide +kernel, by decide +kernel⟩

theorem witness_QueueCommands_6 : ∃ (s : State) (i : Fin 64) (x : Queue) (c : QCell) (r : List QCell), s.live = true ∧ x = at' s.queue.queues ↑i ∧ ↑i < s.queue.queues.length ∧ (s.cfgN (18448 + ↑i) 2 = 0 ∧ s.cfgN (18448 + ↑i) 3 = 4294967295 ∧ (s.queue.waiting.any fun w => w.queue == ↑i) = false) ∧ x.head = c :: r ∧ x.fenced = false ∧ x.dropPending = false :=
  ⟨holding run 0 [1], 0, _, _, _, rfl, rfl, by decide +kernel, by decide +kernel, rfl, rfl, rfl⟩

theorem witness_QueueCommands_7 : ∃ (s : State) (i : Fin 64) (x : Queue), s.live = true ∧ x = at' s.queue.queues ↑i ∧ ↑i < s.queue.queues.length ∧ x.head = [] ∧ x.skein = [] ∧ x.tail = [] :=
  ⟨run, 0, _, rfl, rfl, by decide +kernel, rfl, rfl, rfl⟩

theorem witness_QueueCommands_8 : ∃ (s : State) (i : Fin 64) (x : Queue), s.live = true ∧ x = at' s.queue.queues ↑i ∧ ↑i < s.queue.queues.length :=
  ⟨run, 63, _, rfl, rfl, by decide +kernel⟩

theorem witness_QueueCommands_9 : ∃ (s : State) (i : Fin 64) (x : Queue), s.live = true ∧ x = at' s.queue.queues ↑i ∧ ↑i < s.queue.queues.length ∧ (s.cfgN (18448 + ↑i) 2 = 0 ∧ s.cfgN (18448 + ↑i) 3 = 4294967295 ∧ (s.queue.waiting.any fun w => w.queue == ↑i) = false) ∧ (x.popped = false ∨ x.lastPop.last = true ∨ x.dropPending = true ∨ x.dropDone = true) :=
  ⟨run, 0, _, rfl, rfl, by decide +kernel, by decide +kernel, by decide +kernel⟩

theorem witness_QueueCommands_10 : ∃ (s : State) (i : Fin 64) (x : Queue), s.live = true ∧ x = at' s.queue.queues ↑i ∧ ↑i < s.queue.queues.length ∧ (s.cfgN (18448 + ↑i) 2 = 0 ∧ s.cfgN (18448 + ↑i) 3 = 4294967295 ∧ (s.queue.waiting.any fun w => w.queue == ↑i) = false) ∧ x.popped = true ∧ x.lastPop.last = false ∧ x.dropPending = false ∧ x.dropDone = false ∧ (∀ c ∈ x.cells, c.last = false) ∧ (∀ b ∈ x.skein, b.length = 8) :=
  ⟨queue0 (fun q => { q with popped := true }), 0, _, rfl, rfl, by decide +kernel, by decide +kernel, rfl, rfl, rfl, rfl, by decide +kernel, by decide +kernel⟩

theorem witness_SkeinAndHostPort_1 : ∃ (s : State) (i : Fin 64) (x : Queue), s.live = true ∧ x = at' s.queue.queues ↑i ∧ ↑i < s.queue.queues.length ∧ s.wantsSpill ↑i = true ∧ s.queue.poolFree = true :=
  ⟨pool (sett (queue0 (fun q => { q with head := eightCells ++ eightCells, tail := eightCells })) 0x4810 1 [1, 0, 0, 0]) 1, 0, _, rfl, rfl, by decide +kernel, by decide +kernel, by decide +kernel⟩

theorem witness_SkeinAndHostPort_2 : ∃ (s : State) (i : Fin 64) (x : Queue), s.live = true ∧ x = at' s.queue.queues ↑i ∧ ↑i < s.queue.queues.length ∧ s.wantsSpill ↑i = true ∧ s.queue.poolFree = false ∧ s.queue.exhausted = false :=
  ⟨sett (queue0 (fun q => { q with head := eightCells ++ eightCells, tail := eightCells })) 0x4810 1 [1, 0, 0, 0], 0, _, rfl, rfl, by decide +kernel, by decide +kernel, by decide +kernel, by decide +kernel⟩

theorem witness_SkeinAndHostPort_3 : ∃ (s : State) (i : Fin 64) (x : Queue) (b : List QCell) (r : List (List QCell)), s.live = true ∧ x = at' s.queue.queues ↑i ∧ ↑i < s.queue.queues.length ∧ x.skein = b :: r ∧ x.head.length + 8 ≤ 16 ∧ ((s.queue.waiting.any fun w => w.queue == ↑i) = false) :=
  ⟨queue0 (fun q => { q with skein := [eightCells] }), 0, _, _, _, rfl, rfl, by decide +kernel, rfl, by decide +kernel, by decide +kernel⟩

theorem witness_SkeinAndHostPort_4 : ∃ (s : State) (i : Fin 64) (x : Queue), s.live = true ∧ x = at' s.queue.queues ↑i ∧ ↑i < s.queue.queues.length ∧ x.skein = [] :=
  ⟨run, 0, _, rfl, rfl, by decide +kernel, rfl⟩

theorem witness_SkeinAndHostPort_5 : ∃ (s : State) (role : Nat) (c : QCell) (r : List QCell), TakesCommands s ∧ roleMay role .operator = true ∧ s.hostQueue ≠ 7 ∧ (at' s.queue.queues s.hostQueue).fenced = false ∧ (at' s.queue.queues s.hostQueue).dropPending = false ∧ (at' s.queue.queues s.hostQueue).head = c :: r :=
  ⟨holding (sett run 0x48C0 1 [0]) 0 [1], 1, _, _, ⟨rfl, rfl, rfl⟩, by decide +kernel, by decide +kernel, by decide +kernel, by decide +kernel, rfl⟩

theorem witness_SkeinAndHostPort_6 : ∃ (s : State) (role : Nat), TakesCommands s ∧ roleMay role .operator = true ∧ s.hostQueue = 7 :=
  ⟨sett run 0x48C0 1 [7], 1, ⟨rfl, rfl, rfl⟩, by decide +kernel, by decide +kernel⟩

theorem witness_SkeinAndHostPort_7 : ∃ (s : State) (role : Nat), TakesCommands s ∧ roleMay role .operator = true ∧ s.hostQueue ≠ 7 :=
  ⟨sett run 0x48C0 1 [0], 1, ⟨rfl, rfl, rfl⟩, by decide +kernel, by decide +kernel⟩

theorem witness_SkeinAndHostPort_8 : ∃ (s : State) (role : Nat) (cell : Bytes), TakesCommands s ∧ roleMay role .operator = true ∧ List.length cell ≠ 66 :=
  ⟨run, 1, [], ⟨rfl, rfl, rfl⟩, by decide +kernel, by decide +kernel⟩

theorem witness_SkeinAndHostPort_9 : ∃ (s : State) (role : Nat) (cell : Bytes) (t : State), TakesCommands s ∧ roleMay role .operator = true ∧ List.length cell = 66 ∧ s.hostQueue ≠ 7 ∧ s.hostQueue ≠ 15 ∧ tagBad (at' s.queue.queues s.hostQueue) (fieldLE cell 0 2) = false ∧ (at' s.queue.queues s.hostQueue).fenced = false ∧ s.pushCell s.hostQueue 33024 false (cellOf (fieldLE cell 0 2) (List.drop 2 cell)) = some t :=
  ⟨sett run 0x48C0 1 [0], 1, [3, 0] ++ zeros 64, _, ⟨rfl, rfl, rfl⟩, by decide +kernel, by decide +kernel, by decide +kernel, by decide +kernel, by decide +kernel, by decide +kernel, got (by decide +kernel)⟩

theorem witness_SkeinAndHostPort_10 : ∃ (s : State) (role : Nat) (cell : Bytes), TakesCommands s ∧ roleMay role .operator = true ∧ List.length cell = 66 ∧ s.hostQueue ≠ 7 ∧ s.hostQueue ≠ 15 ∧ tagBad (at' s.queue.queues s.hostQueue) (fieldLE cell 0 2) = false ∧ (at' s.queue.queues s.hostQueue).fenced = false ∧ s.pushCell s.hostQueue 33024 false (cellOf (fieldLE cell 0 2) (List.drop 2 cell)) = none :=
  ⟨{ queue0 (fun q => { q with tail := eightCells ++ eightCells, head := eightCells ++ eightCells }) with cfg := (sett run 0x48C0 1 [0]).cfg }, 1, [3, 0] ++ zeros 64, ⟨rfl, rfl, rfl⟩, by decide +kernel, by decide +kernel, by decide +kernel, by decide +kernel, by decide +kernel, by decide +kernel, by decide +kernel⟩

theorem witness_EventsAndFabric_1 : ∃ (s : State), s.live = true :=
  ⟨run, rfl⟩

theorem witness_EventsAndFabric_2 : ∃ (s : State) (w : WaitingEvent), s.live = true ∧ s.queue.waiting = [w] ∧ w.since + cMs 1 ≤ s.now ∧ s.dict.lostEvents = [] :=
  ⟨clock { run with queue := { run.queue with waiting := [default] } } (10 ^ 12), _, rfl, rfl, by decide +kernel, by decide +kernel⟩

theorem witness_EventsAndFabric_3 : ∃ (s : State) (cell : Nat) (n : Nat), s.live = true ∧ s.dict.lostEvents = [(cell, n)] ∧ s.queue.waiting = [] ∧ (at' s.queue.queues (eventQueue 4104 cell)).level + (at' s.queue.queues (eventQueue 4104 cell)).reserved < s.queueCap (eventQueue 4104 cell) :=
  ⟨{ run with dict := { run.dict with lostEvents := [(0, 1)] } }, 0, 1, rfl, by decide +kernel, by decide +kernel, by decide +kernel⟩

theorem witness_EventsAndFabric_4 : ∃ (s : State), s.live = true ∧ s.dict.lostEvents = [] :=
  ⟨run, rfl, by decide +kernel⟩

theorem witness_RecordsAndStripes_1 : ∃ (s : State) (s1 : State) (b : Bytes), s.live = true ∧ s.store.mode = StoreMode.ready ∧ s.appendBlocked = false ∧ s.popPacket 41 = some (s1, b, false) ∧ List.length b = 32 :=
  ⟨holding (stream0 (ready run) (fun y => { y with sb := some 0 })) 41 (zeros 32), _, _, rfl, by decide +kernel, by decide +kernel, popped (by decide +kernel) (by decide +kernel), rfl⟩

theorem witness_RecordsAndStripes_2 : ∃ (s : State) (s1 : State) (b : Bytes), s.live = true ∧ s.store.mode = StoreMode.readOnly ∧ s.popPacket 41 = some (s1, b, false) ∧ List.length b = 32 :=
  ⟨holding (full run) 41 (zeros 32), _, _, rfl, by decide +kernel, popped (by decide +kernel) (by decide +kernel), rfl⟩

theorem witness_RecordsAndStripes_3 : ∃ (s : State), s.live = true ∧ s.store.mode = StoreMode.mounting :=
  ⟨run, rfl, by decide +kernel⟩

theorem witness_RecordsAndStripes_4 : ∃ (s : State), s.store.mode = StoreMode.ready ∧ s.store.openDay = s.utcDay ∧ s.store.openRecs ≠ [] ∧ s.store.openRecs.length < 511 ∧ s.store.indexCount + 1 < s.cfgN 19457 5 ∧ s.store.nextAseq < s.root.floor :=
  ⟨inNv (inStore (sett run 0x4C01 5 (leBytes 4 10)) (fun x => { x with mode := .ready, openRecs := [(0, [])] })) (fun n => { n with root := some { (default : StoreRoot) with floor := 1 } }), by decide +kernel, by decide +kernel, by decide +kernel, by decide +kernel, by decide +kernel, by decide +kernel⟩

theorem witness_RecordsAndStripes_5 : ∃ (s : State), s.running = true ∧ s.store.mode = StoreMode.ready ∧ s.cfgN 19457 4 ≠ 0 ∧ (s.stream 0).units = [] ∧ s.store.openRecs ≠ [] ∧ s.store.openSince + cSec (s.cfgN 19457 4) ≤ s.now :=
  ⟨clock (inStore (sett run 0x4C01 4 [1, 0, 0, 0]) (fun x => { x with mode := .ready, openRecs := [(0, [])] })) (10 ^ 15), rfl, by decide +kernel, by decide +kernel, by decide +kernel, by decide +kernel, by decide +kernel⟩

theorem witness_RecordsAndStripes_6 : ∃ (s : State), s.running = true ∧ s.cfgN 19457 4 = 0 :=
  ⟨sett run 0x4C01 4 [0, 0, 0, 0], rfl, by decide +kernel⟩

theorem witness_RecordsAndStripes_7 : ∃ (s : State) (s1 : State) (k : Fin 4), s.live = true ∧ s.store.mode = StoreMode.ready ∧ (s.stream ↑k).flying = [] ∧ (s.stream ↑k).units ≠ [] ∧ s.readyStream ↑k = some s1 ∧ 0 < s1.stripeUnits (s1.sb ((s1.stream ↑k).sb.getD 0)).dies ∧ s1.stripeUnits (s1.sb ((s1.stream ↑k).sb.getD 0)).dies ≤ (s1.stream ↑k).units.length :=
  ⟨sblocks (stream0 (ready run) (fun y => { y with sb := some 0, units := [default] })) [{ (default : Superblock) with dies := [0, 1] }], _, 0, rfl, by decide +kernel, by decide +kernel, by decide +kernel, rfl, by decide +kernel, by decide +kernel⟩

theorem witness_RecordsAndStripes_8 : ∃ (s : State) (k : Fin 4), s.live = true ∧ (s.stream ↑k).units = [] :=
  ⟨run, 0, rfl, by decide +kernel⟩

theorem witness_RecordsAndStripes_9 : ∃ (s : State) (k : Fin 4), s.live = true ∧ (s.stream ↑k).flying ≠ [] ∧ s.journalRoom ((s.stream ↑k).flying.length + 1) = true :=
  ⟨stream0 run (fun y => { y with flying := [default] }), 0, rfl, by decide +kernel, by decide +kernel⟩

theorem witness_RecordsAndStripes_10 : ∃ (s : State) (k : Fin 4), s.live = true ∧ (s.stream ↑k).flying = [] :=
  ⟨run, 0, rfl, by decide +kernel⟩

theorem witness_RecordsAndStripes_11 : ∃ (s : State) (k : Nat), k < s.store.streams.length :=
  ⟨run, 0, by decide +kernel⟩

theorem witness_StoreService_1 : ∃ (s : State) (s1 : State) (q : Fin 2) (b : Bytes) (a : Bool), s.live = true ∧ s.storeReads = true ∧ s.popPacket (42 + ↑q) = some (s1, b, a) :=
  ⟨holding (ready run) 42 [1], _, 0, _, _, rfl, by decide +kernel, popped (by decide +kernel) (by decide +kernel)⟩

theorem witness_StoreService_2 : ∃ (s : State), s.live = true ∧ s.storeReads = false :=
  ⟨run, rfl, by decide +kernel⟩

theorem witness_StoreService_3 : ∃ (s : State) (r : UnitRead) (l : Loc), lookupKey r.mun s.storeNv.map = some (some l) ∧ r.bad = [] ∧ r.retries = 0 ∧ r.bits ≤ s.cfgN 19457 9 ∧ (s.die l.die).state ≠ 2 :=
  ⟨unit5 run, ⟨5, 0, 0, 0, []⟩, _, rfl, by decide +kernel, by decide +kernel, by decide +kernel, by decide +kernel⟩

theorem witness_StoreService_4 : ∃ (s : State) (sb : Nat) (r : UnitRead), s.running = true ∧ s.store.mode = StoreMode.ready ∧ s.cfgN 19457 10 ≠ 0 ∧ sb < s.storeNv.sbs.length ∧ (s.sb sb).state = SbState.closed ∧ (((s.validIn sb).any fun p => p.1 == r.mun) = true) :=
  ⟨unit5 (sblocks (sett (ready run) 0x4C01 10 [1]) [sblock .closed 0]), 0, ⟨5, 0, 0, 0, []⟩, rfl, by decide +kernel, by decide +kernel, by decide +kernel, by decide +kernel, by decide +kernel⟩

theorem witness_StoreService_5 : ∃ (s : State), s.running = true ∧ s.cfgN 19457 10 = 0 :=
  ⟨sett run 0x4C01 10 [0], rfl, by decide +kernel⟩

theorem witness_StoreService_6 : ∃ (s : State) (m : Nat) (l : Loc), s.running = true ∧ s.store.mode = StoreMode.ready ∧ s.store.weak = [m] ∧ lookupKey m s.storeNv.map = some (some l) :=
  ⟨unit5 (inStore run (fun x => { x with mode := .ready, weak := [5] })), 5, _, rfl, by decide +kernel, by decide +kernel, rfl⟩

theorem witness_StoreService_7 : ∃ (s : State), s.running = true ∧ s.store.mode = StoreMode.readOnly :=
  ⟨full run, rfl, by decide +kernel⟩

theorem witness_StoreService_8 : ∃ (s : State) (d : DayDir), s.running = true ∧ s.store.mode = StoreMode.ready ∧ s.reclaimDue = true ∧ s.journalRoom 1 = true ∧ s.dueDay = some d :=
  ⟨inNv (sett (sett (ready run) 0x4C01 1 [1]) 0x4C01 2 [0]) (fun n => { n with ringNext := 5, map := [(5, none)], days := [default] }), default, rfl, by decide +kernel, by decide +kernel, by decide +kernel, by decide +kernel⟩

theorem witness_StoreService_9 : ∃ (s : State), s.running = true ∧ s.reclaimDue = false :=
  ⟨run, rfl, by decide +kernel⟩

theorem witness_StoreService_10 : ∃ (s : State) (i : Nat), s.running = true ∧ s.store.mode = StoreMode.ready ∧ s.relocateDies = s ∧ s.freeSbs.length < s.cfgN 19457 3 ∧ (List.find? (fun i => s.validIn i == []) s.closedSbs = some i) :=
  ⟨sblocks (sett (ready run) 0x4C01 3 [5]) [sblock .closed 0], 0, rfl, by decide +kernel, rfl, by decide +kernel, by decide +kernel⟩

theorem witness_StoreService_11 : ∃ (s : State) (i : Nat), s.live = true ∧ i < s.storeNv.sbs.length ∧ (s.sb i).state = SbState.erasing ∧ s.journalRoom 2 = true :=
  ⟨sblocks run [sblock .erasing 0], 0, rfl, by decide +kernel, by decide +kernel, by decide +kernel⟩

theorem witness_StoreService_12 : ∃ (s : State) (i : Nat), s.live = true ∧ (s.sb i).state = SbState.free :=
  ⟨run, 0, rfl, by decide +kernel⟩

theorem witness_StoreService_13 : ∃ (s : State) (src : Nat) (dst : Nat), s.running = true ∧ s.store.mode = StoreMode.ready ∧ (s.stream 3).sb = none ∧ (s.stream 3).units = [] ∧ (s.stream 3).flying = [] ∧ s.cfgN 19457 6 < s.eraseSpread ∧ (leastBy (fun i => (s.sb i).erases) s.closedSbs = some src) ∧ (leastBy (fun i => 4294967295 - (s.sb i).erases) s.freeSbs = some dst) ∧ s.validIn src ≠ [] :=
  ⟨unit5 (sblocks (sett (ready run) 0x4C01 6 [1]) [sblock .closed 10, sblock .free 0]), 0, 1, rfl, by decide +kernel, by decide +kernel, by decide +kernel, by decide +kernel, by decide +kernel, by decide +kernel, by decide +kernel, by decide +kernel⟩

theorem witness_StoreService_14 : ∃ (s : State), s.running = true ∧ s.eraseSpread ≤ s.cfgN 19457 6 :=
  ⟨run, rfl, by decide +kernel⟩

theorem witness_StoreService_15 : ∃ (s : State) (d : Fin 16), s.running = true ∧ (s.die ↑d).state = 2 ∧ (((List.range s.storeNv.sbs.length).all fun i => !(s.sb i).dies.contains ↑d || s.validIn i == []) = true) :=
  ⟨inNv run (fun n => { n with dies := [{ (default : DieRec) with state := 2 }] }), 0, rfl, by decide +kernel, by decide +kernel⟩

theorem witness_StoreService_16 : ∃ (s : State) (d : Fin 16), s.running = true ∧ (s.die ↑d).state ≠ 2 :=
  ⟨run, 0, rfl, by decide +kernel⟩

theorem witness_StoreService_17 : ∃ (s : State), s.running = true ∧ s.store.mode = StoreMode.readOnly ∧ 2 ≤ s.freeSbs.length ∧ 2 ≤ s.activeDies.length :=
  ⟨inNv (full run) (fun n => { n with sbs := [sblock .free 0, sblock .free 0], dies := [{ (default : DieRec) with state := 1 }, { (default : DieRec) with state := 1 }] }), rfl, by decide +kernel, by decide +kernel, by decide +kernel⟩

theorem witness_StoreService_18 : ∃ (s : State), s.running = true ∧ s.store.mode = StoreMode.readOnly ∧ s.store.fullAt + cSec 3600 ≤ s.now :=
  ⟨clock (full run) (10 ^ 15), rfl, by decide +kernel, by decide +kernel⟩

theorem witness_StoreService_19 : ∃ (s : State), s.running = true ∧ s.store.mode = StoreMode.ready :=
  ⟨ready run, rfl, by decide +kernel⟩

theorem witness_StoreService_20 : ∃ (s : State), s.running = true ∧ s.store.mode = StoreMode.ready ∧ s.store.ckpting = false ∧ s.storeNv.otherHalf = true ∧ s.root.units = 0 :=
  ⟨inNv (ready run) (fun n => { n with otherHalf := true }), rfl, by decide +kernel, by decide +kernel, by decide +kernel, by decide +kernel⟩

theorem witness_StoreService_21 : ∃ (s : State), s.running = true ∧ s.store.ckpting = true :=
  ⟨inStore run (fun x => { x with ckpting := true }), rfl, by decide +kernel⟩

theorem witness_StoreService_22 : ∃ (s : State), s.live = true ∧ s.store.ckpting = true ∧ ((s.store.streams.any fun x => (x.units ++ x.flying).any fun u => u.kind == 6) = false) :=
  ⟨inStore run (fun x => { x with ckpting := true }), rfl, by decide +kernel, by decide +kernel⟩

theorem witness_StoreService_25 : ∃ (s : State) (role : Nat), TakesCommands s ∧ roleMay role .keyholder = true ∧ s.store.mode = StoreMode.ready :=
  ⟨ready run, 2, ⟨rfl, rfl, rfl⟩, by decide +kernel, by decide +kernel⟩

theorem witness_StoreService_26 : ∃ (s : State) (role : Nat) (v : Nat), TakesCommands s ∧ roleMay role .keyholder = true ∧ v ≠ 165 :=
  ⟨run, 2, 0, ⟨rfl, rfl, rfl⟩, by decide +kernel, by decide +kernel⟩

theorem witness_StoreService_27 : ∃ (s : State) (role : Nat), TakesCommands s ∧ roleMay role .keyholder = true ∧ s.store.mode = StoreMode.formatting :=
  ⟨inStore run (fun x => { x with mode := .formatting }), 2, ⟨rfl, rfl, rfl⟩, by decide +kernel, by decide +kernel⟩

theorem witness_StoreService_28 : ∃ (s : State), s.running = true ∧ s.store.mode = StoreMode.formatting ∧ s.store.formatReady = false :=
  ⟨inStore run (fun x => { x with mode := .formatting }), rfl, by decide +kernel, by decide +kernel⟩

theorem witness_StoreService_29 : ∃ (s : State) (role : Nat), TakesCommands s ∧ roleMay role .operator = true ∧ s.store.mode = StoreMode.mounting :=
  ⟨run, 1, ⟨rfl, rfl, rfl⟩, by decide +kernel, by decide +kernel⟩

theorem witness_StoreService_30 : ∃ (s : State) (role : Nat) (day : Nat), TakesCommands s ∧ roleMay role .operator = true ∧ s.store.mode = StoreMode.ready ∧ s.reclaimable day = true ∧ s.flushDay day = s ∧ s.storeNv.days = [] ∧ s.tryResume = s :=
  ⟨sett (ready run) 0x4C01 2 [0], 1, 0, ⟨rfl, rfl, rfl⟩, by decide +kernel, by decide +kernel, by decide +kernel, rfl, by decide +kernel, rfl⟩

theorem witness_StoreService_31 : ∃ (s : State) (role : Nat) (day : Nat) (d : DayDir), TakesCommands s ∧ roleMay role .operator = true ∧ s.store.mode = StoreMode.ready ∧ s.reclaimable day = true ∧ s.flushDay day = s ∧ s.storeNv.days = [d] ∧ d.day ≤ day :=
  ⟨inNv (sett (ready run) 0x4C01 2 [0]) (fun n => { n with days := [default] }), 1, 0, default, ⟨rfl, rfl, rfl⟩, by decide +kernel, by decide +kernel, by decide +kernel, rfl, by decide +kernel, by decide +kernel⟩

theorem witness_EthernetAndImport_1 : ∃ (s : State) (p : Fin 2), s.live = true ∧ s.ethUsable ↑p = false :=
  ⟨run, 0, rfl, by decide +kernel⟩

theorem witness_EthernetAndImport_2 : ∃ (s : State) (p : Fin 2) (frame : Bytes), s.live = true ∧ s.ethUsable ↑p = true ∧ List.length frame < 18 :=
  ⟨wired, 0, [], rfl, by decide +kernel, by decide +kernel⟩

theorem witness_EthernetAndImport_3 : ∃ (s : State) (p : Fin 2) (frame : Bytes), s.live = true ∧ s.ethUsable ↑p = true ∧ 1522 < List.length frame ∧ leBytes 4 (crc32 (List.take (List.length frame - 4) frame)) = List.drop (List.length frame - 4) frame :=
  ⟨wired, 0, framed (zeros 1519), rfl, by decide +kernel, by decide +kernel, framed_ok _⟩

theorem witness_EthernetAndImport_4 : ∃ (s : State) (p : Fin 2) (frame : Bytes) (i : IpParts), s.live = true ∧ s.ethUsable ↑p = true ∧ 18 ≤ List.length frame ∧ List.length frame ≤ 1522 ∧ leBytes 4 (crc32 (List.take (List.length frame - 4) frame)) = List.drop (List.length frame - 4) frame ∧ (ethParts (List.take (List.length frame - 4) frame)).vlan.getD 0 = s.cfgN (20480 + ↑p) 5 ∧ (ethParts (List.take (List.length frame - 4) frame)).etherType = 2048 ∧ ipParts 2048 (ethParts (List.take (List.length frame - 4) frame)).body = some i ∧ i.frag = false ∧ i.protocol = 17 ∧ udpOk i = true :=
  ⟨sett wired 0x5000 5 [0, 0], 0, framed udp, ⟨4, zeros 4, zeros 4, 17, false, [0, 0, 0, 0, 0, 8, 0, 0]⟩, rfl, by decide +kernel, by decide +kernel, by decide +kernel, framed_ok _, by decide +kernel, by decide +kernel, by decide +kernel, by decide +kernel, by decide +kernel, by decide +kernel⟩

theorem witness_EthernetAndImport_6 : ∃ (s : State) (p : Fin 2), s.live = true ∧ s.cfgN (20480 + ↑p) 1 = 1 ∧ s.inService (24576 + ↑p) = true ∧ (at' s.up.eth ↑p).up = false :=
  ⟨sett run 0x5000 1 [1], 0, rfl, by decide +kernel, by decide +kernel, by decide +kernel⟩

theorem witness_EthernetAndImport_7 : ∃ (s : State) (p : Fin 2), s.live = true ∧ (at' s.up.eth ↑p).up = true :=
  ⟨wired, 0, rfl, by decide +kernel⟩

theorem witness_EthernetAndImport_8 : ∃ (s : State) (p : Fin 2), s.live = true ∧ (at' s.up.eth ↑p).up = false :=
  ⟨run, 0, rfl, by decide +kernel⟩

theorem witness_EthernetAndImport_9 : ∃ (s : State), s.running = true ∧ s.cfgN 20512 1 = 0 :=
  ⟨sett run 0x5020 1 [0], rfl, by decide +kernel⟩

theorem witness_EthernetAndImport_10 : ∃ (s : State) (b : Bytes), s.running = true ∧ s.cfgN 20512 1 ≠ 0 ∧ s.inService 25088 = true ∧ importBody b = none :=
  ⟨sett run 0x5020 1 [1], [], rfl, by decide +kernel, by decide +kernel, by decide +kernel⟩

theorem witness_EpochSteps_3 : ∃ (s : State) (b : Blk) (p : Sealed) (rest : List Sealed), s.live = true ∧ s.cfg.sets = p :: rest ∧ p.published = true ∧ p.switched.contains b = false ∧ s.atBoundary b = true :=
  ⟨sealed true [], .lanes, _, _, rfl, rfl, rfl, rfl, by decide +kernel⟩

theorem witness_EpochSteps_4 : ∃ (s : State) (b : Blk), s.live = true ∧ s.atBoundary b = false :=
  ⟨eng0 run (fun x => { x with rx := .preamble 0 }), .plc0, rfl, by decide +kernel⟩

theorem witness_RequestIntake_1 : ∃ (s : State) (m : Bytes) (via : Via) (c : Instr), s.live = true ∧ via.transport < 2 ∧ c ∈ [Instr.read m via, Instr.write m via, Instr.readBlock m via, Instr.writeBlock m via, Instr.commit m via, Instr.subscribeCreate m via, Instr.subscribeCancel m via, Instr.subscribeRenew m via] ∧ s.dictOverload = false ∧ dictParse m = none :=
  ⟨run, [], ⟨0, 0, 0, 0, []⟩, .read [] ⟨0, 0, 0, 0, []⟩, rfl, by decide +kernel, by decide +kernel, by decide +kernel, by decide +kernel⟩

theorem witness_RequestIntake_2 : ∃ (s : State) (m : Bytes) (via : Via) (c : Instr), s.live = true ∧ via.transport < 2 ∧ c ∈ [Instr.read m via, Instr.write m via, Instr.readBlock m via, Instr.writeBlock m via, Instr.commit m via, Instr.subscribeCreate m via, Instr.subscribeCancel m via, Instr.subscribeRenew m via] ∧ s.dictOverload = true :=
  ⟨{ run with dict := { run.dict with windowCount := 100000 } }, [], ⟨1, 0, 0, 0, []⟩, .commit [] ⟨1, 0, 0, 0, []⟩, rfl, by decide +kernel, by decide +kernel, by decide +kernel⟩

theorem witness_LastGoodState_1 : ∃ (it : Item) (m : Meter), it.isReading = true ∧ it.outcome ≤ 1 ∧ m.lgId < it.reading.interval :=
  ⟨{ item 1 9 with reading := { (default : Reading) with interval := 1 }, frame := ones }, default, by decide +kernel, by decide +kernel, by decide +kernel⟩

theorem witness_LastGoodState_2 : ∃ (it : Item) (m : Meter), it.isReading = true ∧ (1 < it.outcome ∨ it.reading.interval ≤ m.lgId) :=
  ⟨{ item 1 9 with reading := { (default : Reading) with interval := 0 }, frame := ones }, default, by decide +kernel, by decide +kernel⟩

theorem witness_MeterSecurity_9 : ∃ (s : State) (r : Rekey), s.running = true ∧ (List.find? (fun x => x.meter == r.meter) s.mtr.rekeys = some r) ∧ r.stalled = false ∧ r.asked = false ∧ r.sends = 0 ∧ r.dueAt ≤ s.now :=
  ⟨{ met with mtr := { met.mtr with rekeys := [⟨0, 0, 0, false, 0, false⟩] } }, ⟨0, 0, 0, false, 0, false⟩, rfl, rfl, by decide +kernel, by decide +kernel, by decide +kernel, by decide +kernel⟩

theorem witness_MeterSecurity_10 : ∃ (s : State) (r : Rekey) (m : Meter), s.running = true ∧ (List.find? (fun x => x.meter == r.meter) s.mtr.rekeys = some r) ∧ s.meter r.meter = some m ∧ r.stalled = false ∧ r.asked = false ∧ 0 < r.sends ∧ r.sends < 8 ∧ r.dueAt ≤ s.now :=
  ⟨{ met with mtr := { met.mtr with rekeys := [⟨0, 7, 0, false, 0, false⟩] } }, ⟨0, 7, 0, false, 0, false⟩, _, rfl, rfl, rfl, by decide +kernel, by decide +kernel, by decide +kernel, by decide +kernel, by decide +kernel⟩

theorem witness_MeterSecurity_11 : ∃ (s : State) (r : Rekey) (m : Meter), s.running = true ∧ (List.find? (fun x => x.meter == r.meter) s.mtr.rekeys = some r) ∧ s.meter r.meter = some m ∧ r.stalled = false ∧ r.asked = false ∧ 8 ≤ r.sends ∧ r.dueAt ≤ s.now :=
  ⟨{ met with mtr := { met.mtr with rekeys := [⟨0, 8, 0, false, 0, false⟩] } }, ⟨0, 8, 0, false, 0, false⟩, _, rfl, rfl, rfl, by decide +kernel, by decide +kernel, by decide +kernel, by decide +kernel⟩

theorem witness_MeterSecurity_12 : ∃ (s : State) (r : Rekey), (List.find? (fun x => x.meter == r.meter) s.mtr.rekeys = some r) ∧ r.stalled = false :=
  ⟨{ met with mtr := { met.mtr with rekeys := [⟨0, 8, 0, false, 0, false⟩] } }, ⟨0, 8, 0, false, 0, false⟩, rfl, by decide +kernel⟩

theorem witness_MeterSecurity_15 : ∃ (s : State) (s1 : State) (b : Bytes) (m : Meter), s.running = true ∧ s.popPacket 48 = some (s1, b, false) ∧ (s1.raiseDlFc (joinAnswerOf b).meter).meter (joinAnswerOf b).meter = some m ∧ (joinAnswerOf b).route ≤ 2 ∧ ((s1.raiseDlFc (joinAnswerOf b).meter).joinAcceptBody (joinAnswerOf b) m).2 = none :=
  ⟨holding met 48 (zeros 12), rest (holding met 48 (zeros 12)) 48, front (holding met 48 (zeros 12)) 48, _, rfl, popped (by decide +kernel) (by decide +kernel), rfl, by decide +kernel, rfl⟩

set_option maxRecDepth 20000 in

theorem witness_LaneFront_2 : ∃ (s : State) (b : Fin 64) (m : Moving), s.live = true ∧ s.syncMap = s ∧ (List.find? (fun m => m.bucket == ↑b) s.lane.moving = some m) ∧ m.switched = false ∧ s.bucketBusy m.old ↑b = false ∧ m.held.length ≤ 4 - (s.laneOf m.new).input.length :=
  ⟨{ run with lane := { run.lane with map := run.lane.map.set 41 0, moving := [⟨41, 0, 1, false, []⟩] } }, 41, ⟨41, 0, 1, false, []⟩, rfl, rfl, rfl, by decide +kernel, by decide +kernel, by decide +kernel⟩

set_option maxRecDepth 20000 in

theorem witness_LaneFront_3 : ∃ (s : State) (b : Fin 64) (m : Moving), s.live = true ∧ s.syncMap = s ∧ (List.find? (fun m => m.bucket == ↑b) s.lane.moving = some m) ∧ m.switched = false ∧ s.bucketBusy m.old ↑b = true :=
  ⟨{ run with lane := { run.lane with map := run.lane.map.set 41 0, moving := [⟨41, 0, 1, false, []⟩], lanes := upd run.lane.lanes 0 (fun x => { x with items := [item 1 2] }) } }, 41, ⟨41, 0, 1, false, []⟩, rfl, rfl, rfl, by decide +kernel, by decide +kernel⟩

set_option maxRecDepth 20000 in

theorem witness_LaneFront_4 : ∃ (s : State) (b : Fin 64) (m : Moving), s.live = true ∧ s.syncMap = s ∧ (List.find? (fun m => m.bucket == ↑b) s.lane.moving = some m) ∧ m.switched = true :=
  ⟨{ run with lane := { run.lane with map := run.lane.map.set 41 0, moving := [⟨41, 0, 1, true, []⟩] } }, 41, ⟨41, 0, 1, true, []⟩, rfl, rfl, rfl, by decide +kernel⟩

theorem witness_LaneFront_5 : ∃ (s : State) (m : Moving), 4 - (s.laneOf m.new).input.length < m.held.length :=
  ⟨run, ⟨0, 0, 0, true, List.replicate 5 default⟩, by decide +kernel⟩

theorem witness_LaneFront_8 : ∃ (s : State) (l : Fin 4) (i : Nat) (it : Item), LanesRun s ∧ s.item (↑l) i = some it ∧ it.next = 2 ∧ it.held = false ∧ (s.laneOf ↑l).mayEnter { it with ident := i } 2 = false :=
  ⟨inLane [item 1 2, item 2 2], 0, 2, _, ⟨rfl, rfl⟩, rfl, rfl, rfl, rfl⟩

theorem witness_LaneFront_9 : ∃ (s : State) (l : Fin 4) (i : Nat) (it : Item), LanesRun s ∧ s.item (↑l) i = some it ∧ it.next = 2 ∧ it.held = false ∧ (s.laneOf ↑l).mayEnter { it with ident := i } 2 = true ∧ (s.laneOf ↑l).mustHold it = true ∧ ((List.filter (fun x => x.held) (s.laneOf ↑l).items).length < 8) :=
  ⟨inLane [{ item 1 3 with isCtl := true }, item 2 2], 0, 2, _, ⟨rfl, rfl⟩, rfl, rfl, rfl, rfl, rfl, by decide +kernel⟩

theorem witness_LaneFront_10 : ∃ (s : State) (l : Fin 4) (i : Nat) (it : Item), LanesRun s ∧ s.item (↑l) i = some it ∧ it.next = 2 ∧ (s.laneOf ↑l).mustHold it = true ∧ (it.held = true ∨ 8 ≤ (List.filter (fun x => x.held) (s.laneOf ↑l).items).length) :=
  ⟨inLane [{ item 1 3 with isCtl := true }, { item 2 2 with held := true }], 0, 2, _, ⟨rfl, rfl⟩, rfl, rfl, rfl, by decide +kernel⟩

theorem witness_LaneFront_11 : ∃ (s : State) (l : Fin 4) (i : Nat) (it : Item), LanesRun s ∧ s.item (↑l) i = some it ∧ it.next = 2 ∧ (it.held = true ∨ (s.laneOf ↑l).mayEnter { it with ident := i } 2 = true) ∧ (s.laneOf ↑l).mustHold it = false ∧ it.isCtl = false ∧ fType it.frame ≠ 3 ∧ s.indexOf it.eui = none :=
  ⟨inLane [{ item 1 2 with frame := 0x10#8 :: List.replicate 39 9 }], 0, 1, _, ⟨rfl, rfl⟩, rfl, rfl, by decide +kernel, rfl, rfl, by decide +kernel, rfl⟩

theorem witness_LaneFront_12 : ∃ (s : State) (l : Fin 4) (i : Nat) (it : Item) (k : Nat) (m : Meter), LanesRun s ∧ s.item (↑l) i = some it ∧ it.next = 2 ∧ (it.held = true ∨ (s.laneOf ↑l).mayEnter { it with ident := i } 2 = true) ∧ (s.laneOf ↑l).mustHold it = false ∧ it.isCtl = false ∧ fType it.frame ≠ 3 ∧ it.plain = false ∧ s.indexOf it.eui = some k ∧ s.meter k = some m :=
  ⟨(having default).updLane 0 (fun x => { x with items := [item 1 2] }), 0, 1, _, _, _, ⟨rfl, rfl⟩, rfl, rfl, by decide +kernel, rfl, rfl, by decide +kernel, rfl, rfl, rfl⟩

theorem witness_LaneFront_13 : ∃ (s : State) (l : Fin 4) (i : Nat) (it : Item), LanesRun s ∧ s.item (↑l) i = some it ∧ it.next = 3 ∧ (s.laneOf ↑l).mayEnter it 3 = true ∧ (((s.laneOf ↑l).items.any fun y => y.next == 4 && y.mark.isNone) = false) ∧ s.cfgIn it.cfg (14336 + it.family) 1 ≠ 255 :=
  ⟨inLane [{ item 1 3 with cfg := [(objKey 14336 1, [2])] }], 0, 1, _, ⟨rfl, rfl⟩, rfl, rfl, rfl, by decide +kernel, by decide +kernel⟩

theorem witness_LaneFront_15 : ∃ (s : State) (l : Fin 4) (i : Nat) (it : Item), LanesRun s ∧ s.item (↑l) i = some it ∧ it.next = 4 ∧ (s.laneOf ↑l).mayEnter it 4 = true :=
  ⟨inLane [item 1 4], 0, 1, _, ⟨rfl, rfl⟩, rfl, rfl, rfl⟩

theorem witness_LaneMiddle_1 : ∃ (s : State) (l : Fin 4) (i : Nat) (it : Item) (m : Meter), LanesRun s ∧ s.item (↑l) i = some it ∧ it.next = 5 ∧ (s.laneOf ↑l).mayEnter it 5 = true ∧ (it.rewinding = true ∨ s.portBusy ↑l = false) ∧ s.stageInput (↑l) 5 it = some m :=
  ⟨inLane [item 1 5], 0, 1, _, _, ⟨rfl, rfl⟩, rfl, rfl, rfl, by decide +kernel, rfl⟩

theorem witness_LaneMiddle_2 : ∃ (s : State) (l : Fin 4) (i : Nat) (it : Item) (m : Meter) (g : Meter), LanesRun s ∧ s.item (↑l) i = some it ∧ it.next = 6 ∧ (s.laneOf ↑l).mayEnter it 6 = true ∧ s.stageInput (↑l) 6 it = some m ∧ s.stageInput (↑l) 7 it = some g :=
  ⟨inLane [item 1 6], 0, 1, _, _, _, ⟨rfl, rfl⟩, rfl, rfl, rfl, rfl, rfl⟩

theorem witness_LaneMiddle_3 : ∃ (s : State) (l : Fin 4) (i : Nat) (it : Item) (m : Meter), LanesRun s ∧ s.item (↑l) i = some it ∧ it.next = 7 ∧ (s.laneOf ↑l).mayEnter it 7 = true ∧ s.stageInput (↑l) 7 it = some m :=
  ⟨inLane [item 1 7], 0, 1, _, _, ⟨rfl, rfl⟩, rfl, rfl, rfl, rfl⟩

theorem witness_LaneMiddle_4 : ∃ (s : State) (l : Fin 4) (i : Nat) (it : Item) (m : Meter), LanesRun s ∧ s.item (↑l) i = some it ∧ it.next = 8 ∧ (s.laneOf ↑l).mayEnter it 8 = true ∧ s.stageInput (↑l) 8 it = some m :=
  ⟨inLane [item 1 8], 0, 1, _, _, ⟨rfl, rfl⟩, rfl, rfl, rfl, rfl⟩

theorem witness_LaneMiddle_5 : ∃ (s : State) (l : Fin 4) (i : Nat) (it : Item) (m : Meter), LanesRun s ∧ s.item (↑l) i = some it ∧ it.next = 9 ∧ (s.laneOf ↑l).mayEnter it 9 = true ∧ s.stageInput (↑l) 9 it = some m :=
  ⟨inLane [item 1 9], 0, 1, _, _, ⟨rfl, rfl⟩, rfl, rfl, rfl, rfl⟩

theorem witness_LaneMiddle_6 : ∃ (s : State) (l : Fin 4) (i : Nat) (it : Item), LanesRun s ∧ s.item (↑l) i = some it ∧ it.next = 5 ∧ it.rewinding = false ∧ s.portBusy ↑l = true :=
  ⟨inLane [{ item 1 5 with rewinding := true }, item 2 5], 0, 2, _, ⟨rfl, rfl⟩, rfl, rfl, rfl, by decide +kernel⟩

theorem witness_LaneMiddle_7 : ∃ (s : State) (l : Fin 4) (i : Nat) (it : Item) (k : Nat), LanesRun s ∧ s.item (↑l) i = some it ∧ it.next = k ∧ (s.stageInput (↑l) k it = none ∨ (s.laneOf ↑l).mayEnter it k = false) ∧ k = 5 :=
  ⟨inLane [item 1 5, { item 2 5 with producer := some 1 }], 0, 2, _, 5, ⟨rfl, rfl⟩, rfl, rfl, by decide +kernel, rfl⟩

theorem witness_LaneMiddle_8 : ∃ (s : State) (l : Fin 4) (i : Nat) (it : Item) (k : Nat), LanesRun s ∧ s.item (↑l) i = some it ∧ it.next = k ∧ (s.stageInput (↑l) k it = none ∨ (s.laneOf ↑l).mayEnter it k = false) ∧ k = 6 :=
  ⟨inLane [item 1 6, item 2 6], 0, 2, _, 6, ⟨rfl, rfl⟩, rfl, rfl, by decide +kernel, rfl⟩

theorem witness_LaneMiddle_9 : ∃ (s : State) (l : Fin 4) (i : Nat) (it : Item) (k : Nat), LanesRun s ∧ s.item (↑l) i = some it ∧ it.next = k ∧ (s.stageInput (↑l) k it = none ∨ (s.laneOf ↑l).mayEnter it k = false) ∧ k = 7 :=
  ⟨inLane [item 1 7, item 2 7], 0, 2, _, 7, ⟨rfl, rfl⟩, rfl, rfl, by decide +kernel, rfl⟩

theorem witness_LaneMiddle_10 : ∃ (s : State) (l : Fin 4) (i : Nat) (it : Item) (k : Nat), LanesRun s ∧ s.item (↑l) i = some it ∧ it.next = k ∧ (s.stageInput (↑l) k it = none ∨ (s.laneOf ↑l).mayEnter it k = false) ∧ k = 8 :=
  ⟨inLane [item 1 8, item 2 8], 0, 2, _, 8, ⟨rfl, rfl⟩, rfl, rfl, by decide +kernel, rfl⟩

theorem witness_LaneMiddle_11 : ∃ (s : State) (l : Fin 4) (i : Nat) (it : Item) (k : Nat), LanesRun s ∧ s.item (↑l) i = some it ∧ it.next = k ∧ (s.stageInput (↑l) k it = none ∨ (s.laneOf ↑l).mayEnter it k = false) ∧ k = 9 :=
  ⟨inLane [item 1 9, item 2 9], 0, 2, _, 9, ⟨rfl, rfl⟩, rfl, rfl, by decide +kernel, rfl⟩

theorem witness_LaneMiddle_12 : ∃ (it : Item) (m : Meter) (r : Reading), it.mark = none ∧ fType it.frame = 1 ∧ decodeReading m.base it.text = some r :=
  ⟨{ item 1 5 with frame := ones, text := zeros 4 ++ [0x11] ++ zeros 10 }, mm, _, by decide +kernel, by decide +kernel, rfl⟩

theorem witness_LaneMiddle_13 : ∃ (it : Item) (m : Meter), it.mark = none ∧ fType it.frame = 1 ∧ decodeReading m.base it.text = none :=
  ⟨{ item 1 5 with frame := ones }, mm, by decide +kernel, by decide +kernel, by decide +kernel⟩

theorem witness_LaneMiddle_14 : ∃ (it : Item), it.mark.isSome = true :=
  ⟨{ item 1 5 with mark := some 3 }, by decide +kernel⟩

theorem witness_LaneMiddle_15 : ∃ (it : Item), it.isReading = true ∧ it.undecodable = true :=
  ⟨{ item 1 7 with frame := ones, undecodable := true }, by decide +kernel, by decide +kernel⟩

theorem witness_LaneMiddle_16 : ∃ (it : Item), it.isReading = true :=
  ⟨{ item 1 7 with frame := ones }, by decide +kernel⟩

theorem witness_LaneMiddle_24 : ∃ (s : State) (it : Item) (m : Meter) (o : Nat) (c : Bool), it.mark = none ∧ it.tag = fTag it.frame ∧ fType it.frame ≠ 3 ∧ selectWindow m (fGen it.frame) s.secs32 (s.cfgIn it.cfg 14354 2) = Sum.inr (o, c) :=
  ⟨run, { item 1 9 with frame := ones, tag := List.replicate 12 1 }, mm, 3, true, by decide +kernel, by decide +kernel, by decide +kernel, by decide +kernel⟩

theorem witness_LaneMiddle_25 : ∃ (it : Item), it.mark = none ∧ it.tag = fTag it.frame ∧ fType it.frame = 3 :=
  ⟨{ item 1 9 with frame := 0x30#8 :: zeros 39, tag := zeros 12 }, by decide +kernel, by decide +kernel, by decide +kernel⟩

theorem witness_LaneBack_1 : ∃ (s : State) (l : Fin 4) (i : Nat) (it : Item), LanesRun s ∧ s.item (↑l) i = some it ∧ it.next = 10 ∧ (s.laneOf ↑l).mayEnter it 10 = false :=
  ⟨inLane [item 1 10, item 2 10], 0, 2, _, ⟨rfl, rfl⟩, rfl, rfl, rfl⟩

theorem witness_LaneBack_2 : ∃ (s : State) (l : Fin 4) (i : Nat) (it : Item), LanesRun s ∧ s.item (↑l) i = some it ∧ it.next = 10 ∧ (s.laneOf ↑l).mayEnter it 10 = true ∧ it.isCtl = true :=
  ⟨inLane [{ item 1 10 with isCtl := true }], 0, 1, _, ⟨rfl, rfl⟩, rfl, rfl, rfl, rfl⟩

theorem witness_LaneBack_3 : ∃ (s : State) (l : Fin 4) (i : Nat) (it : Item), LanesRun s ∧ s.item (↑l) i = some it ∧ it.next = 10 ∧ (s.laneOf ↑l).mayEnter it 10 = true ∧ it.isCtl = false ∧ it.unknown = true :=
  ⟨inLane [{ item 1 10 with unknown := true }], 0, 1, _, ⟨rfl, rfl⟩, rfl, rfl, rfl, rfl, rfl⟩

theorem witness_LaneBack_4 : ∃ (s : State) (l : Fin 4) (i : Nat) (it : Item), LanesRun s ∧ s.item (↑l) i = some it ∧ it.next = 10 ∧ (s.laneOf ↑l).mayEnter it 10 = true ∧ it.isCtl = false ∧ it.unknown = false ∧ it.slot ≠ 255 ∧ it.slotGen ≠ (s.laneOf ↑l).gens.getD it.slot 0 :=
  ⟨inLane [{ item 1 10 with slot := 2, slotGen := 1 }], 0, 1, _, ⟨rfl, rfl⟩, rfl, rfl, rfl, rfl, rfl, by decide +kernel, by decide +kernel⟩

theorem witness_LaneBack_5 : ∃ (s : State) (l : Fin 4) (i : Nat) (it : Item), LanesRun s ∧ s.item (↑l) i = some it ∧ it.next = 10 ∧ (s.laneOf ↑l).mayEnter it 10 = true ∧ it.isCtl = false ∧ it.unknown = false ∧ (it.slot = 255 ∨ it.slotGen = (s.laneOf ↑l).gens.getD it.slot 0) ∧ 2 ≤ it.verdict :=
  ⟨inLane [{ item 1 10 with verdict := 2 }], 0, 1, _, ⟨rfl, rfl⟩, rfl, rfl, rfl, rfl, rfl, by decide +kernel, by decide +kernel⟩

theorem witness_LaneBack_6 : ∃ (s : State) (l : Fin 4) (i : Nat) (it : Item) (k : Nat) (m : Meter), LanesRun s ∧ s.item (↑l) i = some it ∧ it.next = 10 ∧ (s.laneOf ↑l).mayEnter it 10 = true ∧ it.isCtl = false ∧ it.unknown = false ∧ (it.slot = 255 ∨ it.slotGen = (s.laneOf ↑l).gens.getD it.slot 0) ∧ it.verdict = 1 ∧ it.meter = some k ∧ s.meter k = some m :=
  ⟨inLane [{ item 1 10 with meter := some 0, verdict := 1 }], 0, 1, _, _, _, ⟨rfl, rfl⟩, rfl, rfl, rfl, rfl, rfl, by decide +kernel, rfl, rfl, rfl⟩

theorem witness_LaneBack_7 : ∃ (s : State) (l : Fin 4) (i : Nat) (it : Item) (k : Nat) (m : Meter), LanesRun s ∧ s.item (↑l) i = some it ∧ it.next = 10 ∧ (s.laneOf ↑l).mayEnter it 10 = true ∧ it.isCtl = false ∧ it.unknown = false ∧ (it.slot = 255 ∨ it.slotGen = (s.laneOf ↑l).gens.getD it.slot 0) ∧ it.verdict = 0 ∧ it.meter = some k ∧ s.meter k = some m :=
  ⟨inLane [{ item 1 10 with meter := some 0 }], 0, 1, _, _, _, ⟨rfl, rfl⟩, rfl, rfl, rfl, rfl, rfl, by decide +kernel, rfl, rfl, rfl⟩

theorem witness_LaneBack_11 : ∃ (s : State) (l : Fin 4) (i : Nat) (it : Item) (t : State), LanesRun s ∧ (List.find? (fun y => y.ident == i) (s.laneOf ↑l).done = some it) ∧ it.next = 11 ∧ (((List.takeWhile (fun y => y.ident != i) (s.laneOf ↑l).done).any fun y => y.eui == it.eui && y.next == 11) = false) ∧ (((s.pushEach (laneCell ↑l) (List.map (fun b => (40, b)) it.records)).bind fun t => t.issueAck (↑l) it) = some t) :=
  ⟨doneLane [item 1 11], 0, 1, _, _, ⟨rfl, rfl⟩, rfl, rfl, rfl, got (by decide +kernel)⟩

theorem witness_LaneBack_12 : ∃ (s : State) (l : Fin 4) (i : Nat) (it : Item), LanesRun s ∧ (List.find? (fun y => y.ident == i) (s.laneOf ↑l).done = some it) ∧ it.next = 11 ∧ (((s.pushEach (laneCell ↑l) (List.map (fun b => (40, b)) it.records)).bind fun t => t.issueAck (↑l) it) = none) :=
  ⟨shut (doneLane [{ item 1 11 with records := [zeros 32] }]) 40, 0, 1, _, ⟨rfl, rfl⟩, rfl, rfl, rfl⟩

theorem witness_LaneBack_13 : ∃ (s : State) (l : Fin 4) (i : Nat) (it : Item), LanesRun s ∧ (List.find? (fun y => y.ident == i) (s.laneOf ↑l).done = some it) ∧ it.next = 12 ∧ s.pushReserved (it.exportPacket ↑l).1 (laneCell ↑l) (it.exportPacket ↑l).2 = none :=
  ⟨shut (doneLane [item 1 12]) 16, 0, 1, _, ⟨rfl, rfl⟩, rfl, rfl, rfl⟩

theorem witness_VeeRecords_7 : ∃ (w0 : VeeWork) (k : ClassCfg) (m : Nat) (r : Bytes), rMethod r = 0 ∧ rOutcome r ≠ 2 ∧ (((w0.hist m fun h => h.raise (rInterval r)).1.histOf m).at (rInterval r) = HistState.estimated) ∧ ((w0.hist m fun h => h.raise (rInterval r)).1.lateOk k ((w0.hist m fun h => h.raise (rInterval r)).1.histOf m) (rInterval r) = true) :=
  ⟨VeeWork.hist (met, ⟨[], [], []⟩) 0 (fun h => (h.raise 5).set 5 .estimated), default, 0, leBytes 4 5 ++ zeros 28, by decide +kernel, by decide +kernel, by decide +kernel, by decide +kernel⟩

theorem witness_VeeRecords_8 : ∃ (w0 : VeeWork) (k : ClassCfg) (m : Nat) (r : Bytes), rMethod r = 0 ∧ rOutcome r ≠ 2 ∧ (((w0.hist m fun h => h.raise (rInterval r)).1.histOf m).at (rInterval r) = HistState.estimated) ∧ ((w0.hist m fun h => h.raise (rInterval r)).1.lateOk k ((w0.hist m fun h => h.raise (rInterval r)).1.histOf m) (rInterval r) = false) :=
  ⟨VeeWork.hist (secs met (10 ^ 9), ⟨[], [], []⟩) 0 (fun h => (h.raise 5).set 0 .estimated), default, 0, zeros 32, by decide +kernel, by decide +kernel, by decide +kernel, by decide +kernel⟩

theorem witness_VeeRecords_12 : ∃ (w0 : VeeWork) (m : Nat) (r : Bytes), rMethod r ≠ 0 ∧ (((w0.hist m fun h => h.raise (rInterval r)).1.histOf m).at (rInterval r) = HistState.estimated) :=
  ⟨VeeWork.hist (met, ⟨[], [], []⟩) 0 (fun h => (h.raise 5).set 5 .estimated), 0, leBytes 4 5 ++ [0, 0, 0, 4] ++ zeros 24, by decide +kernel, by decide +kernel⟩

theorem witness_HistoryAndEdits_1 : ∃ (s : State) (s1 : State) (m : Nat), s.running = true ∧ s.inService 8960 = true ∧ s.storeReads = true ∧ s.vee.toRebuild.contains m = true ∧ s.askStore 43 8960 m 0 = some s1 :=
  ⟨ready { met with vee := { met.vee with toRebuild := [0] } }, _, 0, rfl, by decide +kernel, by decide +kernel, by decide +kernel, rfl⟩

theorem witness_HistoryAndEdits_2 : ∃ (s : State) (m : Nat), s.running = true ∧ s.inService 8960 = true ∧ s.storeReads = true ∧ s.vee.toRebuild.contains m = true ∧ s.askStore 43 8960 m 0 = none :=
  ⟨shut (ready { met with vee := { met.vee with toRebuild := [0] } }) 43, 0, rfl, by decide +kernel, by decide +kernel, by decide +kernel, by decide +kernel⟩

theorem witness_HistoryAndEdits_5 : ∃ (s : State) (m : Nat) (hi : Nat) (mr : Meter), s.running = true ∧ s.meter m = some mr ∧ s.hasPacket 40 = false ∧ s.inService 8960 = true ∧ s.vee.toRebuild.contains m = false ∧ (s.histOf m).firstReal = none ∧ (s.histOf m).high = some hi :=
  ⟨{ met with vee := { met.vee with hist := [(0, { (default : Hist) with high := some 3 })] } }, 0, _, _, rfl, rfl, by decide +kernel, by decide +kernel, by decide +kernel, by decide +kernel, rfl⟩

set_option maxRecDepth 20000 in

theorem witness_HistoryAndEdits_10 : ∃ (s : State) (s1 : State) (b : Bytes) (ab : Bool) (mr : Meter), s.running = true ∧ s.hasPacket 40 = false ∧ s.inService 8960 = true ∧ s.popPacket 44 = some (s1, b, ab) ∧ s1.meter (editOf b).meter = some mr ∧ (s1.histOf (editOf b).meter).below (editOf b).interval = true :=
  ⟨{ holding met 44 (zeros 40) with vee := { met.vee with hist := [(0, { (default : Hist) with high := some 5000 })] } }, _, _, _, _, rfl, by decide +kernel, by decide +kernel, rfl, rfl, rfl⟩

theorem witness_Sensing_9 : ∃ (s : State) (steer : Int), s.live = true ∧ (steer < -20000 ∨ 20000 < steer) ∧ s.sense.locked = false :=
  ⟨{ run with sense := { run.sense with locked := false } }, 20001, rfl, by decide +kernel, by decide +kernel⟩

theorem witness_Sensing_12 : ∃ (s : State), s.live = true ∧ blockIndex (s.instantNow gridStep) = 1599 :=
  ⟨dom0 run (fun d => { d with offset := 1599 * 8192000000 }), rfl, by decide +kernel⟩

theorem witness_Sensing_14 : ∃ (s : State) (p : Nat), p < 3 ∧ bit s.sense.resetMask p = true :=
  ⟨{ run with sense := { run.sense with resetMask := 1 } }, 0, by decide +kernel, by decide +kernel⟩

theorem witness_Sensing_19 : ∃ (s : State) (c : Fin 8), s.live = true ∧ s.chanOn ↑c = false :=
  ⟨sett run 0x2000 1 [0], 7, rfl, by decide +kernel⟩

theorem witness_Sensing_20 : ∃ (s : State) (c : Fin 8), s.live = true ∧ s.chanOn ↑c = true ∧ 3 ≤ ↑c :=
  ⟨sett run 0x2000 1 [255], 3, rfl, by decide +kernel, by decide +kernel⟩

theorem witness_Sensing_23 : ∃ (s : State) (p : Nat) (rms : Nat), p < s.sense.phases.length ∧ (at' s.sense.phases p).sag ≠ none ∧ (s.cfgN 8465 1 + s.cfgN 8465 3) * s.cfgN 8192 3 < rms * 100 :=
  ⟨phase0 (sett run 0x2000 3 (leBytes 4 230000)) (fun x => { x with sag := some (0, 0) }), 0, 230000, by decide +kernel, by decide +kernel, by decide +kernel⟩

theorem witness_Sensing_24 : ∃ (s : State) (p : Fin 3), s.live = true ∧ s.sense.phases.length = 3 ∧ (at' s.sense.phases ↑p).lost = false ∧ ((at' s.sense.phases ↑p).since + cNs (3000000000 / s.cfgN 8192 2) ≤ s.now ∨ s.chanFenced ↑p = true) :=
  ⟨phase0 (clock run (10 ^ 12)) (fun x => { x with lost := false }), 0, rfl, by decide +kernel, by decide +kernel, by decide +kernel⟩

theorem witness_Balance_9 : ∃ (s : State) (g : Fin 4096) (x : Group), s.live = true ∧ s.inService 9216 = true ∧ lookupKey (↑g) s.bal.groups = some x ∧ ↑((x.lastClosed + 2) * gLen x.entry * 60 + s.cfgB Blk.balance 9216 1) ≤ s.utcNow ∧ gEnabled (s.groupNow ↑g) = true ∧ (gLen (s.groupNow ↑g) ≠ gLen x.entry ∨ gCheckSupply (s.groupNow ↑g) ≠ gCheckSupply x.entry) :=
  ⟨sett (secs (grouped 5 { (default : Group) with entry := entry }) 100000) 0x2410 0 (zeros 160 ++ [1, 30] ++ zeros 30), 5, _, rfl, by decide +kernel, rfl, by decide +kernel, by decide +kernel, by decide +kernel⟩

theorem witness_Balance_10 : ∃ (s : State) (g : Fin 4096) (x : Group), s.live = true ∧ s.inService 9216 = true ∧ lookupKey (↑g) s.bal.groups = some x ∧ ↑((x.lastClosed + 2) * gLen x.entry * 60 + s.cfgB Blk.balance 9216 1) ≤ s.utcNow ∧ gEnabled (s.groupNow ↑g) = true ∧ gLen (s.groupNow ↑g) = gLen x.entry ∧ gCheckSupply (s.groupNow ↑g) = gCheckSupply x.entry ∧ gCascade (s.groupNow ↑g) = false ∧ closeInterval (↑g) x (s.groupNow ↑g) s ≠ (s.correlateFrom (↑g) x.entry (s.groupNow ↑g)).backpressure 18 :=
  ⟨sett (secs (grouped 5 { (default : Group) with entry := entry, lastClosed := 0 }) 100000) 0x2410 0 (zeros 160 ++ entry), 5, _, rfl, by decide +kernel, rfl, by decide +kernel, by decide +kernel, by decide +kernel, by decide +kernel, by decide +kernel, by decide +kernel⟩

theorem witness_PhaseAndMembership_5 : ∃ (s : State) (role : Nat) (i : Nat) (m : Meter) (g : Nat), TakesCommands s ∧ roleMay role .operator = true ∧ s.selected = some (i, m) ∧ g ≤ 4095 ∧ s.addRefusal m g ≠ 0 :=
  ⟨having { mm with groups := [1, 2, 3, 4] }, 1, _, _, 5, ⟨rfl, rfl, rfl⟩, by decide +kernel, rfl, by decide +kernel, by decide +kernel⟩

theorem witness_PhaseAndMembership_6 : ∃ (s : State) (role : Nat) (i : Nat) (m : Meter) (g : Nat), TakesCommands s ∧ roleMay role .operator = true ∧ s.selected = some (i, m) ∧ 4095 < g :=
  ⟨met, 1, _, _, 4096, ⟨rfl, rfl, rfl⟩, by decide +kernel, rfl, by decide +kernel⟩

theorem witness_PhaseAndMembership_7 : ∃ (s : State) (role : Nat) (i : Nat) (m : Meter) (g : Nat) (t : State), TakesCommands s ∧ roleMay role .operator = true ∧ s.selected = some (i, m) ∧ g ≤ 4095 ∧ removeRefusal m g = 0 ∧ s.sendCtl 33024 i 5 g 0 [] = some t :=
  ⟨met, 1, _, _, 1, _, ⟨rfl, rfl, rfl⟩, by decide +kernel, rfl, by decide +kernel, rfl, got (by decide +kernel)⟩

theorem witness_PlcReception_1 : ∃ (s : State) (s1 : State) (r : Bytes), s.live = true ∧ s.plc.v1 = none ∧ s.popPacket 50 = some (s1, r, false) ∧ bit (fieldLE r 13 1) 0 = false :=
  ⟨holding run 50 (zeros 14), _, _, rfl, by decide +kernel, popped (by decide +kernel) (by decide +kernel), rfl⟩

theorem witness_PlcReception_2 : ∃ (s : State) (s1 : State) (r : Bytes), s.live = true ∧ s.plc.v1 = none ∧ s.popPacket 50 = some (s1, r, false) ∧ bit (fieldLE r 13 1) 0 = true :=
  ⟨holding run 50 (zeros 13 ++ [1]), _, _, rfl, by decide +kernel, popped (by decide +kernel) (by decide +kernel), rfl⟩

theorem witness_PlcReception_4 : ∃ (s : State) (e : Fin 3), s.live = true ∧ (s.eng ↑e).nextCycle s.td0 = none ∧ ((s.eng ↑e).cycleAt s.td0).1 + ↑((s.eng ↑e).cycleAt s.td0).2 * 65536 ≤ s.td0 :=
  ⟨eng0 (secs run 1) (fun x => { x with cycles := [(0, 1000000)] }), 0, rfl, by decide +kernel, by decide +kernel⟩

theorem witness_PlcReception_6 : ∃ (s : State) (e : Fin 3) (c : Int × Nat), s.live = true ∧ (s.eng ↑e).nextCycle s.td0 = some c :=
  ⟨eng0 run (fun x => { x with cycles := [(0, 1000000), (65536000000, 1000000)] }), 0, _, rfl, rfl⟩

theorem witness_PlcReception_7 : ∃ (s : State) (e : Fin 3) (r : Bytes) (b : Int × Nat), s.live = true ∧ s.plc.v1 = some r ∧ s.boundaryNow ↑e = some b ∧ (s.eng ↑e).free = true ∧ (s.eng ↑e).reanchor = true ∧ (s.eng ↑e).rx = PlcRx.search ∧ (s.eng ↑e).sendUntil ≤ s.now ∧ bit (fieldLE r 13 1) 0 = false ∧ s.plc.freeRaised = false :=
  ⟨eng0 { run with plc := { run.plc with v1 := some (zeros 14) } } (fun x => { x with reanchor := true }), 0, _, _, rfl, rfl, rfl, by decide +kernel, by decide +kernel, by decide +kernel, by decide +kernel, rfl, by decide +kernel⟩

theorem witness_PlcReception_8 : ∃ (s : State) (e : Fin 3), s.live = true ∧ ((s.eng ↑e).free = false ∨ s.boundaryNow ↑e = none) :=
  ⟨eng0 run (fun x => { x with free := false }), 0, rfl, by decide +kernel⟩

theorem witness_PlcReception_12 : ∃ (s : State) (e : Fin 3) (since : Nat) (wrong : Nat), s.running = true ∧ (s.eng ↑e).rx = PlcRx.preamble since ∧ 2 < wrong ∧ s.now ≤ since + symCounts (s.band ↑e) 20 :=
  ⟨eng0 run (fun x => { x with rx := .preamble 0 }), 0, _, 3, rfl, rfl, by decide +kernel, by decide +kernel⟩

theorem witness_PlcReception_13 : ∃ (s : State) (e : Fin 3) (since : Nat), s.running = true ∧ (s.eng ↑e).rx = PlcRx.preamble since ∧ since + symCounts (s.band ↑e) 20 < s.now :=
  ⟨clock (eng0 run (fun x => { x with rx := .preamble 0 })) (10 ^ 12), 0, _, rfl, rfl, by decide +kernel⟩

theorem witness_PlcReception_14 : ∃ (s : State) (e : Fin 3) (since : Nat), s.running = true ∧ (s.eng ↑e).rx = PlcRx.preamble since ∧ since + symCounts (s.band ↑e) 20 ≤ s.now :=
  ⟨clock (eng0 run (fun x => { x with rx := .preamble 0 })) (10 ^ 12), 0, _, rfl, rfl, by decide +kernel⟩

theorem witness_PlcReception_15 : ∃ (s : State) (e : Fin 3) (since : Nat), s.running = true ∧ (s.eng ↑e).rx = PlcRx.preamble since ∧ s.now < since + symCounts (s.band ↑e) 20 :=
  ⟨eng0 run (fun x => { x with rx := .preamble 0 }), 0, _, rfl, rfl, by decide +kernel⟩

theorem witness_PlcReception_16 : ∃ (s : State) (e : Fin 3) (stamp : Int), s.running = true ∧ (s.eng ↑e).rx = PlcRx.synced stamp ∧ (List.take (headSymbols (s.band ↑e)) ((s.eng ↑e).symbols (s.band ↑e) (frameSpan (s.band ↑e) stamp 0).1)).length < headSymbols (s.band ↑e) :=
  ⟨eng0 run (fun x => { x with rx := .synced 0 }), 0, _, rfl, rfl, by decide +kernel⟩

set_option maxRecDepth 20000 in

theorem witness_PlcReception_17 : ∃ (s : State) (e : Fin 3) (stamp : Int), s.running = true ∧ (s.eng ↑e).rx = PlcRx.synced stamp ∧ headSymbols (s.band ↑e) ≤ (List.take (headSymbols (s.band ↑e)) ((s.eng ↑e).symbols (s.band ↑e) (frameSpan (s.band ↑e) stamp 0).1)).length ∧ plcHeaderOk (bytesOfBits 9 (headerBits (s.band ↑e) (List.take (headSymbols (s.band ↑e)) ((s.eng ↑e).symbols (s.band ↑e) (frameSpan (s.band ↑e) stamp 0).1)))) = false :=
  ⟨eng0 run (fun x => { x with rx := .synced 0, syms := List.replicate 60 (List.replicate 80 0) }), 0, _, rfl, rfl, by decide +kernel, rfl⟩

theorem witness_PlcReception_21 : ∃ (s : State) (e : Fin 3) (stamp : Int) (h : Bytes), s.running = true ∧ (s.eng ↑e).rx = PlcRx.payload stamp h ∧ (List.take (hdrDur h) (List.drop (headSymbols (s.band ↑e)) ((s.eng ↑e).symbols (s.band ↑e) (frameSpan (s.band ↑e) stamp (hdrDur h)).1))).length < hdrDur h :=
  ⟨eng0 run (fun x => { x with rx := .payload 0 (header 0xFFFE 8) }), 0, _, _, rfl, rfl, by decide +kernel⟩

theorem witness_PlcReception_24 : ∃ (s : State) (e : Fin 3), s.running = true ∧ (s.eng ↑e).unknownEnd = true ∧ 2 ≤ (s.eng ↑e).quiet :=
  ⟨eng0 run (fun x => { x with unknownEnd := true, quiet := 2 }), 0, rfl, by decide +kernel, by decide +kernel⟩

theorem witness_PlcAccess_2 : ∃ (s : State) (e : Fin 3), s.running = true ∧ (s.engineOn ↑e = false ∨ s.now < (s.eng ↑e).sendUntil) :=
  ⟨sett run 0x2800 1 [0], 0, rfl, by decide +kernel⟩

theorem witness_PlcAccess_4 : ∃ (s : State) (e : Fin 3) (f : Bytes) (id : Nat) (b : Int × Nat), s.running = true ∧ (s.eng ↑e).txReq = some (f, id) ∧ s.engineOn ↑e = true ∧ s.boundaryNow ↑e = some b ∧ (s.eng ↑e).sendUntil ≤ s.now ∧ s.plc.engines.length = 3 :=
  ⟨eng0 (sett run 0x2800 1 [7]) (fun x => { x with txReq := some ([0], 1) }), 0, _, _, _, rfl, rfl, by decide +kernel, rfl, by decide +kernel, by decide +kernel⟩

theorem witness_PlcAccess_5 : ∃ (s : State) (e : Fin 3) (f : Bytes) (id : Nat), s.running = true ∧ (s.eng ↑e).txReq = some (f, id) ∧ s.engineOn ↑e = true ∧ (s.boundaryNow ↑e = none ∨ s.now < (s.eng ↑e).sendUntil) :=
  ⟨eng0 (sett run 0x2800 1 [7]) (fun x => { x with txReq := some ([0], 1), sendUntil := 1 }), 0, _, _, rfl, rfl, by decide +kernel, by decide +kernel⟩

theorem witness_PlcAccess_6 : ∃ (s : State) (e : Fin 3) (f : Bytes) (id : Nat), s.running = true ∧ (s.eng ↑e).txReq = some (f, id) ∧ s.engineOn ↑e = false :=
  ⟨eng0 (sett run 0x2800 1 [0]) (fun x => { x with txReq := some ([0], 1) }), 0, _, _, rfl, rfl, by decide +kernel⟩

theorem witness_PlcAccess_8 : ∃ (s : State) (e : Fin 3) (b : Int × Nat), s.running = true ∧ s.macFetch ↑e = s ∧ s.boundaryNow ↑e = some b ∧ (s.eng ↑e).openA = some b.1 ∧ (List.find? (fun a => a.deadline == (s.eng ↑e).deadline) (s.eng ↑e).acks = none) :=
  ⟨eng0 (sett run 0x2800 1 [7]) (fun x => { x with openA := some 0 }), 0, _, rfl, rfl, rfl, rfl, by decide +kernel⟩

theorem witness_PlcAccess_10 : ∃ (s : State) (e : Fin 3) (b : Int × Nat) (a : AckReq), s.running = true ∧ s.macFetch ↑e = s ∧ s.boundaryNow ↑e = some b ∧ (s.eng ↑e).openA = some b.1 ∧ (List.find? (fun a => a.deadline == (s.eng ↑e).deadline) (s.eng ↑e).acks = some a) ∧ s.engineOn ↑e = true ∧ (s.eng ↑e).ackMine = true ∧ s.mediumBusy (↑e) b.1 = false ∧ (s.eng ↑e).deadline ≠ 0 ∧ (((s.updEng ↑e fun y => { y with ackMine := false, acks := [] }).buildAck a (Path.route ((s.updEng ↑e fun y => { y with ackMine := false, acks := [] }).ackHops (↑e) ((s.updEng ↑e fun y => { y with ackMine := false, acks := [] }).meter a.meter) (s.eng ↑e).lastHops)) ((s.eng ↑e).ready.any fun f => f.meter == a.meter) ((s.updEng ↑e fun y => { y with ackMine := false, acks := [] }).mapReport (↑e) (s.eng ↑e).lastTx)).2 = none) :=
  ⟨eng0 (sett run 0x2800 1 [7]) (fun x => { x with openA := some 0, ackMine := true, deadline := 7, symClear := true, acks := [{ (default : AckReq) with deadline := 7 }] }), 0, _, _, rfl, rfl, rfl, rfl, rfl, by decide +kernel, by decide +kernel, rfl, by decide +kernel, rfl⟩

theorem witness_PlcAccess_11 : ∃ (s : State) (e : Fin 3) (f : MacFrame) (b : Int × Nat), s.running = true ∧ s.macFetch ↑e = s ∧ s.boundaryNow ↑e = some b ∧ s.engineOn ↑e = true ∧ (s.eng ↑e).doneB ≠ some b.1 ∧ bestFrame (s.eng ↑e).ready = some f ∧ (s.eng ↑e).txReq = none ∧ (s.eng ↑e).mayStart b.1 f.prio = true ∧ s.mediumBusy (↑e) b.1 = true :=
  ⟨eng0 (sett run 0x2800 1 [7]) (fun x => { x with ready := [default], rx := .preamble 0 }), 0, _, _, rfl, rfl, rfl, by decide +kernel, by decide +kernel, rfl, by decide +kernel, rfl, rfl⟩

theorem witness_PlcAccess_12 : ∃ (s : State) (e : Fin 3) (f : MacFrame) (b : Int × Nat), s.running = true ∧ s.macFetch ↑e = s ∧ s.boundaryNow ↑e = some b ∧ s.engineOn ↑e = true ∧ (s.eng ↑e).doneB ≠ some b.1 ∧ bestFrame (s.eng ↑e).ready = some f ∧ (s.eng ↑e).txReq = none ∧ (s.eng ↑e).mayStart b.1 f.prio = true ∧ s.mediumBusy (↑e) b.1 = false ∧ f.backoff = 0 :=
  ⟨eng0 (sett run 0x2800 1 [7]) (fun x => { x with ready := [default], symClear := true }), 0, _, _, rfl, rfl, rfl, by decide +kernel, by decide +kernel, rfl, by decide +kernel, rfl, rfl, rfl⟩

theorem witness_PlcAccess_13 : ∃ (s : State) (e : Fin 3) (f : MacFrame) (b : Int × Nat), s.running = true ∧ s.macFetch ↑e = s ∧ s.boundaryNow ↑e = some b ∧ s.engineOn ↑e = true ∧ (s.eng ↑e).doneB ≠ some b.1 ∧ bestFrame (s.eng ↑e).ready = some f ∧ (s.eng ↑e).txReq = none ∧ (s.eng ↑e).mayStart b.1 f.prio = true ∧ s.mediumBusy (↑e) b.1 = false ∧ f.backoff ≠ 0 :=
  ⟨eng0 (sett run 0x2800 1 [7]) (fun x => { x with ready := [{ (default : MacFrame) with backoff := 3 }], symClear := true }), 0, _, _, rfl, rfl, rfl, by decide +kernel, by decide +kernel, rfl, by decide +kernel, rfl, rfl, by decide +kernel⟩

theorem witness_PlcAccess_14 : ∃ (s : State) (e : Fin 3) (b : Int × Nat), s.running = true ∧ s.macFetch ↑e = s ∧ s.boundaryNow ↑e = some b ∧ ((s.eng ↑e).doneB = some b.1 ∨ s.engineOn ↑e = false) :=
  ⟨sett run 0x2800 1 [0], 0, _, rfl, rfl, rfl, Or.inr rfl⟩

theorem witness_PlcAccess_20 : ∃ (s : State) (l : Link), s.live = true ∧ s.plc.links = [l] ∧ l.lastAt + cSec (s.cfgB (plcBlk (l.engine - 1)) 10320 5) ≤ s.now ∧ s.plc.routes = [] :=
  ⟨{ clock run (10 ^ 15) with plc := { run.plc with links := [⟨0, 5, 1, none, none, 0, 0, 0⟩] } }, _, rfl, rfl, by decide +kernel, by decide +kernel⟩

theorem witness_PlcAccess_22 : ∃ (s : State) (role : Nat) (i : Nat) (m : Meter) (v : Bytes), TakesCommands s ∧ roleMay role .operator = true ∧ s.selected = some (i, m) ∧ List.length v = 16 ∧ 1 ≤ fieldLE v 0 1 ∧ fieldLE v 0 1 ≤ 3 ∧ 7 < fieldLE v 1 1 :=
  ⟨met, 1, _, _, [3, 8] ++ zeros 14, ⟨rfl, rfl, rfl⟩, by decide +kernel, rfl, by decide +kernel, by decide +kernel, by decide +kernel, by decide +kernel⟩

theorem witness_RadioReception_9 : ∃ (s : State) (p : Fin 2) (samples : List (Int × Int)), s.live = true ∧ s.portOn ↑p = true ∧ s.inService (iqCell ↑p) = true ∧ s.portN (↑p) 16 ≠ 255 ∧ (s.port ↑p).powerBlocks < 99 ∧ ((samples.any fun v => v.1 == 2047 || v.1 == -2048 || v.2 == 2047 || v.2 == -2048) = false) :=
  ⟨sett rad 0x3001 16 [0], 0, [], rfl, by decide +kernel, by decide +kernel, by decide +kernel, by decide +kernel, by decide +kernel⟩

theorem witness_RadioReception_10 : ∃ (s : State) (p : Fin 2) (samples : List (Int × Int)), s.live = true ∧ s.portOn ↑p = true ∧ s.inService (iqCell ↑p) = true ∧ s.portN (↑p) 16 ≠ 255 ∧ (s.port ↑p).powerBlocks < 99 ∧ ((samples.any fun v => v.1 == 2047 || v.1 == -2048 || v.2 == 2047 || v.2 == -2048) = true) :=
  ⟨sett rad 0x3001 16 [0], 0, [(2047, 0)], rfl, by decide +kernel, by decide +kernel, by decide +kernel, by decide +kernel, by decide +kernel⟩

theorem witness_RadioReception_13 : ∃ (s : State) (p : Fin 2) (b : Bytes), s.live = true ∧ (s.mac ↑p).pending = some b ∧ s.slotBoundaryNow = true ∧ (s.mac ↑p).lastAsn ≠ asnOf (s.td 2) ∧ (fieldLE b 8 5 = 0 ∨ fieldLE b 8 5 ≤ asnOf (s.td 2)) :=
  ⟨mac0 (secs rad 1) (fun m => { m with pending := some (zeros 16), lastAsn := 7 }), 0, _, rfl, rfl, by decide +kernel, by decide +kernel, by decide +kernel⟩

theorem witness_RadioReception_16 : ∃ (s : State) (p : Fin 2), s.live = true ∧ s.portOn ↑p = true ∧ s.slotBoundaryNow = true ∧ (s.mac ↑p).lastAsn ≠ asnOf (s.td 2) ∧ at' s.radio.stepped ↑p = false ∧ (s.mac ↑p).children = [] ∧ s.macFetch (3 + ↑p) = s ∧ (s.mac ↑p).ready = [] :=
  ⟨mac0 (secs rad 1) (fun m => { m with lastAsn := 7 }), 0, rfl, by decide +kernel, by decide +kernel, by decide +kernel, by decide +kernel, by decide +kernel, rfl, by decide +kernel⟩

theorem witness_RadioReception_19 : ∃ (s : State) (p : Fin 2) (d : Fin 16) (air : List Bool), s.live = true ∧ s.radioRuns = true ∧ (at' (s.port ↑p).demods ↑d).state = 2 ∧ bit (airRead (at' (s.port ↑p).demods ↑d).coded air).1 0 = true :=
  ⟨demod0 rad (fun d => { d with state := 2 }), 0, 0, true :: List.replicate 15 false, rfl, rfl, by decide +kernel, by decide +kernel⟩

theorem witness_RadioReception_20 : ∃ (s : State) (p : Fin 2) (d : Fin 16) (air : List Bool), s.live = true ∧ s.radioRuns = true ∧ (at' (s.port ↑p).demods ↑d).state = 2 ∧ bit (airRead (at' (s.port ↑p).demods ↑d).coded air).1 0 = false ∧ (bit (airRead (at' (s.port ↑p).demods ↑d).coded air).1 1 = true ∨ bit (airRead (at' (s.port ↑p).demods ↑d).coded air).1 2 = true ∨ (airRead (at' (s.port ↑p).demods ↑d).coded air).1 / 32 < (if bit (airRead (at' (s.port ↑p).demods ↑d).coded air).1 3 = true then 2 else 4) + 1 ∨ 259 < (airRead (at' (s.port ↑p).demods ↑d).coded air).1 / 32) :=
  ⟨demod0 rad (fun d => { d with state := 2 }), 0, 0, List.replicate 16 false, rfl, rfl, by decide +kernel, by decide +kernel, by decide +kernel⟩

theorem witness_RadioReception_21 : ∃ (s : State) (p : Fin 2) (d : Fin 16) (air : List Bool), s.live = true ∧ s.radioRuns = true ∧ (at' (s.port ↑p).demods ↑d).state = 2 ∧ bit (airRead (at' (s.port ↑p).demods ↑d).coded air).1 0 = false ∧ bit (airRead (at' (s.port ↑p).demods ↑d).coded air).1 1 = false ∧ bit (airRead (at' (s.port ↑p).demods ↑d).coded air).1 2 = false ∧ (if bit (airRead (at' (s.port ↑p).demods ↑d).coded air).1 3 = true then 2 else 4) + 1 ≤ (airRead (at' (s.port ↑p).demods ↑d).coded air).1 / 32 ∧ (airRead (at' (s.port ↑p).demods ↑d).coded air).1 / 32 ≤ 259 ∧ (List.length (airRead (at' (s.port ↑p).demods ↑d).coded air).2 ≠ (airRead (at' (s.port ↑p).demods ↑d).coded air).1 / 32 ∨ List.drop ((airRead (at' (s.port ↑p).demods ↑d).coded air).1 / 32 - if bit (airRead (at' (s.port ↑p).demods ↑d).coded air).1 3 = true then 2 else 4) (airRead (at' (s.port ↑p).demods ↑d).coded air).2 ≠ fcsOf (if bit (airRead (at' (s.port ↑p).demods ↑d).coded air).1 3 = true then 2 else 4) (List.take ((airRead (at' (s.port ↑p).demods ↑d).coded air).1 / 32 - if bit (airRead (at' (s.port ↑p).demods ↑d).coded air).1 3 = true then 2 else 4) (airRead (at' (s.port ↑p).demods ↑d).coded air).2)) :=
  ⟨demod0 rad (fun d => { d with state := 2 }), 0, 0, List.replicate 13 false ++ [true, false, true], rfl, rfl, by decide +kernel, by decide +kernel, by decide +kernel, by decide +kernel, by decide +kernel, by decide +kernel, by decide +kernel⟩

theorem witness_RadioTransmission_8 : ∃ (s : State) (p : Fin 2) (j : TxJob), s.radioRuns = true ∧ s.live = true ∧ (List.find? (fun k => k.phase == TxPhase.sending) (s.port ↑p).tx = some j) ∧ s.airEnds ↑p ≤ s.now :=
  ⟨clock (port0 rad (fun x => { x with tx := [job .sending 0] })) (10 ^ 12), 0, _, rfl, rfl, rfl, by decide +kernel⟩

theorem witness_RadioTransmission_9 : ∃ (s : State) (p : Fin 2) (j : TxJob), s.radioRuns = true ∧ s.live = true ∧ (List.find? (fun k => k.phase == TxPhase.sending) (s.port ↑p).tx = some j) ∧ s.now < s.airEnds ↑p :=
  ⟨port0 rad (fun x => { x with tx := [job .sending 500], air := some ⟨10, 10, 0, 0, 0, []⟩ }), 0, _, rfl, rfl, rfl, by decide +kernel⟩

theorem witness_RadioTransmission_17 : ∃ (s : State) (p : Fin 2), s.radioRuns = true ∧ s.macFetch (3 + ↑p) = s ∧ s.counterOfTd2 (slotStart (s.td 2) + 21000000) ≤ s.now + cUs (s.cfgN 16388 2) ∧ (s.mac ↑p).acks = [] :=
  ⟨clock rad (cMs 24), 0, rfl, rfl, by decide +kernel, by decide +kernel⟩

theorem witness_RadioTransmission_19 : ∃ (s : State) (p : Fin 2) (c : CellDef) (f : MacFrame), s.radioRuns = true ∧ s.macFetch (3 + ↑p) = s ∧ s.dropTooLong ↑p = s ∧ (List.find? (fun c => c.kind == 3 || c.kind == 5) (cellsAt (s.mac ↑p).sched (asnOf (s.td 2))) = some c) ∧ c.kind = 3 ∧ s.portOn ↑p = true ∧ s.txBusy ↑p = false ∧ s.slotAhead = true ∧ (s.mac ↑p).ready = [f] ∧ f.kind = 0 ∧ s.held (↑p) f.meter = false ∧ s.fitsCell (↑p) c.mode (List.length f.frame) = true ∧ s.dwellOk (↑p) (hopChannel (s.hopSeq (↑p) (s.mac ↑p).sched) (asnOf (s.td 2)) c.choff) (s.sendNs (↑p) c.mode (List.length f.frame) false) = true :=
  ⟨mac0 (sched0 rad 3) (fun m => { m with ready := [default] }), 0, _, _, rfl, rfl, rfl, rfl, rfl, by decide +kernel, by decide +kernel, by decide +kernel, rfl, rfl, rfl, rfl, rfl⟩

theorem witness_RadioTransmission_21 : ∃ (s : State) (p : Fin 2) (c : CellDef) (f : MacFrame), s.radioRuns = true ∧ s.macFetch (3 + ↑p) = s ∧ s.dropTooLong ↑p = s ∧ ↑p < s.radio.macs.length ∧ (s.mac ↑p).floodAcks = [] ∧ (List.find? (fun c => c.kind == 4) (cellsAt (s.mac ↑p).sched (asnOf (s.td 2))) = some c) ∧ s.portOn ↑p = true ∧ s.txBusy ↑p = false ∧ s.slotAhead = true ∧ (s.mac ↑p).ready = [f] ∧ f.kind = 1 ∧ f.prio < 3 ∧ (s.mac ↑p).blocks = [] ∧ s.fitsCell (↑p) c.mode (List.length f.frame) = true ∧ s.dwellOk (↑p) (hopChannel (s.hopSeq (↑p) (s.mac ↑p).sched) (asnOf (s.td 2)) c.choff) (s.sendNs (↑p) c.mode (List.length f.frame) false) = true :=
  ⟨mac0 (sched0 rad 4) (fun m => { m with ready := [{ (default : MacFrame) with kind := 1 }] }), 0, _, _, rfl, rfl, rfl, by decide +kernel, by decide +kernel, rfl, by decide +kernel, by decide +kernel, by decide +kernel, rfl, rfl, by decide +kernel, by decide +kernel, rfl, rfl⟩

theorem witness_DownlinkCommands_3 : ∃ (s : State) (role : Nat) (i : Nat) (m : Meter) (r : State × Nat), TakesCommands s ∧ roleMay role .operator = true ∧ s.selected = some (i, m) ∧ s.cfgN 15376 1 = 128 ∧ 1 ≤ List.length (s.val 15376 2) ∧ List.length (s.val 15376 2) ≤ 181 ∧ s.queueCommand i 128 (s.val 15376 2) 0 = some r :=
  ⟨sett (sett met 0x3C10 1 [128]) 0x3C10 2 [1], 1, _, _, _, ⟨rfl, rfl, rfl⟩, by decide +kernel, rfl, by decide +kernel, by decide +kernel, by decide +kernel, got (by decide +kernel)⟩

theorem witness_DownlinkCommands_4 : ∃ (s : State) (role : Nat) (i : Nat) (m : Meter), TakesCommands s ∧ roleMay role .operator = true ∧ s.selected = some (i, m) ∧ s.cfgN 15376 1 = 128 ∧ 181 < List.length (s.val 15376 2) :=
  ⟨sett (sett met 0x3C10 1 [128]) 0x3C10 2 (zeros 182), 1, _, _, ⟨rfl, rfl, rfl⟩, by decide +kernel, rfl, by decide +kernel, by decide +kernel⟩

theorem witness_DownlinkCommands_8 : ∃ (s : State) (i : Nat) (m : Meter) (c : MCmd) (rest : List MCmd), s.running = true ∧ s.meter i = some m ∧ s.cmds i = c :: rest ∧ c.state = 1 ∧ c.asked = false ∧ bit m.rflags 1 = false :=
  ⟨cmds met [mcmd 1], 0, _, _, _, rfl, rfl, rfl, rfl, rfl, rfl⟩

theorem witness_DownlinkCommands_10 : ∃ (s : State) (i : Nat) (m : Meter) (c : MCmd) (rest : List MCmd), s.running = true ∧ s.meter i = some m ∧ s.cmds i = c :: rest ∧ (c.state ≠ 1 ∨ c.asked = true ∨ bit m.rflags 1 = true) :=
  ⟨cmds met [mcmd 2], 0, _, _, _, rfl, rfl, rfl, by decide +kernel⟩

theorem witness_DownlinkCommands_12 : ∃ (s : State) (i : Nat) (m : Meter) (c : MCmd) (rest : List MCmd), s.running = true ∧ s.meter i = some m ∧ s.cmds i = c :: rest ∧ c.state = 2 ∧ c.asked = false ∧ c.sentAt + c.heldFor + s.cmdTimeout m c ≤ s.now ∧ (if c.rebuild = true then s else s.downUnanswered i (fLseq c.frame)).cfgN 15360 3 ≤ c.tries :=
  ⟨cmds (clock met (10 ^ 15)) [{ mcmd 2 with tries := 7 }], 0, _, _, _, rfl, rfl, rfl, rfl, rfl, by decide +kernel, by decide +kernel⟩

theorem witness_DownlinkCommands_13 : ∃ (s : State) (i : Nat) (m : Meter) (c : MCmd) (rest : List MCmd), s.running = true ∧ s.meter i = some m ∧ s.cmds i = c :: rest ∧ c.state = 2 ∧ c.asked = false ∧ c.sentAt + c.heldFor + s.cmdTimeout m c ≤ s.now ∧ c.tries < (if c.rebuild = true then s else s.downUnanswered i (fLseq c.frame)).cfgN 15360 3 ∧ c.rebuild = true :=
  ⟨cmds (clock met (10 ^ 15)) [{ mcmd 2 with rebuild := true }], 0, _, _, _, rfl, rfl, rfl, rfl, rfl, by decide +kernel, by decide +kernel, rfl⟩

theorem witness_DownlinkCommands_14 : ∃ (s : State) (i : Nat) (m : Meter) (c : MCmd) (rest : List MCmd), s.running = true ∧ s.meter i = some m ∧ s.cmds i = c :: rest ∧ c.state = 2 ∧ c.asked = false ∧ c.sentAt + c.heldFor + s.cmdTimeout m c ≤ s.now ∧ c.tries < (if c.rebuild = true then s else s.downUnanswered i (fLseq c.frame)).cfgN 15360 3 ∧ c.rebuild = false :=
  ⟨cmds (clock met (10 ^ 15)) [mcmd 2], 0, _, _, _, rfl, rfl, rfl, rfl, rfl, by decide +kernel, by decide +kernel, rfl⟩

theorem witness_DownlinkCommands_18 : ∃ (s : State) (role : Nat) (v : Nat) (i : Nat) (m : Meter), TakesCommands s ∧ roleMay role .operator = true ∧ (v ≤ 255 ∨ v = 65535) ∧ s.selected = some (i, m) ∧ s.sendCtl 33024 i 14 v 0 [] = none :=
  ⟨shut met 37, 1, 65535, _, _, ⟨rfl, rfl, rfl⟩, by decide +kernel, by decide +kernel, rfl, rfl⟩

set_option maxRecDepth 20000 in

theorem witness_Images_18 : ∃ (s : State) (port : Fin 5) (c : Campaign) (l : BlockList) (b : Nat) (rest : List Nat), s.running = true ∧ s.campaignTurn ↑port = some c ∧ (List.find? (fun l => l.port == ↑port) c.lists = some l) ∧ l.blocks = b :: rest ∧ (((s.askStore 42 distCell (c.kind * 256 + c.slot) b).bind fun st => st.sendBlockAll (↑port) (s.blockBody c.kind c.slot (mediumOf ↑port) b).1 (s.blockKeys c (mediumOf ↑port)) l.routes (s.blockBody c.kind c.slot (mediumOf ↑port) b).2) = none) :=
  ⟨camp (shut run 42) { (default : Campaign) with phase := .round, lists := [⟨0, [1], []⟩] }, 0, _, _, _, _, rfl, rfl, rfl, rfl, by decide +kernel⟩

theorem witness_EthernetAndImport_11 : ∃ (s : State) (b : Bytes) (es : List ImportEntry), s.running = true ∧ s.cfgN 20512 1 ≠ 0 ∧ s.inService 25088 = true ∧ importBody b = some es ∧ bit (fieldLE b 3 1) 0 = false ∧ s.cfgN 20512 2 ≠ 0 :=
  ⟨sett (sett run 0x5020 1 [1]) 0x5020 2 [1], [1, 0x30, 1, 0] ++ zeros 12 ++ [1] ++ zeros 20, _, rfl, by decide +kernel, by decide +kernel, rfl, by decide +kernel, by decide +kernel⟩

theorem witness_EthernetAndImport_13 : ∃ (s : State) (s1 : State) (b : Bytes), s.live = true ∧ s.inService 25088 = true ∧ s.popPacket 14 = some (s1, b, false) ∧ (List.find? (fun r => r.eui == fieldLE b 0 8) s1.up.imp.returns = none) :=
  ⟨holding run 14 (zeros 40), rest (holding run 14 (zeros 40)) 14, front (holding run 14 (zeros 40)) 14, rfl, by decide +kernel, popped (by decide +kernel) (by decide +kernel), by decide +kernel⟩

theorem witness_ResetState_1 : ∃ (q : Queue), q ∈ State.reset.queue.queues :=
  ⟨at' State.reset.queue.queues 0, by decide +kernel⟩

theorem witness_Export_3 : ∃ (s : State), s.live = true ∧ s.inService 24832 = false :=
  ⟨without run 0x6100, rfl, by decide +kernel⟩

theorem witness_Export_4 : ∃ (s : State), s.live = true ∧ s.up.exp.building ≠ [] ∧ s.up.exp.buildAt + cUs (s.cfgN 20496 3) ≤ s.now ∧ s.inService 24832 = true ∧ s.keyStale = false :=
  ⟨inExp (clock run (10 ^ 12)) (fun x => { x with building := [1] }), rfl, by decide +kernel, by decide +kernel, by decide +kernel, by decide +kernel⟩

theorem witness_Export_6 : ∃ (s : State), s.live = true ∧ s.up.exp.building = [] ∧ s.up.exp.lastSentAt + cSec (s.cfgN 20496 6) ≤ s.now ∧ s.inService 24832 = true ∧ s.mayStart = true :=
  ⟨sett (clock run (10 ^ 15)) 0x5011 1 [0, 0, 1, 0], rfl, by decide +kernel, by decide +kernel, by decide +kernel, by decide +kernel⟩

theorem witness_Export_7 : ∃ (s : State), s.live = true ∧ s.up.exp.building ≠ [] :=
  ⟨inExp run (fun x => { x with building := [1] }), rfl, by decide +kernel⟩

theorem witness_Export_13 : ∃ (s : State), s.live = true ∧ s.inService 24832 = false ∧ s.up.exp.state = 0 :=
  ⟨without run 0x6100, rfl, by decide +kernel, by decide +kernel⟩

theorem witness_Export_14 : ∃ (s : State), s.live = true ∧ s.up.exp.state = 1 :=
  ⟨inExp run (fun x => { x with state := 1 }), rfl, by decide +kernel⟩

theorem witness_Export_15 : ∃ (s : State), s.live = true ∧ s.up.exp.state = 1 ∧ s.cfgN 20496 10 = 1 ∧ s.up.exp.stalledAt + cSec (s.cfgN 20496 11) ≤ s.now ∧ (∀ q ∈ [16, 17, 18, 19], (at' s.queue.queues q).level = 0) :=
  ⟨sett (inExp (clock run (10 ^ 15)) (fun x => { x with state := 1 })) 0x5010 10 [1], rfl, by decide +kernel, by decide +kernel, by decide +kernel, by decide +kernel⟩

theorem witness_Export_20 : ∃ (s : State), s.live = true ∧ s.up.exp.persistAt + cSec 1 ≤ s.now ∧ s.upNv.cum ≠ s.up.exp.cum :=
  ⟨inExp (clock run (10 ^ 15)) (fun x => { x with cum := 1 }), rfl, by decide +kernel, by decide +kernel⟩

theorem witness_TimeDomains_1 : ∃ (s : State) (k : Fin 8), s.live = true ∧ sampled (s.source ↑k) = false :=
  ⟨sett run 0x5401 1 [0], 0, rfl, by decide +kernel⟩

theorem witness_TimeDomains_5 : ∃ (s : State) (k : Fin 8), s.live = true ∧ sampled (s.source ↑k) = true ∧ s.hardwareServo ↑k = false :=
  ⟨sett (sett run 0x5401 1 [2]) 0x5401 3 [1], 0, rfl, by decide +kernel, by decide +kernel⟩

theorem witness_TimeDomains_6 : ∃ (s : State) (k : Fin 8), s.live = true ∧ sampled (s.source ↑k) = true ∧ (s.dom ↑k).state = DomState.locked ∧ (s.dom ↑k).lastSampleAt + cMs (s.domCfg (↑k) 9) ≤ s.now :=
  ⟨dom0 (clock (sett run 0x5401 1 [2]) (10 ^ 15)) (fun d => { d with state := .locked }), 0, rfl, by decide +kernel, by decide +kernel, by decide +kernel⟩

theorem witness_TimeDomains_8 : ∃ (s : State) (k : Fin 8), s.live = true ∧ (s.dom ↑k).state = DomState.holdover ∧ s.source ↑k ≠ 5 ∧ (s.dom ↑k).holdoverAt + cSec (s.domCfg (↑k) 10) ≤ s.now :=
  ⟨dom0 (clock run (10 ^ 18)) (fun d => { d with state := .holdover }), 0, rfl, by decide +kernel, by decide +kernel, by decide +kernel⟩

theorem witness_TimeDomains_9 : ∃ (s : State) (k : Fin 8), s.live = true ∧ (s.dom ↑k).state = DomState.locked :=
  ⟨dom0 run (fun d => { d with state := .locked }), 0, rfl, by decide +kernel⟩

theorem witness_TimeDomains_10 : ∃ (s : State) (k : Fin 8) (role : Nat) (v : Nat), TakesCommands s ∧ roleMay role .operator = true ∧ s.source ↑k = 0 ∧ periodOk v = true :=
  ⟨sett run 0x5401 1 [0], 0, 1, nominalPeriod, ⟨rfl, rfl, rfl⟩, by decide +kernel, by decide +kernel, by decide +kernel⟩

theorem witness_TimeDomains_11 : ∃ (s : State) (k : Fin 8) (role : Nat) (v : Nat), TakesCommands s ∧ roleMay role .operator = true ∧ s.source ↑k = 0 ∧ periodOk v = false :=
  ⟨sett run 0x5401 1 [0], 0, 1, 0, ⟨rfl, rfl, rfl⟩, by decide +kernel, by decide +kernel, by decide +kernel⟩

theorem witness_TimeDomains_12 : ∃ (s : State) (k : Fin 8) (role : Nat), TakesCommands s ∧ roleMay role .operator = true ∧ s.source ↑k = 5 :=
  ⟨sett run 0x5401 1 [5], 0, 1, ⟨rfl, rfl, rfl⟩, by decide +kernel, by decide +kernel⟩

theorem witness_TimeDomains_13 : ∃ (s : State) (k : Fin 8) (role : Nat) (delta : Int), TakesCommands s ∧ roleMay role .operator = true ∧ (s.dom ↑k).sync = true ∧ s.domCfg (↑k) 8 < delta.natAbs :=
  ⟨dom0 run (fun d => { d with sync := true }), 0, 1, 10 ^ 15, ⟨rfl, rfl, rfl⟩, by decide +kernel, by decide +kernel, by decide +kernel⟩

theorem witness_TimeDomains_14 : ∃ (s : State) (k : Fin 8) (role : Nat) (delta : Int), TakesCommands s ∧ roleMay role .operator = true ∧ (s.dom ↑k).sync = true ∧ delta.natAbs ≤ s.domCfg (↑k) 8 :=
  ⟨dom0 run (fun d => { d with sync := true }), 0, 1, 0, ⟨rfl, rfl, rfl⟩, by decide +kernel, by decide +kernel, by decide +kernel⟩

theorem witness_TimeDomains_17 : ∃ (s : State) (role : Nat) (b : Bytes), TakesCommands s ∧ roleMay role .operator = true ∧ List.length b = 12 ∧ timeOk b = false :=
  ⟨run, 1, zeros 11 ++ [0xFF], ⟨rfl, rfl, rfl⟩, by decide +kernel, by decide +kernel, by decide +kernel⟩

theorem witness_PairsAndSources_2 : ∃ (s : State) (k : Fin 2), s.live = true ∧ (at' s.time.pairs ↑k).enabled = true ∧ s.lockedDom (s.selectedMember ↑k) = false ∧ s.lockedDom (2 * ↑k + b2n !(at' s.time.pairs ↑k).partner) = true :=
  ⟨{ dom0 run (fun d => { d with state := .unsync }) with time := { run.time with domains := upd run.time.domains 1 (fun d => { d with state := .locked, sync := true }), pairs := upd run.time.pairs 0 (fun p => { p with enabled := true }) } }, 0, rfl, by decide +kernel, by decide +kernel, by decide +kernel⟩

theorem witness_PairsAndSources_3 : ∃ (s : State) (k : Fin 2), s.live = true ∧ (at' s.time.pairs ↑k).enabled = true ∧ (at' s.time.pairs ↑k).partner = true ∧ s.cfgN 21552 3 = 1 ∧ (s.dom (2 * ↑k)).state = DomState.locked ∧ (s.dom (2 * ↑k)).lockedAt + cSec (s.cfgN 21552 4) ≤ s.now :=
  ⟨sett { dom0 (clock run (10 ^ 15)) (fun d => { d with state := .locked }) with time := { (dom0 (clock run (10 ^ 15)) (fun d => { d with state := .locked })).time with pairs := upd run.time.pairs 0 (fun p => { p with enabled := true, partner := true }) } } 0x5430 3 [1], 0, rfl, by decide +kernel, by decide +kernel, by decide +kernel, by decide +kernel, by decide +kernel⟩

theorem witness_PairsAndSources_4 : ∃ (s : State) (k : Fin 2), s.live = true ∧ (at' s.time.pairs ↑k).enabled = true ∧ (at' s.time.pairs ↑k).slewing = true ∧ (s.dom (s.selectedMember ↑k)).at s.now = s.pairAt (↑k) s.now :=
  ⟨{ run with time := { run.time with pairs := upd run.time.pairs 0 (fun p => { p with enabled := true, slewing := true }) } }, 0, rfl, by decide +kernel, by decide +kernel, by decide +kernel⟩

theorem witness_PairsAndSources_5 : ∃ (s : State), s.live = true ∧ s.syncOf 0 = true ∧ s.time.lastAnchorAt + cSec 60 ≤ s.now :=
  ⟨dom0 (clock run (10 ^ 15)) (fun d => { d with sync := true }), rfl, by decide +kernel, by decide +kernel⟩

theorem witness_PairsAndSources_7 : ∃ (s : State), s.live = true ∧ s.cfgI 21568 2 ≠ 0 ∧ ↑(s.cfgN 21568 3) ≤ secOf s.td0 :=
  ⟨sett run 0x5440 2 [1], rfl, by decide +kernel, by decide +kernel⟩

theorem witness_PairsAndSources_11 : ∃ (s : State) (p : Fin 2) (k : Fin 8), s.live = true ∧ s.board.cascMaster = false ∧ s.casc.upstream = ↑p ∧ s.source ↑k = 3 ∧ (∀ (j : Fin 8), j ≠ k → s.source ↑j ≠ 3) :=
  ⟨inCasc (leaf (sett (sett run 0x5401 1 [3]) 0x5402 1 [0])) (fun c => { c with upstream := 0 }), 0, 0, rfl, by decide +kernel, by decide +kernel, by decide +kernel, by decide +kernel⟩

theorem witness_PairsAndSources_13 : ∃ (s : State) (gpio : Fin 16) (k : Fin 8) (stamp : Nat), s.live = true ∧ s.source ↑k = 6 ∧ s.domCfg (↑k) 2 = ↑gpio ∧ (∀ (j : Fin 8), j ≠ k → s.source ↑j ≠ 6) ∧ ((((s.dom ↑k).at stamp + nsUnits 500000000) / nsUnits 1000000000 * nsUnits 1000000000 - (s.dom ↑k).at stamp) / 65536).natAbs < 500000000 :=
  ⟨sett run 0x5401 1 [6], 0, 0, 0, rfl, by decide +kernel, by decide +kernel, by decide +kernel, by decide +kernel⟩

theorem witness_KeySlots_2 : ∃ (s : State) (c : Consumer) (slot : Nat) (u : KeyUse), s.live = true ∧ s.slotRefusal slot c u = 0 ∧ s.tagOk slot = false :=
  ⟨inVault run (fun x => { x with slots := x.slots.set 5 { policy := 1 + 2 ^ 19 + 2 ^ 27, key := zeros 32, tag := zeros 5 } }), .dictAuth, 5, .raw 3, rfl, by decide +kernel, tag_bad (by decide +kernel)⟩

theorem witness_KeySlots_3 : ∃ (s : State) (c : Consumer) (slot : Nat) (usage : Nat), s.live = true ∧ s.slotRefusal slot c (KeyUse.raw usage) = 0 ∧ s.tagOk slot = true :=
  ⟨slotted run 5 (1 + 2 ^ 19 + 2 ^ 27) (zeros 32), .dictAuth, 5, 3, rfl, by decide +kernel, tag_good rfl⟩

theorem witness_KeySlots_10 : ∃ (s : State) (role : Nat) (slot : Nat), TakesCommands s ∧ roleMay role .keyholder = true ∧ 2 ≤ slot ∧ slot ≤ 31 ∧ polKind (s.slot slot).policy ≠ 0 :=
  ⟨slotted run 5 1 (zeros 32), 2, 5, ⟨rfl, rfl, rfl⟩, by decide +kernel, by decide +kernel, by decide +kernel, by decide +kernel⟩

theorem witness_KeySlots_12 : ∃ (s : State) (role : Nat) (slot : Nat), TakesCommands s ∧ roleMay role .keyholder = true ∧ 2 ≤ slot ∧ slot ≤ 31 ∧ (∀ c < 32, s.isChild slot c = false) ∧ polKind (s.slot slot).policy ≠ 0 :=
  ⟨slotted run 5 1 (zeros 32), 2, 5, ⟨rfl, rfl, rfl⟩, by decide +kernel, by decide +kernel, by decide +kernel, by decide +kernel, by decide +kernel⟩

theorem witness_KeySlots_13 : ∃ (s : State) (role : Nat) (slot : Nat) (c : Nat), TakesCommands s ∧ roleMay role .keyholder = true ∧ 2 ≤ slot ∧ slot ≤ 31 ∧ c < 32 ∧ s.isChild slot c = true :=
  ⟨slotted (slotted run 5 1 (zeros 32)) 6 (1 + 5 * 2 ^ 8 + 2 ^ 13) (zeros 32), 2, 5, 6, ⟨rfl, rfl, rfl⟩, by decide +kernel, by decide +kernel, by decide +kernel, by decide +kernel, by decide +kernel⟩

theorem witness_AttestAndDebug_1 : ∃ (s : State) (role : Nat) (challenge : Bytes), TakesCommands s ∧ roleMay role .operator = true ∧ List.length challenge = 32 ∧ s.vault.attestAsked = none ∧ s.vault.lockdown = false ∧ (s.slot 0).key ≠ [] ∧ polState (s.slot 0).policy ≠ 2 :=
  ⟨slotted run 0 1 (zeros 32), 1, zeros 32, ⟨rfl, rfl, rfl⟩, by decide +kernel, by decide +kernel, by decide +kernel, by decide +kernel, by decide +kernel, by decide +kernel⟩

theorem witness_AttestAndDebug_2 : ∃ (s : State) (role : Nat) (challenge : Bytes), TakesCommands s ∧ roleMay role .operator = true ∧ List.length challenge = 32 ∧ s.vault.attestAsked ≠ none :=
  ⟨inVault run (fun x => { x with attestAsked := some [] }), 1, zeros 32, ⟨rfl, rfl, rfl⟩, by decide +kernel, by decide +kernel, by decide +kernel⟩

theorem witness_AttestAndDebug_3 : ∃ (s : State) (c : Bytes), s.vault.attestAsked = some c :=
  ⟨inVault run (fun x => { x with attestAsked := some [] }), _, rfl⟩

theorem witness_AttestAndDebug_6 : ∃ (s : State), s.power.phase ≠ PowerPhase.held ∧ 3 ≤ s.vault.dbg.failures ∧ s.vault.dbg.busy = false ∧ s.vault.dbg.state ≠ 2 :=
  ⟨inVault run (fun x => { x with dbg := { x.dbg with failures := 3 } }), by decide +kernel, by decide +kernel, by decide +kernel, by decide +kernel⟩

theorem witness_AttestAndDebug_7 : ∃ (s : State), s.power.phase ≠ PowerPhase.held ∧ (s.vault.dbg.busy = true ∨ s.vault.dbg.state = 2) :=
  ⟨inVault run (fun x => { x with dbg := { x.dbg with state := 2 } }), by decide +kernel, by decide +kernel⟩

theorem witness_AttestAndDebug_8 : ∃ (s : State), s.power.phase ≠ PowerPhase.held ∧ s.vault.dbg.state = 1 ∧ s.vault.dbg.answered = false ∧ s.vault.dbg.busy = false ∧ s.now < s.vault.dbg.issuedAt + cSec 60 :=
  ⟨inVault run (fun x => { x with dbg := { x.dbg with state := 1 } }), by decide +kernel, by decide +kernel, by decide +kernel, by decide +kernel, by decide +kernel⟩

theorem witness_AttestAndDebug_10 : ∃ (s : State), s.power.phase ≠ PowerPhase.held ∧ s.vault.dbg.state = 1 ∧ s.vault.dbg.answered = false ∧ s.vault.dbg.issuedAt + cSec 60 ≤ s.now :=
  ⟨inVault (clock run (10 ^ 15)) (fun x => { x with dbg := { x.dbg with state := 1 } }), by decide +kernel, by decide +kernel, by decide +kernel, by decide +kernel⟩

theorem witness_AttestAndDebug_14 : ∃ (s : State), s.power.phase ≠ PowerPhase.held ∧ s.vault.dbg.busy = true ∧ s.responseAuthentic = false ∧ s.vault.dbg.failures < 2 :=
  ⟨inVault run (fun x => { x with dbg := { x.dbg with busy := true } }), by decide +kernel, by decide +kernel, by decide +kernel, by decide +kernel⟩

theorem witness_AttestAndDebug_15 : ∃ (s : State), s.power.phase ≠ PowerPhase.held ∧ s.vault.dbg.busy = true ∧ s.responseAuthentic = false ∧ 2 ≤ s.vault.dbg.failures :=
  ⟨inVault run (fun x => { x with dbg := { x.dbg with busy := true, failures := 2 } }), by decide +kernel, by decide +kernel, by decide +kernel, by decide +kernel⟩

theorem witness_TamperResponses_1 : ∃ (s : State) (k : Fin 12), ↑k ≠ 0 ∧ ↑k ≠ 1 ∧ ↑k ≠ 11 ∧ s.tamperResponse ↑k ≠ 0 ∧ (at' s.vaultNv.sources ↑k).armed = true ∧ s.vaultRuns = true ∧ s.tamperResponse ↑k = 1 :=
  ⟨sett run 0x5830 3 [1], 2, by decide +kernel, by decide +kernel, by decide +kernel, by decide +kernel, by decide +kernel, by decide +kernel, by decide +kernel⟩

theorem witness_TamperResponses_2 : ∃ (s : State) (k : Fin 12), ↑k ≠ 0 ∧ ↑k ≠ 1 ∧ ↑k ≠ 11 ∧ s.tamperResponse ↑k ≠ 0 ∧ (at' s.vaultNv.sources ↑k).armed = true ∧ s.vaultRuns = true ∧ s.tamperResponse ↑k = 2 :=
  ⟨sett run 0x5830 3 [2], 2, by decide +kernel, by decide +kernel, by decide +kernel, by decide +kernel, by decide +kernel, by decide +kernel, by decide +kernel⟩

theorem witness_TamperResponses_3 : ∃ (s : State) (k : Fin 12), ↑k ≠ 0 ∧ ↑k ≠ 1 ∧ ↑k ≠ 11 ∧ s.tamperResponse ↑k ≠ 0 ∧ (at' s.vaultNv.sources ↑k).armed = true ∧ s.vaultRuns = true ∧ 2 < s.tamperResponse ↑k :=
  ⟨sett run 0x5830 3 [3], 2, by decide +kernel, by decide +kernel, by decide +kernel, by decide +kernel, by decide +kernel, by decide +kernel, by decide +kernel⟩

theorem witness_TamperResponses_4 : ∃ (s : State) (k : Fin 12), ↑k ≠ 0 ∧ ↑k ≠ 1 ∧ ↑k ≠ 11 ∧ s.tamperResponse ↑k ≠ 0 ∧ (at' s.vaultNv.sources ↑k).armed = true ∧ s.vaultRuns = false :=
  ⟨sett { run with power := { run.power with phase := .held } } 0x5830 3 [1], 2, by decide +kernel, by decide +kernel, by decide +kernel, by decide +kernel, by decide +kernel, by decide +kernel⟩

theorem witness_TamperResponses_6 : ∃ (s : State) (p : Nat) (a : Bool) (b : Bool) (d : Bool), (p = 0 ∧ d = a ∨ p = 1 ∧ d = b) ∧ s.tamperResponse p ≠ 0 ∧ s.tamperResponse (1 - p) = 0 ∧ d = false :=
  ⟨sett (sett run 0x5830 1 [1]) 0x5830 2 [0], 0, false, false, false, by decide +kernel, by decide +kernel, by decide +kernel, rfl⟩

theorem witness_TamperResponses_7 : ∃ (s : State) (p : Nat) (a : Bool) (b : Bool) (d : Bool), (p = 0 ∧ d = a ∨ p = 1 ∧ d = b) ∧ s.tamperResponse p ≠ 0 ∧ s.tamperResponse (1 - p) = 0 ∧ d = true ∧ (at' s.vaultNv.sources p).misses = 0 :=
  ⟨sett (sett run 0x5830 1 [1]) 0x5830 2 [0], 0, true, false, true, by decide +kernel, by decide +kernel, by decide +kernel, rfl, by decide +kernel⟩

theorem witness_TamperResponses_8 : ∃ (s : State) (p : Nat) (a : Bool) (b : Bool) (d : Bool), (p = 0 ∧ d = a ∨ p = 1 ∧ d = b) ∧ s.tamperResponse p ≠ 0 ∧ s.tamperResponse (1 - p) = 0 ∧ d = true ∧ 1 ≤ (at' s.vaultNv.sources p).misses :=
  ⟨{ sett (sett run 0x5830 1 [1]) 0x5830 2 [0] with vaultNv := { run.vaultNv with sources := upd run.vaultNv.sources 0 (fun x => { x with misses := 1 }) } }, 0, true, false, true, by decide +kernel, by decide +kernel, by decide +kernel, rfl, by decide +kernel⟩

theorem witness_TamperResponses_9 : ∃ (s : State) (n : Nat), s.cfgN 22577 6 ≤ n :=
  ⟨run, 10 ^ 9, by decide +kernel⟩

theorem witness_TamperResponses_13 : ∃ (s : State) (role : Nat), TakesCommands s ∧ roleMay role .keyholder = true ∧ s.power.phase = PowerPhase.lastGasp :=
  ⟨{ phased .lastGasp with power := { (phased .lastGasp).power with phase := .lastGasp } }, 2, ⟨rfl, rfl, rfl⟩, by decide +kernel, by decide +kernel⟩

theorem witness_LifeCycle_2 : ∃ (s : State) (role : Nat), TakesCommands s ∧ roleMay role .vendor = true ∧ s.lcs ≠ LifeCycle.blank ∧ s.lcs ≠ LifeCycle.returned :=
  ⟨fused 1, 4, ⟨rfl, rfl, rfl⟩, by decide +kernel, by decide +kernel, by decide +kernel⟩

theorem witness_LifeCycle_3 : ∃ (s : State) (role : Nat), TakesCommands s ∧ roleMay role .keyholder = true ∧ s.lifeBusy = false ∧ s.lcs = LifeCycle.provisioned :=
  ⟨fused 1, 2, ⟨rfl, rfl, rfl⟩, by decide +kernel, by decide +kernel, by decide +kernel⟩

theorem witness_LifeCycle_4 : ∃ (s : State) (role : Nat), TakesCommands s ∧ roleMay role .keyholder = true ∧ s.lifeBusy = false ∧ (s.lcs = LifeCycle.provisioned ∨ s.lcs = LifeCycle.deployed) :=
  ⟨fused 1, 2, ⟨rfl, rfl, rfl⟩, by decide +kernel, by decide +kernel, by decide +kernel⟩

theorem witness_LifeCycle_6 : ∃ (s : State) (role : Nat) (eui : Nat), TakesCommands s ∧ roleMay role .keyholder = true ∧ s.lcs = LifeCycle.provisioned ∧ eui ≠ Config.deviceEui :=
  ⟨fused 1, 2, Config.deviceEui + 1, ⟨rfl, rfl, rfl⟩, by decide +kernel, by decide +kernel, by omega⟩

theorem witness_LifeCycle_8 : ∃ (s : State) (role : Nat) (eui : Nat), TakesCommands s ∧ roleMay role .keyholder = true ∧ (s.lcs = LifeCycle.provisioned ∨ s.lcs = LifeCycle.deployed) ∧ eui ≠ Config.deviceEui :=
  ⟨fused 1, 2, Config.deviceEui + 1, ⟨rfl, rfl, rfl⟩, by decide +kernel, by decide +kernel, by omega⟩

theorem witness_LifeCycle_9 : ∃ (s : State) (role : Nat) (eui : Nat), TakesCommands s ∧ roleMay role .keyholder = true ∧ s.lcs = LifeCycle.provisioned ∧ eui = Config.deviceEui ∧ s.lifeBusy = true :=
  ⟨inVault (fused 1) (fun x => { x with lifeStatus := 1 }), 2, Config.deviceEui, ⟨rfl, rfl, rfl⟩, by decide +kernel, by decide +kernel, rfl, by decide +kernel⟩

theorem witness_HandoverAndProbation_1 : ∃ (s : State) (role : Nat), TakesCommands s ∧ roleMay role .operator = true ∧ s.inService updateCell = true ∧ s.fw.state = 2 ∧ s.fw.hoVersion ≠ 0 ∧ s.updateBusy = false ∧ s.standbyWhole = true :=
  ⟨inFw run (fun x => { x with state := 2, hoVersion := 1 }), 1, ⟨rfl, rfl, rfl⟩, by decide +kernel, by decide +kernel, by decide +kernel, by decide +kernel, by decide +kernel, by decide +kernel⟩

theorem witness_HandoverAndProbation_3 : ∃ (s : State) (role : Nat), TakesCommands s ∧ roleMay role .operator = true ∧ s.inService updateCell = true ∧ s.fw.state = 2 ∧ s.fw.hoVersion = 0 :=
  ⟨inFw run (fun x => { x with state := 2 }), 1, ⟨rfl, rfl, rfl⟩, by decide +kernel, by decide +kernel, by decide +kernel, by decide +kernel⟩

theorem witness_HandoverAndProbation_4 : ∃ (s : State) (role : Nat), TakesCommands s ∧ roleMay role .operator = true ∧ s.inService updateCell = true ∧ s.fw.state = 2 ∧ s.fw.hoVersion ≠ 0 ∧ s.updateBusy = true :=
  ⟨inFw { run with cfg := { run.cfg with sets := [default] } } (fun x => { x with state := 2, hoVersion := 1 }), 1, ⟨rfl, rfl, rfl⟩, by decide +kernel, by decide +kernel, by decide +kernel, by decide +kernel, by decide +kernel⟩

theorem witness_HandoverAndProbation_6 : ∃ (s : State) (role : Nat), TakesCommands s ∧ roleMay role .operator = true ∧ s.inService updateCell = true ∧ s.fw.state = 2 ∧ s.updateBusy = false :=
  ⟨inFw run (fun x => { x with state := 2 }), 1, ⟨rfl, rfl, rfl⟩, by decide +kernel, by decide +kernel, by decide +kernel, by decide +kernel⟩

theorem witness_HandoverAndProbation_7 : ∃ (s : State), s.live = true ∧ s.fw.state = 3 ∧ s.vault.lockdown = false ∧ s.mayAbandon 6 = false ∧ s.fw.pauseAt = none ∧ s.now ≤ s.fw.stepAt + cMs 1000 :=
  ⟨inFw run (fun x => { x with state := 3 }), rfl, by decide +kernel, by decide +kernel, by decide +kernel, by decide +kernel, by decide +kernel⟩

theorem witness_HandoverAndProbation_8 : ∃ (s : State) (t : Nat), s.live = true ∧ s.fw.state = 3 ∧ s.vault.lockdown = false ∧ s.mayAbandon 6 = false ∧ s.fw.pauseAt = some t ∧ s.now ≤ t + cMs 2 ∧ s.dict.held = [] :=
  ⟨inFw run (fun x => { x with state := 3, pauseAt := some 0 }), _, rfl, by decide +kernel, by decide +kernel, by decide +kernel, rfl, by decide +kernel, by decide +kernel⟩

theorem witness_HandoverAndProbation_10 : ∃ (s : State) (cause : Nat), s.live = true ∧ s.mayAbandon cause = true :=
  ⟨inFw (clock run (10 ^ 15)) (fun x => { x with state := 3 }), 3, rfl, by decide +kernel⟩

theorem witness_HandoverAndProbation_12 : ∃ (s : State) (role : Nat), TakesCommands s ∧ roleMay role .operator = true ∧ s.inService updateCell = true ∧ s.fw.state = 4 :=
  ⟨inFw run (fun x => { x with state := 4 }), 1, ⟨rfl, rfl, rfl⟩, by decide +kernel, by decide +kernel, by decide +kernel⟩

theorem witness_HandoverAndProbation_13 : ∃ (s : State), s.live = true ∧ s.fw.state = 4 ∧ s.fw.probationEnd ≤ s.now :=
  ⟨inFw run (fun x => { x with state := 4 }), rfl, by decide +kernel, by decide +kernel⟩

theorem witness_HandoverAndProbation_15 : ∃ (s : State), s.running = true ∧ s.fw.state = 4 ∧ s.oldImageOk = true :=
  ⟨{ inFw run (fun x => { x with state := 4 }) with fwNv := { run.fwNv with slots := upd (upd run.fwNv.slots 0 (fun x => { x with valid := true })) 1 (fun x => { x with valid := true }) } }, rfl, by decide +kernel, by decide +kernel⟩

theorem witness_ServicePort_1 : ∃ (s : State) (f : Bytes), s.portRuns = true ∧ s.writeFault f = 0 ∧ (s.inRecovery = false ∨ portType f ≠ 1) :=
  ⟨run, portFrame 1 [], by decide +kernel, by decide +kernel, by decide +kernel⟩

theorem witness_CascadeFormation_1 : ∃ (s : State) (p : Fin 2) (b : Bytes), s.live = true ∧ (at' s.casc.ports ↑p).up = true ∧ s.board.cascMaster = true ∧ fieldLE b 0 8 ≠ Config.deviceEui :=
  ⟨linked, 0, strange, rfl, by decide +kernel, by decide +kernel, strange_ne⟩

theorem witness_CascadeFormation_3 : ∃ (s : State) (p : Fin 2) (b : Bytes), s.live = true ∧ (at' s.casc.ports ↑p).up = true ∧ (at' s.casc.ports (1 - ↑p)).up = true ∧ s.board.cascMaster = false ∧ s.casc.conflict = false ∧ s.casc.heard = [] ∧ enumEntries (List.drop 10 b) = [] ∧ fieldLE b 8 1 ≤ 63 :=
  ⟨inCasc (leaf (link1 linked)) (fun c => { c with heard := [] }), 0, zeros 10, rfl, by decide +kernel, by decide +kernel, by decide +kernel, by decide +kernel, by decide +kernel, by decide +kernel, by decide +kernel⟩

theorem witness_CascadeFormation_5 : ∃ (s : State) (b : Bytes), s.live = true ∧ (at' s.casc.ports 1).up = true ∧ s.board.cascMaster = true ∧ s.casc.conflict = false ∧ s.casc.enumPort = 1 ∧ fieldLE b 0 8 = 0 :=
  ⟨inCasc (link1 run) (fun c => { c with enumPort := 1 }), zeros 10, rfl, by decide +kernel, by decide +kernel, by decide +kernel, by decide +kernel, by decide +kernel⟩

theorem witness_CascadeFormation_6 : ∃ (s : State) (b : Bytes), s.live = true ∧ (at' s.casc.ports 0).up = true ∧ (at' s.casc.ports 1).up = true ∧ s.board.cascMaster = true ∧ s.casc.conflict = false ∧ s.casc.enumPort = 0 ∧ fieldLE b 0 8 = 0 :=
  ⟨inCasc (link1 linked) (fun c => { c with enumPort := 0 }), zeros 10, rfl, by decide +kernel, by decide +kernel, by decide +kernel, by decide +kernel, by decide +kernel, by decide +kernel⟩

theorem witness_CascadeFormation_7 : ∃ (s : State) (p : Fin 2), s.live = true ∧ (at' s.casc.ports ↑p).up = false ∧ s.ihUsed ↑p = true ∧ s.casc.topology < 3 ∧ s.board.cascMaster = false ∧ s.casc.conflict = false :=
  ⟨leaf run, 0, rfl, by decide +kernel, by decide +kernel, by decide +kernel, by decide +kernel, by decide +kernel⟩

theorem witness_CascadeFormation_8 : ∃ (s : State) (p : Fin 2), s.live = true ∧ ((at' s.casc.ports ↑p).up = true ∨ s.ihUsed ↑p = false) :=
  ⟨linked, 0, rfl, by decide +kernel⟩

theorem witness_CascadeFormation_9 : ∃ (s : State) (p : Fin 2), s.live = true ∧ (at' s.casc.ports ↑p).up = true :=
  ⟨linked, 0, rfl, by decide +kernel⟩

theorem witness_CascadeFormation_10 : ∃ (s : State) (p : Nat), (at' s.casc.ports p).up = true :=
  ⟨linked, 0, by decide +kernel⟩

theorem witness_CascadeMessages_1 : ∃ (s : State) (p : Fin 2), s.live = true ∧ (at' s.casc.ports ↑p).up = true :=
  ⟨linked, 0, rfl, by decide +kernel⟩

theorem witness_CascadeMessages_2 : ∃ (s : State) (p : Fin 2) (m : Bytes), s.live = true ∧ (at' s.casc.ports ↑p).up = true ∧ m ≠ [] ∧ ihWhole m = false :=
  ⟨linked, 0, [1], rfl, by decide +kernel, by decide +kernel, by decide +kernel⟩

theorem witness_CascadeMessages_3 : ∃ (s : State) (p : Fin 2) (m : Bytes), s.live = true ∧ (at' s.casc.ports ↑p).up = true ∧ m ≠ [] ∧ ihWhole m = true ∧ (at' s.casc.ports ↑p).rx = some (fieldLE m 6 2) ∧ fieldLE m 6 2 < 65536 :=
  ⟨ih0 linked (fun x => { x with rx := some 0 }), 0, zeros 8 ++ leBytes 4 (crc32 (zeros 8)), rfl, by decide +kernel, by decide +kernel, by decide +kernel, rfl, by decide +kernel⟩

theorem witness_CascadeMessages_6 : ∃ (s : State) (p : Fin 2), s.live = true ∧ (at' s.casc.ports ↑p).up = true ∧ (∃ m ∈ (at' s.casc.ports ↑p).unacked, m.sentAt + cUs 20 ≤ s.now) ∧ (∀ m ∈ (at' s.casc.ports ↑p).unacked, m.resends < 8) :=
  ⟨ih0 (clock linked (10 ^ 9)) (fun x => { x with unacked := [⟨0, [], 0, 0, 0⟩] }), 0, rfl, by decide +kernel, by decide +kernel, by decide +kernel⟩

theorem witness_CascadeMessages_7 : ∃ (s : State) (p : Fin 2), s.live = true ∧ (at' s.casc.ports ↑p).up = true ∧ (∃ m ∈ (at' s.casc.ports ↑p).unacked, m.sentAt + cUs 20 ≤ s.now ∧ 8 ≤ m.resends) :=
  ⟨ih0 (clock linked (10 ^ 9)) (fun x => { x with unacked := [⟨0, [], 0, 0, 8⟩] }), 0, rfl, by decide +kernel, by decide +kernel⟩

theorem witness_CascadeDirectory_1 : ∃ (s : State) (u : DirUpdate) (r : List DirUpdate), s.live = true ∧ s.board.cascMaster = true ∧ s.casc.updates = u :: r ∧ u.add = true ∧ lookupKey u.eui s.casc.dir = none ∧ s.casc.dir.length < 16777216 :=
  ⟨inCasc run (fun x => { x with updates := [⟨1, 5, 0, true⟩] }), _, _, rfl, by decide +kernel, rfl, rfl, rfl, by decide +kernel⟩

theorem witness_CascadeDirectory_2 : ∃ (s : State) (u : DirUpdate) (r : List DirUpdate), s.live = true ∧ s.board.cascMaster = true ∧ s.casc.updates = u :: r ∧ u.add = false ∧ lookupKey u.eui s.casc.dir = some u.node :=
  ⟨inCasc run (fun x => { x with updates := [⟨1, 5, 0, false⟩], dir := [(5, 1)] }), _, _, rfl, by decide +kernel, rfl, rfl, rfl⟩

theorem witness_CascadeDirectory_3 : ∃ (s : State) (u : DirUpdate) (r : List DirUpdate) (o : Nat), s.live = true ∧ s.board.cascMaster = true ∧ s.casc.updates = u :: r ∧ u.add = true ∧ lookupKey u.eui s.casc.dir = some o ∧ o ≠ u.node ∧ o ≠ 0 ∧ s.cascSend 1 6 o (leBytes 8 u.eui) = none :=
  ⟨inCasc run (fun x => { x with updates := [⟨1, 5, 0, true⟩], dir := [(5, 2)] }), _, _, _, rfl, by decide +kernel, rfl, rfl, rfl, by decide +kernel, by decide +kernel, rfl⟩

theorem witness_CascadeDirectory_5 : ∃ (s : State) (s1 : State) (origin : Nat) (b : Bytes) (r : List (Nat × Bytes)), s.live = true ∧ (at' s.queue.queues 13).level = 0 ∧ s.casc.forwards = (origin, b) :: r ∧ s.routeForward origin b = some s1 :=
  ⟨inCasc run (fun x => { x with forwards := [(1, zeros 104)] }), _, _, _, _, rfl, by decide +kernel, rfl, rfl⟩

theorem witness_CascadeDirectory_10 : ∃ (s : State) (s1 : State) (n : CascNode) (t : Nat), s.live = true ∧ s.board.cascMaster = true ∧ s.casc.formed = true ∧ s.casc.nodes = [n] ∧ n.taken = some t ∧ n.acked ≠ some t ∧ s.cascSend 1 11 n.node (leBytes 4 t) = some s1 :=
  ⟨inCasc linked (fun x => { x with formed := true, nodes := [{ (default : CascNode) with taken := some 3, node := 1, port := 0 }] }), _, _, _, rfl, by decide +kernel, by decide +kernel, rfl, rfl, by decide +kernel, rfl⟩

theorem witness_CascadeHeartbeats_1 : ∃ (s : State), s.live = true ∧ s.masterFormed = true :=
  ⟨inCasc linked (fun x => { x with formed := true, nodes := [default] }), rfl, by decide +kernel⟩

theorem witness_CascadeHeartbeats_2 : ∃ (s : State) (p : Fin 2), s.live = true ∧ s.board.cascMaster = false ∧ s.casc.own ≠ 255 ∧ s.casc.upstream = ↑p :=
  ⟨placed linked, 0, rfl, by decide +kernel, by decide +kernel, by decide +kernel⟩

theorem witness_CascadeHeartbeats_4 : ∃ (s : State), s.live = true ∧ s.leafPresent = true ∧ s.casc.seenAt + cMs (s.cfgN 24064 3) ≤ s.now :=
  ⟨clock (placed linked) (10 ^ 12), rfl, by decide +kernel, by decide +kernel⟩

theorem witness_CascadeHeartbeats_6 : ∃ (s : State) (k : Fin 64), s.live = true ∧ s.board.cascMaster = true ∧ (∃ n ∈ s.casc.nodes, n.node = ↑k ∧ n.lost = false) :=
  ⟨inCasc run (fun x => { x with nodes := [{ (default : CascNode) with node := 5 }] }), 5, rfl, by decide +kernel, by decide +kernel⟩

theorem witness_CascadeHeartbeats_8 : ∃ (s : State), s.live = true ∧ s.board.cascMaster = false ∧ s.casc.masterLost = true ∧ s.casc.lostAt < s.casc.seenAt :=
  ⟨inCasc (leaf run) (fun x => { x with masterLost := true, seenAt := 1 }), rfl, by decide +kernel, by decide +kernel, by decide +kernel⟩

theorem witness_CascadeHeartbeats_10 : ∃ (s : State), s.live = true ∧ s.masterFormed = true ∧ s.cfgN 8192 4 = 1 :=
  ⟨inCasc (sett linked 0x2000 4 [1]) (fun x => { x with formed := true, nodes := [default] }), rfl, by decide +kernel, by decide +kernel⟩

theorem witness_CascadeHeartbeats_12 : ∃ (s : State) (p : Fin 2) (t : Int), s.live = true ∧ s.leafPresent = true ∧ s.casc.upstream = ↑p ∧ t < s.td0 :=
  ⟨placed (secs linked 1), 0, 0, rfl, by decide +kernel, by decide +kernel, by decide +kernel⟩

theorem witness_CascadeHeartbeats_13 : ∃ (s : State) (p : Fin 2) (t : Int), s.live = true ∧ s.leafPresent = true ∧ s.casc.upstream = ↑p ∧ s.td0 ≤ t ∧ s.cfgN 8192 4 = 1 :=
  ⟨placed (sett linked 0x2000 4 [1]), 0, 10 ^ 15, rfl, by decide +kernel, by decide +kernel, by decide +kernel, by decide +kernel⟩

theorem witness_IslandsAndCrossings_1 : ∃ (s : State) (i : Fin 25) (locked : Bool) (kHz : Nat), s.live = true ∧ s.islandCause (↑i) locked kHz = 0 :=
  ⟨run, 3, true, 800000, rfl, by decide +kernel⟩

theorem witness_IslandsAndCrossings_4 : ∃ (s : State) (i : Fin 25), s.live = true ∧ (at' s.isl.islands ↑i).fault = true :=
  ⟨inIsl (fun x => { x with islands := upd x.islands 3 (fun i => { i with fault := true }) }), 3, rfl, by decide +kernel⟩

theorem witness_IslandsAndCrossings_6 : ∃ (s : State) (i : Fin 25), s.running = true ∧ (at' s.isl.islands ↑i).inReset = false ∧ ↑i ≠ 9 ∧ ↑i < 22 :=
  ⟨island3 (fun x => { x with inReset := false }), 3, rfl, by decide +kernel, by decide +kernel, by decide +kernel⟩

theorem witness_IslandsAndCrossings_9 : ∃ (s : State) (dst : Fin 25) (src : Fin 25), s.live = true ∧ (s.crossing ↑dst ↑src).fenced = true :=
  ⟨crossing0 (fun x => { x with fenced := true }), 0, 1, rfl, by decide +kernel⟩

theorem witness_IslandsAndCrossings_11 : ∃ (s : State) (dst : Fin 25) (src : Fin 25), s.live = true ∧ (s.crossing ↑dst ↑src).fenced = false ∧ ((s.crossing ↑dst ↑src).arrive s.now).2 = true ∧ s.perSecond (s.crossing ↑dst ↑src).eventAt = true :=
  ⟨crossing0 (fun x => { x with invertedAt := some 0, held := true }), 0, 1, rfl, by decide +kernel, by decide +kernel, by decide +kernel⟩

theorem witness_IslandsAndCrossings_12 : ∃ (s : State) (dst : Fin 25) (src : Fin 25), s.live = true ∧ (s.crossing ↑dst ↑src).fenced = false ∧ ((s.crossing ↑dst ↑src).arrive s.now).2 = true ∧ s.perSecond (s.crossing ↑dst ↑src).eventAt = false :=
  ⟨crossing0 (fun x => { x with invertedAt := some 0, held := true, eventAt := some 0 }), 0, 1, rfl, by decide +kernel, by decide +kernel, by decide +kernel⟩

theorem witness_IslandsAndCrossings_13 : ∃ (x : Crossing) (now : Nat) (t : Nat), (x.invertedAt = none ∨ x.invertedAt = some t ∧ x.held = false ∧ t + spacing x.dst x.src ≤ now) :=
  ⟨default, 0, 0, Or.inl rfl⟩

theorem witness_IslandsAndCrossings_14 : ∃ (x : Crossing) (now : Nat) (t : Nat), x.invertedAt = some t ∧ now < t + spacing x.dst x.src :=
  ⟨{ (default : Crossing) with invertedAt := some 0 }, 0, 0, rfl, by decide +kernel⟩

theorem witness_FilteredInputs_1 : ∃ (s : State) (i : Fin 25), s.live = true ∧ s.isInput ↑i = false :=
  ⟨run, 24, rfl, by decide +kernel⟩

theorem witness_FilteredInputs_3 : ∃ (s : State) (i : Fin 25) (level : Bool) (ns : Nat), s.live = true ∧ s.isInput ↑i = true ∧ s.inputCfg (↑i) 1 ≤ ns ∧ (level == (s.inputCfg (↑i) 2 == 1)) = (at' s.isl.inputs ↑i).active :=
  ⟨sett run 0x6200 0 [], 0, false, 10 ^ 9, rfl, by decide +kernel, by decide +kernel, by decide +kernel⟩

theorem witness_FilteredInputs_4 : ∃ (s : State) (i : Fin 25) (level : Bool) (ns : Nat), s.live = true ∧ s.isInput ↑i = true ∧ s.inputCfg (↑i) 1 ≤ ns ∧ (level == (s.inputCfg (↑i) 2 == 1)) = false ∧ (at' s.isl.inputs ↑i).active = true :=
  ⟨input0 (fun x => { x with active := true }), 0, false, 10 ^ 9, rfl, by decide +kernel, by decide +kernel, by decide +kernel, by decide +kernel⟩

theorem witness_FilteredInputs_5 : ∃ (s : State) (i : Fin 25) (level : Bool) (ns : Nat), s.live = true ∧ s.isInput ↑i = true ∧ s.inputCfg (↑i) 1 ≤ ns ∧ (level == (s.inputCfg (↑i) 2 == 1)) = true ∧ (at' s.isl.inputs ↑i).active = false :=
  ⟨run, 0, true, 10 ^ 9, rfl, by decide +kernel, by decide +kernel, by decide +kernel, by decide +kernel⟩

theorem witness_FilteredInputs_6 : ∃ (s : State) (i : Nat), (at' s.isl.inputs i).mask = InputMask.none ∧ s.inputCfg i 4 = 0 :=
  ⟨sett run 0x6040 4 [0], 0, by decide +kernel, by decide +kernel⟩

theorem witness_FilteredInputs_9 : ∃ (s : State) (i : Fin 25), s.live = true ∧ (at' s.isl.inputs ↑i).active = false ∧ (at' s.isl.inputs ↑i).mask = InputMask.stuck :=
  ⟨input0 (fun x => { x with mask := .stuck }), 0, rfl, by decide +kernel, by decide +kernel⟩

theorem witness_FilteredInputs_10 : ∃ (s : State) (i : Fin 25), s.live = true ∧ (at' s.isl.inputs ↑i).active = false ∧ (at' s.isl.inputs ↑i).mask = InputMask.chattering ∧ (at' s.isl.inputs ↑i).maskedAt + cMs (s.inputCfg (↑i) 6) ≤ s.now :=
  ⟨{ input0 (fun x => { x with mask := .chattering }) with time := { run.time with counter := 10 ^ 15 } }, 0, rfl, by decide +kernel, by decide +kernel, by decide +kernel⟩

theorem witness_ErrorsContained_2 : ∃ (s : State) (e : ErrReport), s.live = true ∧ s.health.raised = [e] :=
  ⟨inHealth (fun x => { x with raised := [default] }), _, rfl, rfl⟩

theorem witness_ErrorsContained_5 : ∃ (e : ErrReport), e.cls ≠ 0 ∧ e.code = 21 :=
  ⟨⟨0, 21, 1, 0, 0⟩, by decide +kernel, by decide +kernel⟩

theorem witness_ErrorsContained_6 : ∃ (s : State) (e : ErrReport), e.cls = 1 ∧ e.code ≠ 21 ∧ s.inService (unitOf e.cell) = false :=
  ⟨without run 0x2003, ⟨0x2003, 1, 1, 0, 0⟩, by decide +kernel, by decide +kernel, by decide +kernel⟩

theorem witness_ErrorsContained_7 : ∃ (s : State) (e : ErrReport), e.cls = 1 ∧ e.code ≠ 21 ∧ s.inService (unitOf e.cell) = true :=
  ⟨run, ⟨0x2003, 1, 1, 0, 0⟩, by decide +kernel, by decide +kernel, by decide +kernel⟩

theorem witness_ErrorsContained_8 : ∃ (e : ErrReport), e.cls = 2 ∧ e.code ≠ 21 ∧ e.code ≠ 32 ∧ e.code ≠ 53 ∧ (e.code ≠ 48 ∨ cellKind e.cell ≠ 0) :=
  ⟨⟨0x2003, 1, 2, 0, 0⟩, by decide +kernel, by decide +kernel, by decide +kernel, by decide +kernel, by decide +kernel⟩

theorem witness_ErrorsContained_9 : ∃ (cell : Nat), critical (unitOf cell) = true :=
  ⟨0x2000, by decide +kernel⟩

theorem witness_ErrorsContained_10 : ∃ (s : State) (cell : Nat), critical (unitOf cell) = false ∧ s.inService (unitOf cell) = false :=
  ⟨without run 0x2003, 0x2003, by decide +kernel, by decide +kernel⟩

theorem witness_ErrorsContained_12 : ∃ (s : State) (cell : Nat), critical (unitOf cell) = false ∧ s.inService (unitOf cell) = true ∧ 9 < cellKind (unitOf cell) :=
  ⟨run, 0x1C00, by decide +kernel, by decide +kernel, by decide +kernel⟩

theorem witness_ErrorsContained_13 : ∃ (s : State) (cell : Nat), s.live = true ∧ 1 ≤ (s.cellRec cell).attempts ∧ (s.cellRec cell).attempts ≤ 3 ∧ (s.cellRec cell).failedAt + cUs (s.kindPolicy cell 3 * 4 ^ ((s.cellRec cell).attempts - 1)) ≤ s.now ∧ 2 ≤ cellKind cell :=
  ⟨clock (failed 0x2003 (fun x => { x with status := .fenced, attempts := 1 })) (10 ^ 12), 0x2003, rfl, by decide +kernel, by decide +kernel, by decide +kernel, by decide +kernel⟩

theorem witness_CellService_1 : ∃ (s : State) (role : Nat) (v : Nat), TakesCommands s ∧ roleMay role .operator = true ∧ (cellDefined v = false ∨ 9 < cellKind v) :=
  ⟨run, 1, 0xFFFF, ⟨rfl, rfl, rfl⟩, by decide +kernel, by decide +kernel⟩

theorem witness_CellService_2 : ∃ (s : State) (role : Nat) (v : Nat), TakesCommands s ∧ roleMay role .operator = true ∧ cellDefined v = true ∧ cellKind v ≤ 9 ∧ s.inService v = false :=
  ⟨without run 0x2100, 1, 0x2100, ⟨rfl, rfl, rfl⟩, by decide +kernel, by decide +kernel, by decide +kernel, by decide +kernel⟩

theorem witness_CellService_5 : ∃ (s : State) (role : Nat) (v : Nat), TakesCommands s ∧ roleMay role .operator = true ∧ (s.cellStatus v = CellStatus.returnReady ∨ s.cellStatus v = CellStatus.held) :=
  ⟨failed 0x2003 (fun x => { x with status := .returnReady }), 1, 0x2003, ⟨rfl, rfl, rfl⟩, by decide +kernel, by decide +kernel⟩

theorem witness_CellService_7 : ∃ (s : State) (role : Nat) (a : Nat), TakesCommands s ∧ roleMay role .operator = true ∧ s.cfgN 25632 0 = a ∧ a ≠ 57600 ∧ a % 8192 ≠ 7936 :=
  ⟨sett run 0x6420 0 [0, 0x20], 1, 0x2000, ⟨rfl, rfl, rfl⟩, by decide +kernel, by decide +kernel, by decide +kernel, by decide +kernel⟩

theorem witness_CellService_8 : ∃ (s : State) (k : Nat), s.live = true ∧ s.health.failover = some k :=
  ⟨inHealth (fun x => { x with failover := some 1 }), _, rfl, rfl⟩

theorem witness_CellService_10 : ∃ (s : State) (cell : Nat), s.live = true ∧ ((s.cellRec cell).status = CellStatus.fenced ∨ (s.cellRec cell).status = CellStatus.retired) ∧ ((s.cellRec cell).lastTest = 0 ∨ (s.cellRec cell).lastTest + cSec (s.kindPolicy cell 5) ≤ s.now) :=
  ⟨failed 0x2003 (fun x => { x with status := .fenced }), 0x2003, rfl, by decide +kernel, by decide +kernel⟩

theorem witness_FreezeAndSwatch_2 : ∃ (s : State), (s.power.phase = PowerPhase.run ∨ s.power.phase = PowerPhase.castOn ∨ s.power.phase = PowerPhase.flushed ∨ s.power.phase = PowerPhase.stopped) ∧ s.debugGrants 0 = true ∧ s.health.frozen = true :=
  ⟨grants, by decide +kernel, by decide +kernel, by decide +kernel⟩

theorem witness_FreezeAndSwatch_3 : ∃ (s : State), s.cfgN 25665 1 ≠ 1 :=
  ⟨sett run 0x6441 1 [0], by decide +kernel⟩

theorem witness_FreezeAndSwatch_4 : ∃ (s : State), s.debugGrants 0 = false :=
  ⟨fused 1, by decide +kernel⟩

theorem witness_FreezeAndSwatch_5 : ∃ (s : State), (s.power.phase = PowerPhase.lastGasp ∨ s.power.phase = PowerPhase.held ∨ s.power.phase = PowerPhase.refHeld) :=
  ⟨phased .lastGasp, by decide +kernel⟩

theorem witness_FreezeAndSwatch_6 : ∃ (s : State), s.health.frozen = true ∧ s.health.freezeDebug = true :=
  ⟨inHealth (fun x => { x with frozen := true, freezeDebug := true }), by decide +kernel, by decide +kernel⟩

theorem witness_FreezeAndSwatch_7 : ∃ (s : State), s.health.frozen = true ∧ s.health.freezePin = false :=
  ⟨grants, by decide +kernel, by decide +kernel⟩

theorem witness_FreezeAndSwatch_9 : ∃ (s : State), s.power.phase ≠ PowerPhase.held ∧ s.debugGrants 0 = false :=
  ⟨fused 1, by decide +kernel, by decide +kernel⟩

theorem witness_FreezeAndSwatch_10 : ∃ (s : State) (cell : Nat) (space : Nat), s.power.phase ≠ PowerPhase.held ∧ s.debugGrants 0 = true ∧ s.health.frozen = true ∧ cellDefined cell = true ∧ space ≤ 1 ∧ secretCell cell = false :=
  ⟨grants, 0x2100, 0, by decide +kernel, by decide +kernel, by decide +kernel, by decide +kernel, by decide +kernel, by decide +kernel⟩

theorem witness_FreezeAndSwatch_11 : ∃ (s : State) (cell : Nat) (space : Nat) (secret : Bool), s.power.phase ≠ PowerPhase.held ∧ s.debugGrants 0 = true ∧ s.health.frozen = true ∧ cellDefined cell = true ∧ space ≤ 1 ∧ (secretCell cell = true ∨ secret = true) :=
  ⟨grants, 0xA000, 0, false, by decide +kernel, by decide +kernel, by decide +kernel, by decide +kernel, by decide +kernel, by decide +kernel⟩

theorem witness_ResetsAndLastGasp_2 : ∃ (s : State), s.power.phase = PowerPhase.flushed :=
  ⟨phased .flushed, by decide +kernel⟩

theorem witness_ResetsAndLastGasp_3 : ∃ (s : State), s.power.phase = PowerPhase.lastGasp :=
  ⟨phased .lastGasp, by decide +kernel⟩

theorem witness_ResetsAndLastGasp_6 : ∃ (s : State), (s.power.phase = PowerPhase.flushed ∨ s.power.phase = PowerPhase.held) :=
  ⟨phased .held, by decide +kernel⟩

theorem witness_ResetsAndLastGasp_8 : ∃ (s : State), (s.power.phase = PowerPhase.flushed ∨ s.power.phase = PowerPhase.stopped) :=
  ⟨phased .stopped, by decide +kernel⟩

theorem witness_ResetsAndLastGasp_11 : ∃ (s : State), s.power.phase = PowerPhase.run ∧ s.health.frozen = true :=
  ⟨grants, by decide +kernel, by decide +kernel⟩

theorem witness_ResetsAndLastGasp_13 : ∃ (s : State), s.power.phase = PowerPhase.lastGasp ∧ s.power.gaspAt + cMs 180 ≤ s.now ∧ s.power.pfailLow = true :=
  ⟨{ phased .lastGasp with power := { (phased .lastGasp).power with gaspAt := 0, pfailLow := true }, time := { run.time with counter := 10 ^ 12 } }, by decide +kernel, by decide +kernel, by decide +kernel⟩

theorem witness_ResetsAndLastGasp_17 : ∃ (s : State) (role : Nat), TakesCommands s ∧ roleMay role .operator = true ∧ s.power.phase = PowerPhase.lastGasp :=
  ⟨phased .lastGasp, 1, ⟨rfl, rfl, rfl⟩, by decide +kernel, by decide +kernel⟩

theorem witness_ClocksSupplyAndCastOn_2 : ∃ (s : State) (t : Nat), s.live = true ∧ s.power.refLostAt = some t :=
  ⟨inPower (fun x => { x with refLostAt := some 0 }), _, rfl, rfl⟩

theorem witness_ClocksSupplyAndCastOn_3 : ∃ (s : State) (t : Nat), s.live = true ∧ s.power.refLostAt = some t ∧ t + cMs 100 ≤ s.now ∧ s.power.phase = PowerPhase.run :=
  ⟨clock (inPower (fun x => { x with refLostAt := some 0 })) (10 ^ 12), _, rfl, rfl, by decide +kernel, by decide +kernel⟩

theorem witness_ClocksSupplyAndCastOn_5 : ∃ (s : State) (t : Nat), s.live = true ∧ s.power.refLostAt = some t ∧ s.now ≤ t + cMs 100 :=
  ⟨inPower (fun x => { x with refLostAt := some 0 }), _, rfl, rfl, by decide +kernel⟩

theorem witness_ClocksSupplyAndCastOn_6 : ∃ (s : State), s.power.phase = PowerPhase.refHeld :=
  ⟨phased .refHeld, by decide +kernel⟩

theorem witness_ClocksSupplyAndCastOn_7 : ∃ (s : State) (rail : Fin 7) (bank : Nat) (mV : Nat), s.live = true ∧ warnLevel (↑rail) (s.board.banks33.getD bank false) ≤ mV :=
  ⟨run, 0, 0, 770, rfl, by decide +kernel⟩

theorem witness_ClocksSupplyAndCastOn_9 : ∃ (s : State), s.running = true ∧ s.power.lastSaveAt + cSec 60 ≤ s.now :=
  ⟨clock run (10 ^ 15), rfl, by decide +kernel⟩

theorem witness_ServicePort_3 : ∃ (s : State) (f : Bytes), s.portRuns = true ∧ s.writeFault f = 7 :=
  ⟨run, [0xA5, 0, 0, 1] ++ zeros 4, by decide +kernel, by decide +kernel⟩

theorem witness_ServicePort_4 : ∃ (s : State), s.portRuns = true ∧ 4 ≤ s.fw.port.inputs.length :=
  ⟨inFw run (fun x => { x with port := { x.port with inputs := [[], [], [], []] } }), by decide +kernel, by decide +kernel⟩

theorem witness_ServicePort_7 : ∃ (s : State) (n : Nat) (f : Bytes) (r : List Bytes), s.portRuns = true ∧ s.fw.port.outputs = f :: r ∧ List.length f ≤ n :=
  ⟨inFw run (fun x => { x with port := { x.port with outputs := [[1]] } }), 1, _, _, by decide +kernel, rfl, by decide +kernel⟩

theorem witness_ServicePort_8 : ∃ (s : State) (n : Nat) (f : Bytes) (r : List Bytes), s.portRuns = true ∧ s.fw.port.outputs = f :: r ∧ n < List.length f :=
  ⟨inFw run (fun x => { x with port := { x.port with outputs := [[1]] } }), 0, _, _, by decide +kernel, rfl, by decide +kernel⟩

theorem witness_ServicePort_10 : ∃ (s : State) (f : Bytes) (r : List Bytes), s.portRuns = true ∧ s.fw.port.inputs = f :: r ∧ portType f = 32 ∧ s.fw.port.outputs.length < 16 :=
  ⟨inFw run (fun x => { x with port := { x.port with inputs := [portFrame 0x20 []] } }), _, _, by decide +kernel, rfl, rfl, by decide +kernel⟩

theorem witness_ImageStaging_1 : ∃ (s : State) (s1 : State) (p : Bytes), s.portRuns = true ∧ s.takeInput 16 = some (s1, p) ∧ s.inService updateCell = true ∧ List.length p = 4 ∧ (s.fw.state < 3 ∨ 5 < s.fw.state) ∧ leNat p ≠ 0 ∧ leNat p ≤ 4194304 :=
  ⟨inFw run (fun x => { x with port := { x.port with inputs := [portFrame 0x10 (leBytes 4 4194304)] } }), _, _, by decide +kernel, rfl, by decide +kernel, rfl, by decide +kernel, by decide +kernel, by decide +kernel⟩

theorem witness_ImageStaging_2 : ∃ (s : State) (s1 : State) (p : Bytes), s.portRuns = true ∧ s.takeInput 16 = some (s1, p) ∧ s.inService updateCell = true ∧ List.length p = 4 ∧ 3 ≤ s.fw.state ∧ s.fw.state ≤ 5 :=
  ⟨inFw run (fun x => { x with state := 3, port := { x.port with inputs := [portFrame 0x10 (leBytes 4 1)] } }), _, _, by decide +kernel, rfl, by decide +kernel, rfl, by decide +kernel, by decide +kernel⟩

theorem witness_ImageStaging_3 : ∃ (s : State) (s1 : State) (p : Bytes), s.portRuns = true ∧ s.takeInput 17 = some (s1, p) ∧ s.inService updateCell = true ∧ 5 ≤ List.length p ∧ List.length p ≤ 1028 ∧ s.fw.opened = true ∧ fieldLE p 0 4 = s.fw.next ∧ fieldLE p 0 4 + (List.length p - 4) ≤ s.fw.total :=
  ⟨inFw run (fun x => { x with opened := true, total := 1, port := { x.port with inputs := [portFrame 0x11 (zeros 5)] } }), _, _, by decide +kernel, rfl, by decide +kernel, by decide +kernel, by decide +kernel, by decide +kernel, rfl, by decide +kernel⟩

theorem witness_ImageStaging_4 : ∃ (s : State) (s1 : State) (p : Bytes), s.portRuns = true ∧ s.takeInput 17 = some (s1, p) ∧ s.inService updateCell = true ∧ 5 ≤ List.length p ∧ List.length p ≤ 1028 ∧ (s.fw.opened = false ∨ fieldLE p 0 4 ≠ s.fw.next) :=
  ⟨inFw run (fun x => { x with port := { x.port with inputs := [portFrame 0x11 (zeros 5)] } }), _, _, by decide +kernel, rfl, by decide +kernel, by decide +kernel, by decide +kernel, by decide +kernel⟩

theorem witness_ImageStaging_6 : ∃ (s : State) (s1 : State) (p : Bytes) (check : Nat) (code : Nat), s.portRuns = true ∧ s.takeInput 18 = some (s1, p) ∧ s.inService updateCell = true ∧ s.fw.opened = true ∧ s.fw.next = s.fw.total ∧ (s1.checkImageSlot (s.fwSlot s.idleSlot).image).imageFault (s.fwSlot s.idleSlot).image = some (check, code) :=
  ⟨inFw run (fun x => { x with opened := true, port := { x.port with inputs := [portFrame 0x12 []] } }), _, _, _, _, by decide +kernel, rfl, by decide +kernel, by decide +kernel, by decide +kernel, rfl⟩

theorem witness_ImageStaging_7 : ∃ (s : State) (role : Nat), TakesCommands s ∧ roleMay role .operator = true ∧ s.inService updateCell = true ∧ s.fw.state = 2 :=
  ⟨inFw run (fun x => { x with state := 2 }), 1, ⟨rfl, rfl, rfl⟩, by decide +kernel, by decide +kernel, by decide +kernel⟩

theorem witness_CommitOperation_1 : ∃ (s : State) (m : Bytes) (via : Via) (q : DictMsg) (key : Bytes), Accepted s m via q key ∧ Executes s q via ∧ q.operation = opCommit ∧ roleMay q.role .operator = true :=
  ⟨keyed, dmsg opCommit [], via0, dreq opCommit [], key0, took keyed_key rfl (by decide +kernel) (by decide +kernel) (by decide) (by decide +kernel) (by decide +kernel) (by decide +kernel) (by decide +kernel) (by decide +kernel), runs keyed_key (by decide +kernel) (by decide +kernel) (by decide +kernel), by decide +kernel, by decide +kernel⟩

theorem witness_DictionaryOperations_1 : ∃ (s : State) (m : Bytes) (via : Via) (q : DictMsg) (key : Bytes) (r : ObjRow), Accepted s m via q key ∧ Executes s q via ∧ q.operation = opRead ∧ rowOf (payIdx q.payload) (paySub q.payload) = some r ∧ r.ty ≠ Ty.blob ∧ (s.admitted q).readAbort (payIdx q.payload) (paySub q.payload) r = 0 :=
  ⟨keyed, dmsg opRead [0, 0x20, 1, 0], via0, dreq opRead [0, 0x20, 1, 0], key0, (rowOf 0x2000 1).get (by decide +kernel), took keyed_key rfl (by decide +kernel) (by decide +kernel) (by decide) (by decide +kernel) (by decide +kernel) (by decide +kernel) (by decide +kernel) (by decide +kernel), runs keyed_key (by decide +kernel) (by decide +kernel) (by decide +kernel), by decide +kernel, got (by decide +kernel), by decide +kernel, by rw [admitted_after keyed_key]; decide +kernel⟩

theorem witness_DictionaryOperations_2 : ∃ (s : State) (m : Bytes) (via : Via) (q : DictMsg) (key : Bytes) (r : ObjRow) (v : Bytes), Accepted s m via q key ∧ Executes s q via ∧ q.operation = opWrite ∧ rowOf (payIdx q.payload) (paySub q.payload) = some r ∧ r.ty ≠ Ty.blob ∧ r.acc = Access.rwc ∧ roleMay q.role r.role = true ∧ fieldLE q.payload 4 2 = r.ty.size ∧ r.ty.encodingAbort (List.drop 6 q.payload) = 0 ∧ v = takenValue (payIdx q.payload) (paySub q.payload) (List.drop 6 q.payload) ∧ r.range.ok v = true ∧ valueOk (payIdx q.payload) (paySub q.payload) (List.drop 6 q.payload) = true ∧ (s.admitted q).weakens (payIdx q.payload) (paySub q.payload) v = false ∧ (insertKey (objKey (payIdx q.payload) (paySub q.payload)) v (s.admitted q).cfg.staged).length ≤ 4096 :=
  ⟨keyed, dmsg opWrite ([0, 0x20, 1, 0, 1, 0, 7]), via0, dreq opWrite ([0, 0x20, 1, 0, 1, 0, 7]), key0, (rowOf 0x2000 1).get (by decide +kernel), takenValue 0x2000 1 [7], took keyed_key rfl (by decide +kernel) (by decide +kernel) (by decide) (by decide +kernel) (by decide +kernel) (by decide +kernel) (by decide +kernel) (by decide +kernel), runs keyed_key (by decide +kernel) (by decide +kernel) (by decide +kernel), by decide +kernel, got (by decide +kernel), by decide +kernel, by decide +kernel, by decide +kernel, by decide +kernel, by decide +kernel, rfl, by decide +kernel, by decide +kernel, by rw [admitted_after keyed_key]; decide +kernel, by rw [admitted_after keyed_key]; decide +kernel⟩

theorem witness_DictionaryOperations_3 : ∃ (s : State) (m : Bytes) (via : Via) (q : DictMsg) (key : Bytes) (r : ObjRow), Accepted s m via q key ∧ Executes s q via ∧ q.operation = opReadBlock ∧ rowOf (payIdx q.payload) (paySub q.payload) = some r ∧ r.ty = Ty.blob ∧ (s.admitted q).readAbort (payIdx q.payload) (paySub q.payload) r = 0 ∧ fieldLE q.payload 4 4 = 0 ∧ payIdx q.payload ≠ 19488 :=
  ⟨keyed, dmsg opReadBlock ([0x10, 0x24, 0, 0] ++ zeros 4 ++ [0, 4, 0, 0]), via0, dreq opReadBlock ([0x10, 0x24, 0, 0] ++ zeros 4 ++ [0, 4, 0, 0]), key0, (rowOf 0x2410 0).get (by decide +kernel), took keyed_key rfl (by decide +kernel) (by decide +kernel) (by decide) (by decide +kernel) (by decide +kernel) (by decide +kernel) (by decide +kernel) (by decide +kernel), runs keyed_key (by decide +kernel) (by decide +kernel) (by decide +kernel), by decide +kernel, got (by decide +kernel), by decide +kernel, by rw [admitted_after keyed_key]; decide +kernel, by decide +kernel, by decide +kernel⟩

theorem witness_DictionaryOperations_4 : ∃ (s : State) (m : Bytes) (via : Via) (q : DictMsg) (key : Bytes) (r : ObjRow), Accepted s m via q key ∧ Executes s q via ∧ q.operation = opWriteBlock ∧ rowOf (payIdx q.payload) (paySub q.payload) = some r ∧ r.ty = Ty.blob ∧ r.acc ≠ Access.ro ∧ roleMay q.role r.role = true ∧ fieldLE q.payload 4 4 = 0 ∧ fieldLE q.payload 8 4 ≤ blobLimit r ∧ (List.drop 20 q.payload).length < fieldLE q.payload 8 4 :=
  ⟨keyed, dmsg opWriteBlock ([0x10, 0x24, 0, 0] ++ zeros 4 ++ [0, 4, 0, 0] ++ zeros 8), via0, dreq opWriteBlock ([0x10, 0x24, 0, 0] ++ zeros 4 ++ [0, 4, 0, 0] ++ zeros 8), key0, (rowOf 0x2410 0).get (by decide +kernel), took keyed_key rfl (by decide +kernel) (by decide +kernel) (by decide) (by decide +kernel) (by decide +kernel) (by decide +kernel) (by decide +kernel) (by decide +kernel), runs keyed_key (by decide +kernel) (by decide +kernel) (by decide +kernel), by decide +kernel, got (by decide +kernel), by decide +kernel, by decide +kernel, by decide +kernel, by decide +kernel, by decide +kernel, by decide +kernel⟩

theorem witness_DictionaryOperations_5 : ∃ (s : State) (m : Bytes) (via : Via) (q : DictMsg) (key : Bytes), Accepted s m via q key ∧ Executes s q via ∧ q.operation = opCommit ∧ roleMay q.role .operator = true ∧ (s.admitted q).cfg.sets.length < 2 :=
  ⟨keyed, dmsg opCommit [], via0, dreq opCommit [], key0, took keyed_key rfl (by decide +kernel) (by decide +kernel) (by decide) (by decide +kernel) (by decide +kernel) (by decide +kernel) (by decide +kernel) (by decide +kernel), runs keyed_key (by decide +kernel) (by decide +kernel) (by decide +kernel), by decide +kernel, by decide +kernel, by rw [admitted_after keyed_key]; decide +kernel⟩

theorem witness_DictionaryOperations_6 : ∃ (s : State) (m : Bytes) (via : Via) (q : DictMsg) (key : Bytes), Accepted s m via q key ∧ Executes s q via ∧ q.operation = opSubscribe ∧ fieldLE q.payload 1 1 = 1 ∧ fieldLE q.payload 0 1 ≤ 7 ∧ 10 ≤ fieldLE q.payload 2 2 ∧ fieldLE q.payload 2 2 ≤ 3600 :=
  ⟨keyed, dmsg opSubscribe ([0, 1, 10, 0] ++ zeros 20), via0, dreq opSubscribe ([0, 1, 10, 0] ++ zeros 20), key0, took keyed_key rfl (by decide +kernel) (by decide +kernel) (by decide) (by decide +kernel) (by decide +kernel) (by decide +kernel) (by decide +kernel) (by decide +kernel), runs keyed_key (by decide +kernel) (by decide +kernel) (by decide +kernel), by decide +kernel, by decide +kernel, by decide +kernel, by decide +kernel, by decide +kernel⟩

theorem witness_DictionaryOperations_7 : ∃ (s : State) (m : Bytes) (via : Via) (q : DictMsg) (key : Bytes), Accepted s m via q key ∧ Executes s q via ∧ q.operation = opSubscribe ∧ fieldLE q.payload 1 1 = 0 ∧ fieldLE q.payload 0 1 ≤ 7 ∧ 10 ≤ fieldLE q.payload 2 2 ∧ fieldLE q.payload 2 2 ≤ 3600 :=
  ⟨keyed, dmsg opSubscribe ([7, 0, 16, 14] ++ zeros 20), via0, dreq opSubscribe ([7, 0, 16, 14] ++ zeros 20), key0, took keyed_key rfl (by decide +kernel) (by decide +kernel) (by decide) (by decide +kernel) (by decide +kernel) (by decide +kernel) (by decide +kernel) (by decide +kernel), runs keyed_key (by decide +kernel) (by decide +kernel) (by decide +kernel), by decide +kernel, by decide +kernel, by decide +kernel, by decide +kernel, by decide +kernel⟩

theorem witness_DictionaryOperations_8 : ∃ (s : State) (m : Bytes) (via : Via) (q : DictMsg) (key : Bytes) (x : Subscription), Accepted s m via q key ∧ Executes s q via ∧ q.operation = opSubscribe ∧ fieldLE q.payload 1 1 = 2 ∧ fieldLE q.payload 0 1 ≤ 7 ∧ 10 ≤ fieldLE q.payload 2 2 ∧ fieldLE q.payload 2 2 ≤ 3600 ∧ at' (s.admitted q).dict.subs (fieldLE q.payload 0 1) = some x :=
  ⟨(subbed keyed sub0), dmsg opSubscribe ([0, 2, 10, 0] ++ zeros 20), via0, dreq opSubscribe ([0, 2, 10, 0] ++ zeros 20), key0, sub0, took subbed_key rfl (by decide +kernel) (by decide +kernel) (by decide) (by decide +kernel) (by decide +kernel) (by decide +kernel) (by decide +kernel) (by decide +kernel), runs subbed_key (by decide +kernel) (by decide +kernel) (by decide +kernel), by decide +kernel, by decide +kernel, by decide +kernel, by decide +kernel, by decide +kernel, by rw [admitted_after subbed_key]; rfl⟩

theorem witness_DictionaryEngine_1 : ∃ (s : State) (k : Fin 8) (u : Subscription) (kb : Bytes), s.live = true ∧ s.health.deviceFault = false ∧ at' s.dict.subs ↑k = some u ∧ u.buffered ≠ [] ∧ (32 ≤ u.buffered.length ∨ u.firstAt + cMs 10 ≤ s.now) ∧ u.via.transport ≠ 2 ∧ (s.roleKey u.role).2 = some kb :=
  ⟨clock (subbed keyed sub0) (10 ^ 9), 0, sub0, key0, rfl, rfl, rfl, by decide +kernel, by decide +kernel, by decide +kernel, by show (State.roleKey _ 1).2 = _; rw [roleKey_loaded rfl (by decide +kernel) rfl (by decide +kernel)]⟩

theorem witness_DictionaryEngine_2 : ∃ (s : State) (k : Fin 8) (u : Subscription), s.live = true ∧ at' s.dict.subs ↑k = some u ∧ u.leaseEnd ≤ s.now :=
  ⟨clock (subbed run { sub0 with leaseEnd := 5 }) 5, 0, { sub0 with leaseEnd := 5 }, rfl, rfl, by decide +kernel⟩

theorem witness_DictionaryEngine_3 : ∃ (s : State) (k : Fin 8) (u : Subscription), s.live = true ∧ at' s.dict.subs ↑k = some u ∧ s.now < u.leaseEnd :=
  ⟨subbed run { sub0 with leaseEnd := 1 }, 0, { sub0 with leaseEnd := 1 }, rfl, rfl, by decide +kernel⟩

theorem witness_DictionaryEngine_5 : ∃ (s : State) (x : Proxied) (rest : List Proxied) (kb : Bytes), s.live = true ∧ s.dict.proxied = x :: rest ∧ x.sentAt + cMs 50 ≤ s.now ∧ ({ s with dict := { s.dict with proxied := rest } }.roleKey x.role).2 = some kb :=
  ⟨clock { keyed with dict := { keyed.dict with proxied := [{ (default : Proxied) with role := 1 }] } } (10 ^ 9), _, _, key0, rfl, rfl, by decide +kernel, by show (State.roleKey _ 1).2 = _; rw [roleKey_loaded rfl (by decide +kernel) rfl (by decide +kernel)]⟩

theorem witness_DictionaryEngine_6 : ∃ (s : State) (node : Nat) (b : Bytes) (rest : List (Nat × Bytes)), s.live = true ∧ s.casc.results = (node, b) :: rest ∧ (List.find? (fun x => x.ident == fieldLE b 0 4 && x.node == node) s.dict.proxied = none) :=
  ⟨inCasc run (fun x => { x with results := [(1, [])] }), _, _, _, rfl, rfl, rfl⟩

theorem witness_DictionaryEngine_7 : ∃ (s : State) (s2 : State) (node : Nat) (b : Bytes) (kb : Bytes) (rest : List (Nat × Bytes)) (x : Proxied), s.live = true ∧ s.casc.results = (node, b) :: rest ∧ (List.find? (fun x => x.ident == fieldLE b 0 4 && x.node == node) s.dict.proxied = some x) ∧ (s2 = { s with dict := { s.dict with proxied := List.filter (fun y => y.ident != x.ident) s.dict.proxied }, casc := { s.casc with results := rest } }) ∧ (s2.roleKey x.role).2 = some kb :=
  ⟨inCasc { keyed with dict := { keyed.dict with proxied := [{ (default : Proxied) with role := 1, node := 1 }] } } (fun x => { x with results := [(1, [])] }), _, _, _, key0, _, { (default : Proxied) with role := 1, node := 1 }, rfl, rfl, rfl, rfl, by show (State.roleKey _ 1).2 = _; rw [roleKey_loaded rfl (by decide +kernel) rfl (by decide +kernel)]⟩

theorem witness_FrozenLeaves_1 : ∃ (c : Instr) (s : State), s.health.frozen = true ∧ Instr.ungated c = false :=
  ⟨.read [] via0, grants, by decide +kernel, by decide +kernel⟩

theorem witness_FreezeKept_1 : ∃ (n : Nat) (s : State) (t : State), FrozenAt n s ∧ step s = Host.Outcome.next t :=
  ⟨0, grants, _, ⟨rfl, by decide, rfl, by decide⟩, rfl⟩

theorem witness_ResetKept_1 : ∃ (s : State) (t : State), AwaitsCastOn s ∧ step s = Host.Outcome.next t :=
  ⟨State.reset, _, ⟨rfl, fun _ h => absurd h List.not_mem_nil⟩, rfl⟩

theorem witness_TimeDomains_2 : ∃ (s : State) (k : Fin 8) (theta : Int), s.live = true ∧ sampled (s.source ↑k) = true ∧ s.hardwareServo ↑k = true ∧ (s.dom ↑k).sync = true ∧ s.domCfg (↑k) 8 < theta.natAbs :=
  ⟨dom0 (sett (sett (sett run 0x5401 1 [2]) 0x5401 3 [0]) 0x5401 8 [1]) (fun d => { d with sync := true }), 0, 2, rfl, by decide +kernel, by decide +kernel, by decide +kernel, by decide +kernel⟩

theorem witness_TimeDomains_4 : ∃ (s : State) (k : Fin 8) (theta : Int), s.live = true ∧ sampled (s.source ↑k) = true ∧ s.hardwareServo ↑k = true ∧ (s.dom ↑k).sync = true ∧ theta.natAbs ≤ s.domCfg (↑k) 8 ∧ theta.natAbs ≤ s.domCfg (↑k) 7 :=
  ⟨dom0 (sett (sett (sett run 0x5401 1 [2]) 0x5401 3 [0]) 0x5401 8 [1]) (fun d => { d with sync := true }), 0, 0, rfl, by decide +kernel, by decide +kernel, by decide +kernel, by decide +kernel, by decide +kernel⟩

theorem witness_PhaseAndMembership_1 : ∃ (s : State) (r : PhaseRep) (rest : List PhaseRep) (m : Meter) (g : Nat) (th : Nat) (room : State), s.live = true ∧ (at' s.queue.queues 51).level = 0 ∧ s.bal.reports = r :: rest ∧ s.inService 9218 = true ∧ s.pushPacket 18 9218 (zeros 64) = some room ∧ s.meter r.meter = some m ∧ m.groups.getD 0 65535 = g ∧ g ≠ 65535 ∧ gPhaseRef (s.groupIn g) = false ∧ s.thetaLocal r.tm = some th ∧ 3000 < (angleTo th (gOffset (s.groupIn g)) (nearest th (gOffset (s.groupIn g)))).natAbs :=
  ⟨sett (reporting (2000000 * 65536)) 0x2410 0 (zeros 32 ++ [1, 15] ++ zeros 24), _, _, _, _, _, _, rfl, by decide +kernel, rfl, by decide +kernel, got (by decide +kernel), rfl, rfl, by decide +kernel, rfl, rfl, by decide +kernel⟩

theorem witness_PhaseAndMembership_2 : ∃ (s : State) (r : PhaseRep) (rest : List PhaseRep) (m : Meter) (g : Nat) (th : Nat) (room : State), s.live = true ∧ (at' s.queue.queues 51).level = 0 ∧ s.bal.reports = r :: rest ∧ s.inService 9218 = true ∧ s.pushPacket 18 9218 (zeros 64) = some room ∧ s.meter r.meter = some m ∧ m.groups.getD 0 65535 = g ∧ g ≠ 65535 ∧ gPhaseRef (s.groupIn g) = false ∧ s.thetaLocal r.tm = some th ∧ (angleTo th (gOffset (s.groupIn g)) (nearest th (gOffset (s.groupIn g)))).natAbs ≤ 3000 ∧ ((if nearest th (gOffset (s.groupIn g)) = (({ s with bal := { s.bal with reports := rest } }.updMeterBal r.meter fun b => { b with lastTm := some r.tm }).meterBal r.meter).cand then min 255 ((({ s with bal := { s.bal with reports := rest } }.updMeterBal r.meter fun b => { b with lastTm := some r.tm }).meterBal r.meter).run + 1) else 1) < s.cfgB Blk.balance 9216 4 ∨ nearest th (gOffset (s.groupIn g)) = (({ s with bal := { s.bal with reports := rest } }.updMeterBal r.meter fun b => { b with lastTm := some r.tm }).meterBal r.meter).decided) :=
  ⟨sett (reporting 0) 0x2410 0 (zeros 32 ++ [1, 15] ++ zeros 24), _, _, _, _, _, _, rfl, by decide +kernel, rfl, by decide +kernel, got (by decide +kernel), rfl, rfl, by decide +kernel, rfl, rfl, by decide +kernel, by decide +kernel⟩

theorem witness_PhaseAndMembership_3 : ∃ (s : State) (r : PhaseRep) (rest : List PhaseRep) (m : Meter) (g : Nat) (th : Nat) (room : State), s.live = true ∧ (at' s.queue.queues 51).level = 0 ∧ s.bal.reports = r :: rest ∧ s.inService 9218 = true ∧ s.pushPacket 18 9218 (zeros 64) = some room ∧ s.meter r.meter = some m ∧ m.groups.getD 0 65535 = g ∧ g ≠ 65535 ∧ gPhaseRef (s.groupIn g) = false ∧ s.thetaLocal r.tm = some th ∧ (angleTo th (gOffset (s.groupIn g)) (nearest th (gOffset (s.groupIn g)))).natAbs ≤ 3000 ∧ (s.cfgB Blk.balance 9216 4 ≤ if nearest th (gOffset (s.groupIn g)) = (({ s with bal := { s.bal with reports := rest } }.updMeterBal r.meter fun b => { b with lastTm := some r.tm }).meterBal r.meter).cand then min 255 ((({ s with bal := { s.bal with reports := rest } }.updMeterBal r.meter fun b => { b with lastTm := some r.tm }).meterBal r.meter).run + 1) else 1) ∧ (nearest th (gOffset (s.groupIn g)) ≠ (({ s with bal := { s.bal with reports := rest } }.updMeterBal r.meter fun b => { b with lastTm := some r.tm }).meterBal r.meter).decided) :=
  ⟨sett (sett (reporting 0) 0x2400 4 [1]) 0x2410 0 (zeros 32 ++ [1, 15] ++ zeros 24), _, _, _, _, _, _, rfl, by decide +kernel, rfl, by decide +kernel, got (by decide +kernel), rfl, rfl, by decide +kernel, rfl, rfl, by decide +kernel, by decide +kernel, by decide +kernel⟩

theorem witness_FilteredInputs_7 : ∃ (s : State) (i : Fin 25), s.live = true ∧ s.isInput ↑i = true ∧ s.inputCfg (↑i) 3 ≠ 0 ∧ (at' s.isl.inputs ↑i).mask = InputMask.none ∧ (at' s.isl.inputs ↑i).active = true ∧ (at' s.isl.inputs ↑i).activeSince + cMs (s.inputCfg (↑i) 3) ≤ s.now :=
  ⟨{ input0 (fun x => { x with active := true }) with time := { run.time with counter := 10 ^ 15 } }, 0, rfl, by decide +kernel, by decide +kernel, by decide +kernel, by decide +kernel, by decide +kernel⟩

theorem witness_CascadeFormation_2 : ∃ (s : State) (b : Bytes), s.live = true ∧ (at' s.casc.ports 1).up = true ∧ s.board.cascMaster = true ∧ fieldLE b 0 8 = Config.deviceEui ∧ s.casc.enumPort = 0 ∧ s.casc.conflict = false :=
  ⟨inCasc (link1 run) (fun c => { c with enumPort := 0 }), leBytes 8 Config.deviceEui, rfl, by decide +kernel, by decide +kernel, own_eui, by decide +kernel, by decide +kernel⟩

theorem witness_EpochSteps_1 : ∃ (s : State) (p : Sealed) (rest : List Sealed) (f : Nat × Nat), s.running = true ∧ s.cfg.sets = p :: rest ∧ p.published = false ∧ firstFailure (s.setFailures p.values) = some f :=
  ⟨{ run with cfg := { run.cfg with sets := [{ (default : Sealed) with values := [(objKey 0x4810 2, leBytes 4 9), (objKey 0x4810 3, leBytes 4 9)] }] } }, _, _, _, rfl, rfl, rfl, got (by decide +kernel)⟩

theorem witness_Export_8 : ∃ (s : State) (k : State) (key : Bytes), s.exportKey = (k, some key) ∧ s.up.exp.session = none :=
  ⟨exporting, _, _, export_key rfl (by decide +kernel) rfl (by decide +kernel), by decide +kernel⟩

theorem witness_Export_12 : ∃ (s : State) (k : State) (key : Bytes), s.live = true ∧ s.inService 24832 = true ∧ s.exportTarget.isSome = true ∧ s.exportKeyHeld = (k, some key) ∧ (s.up.exp.ackHigh = none ∨ s.up.exp.window ≠ 0) :=
  ⟨keyHeld exporting, _, _, rfl, by decide +kernel, by decide +kernel, export_held (export_key rfl (by decide +kernel) rfl (by decide +kernel)) (by decide +kernel), by decide +kernel⟩

theorem witness_Export_17 : ∃ (s : State) (k : State) (key : Bytes), s.live = true ∧ s.keyStale = true ∧ s.inService 24832 = true ∧ s.exportKey = (k, some key) ∧ s.up.exp.outstanding = [] :=
  ⟨exporting, _, _, rfl, by decide +kernel, by decide +kernel, export_key rfl (by decide +kernel) rfl (by decide +kernel), by decide +kernel⟩

theorem witness_Export_18 : ∃ (s : State) (k : State) (key : Bytes), s.live = true ∧ s.keyStale = true ∧ s.inService 24832 = true ∧ s.exportKey = (k, some key) ∧ s.up.exp.outstanding ≠ [] ∧ s.up.exp.keyWaitAt = none :=
  ⟨inExp exporting (fun x => { x with outstanding := [default] }), _, _, rfl, by decide +kernel, by decide +kernel, export_key rfl (by decide +kernel) rfl (by decide +kernel), by decide +kernel, by decide +kernel⟩

theorem witness_Export_1 : ∃ (s : State) (k : State) (s1 : State) (key : Bytes) (b : Bytes) (b' : Bytes) (q : Nat) (ls : ExportState) (ab : Bool), s.live = true ∧ s.inService 24832 = true ∧ s.pickExport = some (q, ls) ∧ s.exportsToQ20 = false ∧ s.exportTarget.isSome = true ∧ s.exportKeyHeld = (k, some key) ∧ (((List.take (List.findIdx (fun x => x.last) (at' s.queue.queues q).cells + 1) (at' s.queue.queues q).cells).any fun x => x.abort) = false) ∧ { k with up := { k.up with exp := { ls with state := k.up.exp.state, keyRaised := k.up.exp.keyRaised } } }.peekPacket q = some b ∧ { k with up := { k.up with exp := { ls with state := k.up.exp.state, keyRaised := k.up.exp.keyRaised } } }.kindOff q = false ∧ { k with up := { k.up with exp := { ls with state := k.up.exp.state, keyRaised := k.up.exp.keyRaised } } }.popPacket q = some (s1, b', ab) ∧ ls.building ≠ [] ∧ ls.session = none ∧ List.length ls.building + List.length (exportRecord (exportOf q b).1 (exportOf q b).2.1 (exportOf q b).2.2) ≤ 1360 :=
  ⟨keyHeld (inExp (holding exporting 16 (zeros 41)) (fun x => { x with building := [1] })), _, _, _, _, _, 16, _, _, rfl, by decide +kernel, rfl, by decide +kernel, by decide +kernel, export_held (export_key rfl (by decide +kernel) rfl (by decide +kernel)) (by decide +kernel), by decide +kernel, rfl, rfl, rfl, by decide +kernel, rfl, by decide +kernel⟩

set_option maxRecDepth 20000 in

theorem witness_PlcReception_18 : ∃ (s : State) (e : Fin 3) (stamp : Int), s.running = true ∧ (s.eng ↑e).rx = PlcRx.synced stamp ∧ headSymbols (s.band ↑e) ≤ (List.take (headSymbols (s.band ↑e)) ((s.eng ↑e).symbols (s.band ↑e) (frameSpan (s.band ↑e) stamp 0).1)).length ∧ plcHeaderOk (bytesOfBits 9 (headerBits (s.band ↑e) (List.take (headSymbols (s.band ↑e)) ((s.eng ↑e).symbols (s.band ↑e) (frameSpan (s.band ↑e) stamp 0).1)))) = true ∧ hdrTx (bytesOfBits 9 (headerBits (s.band ↑e) (List.take (headSymbols (s.band ↑e)) ((s.eng ↑e).symbols (s.band ↑e) (frameSpan (s.band ↑e) stamp 0).1)))) = 0 :=
  ⟨heard (header 0 8), 0, 0, rfl, by decide +kernel, by decide +kernel, by decide +kernel, by decide +kernel⟩

set_option maxRecDepth 20000 in

theorem witness_PlcReception_19 : ∃ (s : State) (e : Fin 3) (stamp : Int), s.running = true ∧ (s.eng ↑e).rx = PlcRx.synced stamp ∧ headSymbols (s.band ↑e) ≤ (List.take (headSymbols (s.band ↑e)) ((s.eng ↑e).symbols (s.band ↑e) (frameSpan (s.band ↑e) stamp 0).1)).length ∧ plcHeaderOk (bytesOfBits 9 (headerBits (s.band ↑e) (List.take (headSymbols (s.band ↑e)) ((s.eng ↑e).symbols (s.band ↑e) (frameSpan (s.band ↑e) stamp 0).1)))) = true ∧ hdrTx (bytesOfBits 9 (headerBits (s.band ↑e) (List.take (headSymbols (s.band ↑e)) ((s.eng ↑e).symbols (s.band ↑e) (frameSpan (s.band ↑e) stamp 0).1)))) ≠ 0 ∧ s.mapOf (↑e) (hdrTx (bytesOfBits 9 (headerBits (s.band ↑e) (List.take (headSymbols (s.band ↑e)) ((s.eng ↑e).symbols (s.band ↑e) (frameSpan (s.band ↑e) stamp 0).1))))) (hdrMap (bytesOfBits 9 (headerBits (s.band ↑e) (List.take (headSymbols (s.band ↑e)) ((s.eng ↑e).symbols (s.band ↑e) (frameSpan (s.band ↑e) stamp 0).1))))) = none :=
  ⟨heard header3, 0, 0, rfl, by decide +kernel, by decide +kernel, by decide +kernel, by decide +kernel, by decide +kernel⟩

set_option maxRecDepth 20000 in

theorem witness_PlcReception_20 : ∃ (s : State) (e : Fin 3) (stamp : Int) (map : Bytes), s.running = true ∧ (s.eng ↑e).rx = PlcRx.synced stamp ∧ headSymbols (s.band ↑e) ≤ (List.take (headSymbols (s.band ↑e)) ((s.eng ↑e).symbols (s.band ↑e) (frameSpan (s.band ↑e) stamp 0).1)).length ∧ plcHeaderOk (bytesOfBits 9 (headerBits (s.band ↑e) (List.take (headSymbols (s.band ↑e)) ((s.eng ↑e).symbols (s.band ↑e) (frameSpan (s.band ↑e) stamp 0).1)))) = true ∧ hdrTx (bytesOfBits 9 (headerBits (s.band ↑e) (List.take (headSymbols (s.band ↑e)) ((s.eng ↑e).symbols (s.band ↑e) (frameSpan (s.band ↑e) stamp 0).1)))) ≠ 0 ∧ s.mapOf (↑e) (hdrTx (bytesOfBits 9 (headerBits (s.band ↑e) (List.take (headSymbols (s.band ↑e)) ((s.eng ↑e).symbols (s.band ↑e) (frameSpan (s.band ↑e) stamp 0).1))))) (hdrMap (bytesOfBits 9 (headerBits (s.band ↑e) (List.take (headSymbols (s.band ↑e)) ((s.eng ↑e).symbols (s.band ↑e) (frameSpan (s.band ↑e) stamp 0).1))))) = some map :=
  ⟨heard (header 0xFFFE 8), 0, 0, _, rfl, by decide +kernel, by decide +kernel, by decide +kernel, by decide +kernel, rfl⟩

set_option maxRecDepth 20000 in

theorem witness_PlcReception_22 : ∃ (s : State) (e : Fin 3) (stamp : Int) (h : Bytes), s.running = true ∧ (s.eng ↑e).rx = PlcRx.payload stamp h ∧ hdrDur h ≤ (List.take (hdrDur h) (List.drop (headSymbols (s.band ↑e)) ((s.eng ↑e).symbols (s.band ↑e) (frameSpan (s.band ↑e) stamp (hdrDur h)).1))).length ∧ crc32 (List.take (hdrLen h) (decodePayload (hdrLen h) (payloadSofts ((s.mapOf (↑e) (hdrTx h) (hdrMap h)).getD []) (s.band ↑e) (hdrSeg h) (hdrPeriod h) (List.take (hdrDur h) (List.drop (headSymbols (s.band ↑e)) ((s.eng ↑e).symbols (s.band ↑e) (frameSpan (s.band ↑e) stamp (hdrDur h)).1))) 0))) ≠ fieldLE (decodePayload (hdrLen h) (payloadSofts ((s.mapOf (↑e) (hdrTx h) (hdrMap h)).getD []) (s.band ↑e) (hdrSeg h) (hdrPeriod h) (List.take (hdrDur h) (List.drop (headSymbols (s.band ↑e)) ((s.eng ↑e).symbols (s.band ↑e) (frameSpan (s.band ↑e) stamp (hdrDur h)).1))) 0)) (hdrLen h) 4 :=
  ⟨eng0 run (fun x => { x with rx := .payload 0 (header 0xFFFE 8), syms := List.replicate 40 (List.replicate 64 0) }), 0, _, _, rfl, rfl, by decide +kernel, by decide +kernel⟩

theorem witness_RadioTransmission_11 : ∃ (s : State) (p : Fin 2) (d : Fin 16) (air : List Bool), s.radioRuns = true ∧ (at' (s.port ↑p).demods ↑d).state = 2 ∧ bit (airRead (at' (s.port ↑p).demods ↑d).coded air).1 0 = false ∧ bit (airRead (at' (s.port ↑p).demods ↑d).coded air).1 1 = false ∧ bit (airRead (at' (s.port ↑p).demods ↑d).coded air).1 2 = false ∧ (if bit (airRead (at' (s.port ↑p).demods ↑d).coded air).1 3 = true then 2 else 4) + 1 ≤ (airRead (at' (s.port ↑p).demods ↑d).coded air).1 / 32 ∧ (airRead (at' (s.port ↑p).demods ↑d).coded air).1 / 32 ≤ 259 ∧ List.length (airRead (at' (s.port ↑p).demods ↑d).coded air).2 = (airRead (at' (s.port ↑p).demods ↑d).coded air).1 / 32 ∧ List.drop ((airRead (at' (s.port ↑p).demods ↑d).coded air).1 / 32 - if bit (airRead (at' (s.port ↑p).demods ↑d).coded air).1 3 = true then 2 else 4) (airRead (at' (s.port ↑p).demods ↑d).coded air).2 = fcsOf (if bit (airRead (at' (s.port ↑p).demods ↑d).coded air).1 3 = true then 2 else 4) (List.take ((airRead (at' (s.port ↑p).demods ↑d).coded air).1 / 32 - if bit (airRead (at' (s.port ↑p).demods ↑d).coded air).1 3 = true then 2 else 4) (airRead (at' (s.port ↑p).demods ↑d).coded air).2) ∧ s.power.phase = PowerPhase.lastGasp ∧ fType (List.take ((airRead (at' (s.port ↑p).demods ↑d).coded air).1 / 32 - if bit (airRead (at' (s.port ↑p).demods ↑d).coded air).1 3 = true then 2 else 4) (airRead (at' (s.port ↑p).demods ↑d).coded air).2) ≠ 2 :=
  ⟨{ demod0 rad (fun d => { d with state := 2 }) with power := { rad.power with phase := .lastGasp } }, 0, 0, aired, rfl, by decide +kernel, by decide +kernel, by decide +kernel, by decide +kernel, by decide +kernel, by decide +kernel, by decide +kernel, by decide +kernel, by decide +kernel, by decide +kernel⟩

theorem witness_RadioTransmission_12 : ∃ (s : State) (p : Fin 2) (d : Fin 16) (air : List Bool), s.radioRuns = true ∧ (at' (s.port ↑p).demods ↑d).state = 2 ∧ bit (airRead (at' (s.port ↑p).demods ↑d).coded air).1 0 = false ∧ bit (airRead (at' (s.port ↑p).demods ↑d).coded air).1 1 = false ∧ bit (airRead (at' (s.port ↑p).demods ↑d).coded air).1 2 = false ∧ (if bit (airRead (at' (s.port ↑p).demods ↑d).coded air).1 3 = true then 2 else 4) + 1 ≤ (airRead (at' (s.port ↑p).demods ↑d).coded air).1 / 32 ∧ (airRead (at' (s.port ↑p).demods ↑d).coded air).1 / 32 ≤ 259 ∧ List.length (airRead (at' (s.port ↑p).demods ↑d).coded air).2 = (airRead (at' (s.port ↑p).demods ↑d).coded air).1 / 32 ∧ List.drop ((airRead (at' (s.port ↑p).demods ↑d).coded air).1 / 32 - if bit (airRead (at' (s.port ↑p).demods ↑d).coded air).1 3 = true then 2 else 4) (airRead (at' (s.port ↑p).demods ↑d).coded air).2 = fcsOf (if bit (airRead (at' (s.port ↑p).demods ↑d).coded air).1 3 = true then 2 else 4) (List.take ((airRead (at' (s.port ↑p).demods ↑d).coded air).1 / 32 - if bit (airRead (at' (s.port ↑p).demods ↑d).coded air).1 3 = true then 2 else 4) (airRead (at' (s.port ↑p).demods ↑d).coded air).2) ∧ s.power.phase = PowerPhase.run ∧ fType (List.take ((airRead (at' (s.port ↑p).demods ↑d).coded air).1 / 32 - if bit (airRead (at' (s.port ↑p).demods ↑d).coded air).1 3 = true then 2 else 4) (airRead (at' (s.port ↑p).demods ↑d).coded air).2) ≤ 2 ∧ s.inWindow (↑p) (at' (s.port ↑p).demods ↑d).cell (nsOf (s.tdAt 2 (at' (s.port ↑p).demods ↑d).stamp) - ↑(s.shrNs (↑p) (at' (s.port ↑p).demods ↑d).mode) - (at' (s.port ↑p).demods ↑d).slotAt) (s.tdAt 2 (at' (s.port ↑p).demods ↑d).stamp) = false :=
  ⟨demod0 rad (fun d => { d with state := 2 }), 0, 0, aired, rfl, by decide +kernel, by decide +kernel, by decide +kernel, by decide +kernel, by decide +kernel, by decide +kernel, by decide +kernel, by decide +kernel, by decide +kernel, by decide +kernel, by decide +kernel⟩

theorem witness_RadioTransmission_13 : ∃ (s : State) (p : Fin 2) (d : Fin 16) (air : List Bool) (t : State), s.radioRuns = true ∧ (at' (s.port ↑p).demods ↑d).state = 2 ∧ bit (airRead (at' (s.port ↑p).demods ↑d).coded air).1 0 = false ∧ bit (airRead (at' (s.port ↑p).demods ↑d).coded air).1 1 = false ∧ bit (airRead (at' (s.port ↑p).demods ↑d).coded air).1 2 = false ∧ (if bit (airRead (at' (s.port ↑p).demods ↑d).coded air).1 3 = true then 2 else 4) + 1 ≤ (airRead (at' (s.port ↑p).demods ↑d).coded air).1 / 32 ∧ (airRead (at' (s.port ↑p).demods ↑d).coded air).1 / 32 ≤ 259 ∧ List.length (airRead (at' (s.port ↑p).demods ↑d).coded air).2 = (airRead (at' (s.port ↑p).demods ↑d).coded air).1 / 32 ∧ List.drop ((airRead (at' (s.port ↑p).demods ↑d).coded air).1 / 32 - if bit (airRead (at' (s.port ↑p).demods ↑d).coded air).1 3 = true then 2 else 4) (airRead (at' (s.port ↑p).demods ↑d).coded air).2 = fcsOf (if bit (airRead (at' (s.port ↑p).demods ↑d).coded air).1 3 = true then 2 else 4) (List.take ((airRead (at' (s.port ↑p).demods ↑d).coded air).1 / 32 - if bit (airRead (at' (s.port ↑p).demods ↑d).coded air).1 3 = true then 2 else 4) (airRead (at' (s.port ↑p).demods ↑d).coded air).2) ∧ s.power.phase = PowerPhase.run ∧ fType (List.take ((airRead (at' (s.port ↑p).demods ↑d).coded air).1 / 32 - if bit (airRead (at' (s.port ↑p).demods ↑d).coded air).1 3 = true then 2 else 4) (airRead (at' (s.port ↑p).demods ↑d).coded air).2) ≤ 2 ∧ s.inWindow (↑p) (at' (s.port ↑p).demods ↑d).cell (nsOf (s.tdAt 2 (at' (s.port ↑p).demods ↑d).stamp) - ↑(s.shrNs (↑p) (at' (s.port ↑p).demods ↑d).mode) - (at' (s.port ↑p).demods ↑d).slotAt) (s.tdAt 2 (at' (s.port ↑p).demods ↑d).stamp) = true ∧ ((s.demodDone ↑p ↑d).macHears (↑p) (at' (s.port ↑p).demods ↑d) (List.take ((airRead (at' (s.port ↑p).demods ↑d).coded air).1 / 32 - if bit (airRead (at' (s.port ↑p).demods ↑d).coded air).1 3 = true then 2 else 4) (airRead (at' (s.port ↑p).demods ↑d).coded air).2) (nsOf (s.tdAt 2 (at' (s.port ↑p).demods ↑d).stamp) - ↑(s.shrNs (↑p) (at' (s.port ↑p).demods ↑d).mode) - (at' (s.port ↑p).demods ↑d).slotAt) (s.counterOfTd2 ((at' (s.port ↑p).demods ↑d).slotAt + 21000000) - cUs (s.cfgN 16388 2))).pushOrDrop (3 + ↑p) (demodCell ↑p ↑d) (s.radioMeta (↑p) (↑d) (at' (s.port ↑p).demods ↑d) (List.take ((airRead (at' (s.port ↑p).demods ↑d).coded air).1 / 32 - if bit (airRead (at' (s.port ↑p).demods ↑d).coded air).1 3 = true then 2 else 4) (airRead (at' (s.port ↑p).demods ↑d).coded air).2).length ((airRead (at' (s.port ↑p).demods ↑d).coded air).1 / 32) (s.counterOfTd2 ((at' (s.port ↑p).demods ↑d).slotAt + 21000000) - cUs (s.cfgN 16388 2)) ((if bit (airRead (at' (s.port ↑p).demods ↑d).coded air).1 3 = true then 2 else 4) == 4) ++ List.take ((airRead (at' (s.port ↑p).demods ↑d).coded air).1 / 32 - if bit (airRead (at' (s.port ↑p).demods ↑d).coded air).1 3 = true then 2 else 4) (airRead (at' (s.port ↑p).demods ↑d).coded air).2) = (t, true) :=
  ⟨demod0 rad (fun d => { d with state := 2, slotAt := nsOf (rad.tdAt 2 0) - rad.shrNs 0 0 - 2000000 }), 0, 0, aired, _, rfl, by decide +kernel, by decide +kernel, by decide +kernel, by decide +kernel, by decide +kernel, by decide +kernel, by decide +kernel, by decide +kernel, by decide +kernel, by decide +kernel, by decide +kernel, paired (by decide +kernel)⟩

theorem witness_EthernetAndImport_12 : ∃ (s : State) (b : Bytes) (es : List ImportEntry), s.running = true ∧ s.cfgN 20512 1 ≠ 0 ∧ s.inService 25088 = true ∧ importBody b = some es ∧ bit (fieldLE b 3 1) 0 = false ∧ s.cfgN 20512 2 = 0 ∧ s.gatewayListed (fieldLE b 4 8) = true :=
  ⟨sett (sett (sett run 0x5020 1 [1]) 0x5020 2 [0]) 0x5021 0 (zeros 8), [1, 0x30, 1, 0] ++ zeros 12 ++ [1] ++ zeros 20, _, rfl, by decide +kernel, by decide +kernel, rfl, by decide +kernel, by decide +kernel, by decide +kernel⟩

theorem witness_KeySlots_4 : ∃ (s : State) (c : Consumer) (slot : Nat) (eui : Nat) (gen : Nat), s.live = true ∧ s.slotRefusal slot c (KeyUse.up eui gen) = 0 ∧ s.tagOk slot = true :=
  ⟨slotted run 5 pol6 key0, .dictAuth, 5, 0, 0, rfl, by decide +kernel, tag_good rfl⟩

theorem witness_KeySlots_7 : ∃ (s : State) (i : PendingImport), s.live = true ∧ s.vault.pending = some i ∧ s.tagBroken (if fieldLE i.blob 2 1 = 1 then fieldLE i.blob 3 1 else 0) = true :=
  ⟨inVault run (fun x => { x with pending := some ⟨zeros 64, 0, 0⟩, slots := x.slots.set 0 { policy := 1, key := key0, tag := zeros 5 } }), _, rfl, rfl, by simp only [State.tagBroken]; rw [tag_bad (by decide +kernel)]; rfl⟩

theorem witness_KeySlots_8 : ∃ (s : State) (i : PendingImport), s.live = true ∧ s.vault.pending = some i ∧ s.tagBroken (if fieldLE i.blob 2 1 = 1 then fieldLE i.blob 3 1 else 0) = false ∧ s.importKey i.blob = none :=
  ⟨inVault run (fun x => { x with pending := some ⟨zeros 64, 0, 0⟩ }), _, rfl, rfl, by decide +kernel, by rfl⟩

theorem witness_ServicePort_2 : ∃ (s : State) (f : Bytes), s.portRuns = true ∧ s.writeFault f = 0 ∧ s.inRecovery = true ∧ portType f = 1 :=
  ⟨inFw run (fun x => { x with recovery := some (0, 0) }), portFrame 1 [], by decide +kernel, by decide +kernel, by decide +kernel, by decide +kernel⟩

theorem witness_CascadeMessages_4 : ∃ (s : State) (p : Fin 2) (m : Bytes) (t : State), s.live = true ∧ (at' s.casc.ports ↑p).up = true ∧ m ≠ [] ∧ ihWhole m = true ∧ (at' s.casc.ports ↑p).rx = none ∧ fieldLE m 3 1 = s.casc.own ∧ fieldLE m 3 1 ≠ 254 ∧ (((s.updIh ↑p fun x => { x with rx := some (fieldLE m 6 2) }).cascCount 2).takeMessage (↑p) (fieldLE m 0 1) (fieldLE m 1 1) (fieldLE m 2 1) (slice m 8 (fieldLE m 4 2)) = some t) :=
  ⟨inCasc linked (fun c => { c with own := 0 }), 0, zeros 8 ++ leBytes 4 (crc32 (zeros 8)), _, rfl, by decide +kernel, by decide +kernel, by decide +kernel, by decide +kernel, by decide +kernel, by decide +kernel, rfl⟩

theorem witness_CascadeDirectory_7 : ∃ (s : State) (origin : Nat) (o : Nat) (b : Bytes) (t : State), lookupKey (fEui (List.drop 64 b)) s.casc.dir = some o ∧ o ≠ origin ∧ o ≠ 0 ∧ s.cascSend 2 2 o ([byte origin] ++ b) = some t :=
  ⟨inCasc linked (fun x => { x with formed := true, dir := [(0, 1)], nodes := [{ (default : CascNode) with node := 1, port := 0 }] }), 5, _, zeros 104, _, rfl, by decide +kernel, by decide +kernel, got (by decide +kernel)⟩

theorem witness_Sensing_21 : ∃ (s : State) (p : Fin 3) (bits : Nat) (z : Int), s.live = true ∧ s.chanOn ↑p = true ∧ s.sense.phases.length = 3 ∧ (List.take 8 (((at' s.sense.chains ↑p).coarseStep bits).2 :: (at' s.sense.phases ↑p).ys)).length = 8 ∧ (at' s.sense.phases ↑p).armed = true ∧ (at' (List.take 8 (((at' s.sense.chains ↑p).coarseStep bits).2 :: (at' s.sense.phases ↑p).ys)) 4).1 < 0 ∧ 0 ≤ (at' (List.take 8 (((at' s.sense.chains ↑p).coarseStep bits).2 :: (at' s.sense.phases ↑p).ys)) 3).1 ∧ (at' (List.take 8 (((at' s.sense.chains ↑p).coarseStep bits).2 :: (at' s.sense.phases ↑p).ys)) 3).2 = false ∧ (at' s.sense.phases ↑p).half = none ∧ (fitZero (List.map (fun x => x.1) (List.take 8 (((at' s.sense.chains ↑p).coarseStep bits).2 :: (at' s.sense.phases ↑p).ys))).reverse = some z) :=
  ⟨phase0 run (fun x => { x with armed := true, half := none, ys := [(1000, false), (900, false), (800, false), (-900, false), (-1000, false), (-1000, false), (-1000, false)] }), 0, 0, _, rfl, by decide +kernel, by decide +kernel, by decide +kernel, by decide +kernel, by decide +kernel, by decide +kernel, by decide +kernel, by decide +kernel, got (by decide +kernel)⟩

set_option maxRecDepth 20000 in

theorem witness_Images_17 : ∃ (s : State) (s1 : State) (port : Fin 5) (c : Campaign) (l : BlockList) (b : Nat) (rest : List Nat), s.running = true ∧ s.campaignTurn ↑port = some c ∧ (List.find? (fun l => l.port == ↑port) c.lists = some l) ∧ l.blocks = b :: rest ∧ (((s.askStore 42 distCell (c.kind * 256 + c.slot) b).bind fun st => st.sendBlockAll (↑port) (s.blockBody c.kind c.slot (mediumOf ↑port) b).1 (s.blockKeys c (mediumOf ↑port)) l.routes (s.blockBody c.kind c.slot (mediumOf ↑port) b).2) = some s1) :=
  ⟨camp run { (default : Campaign) with phase := .round, lists := [⟨0, [1], []⟩] }, _, 0, _, _, _, _, rfl, rfl, rfl, rfl, got (by decide +kernel)⟩

theorem witness_EthernetAndImport_14 : ∃ (s : State) (s1 : State) (b : Bytes) (r : ReturnEntry) (g : Gateway), s.live = true ∧ s.inService 25088 = true ∧ s.popPacket 14 = some (s1, b, false) ∧ (List.find? (fun r => r.eui == fieldLE b 0 8) s1.up.imp.returns = some r) ∧ (List.find? (fun x => x.eui == r.gateway) s1.up.imp.gateways = some g) ∧ s1.cfgN 20512 2 = 0 :=
  ⟨gated, rest gated 14, front gated 14, _, _, rfl, by decide +kernel, popped (by decide +kernel) (by decide +kernel), rfl, rfl, by decide +kernel⟩

theorem witness_KeySlots_5 : ∃ (s : State) (role : Nat) (blob : Bytes), TakesCommands s ∧ roleMay role .keyholder = true ∧ s.vault.pending = none ∧ (fieldLE blob 1 1 ≤ 31 → s.inService (40960 + fieldLE blob 1 1) = true) ∧ s.importCheck blob = 0 :=
  ⟨kekAt, 2, blobNew, ⟨rfl, rfl, rfl⟩, by decide +kernel, by decide +kernel, fun _ => by decide +kernel, by decide +kernel⟩

theorem witness_IdleStep_3 : ∃ (s : State), s.pending = [] ∧ s.running = true ∧ s.vault.lifeStatus ≠ 1 ∧ s.vault.attestAsked = none ∧ (at' s.queue.queues 13).level = 0 ∧ s.casc.formed = false ∧ s.cfg.sets = [] ∧ (∀ q ∈ [53, 54, 55], s.popPacket q = none) ∧ (∀ p < 2, s.ptpCfg p 1 ≠ 1 ∧ (s.ptpPort p).state = 3) :=
  ⟨run, by decide +kernel, rfl, by decide +kernel, by decide +kernel, by decide +kernel, by decide +kernel, by decide +kernel, by decide +kernel, by decide +kernel⟩

theorem witness_RequestIntake_3 : ∃ (seq : Nat), seq = 0 :=
  ⟨0, rfl⟩

theorem witness_DictionaryEngine_4 : ∃ (s : State) (role : Fin 5), s.live = true ∧ ↑role < s.dict.roles.length :=
  ⟨run, 1, rfl, by decide +kernel⟩

theorem witness_LaneMiddle_17 : ∃ (it : Item), it.isReading = false :=
  ⟨default, by decide +kernel⟩

theorem witness_LaneMiddle_18 : ∃ (it : Item) (m : Meter), it.isReading = false ∧ it.tamper m = false :=
  ⟨default, default, by decide +kernel, by decide +kernel⟩

theorem witness_Sensing_11 : ∃ (s : State), s.live = true ∧ blockIndex (s.instantNow gridStep) ≠ 1599 :=
  ⟨run, rfl, by decide +kernel⟩

theorem witness_Sensing_13 : ∃ (c : Nat), c < 8 :=
  ⟨0, by decide +kernel⟩

theorem witness_Sensing_22 : ∃ (s : State) (p : Nat) (rms : Nat), p < s.sense.phases.length ∧ (at' s.sense.phases p).sag = none ∧ rms * 100 < s.cfgN 8465 1 * s.cfgN 8192 3 :=
  ⟨run, 0, 0, by decide +kernel, by decide +kernel, by decide +kernel⟩

theorem witness_PlcReception_5 : ∃ (s : State) (e : Fin 3), s.live = true ∧ (s.eng ↑e).nextCycle s.td0 = none ∧ s.td0 < ((s.eng ↑e).cycleAt s.td0).1 + ↑((s.eng ↑e).cycleAt s.td0).2 * 65536 :=
  ⟨run, 0, rfl, by decide +kernel, by decide +kernel⟩

theorem witness_PlcReception_25 : ∃ (s : State) (e : Fin 3), s.running = true ∧ ((s.eng ↑e).unknownEnd = false ∨ (s.eng ↑e).quiet < 2) :=
  ⟨run, 0, rfl, by decide +kernel⟩

theorem witness_PlcAccess_1 : ∃ (s : State) (e : Fin 3), s.running = true ∧ s.engineOn ↑e = true ∧ s.cfgN (10241 + ↑e) 8 = 255 ∧ ((s.eng ↑e).rx ≠ PlcRx.search ∨ s.now < (s.eng ↑e).gainAt + cMs 1) ∧ (s.eng ↑e).sendUntil ≤ s.now ∧ s.plc.engines.length = 3 :=
  ⟨run, 0, rfl, by decide +kernel, by decide +kernel, by decide +kernel, by decide +kernel, by decide +kernel⟩

theorem witness_PlcAccess_7 : ∃ (s : State) (e : Fin 3) (b : Int × Nat), s.running = true ∧ s.macFetch ↑e = s ∧ s.boundaryNow ↑e = some b ∧ (s.eng ↑e).openA ≠ some b.1 :=
  ⟨run, 0, _, rfl, rfl, rfl, by decide +kernel⟩

theorem witness_PlcAccess_19 : ∃ (s : State), s.live = true ∧ (∀ l ∈ s.plc.links, s.now < l.lastAt + cSec (s.cfgB (plcBlk (l.engine - 1)) 10320 5)) :=
  ⟨run, rfl, by decide +kernel⟩

theorem witness_RadioReception_15 : ∃ (s : State) (p : Fin 2), s.live = true ∧ (s.portOn ↑p = false ∨ s.slotBoundaryNow = false) :=
  ⟨run, 0, rfl, by decide +kernel⟩

theorem witness_RadioTransmission_16 : ∃ (s : State) (p : Fin 2), s.radioRuns = true ∧ s.macFetch (3 + ↑p) = s ∧ s.now + cUs (s.cfgN 16388 2) < s.counterOfTd2 (slotStart (s.td 2) + 21000000) :=
  ⟨run, 0, rfl, rfl, by decide +kernel⟩

theorem witness_StoreService_23 : ∃ (s : State) (t : State) (u : Fin 16384), s.live = true ∧ s.store.mode = StoreMode.ready ∧ (s.unitUsed ↑u = true ∨ s.store.dueUnits.contains ↑u = true) ∧ ((s.store.snaps.any fun x => x.unit == ↑u) = false) ∧ s.store.imagesOwed.contains ↑u = false ∧ s.pushPacket 40 8704 (leBytes 4 ↑u) = some t :=
  ⟨ready met, _, 0, rfl, by decide +kernel, by decide +kernel, by decide +kernel, by decide +kernel, got (by decide +kernel)⟩

theorem witness_StoreService_24 : ∃ (s : State) (u : Fin 16384), s.live = true ∧ s.unitUsed ↑u = false ∧ s.store.dueUnits.contains ↑u = false :=
  ⟨run, 0, rfl, by decide +kernel, by decide +kernel⟩

theorem witness_EthernetAndImport_5 : ∃ (s : State) (p : Fin 2) (capture : Nat) (tag : Nat) (frame : Bytes) (t : State), s.live = true ∧ s.ethUsable ↑p = true ∧ ((s.ethCount (↑p) 8).put (Out.eth (↑p) frame)).pushOrDrop 53 (24576 + ↑p) (padTo 64 (time80 (s.tdAt 0 (s.ethTxStamp (↑p) capture)) ++ [byte ↑p, 0] ++ leBytes 2 tag ++ leBytes 2 (List.length frame)) ++ frame) = (t, true) :=
  ⟨wired, 0, 0, 0, [], _, rfl, by decide +kernel, rfl⟩

theorem witness_EthernetAndImport_15 : ∃ (s : State), s.live = true ∧ s.popPacket 14 = none :=
  ⟨run, rfl, by decide +kernel⟩

theorem witness_Export_2 : ∃ (s : State), s.live = true ∧ s.pickExport = none :=
  ⟨run, rfl, by decide +kernel⟩

theorem witness_Export_5 : ∃ (s : State), s.live = true ∧ s.up.exp.building = [] :=
  ⟨run, rfl, by decide +kernel⟩

theorem witness_Export_9 : ∃ (s : State) (v : Via) (b : Bytes), s.live = true ∧ s.inService 24832 = true ∧ s.ackBad v b = true :=
  ⟨run, default, [], rfl, by decide +kernel, by decide +kernel⟩

theorem witness_Export_16 : ∃ (s : State), s.live = true ∧ s.up.exp.state = 0 :=
  ⟨run, rfl, by decide +kernel⟩

theorem witness_Export_19 : ∃ (s : State), s.live = true ∧ s.keyStale = false :=
  ⟨run, rfl, by decide +kernel⟩

theorem witness_Export_21 : ∃ (s : State), s.live = true ∧ s.now < s.up.exp.persistAt + cSec 1 :=
  ⟨run, rfl, by decide +kernel⟩

theorem witness_Export_22 : ∃ (s : State) (role : Nat), TakesCommands s ∧ roleMay role .operator = true :=
  ⟨run, 1, ⟨rfl, rfl, rfl⟩, by decide +kernel⟩

theorem witness_TimeDomains_3 : ∃ (s : State) (k : Fin 8), s.live = true ∧ sampled (s.source ↑k) = true ∧ s.hardwareServo ↑k = true ∧ (s.dom ↑k).sync = false :=
  ⟨run, 0, rfl, by decide +kernel, by decide +kernel, by decide +kernel⟩

theorem witness_TimeDomains_7 : ∃ (s : State) (k : Fin 8), s.live = true ∧ s.now < (s.dom ↑k).lastSampleAt + cMs (s.domCfg (↑k) 9) :=
  ⟨run, 0, rfl, by decide +kernel⟩

theorem witness_TimeDomains_15 : ∃ (s : State) (role : Nat), TakesCommands s ∧ roleMay role .operator = true :=
  ⟨run, 1, ⟨rfl, rfl, rfl⟩, by decide +kernel⟩

theorem witness_TimeDomains_16 : ∃ (s : State) (role : Nat) (b : Bytes), TakesCommands s ∧ roleMay role .operator = true ∧ List.length b = 12 ∧ timeOk b = true :=
  ⟨run, 1, (zeros 12), ⟨rfl, rfl, rfl⟩, by decide +kernel, by decide +kernel, by decide +kernel⟩

theorem witness_PairsAndSources_1 : ∃ (s : State) (k : Fin 2), s.live = true ∧ (at' s.time.pairs ↑k).enabled = false :=
  ⟨run, 0, rfl, by decide +kernel⟩

theorem witness_PairsAndSources_6 : ∃ (s : State), s.live = true ∧ s.syncOf 0 = false :=
  ⟨run, rfl, by decide +kernel⟩

theorem witness_PairsAndSources_8 : ∃ (s : State), s.live = true ∧ s.cfgI 21568 2 = 0 :=
  ⟨run, rfl, by decide +kernel⟩

theorem witness_PairsAndSources_9 : ∃ (s : State) (t : State) (p : Fin 2) (capture : Nat) (frame : Bytes), s.live = true ∧ (s.timeCount 6).pushOrDrop 55 (24576 + ↑p) (leBytes 8 capture ++ time80 (s.tdAt (s.portDomain ↑p) (s.ethStamp (↑p) capture)) ++ [byte ↑p] ++ zeros 43 ++ frame) = (t, true) :=
  ⟨run, _, 0, 0, [], rfl, rfl⟩

theorem witness_PairsAndSources_10 : ∃ (s : State) (p : Fin 2), s.live = true ∧ (s.board.cascMaster = true ∨ s.casc.upstream ≠ ↑p) :=
  ⟨run, 0, rfl, by decide +kernel⟩

theorem witness_PairsAndSources_12 : ∃ (s : State) (gpio : Fin 16), s.live = true ∧ (∀ k < 8, s.source k = 6 → s.domCfg k 2 ≠ ↑gpio) :=
  ⟨run, 0, rfl, by decide +kernel⟩

theorem witness_KeySlots_1 : ∃ (s : State) (c : Consumer) (slot : Nat) (u : KeyUse), s.live = true ∧ s.slotRefusal slot c u ≠ 0 :=
  ⟨run, default, 0, default, rfl, by decide +kernel⟩

theorem witness_KeySlots_6 : ∃ (s : State) (role : Nat) (blob : Bytes), TakesCommands s ∧ roleMay role .keyholder = true ∧ s.vault.pending = none ∧ (fieldLE blob 1 1 ≤ 31 → s.inService (40960 + fieldLE blob 1 1) = true) ∧ s.importCheck blob ≠ 0 :=
  ⟨run, 2, [], ⟨rfl, rfl, rfl⟩, by decide +kernel, by decide +kernel, by decide +kernel, by decide +kernel⟩

theorem witness_KeySlots_11 : ∃ (s : State) (role : Nat) (slot : Nat), TakesCommands s ∧ roleMay role .keyholder = true ∧ (slot < 2 ∨ 31 < slot) :=
  ⟨run, 2, 0, ⟨rfl, rfl, rfl⟩, by decide +kernel, by decide +kernel⟩

theorem witness_AttestAndDebug_4 : ∃ (s : State) (role : Nat) (challenge : Bytes), TakesCommands s ∧ roleMay role .operator = true ∧ List.length challenge ≠ 32 :=
  ⟨run, 1, [], ⟨rfl, rfl, rfl⟩, by decide +kernel, by decide +kernel⟩

theorem witness_AttestAndDebug_5 : ∃ (s : State), s.power.phase ≠ PowerPhase.held ∧ s.vault.dbg.failures < 3 ∧ s.vault.dbg.busy = false ∧ s.vault.dbg.state ≠ 2 :=
  ⟨run, by decide +kernel, by decide +kernel, by decide +kernel, by decide +kernel⟩

theorem witness_AttestAndDebug_9 : ∃ (s : State), (s.vault.dbg.state ≠ 1 ∨ s.vault.dbg.answered = true ∨ s.vault.dbg.issuedAt + cSec 60 ≤ s.now) :=
  ⟨run, by decide +kernel⟩

theorem witness_AttestAndDebug_11 : ∃ (s : State), (s.vault.dbg.answered = true ∨ s.now < s.vault.dbg.issuedAt + cSec 60) :=
  ⟨run, by decide +kernel⟩

theorem witness_AttestAndDebug_12 : ∃ (s : State), s.power.phase ≠ PowerPhase.held :=
  ⟨run, by decide +kernel⟩

theorem witness_AttestAndDebug_16 : ∃ (s : State), s.vault.dbg.busy = false :=
  ⟨run, by decide +kernel⟩

theorem witness_TamperResponses_5 : ∃ (s : State) (k : Fin 12), (↑k < 2 ∨ ↑k = 11 ∨ s.tamperResponse ↑k = 0 ∨ (at' s.vaultNv.sources ↑k).armed = false) :=
  ⟨run, 0, by decide +kernel⟩

theorem witness_TamperResponses_10 : ∃ (s : State) (n : Nat), n < s.cfgN 22577 6 :=
  ⟨run, 0, by decide +kernel⟩

theorem witness_TamperResponses_11 : ∃ (s : State) (role : Nat), TakesCommands s ∧ roleMay role .keyholder = true :=
  ⟨run, 2, ⟨rfl, rfl, rfl⟩, by decide +kernel⟩

theorem witness_TamperResponses_12 : ∃ (s : State) (role : Nat), TakesCommands s ∧ roleMay role .keyholder = true ∧ s.power.phase = PowerPhase.run :=
  ⟨run, 2, ⟨rfl, rfl, rfl⟩, by decide +kernel, by decide +kernel⟩

theorem witness_LifeCycle_5 : ∃ (s : State) (role : Nat), TakesCommands s ∧ roleMay role .keyholder = true ∧ s.lcs ≠ LifeCycle.provisioned :=
  ⟨run, 2, ⟨rfl, rfl, rfl⟩, by decide +kernel, by decide +kernel⟩

theorem witness_LifeCycle_7 : ∃ (s : State) (role : Nat), TakesCommands s ∧ roleMay role .keyholder = true ∧ s.lcs ≠ LifeCycle.provisioned ∧ s.lcs ≠ LifeCycle.deployed :=
  ⟨run, 2, ⟨rfl, rfl, rfl⟩, by decide +kernel, by decide +kernel, by decide +kernel⟩

theorem witness_ServicePort_5 : ∃ (s : State) (f : Bytes), s.portRuns = true ∧ s.writeFault f = 9 :=
  ⟨run, [], by decide +kernel, by decide +kernel⟩

theorem witness_ServicePort_6 : ∃ (s : State), s.portRuns = true ∧ s.fw.port.outputs = [] :=
  ⟨run, by decide +kernel, by decide +kernel⟩

theorem witness_ServicePort_9 : ∃ (s : State), s.portRuns = true :=
  ⟨run, by decide +kernel⟩

theorem witness_ServicePort_11 : ∃ (s : State), s.portRuns = true ∧ (s.fw.port.inputs = [] ∨ 16 ≤ s.fw.port.outputs.length) :=
  ⟨run, by decide +kernel, by decide +kernel⟩

theorem witness_ImageStaging_8 : ∃ (s : State) (role : Nat), TakesCommands s ∧ roleMay role .operator = true ∧ s.inService updateCell = true ∧ s.fw.state ≠ 2 :=
  ⟨run, 1, ⟨rfl, rfl, rfl⟩, by decide +kernel, by decide +kernel, by decide +kernel⟩

theorem witness_HandoverAndProbation_2 : ∃ (s : State) (role : Nat), TakesCommands s ∧ roleMay role .operator = true ∧ s.inService updateCell = true ∧ s.fw.state ≠ 2 :=
  ⟨run, 1, ⟨rfl, rfl, rfl⟩, by decide +kernel, by decide +kernel, by decide +kernel⟩

theorem witness_HandoverAndProbation_5 : ∃ (s : State) (role : Nat), TakesCommands s ∧ roleMay role .operator = true ∧ s.inService updateCell = true ∧ s.fw.state ≠ 4 :=
  ⟨run, 1, ⟨rfl, rfl, rfl⟩, by decide +kernel, by decide +kernel, by decide +kernel⟩

theorem witness_HandoverAndProbation_9 : ∃ (s : State), s.live = true ∧ s.fw.state ≠ 3 :=
  ⟨run, rfl, by decide +kernel⟩

theorem witness_HandoverAndProbation_11 : ∃ (s : State) (cause : Nat), s.live = true ∧ s.mayAbandon cause = false :=
  ⟨run, 0, rfl, by decide +kernel⟩

theorem witness_HandoverAndProbation_14 : ∃ (s : State), s.live = true ∧ (s.fw.state ≠ 4 ∨ s.now < s.fw.probationEnd) :=
  ⟨run, rfl, by decide +kernel⟩

theorem witness_HandoverAndProbation_16 : ∃ (s : State), s.running = true ∧ s.fw.state ≠ 4 :=
  ⟨run, rfl, by decide +kernel⟩

theorem witness_CascadeFormation_4 : ∃ (s : State) (p : Fin 2), s.live = true ∧ (at' s.casc.ports ↑p).up = false :=
  ⟨run, 0, rfl, by decide +kernel⟩

theorem witness_CascadeMessages_5 : ∃ (s : State) (p : Fin 2), s.live = true ∧ (at' s.casc.ports ↑p).up = false :=
  ⟨run, 0, rfl, by decide +kernel⟩

theorem witness_CascadeMessages_8 : ∃ (s : State) (p : Fin 2), s.live = true ∧ (∀ m ∈ (at' s.casc.ports ↑p).unacked, s.now < m.sentAt + cUs 20) :=
  ⟨run, 0, rfl, by decide +kernel⟩

theorem witness_CascadeDirectory_4 : ∃ (s : State), s.live = true ∧ s.casc.updates = [] :=
  ⟨run, rfl, by decide +kernel⟩

theorem witness_CascadeDirectory_6 : ∃ (s : State), s.live = true ∧ (at' s.queue.queues 13).level = 0 ∧ s.casc.forwards = [] ∧ s.peekPacket 33 = none :=
  ⟨run, rfl, by decide +kernel, by decide +kernel, by decide +kernel⟩

theorem witness_CascadeDirectory_8 : ∃ (s : State), s.live = true :=
  ⟨run, rfl⟩

theorem witness_CascadeDirectory_9 : ∃ (s : State), s.live = true ∧ s.masterFormed = false :=
  ⟨run, rfl, by decide +kernel⟩

theorem witness_CascadeHeartbeats_3 : ∃ (s : State) (p : Fin 2), s.live = true ∧ (s.board.cascMaster = true ∨ s.casc.own = 255 ∨ s.casc.upstream ≠ ↑p) :=
  ⟨run, 0, rfl, by decide +kernel⟩

theorem witness_CascadeHeartbeats_5 : ∃ (s : State), s.live = true ∧ (s.leafPresent = false ∨ s.now < s.casc.seenAt + cMs (s.cfgN 24064 3)) :=
  ⟨run, rfl, by decide +kernel⟩

theorem witness_CascadeHeartbeats_7 : ∃ (s : State) (k : Fin 64), s.live = true ∧ (s.board.cascMaster = false ∨ ∀ n ∈ s.casc.nodes, n.node = ↑k → n.lost = true) :=
  ⟨run, 0, rfl, by decide +kernel⟩

theorem witness_CascadeHeartbeats_9 : ∃ (s : State), s.live = true ∧ s.casc.masterLost = false :=
  ⟨run, rfl, by decide +kernel⟩

theorem witness_CascadeHeartbeats_11 : ∃ (s : State), s.live = true ∧ (s.masterFormed = false ∨ s.cfgN 8192 4 ≠ 1) :=
  ⟨run, rfl, by decide +kernel⟩

theorem witness_IslandsAndCrossings_2 : ∃ (s : State) (i : Fin 25) (locked : Bool) (kHz : Nat), s.live = true ∧ s.islandCause (↑i) locked kHz ≠ 0 :=
  ⟨run, 0, false, 0, rfl, by decide +kernel⟩

theorem witness_IslandsAndCrossings_3 : ∃ (s : State) (i : Nat), (at' s.isl.islands i).fault = false :=
  ⟨run, 0, by decide +kernel⟩

theorem witness_IslandsAndCrossings_5 : ∃ (s : State) (i : Fin 25), s.live = true ∧ (at' s.isl.islands ↑i).fault = false :=
  ⟨run, 0, rfl, by decide +kernel⟩

theorem witness_IslandsAndCrossings_7 : ∃ (s : State) (i : Fin 25), s.live = true ∧ ((at' s.isl.islands ↑i).inReset = true ∨ ↑i = 9 ∨ 22 ≤ ↑i) :=
  ⟨run, 0, rfl, by decide +kernel⟩

theorem witness_IslandsAndCrossings_8 : ∃ (s : State), s.live = true :=
  ⟨run, rfl⟩

theorem witness_IslandsAndCrossings_10 : ∃ (s : State) (dst : Fin 25) (src : Fin 25), s.live = true ∧ (s.crossing ↑dst ↑src).fenced = false ∧ ((s.crossing ↑dst ↑src).arrive s.now).2 = false :=
  ⟨run, 0, 0, rfl, by decide +kernel, by decide +kernel⟩

theorem witness_IslandsAndCrossings_15 : ∃ (s : State) (role : Nat), TakesCommands s ∧ roleMay role .operator = true :=
  ⟨run, 1, ⟨rfl, rfl, rfl⟩, by decide +kernel⟩

theorem witness_FilteredInputs_2 : ∃ (s : State) (i : Fin 25) (ns : Nat), s.live = true ∧ s.isInput ↑i = true ∧ ns < s.inputCfg (↑i) 1 :=
  ⟨run, 0, 0, rfl, by decide +kernel, by decide +kernel⟩

theorem witness_FilteredInputs_8 : ∃ (s : State) (i : Fin 25), s.live = true ∧ (s.inputCfg (↑i) 3 = 0 ∨ (at' s.isl.inputs ↑i).active = false ∨ s.now < (at' s.isl.inputs ↑i).activeSince + cMs (s.inputCfg (↑i) 3)) :=
  ⟨run, 0, rfl, by decide +kernel⟩

theorem witness_FilteredInputs_11 : ∃ (s : State) (i : Fin 25), s.live = true ∧ ((at' s.isl.inputs ↑i).active = true ∨ (at' s.isl.inputs ↑i).mask = InputMask.none) :=
  ⟨run, 0, rfl, by decide +kernel⟩

theorem witness_ErrorsContained_1 : ∃ (s : State), s.live = true ∧ s.health.raised = [] :=
  ⟨run, rfl, by decide +kernel⟩

theorem witness_ErrorsContained_3 : ∃ (s : State) (n : NewError), s.live = true ∧ s.health.raised = [] ∧ n.code ≠ 32 :=
  ⟨run, default, rfl, by decide +kernel, by decide +kernel⟩

theorem witness_ErrorsContained_4 : ∃ (e : ErrReport), e.cls = 0 :=
  ⟨default, by decide +kernel⟩

theorem witness_ErrorsContained_11 : ∃ (s : State) (cell : Nat), critical (unitOf cell) = false ∧ s.inService (unitOf cell) = true ∧ cellKind (unitOf cell) ≤ 9 :=
  ⟨run, 0, by decide +kernel, by decide +kernel, by decide +kernel⟩

theorem witness_ErrorsContained_14 : ∃ (s : State) (cell : Nat), s.live = true ∧ ((s.cellRec cell).attempts = 0 ∨ 4 ≤ (s.cellRec cell).attempts ∨ s.now < (s.cellRec cell).failedAt + cUs (s.kindPolicy cell 3 * 4 ^ ((s.cellRec cell).attempts - 1))) :=
  ⟨run, 0, rfl, by decide +kernel⟩

theorem witness_CellService_3 : ∃ (s : State) (role : Nat) (v : Nat), TakesCommands s ∧ roleMay role .operator = true ∧ cellDefined v = true ∧ cellKind v ≤ 9 ∧ s.inService v = true :=
  ⟨run, 1, 0, ⟨rfl, rfl, rfl⟩, by decide +kernel, by decide +kernel, by decide +kernel, by decide +kernel⟩

theorem witness_CellService_4 : ∃ (s : State) (role : Nat) (v : Nat), TakesCommands s ∧ roleMay role .operator = true ∧ s.cellStatus v ≠ CellStatus.returnReady ∧ s.cellStatus v ≠ CellStatus.held :=
  ⟨run, 1, 0, ⟨rfl, rfl, rfl⟩, by decide +kernel, by decide +kernel, by decide +kernel⟩

theorem witness_CellService_6 : ∃ (s : State) (role : Nat), TakesCommands s ∧ roleMay role .operator = true ∧ s.cfgN 25632 0 = 57600 :=
  ⟨run, 1, ⟨rfl, rfl, rfl⟩, by decide +kernel, by decide +kernel⟩

theorem witness_CellService_9 : ∃ (s : State), s.live = true ∧ s.health.failover = none :=
  ⟨run, rfl, by decide +kernel⟩

theorem witness_CellService_11 : ∃ (s : State) (cell : Nat), s.live = true ∧ (s.cellRec cell).status = CellStatus.inService :=
  ⟨run, 0, rfl, by decide +kernel⟩

theorem witness_FreezeAndSwatch_1 : ∃ (s : State), (s.power.phase = PowerPhase.run ∨ s.power.phase = PowerPhase.castOn ∨ s.power.phase = PowerPhase.flushed ∨ s.power.phase = PowerPhase.stopped) ∧ s.cfgN 25665 1 = 1 ∧ s.health.frozen = false :=
  ⟨run, by decide +kernel, by decide +kernel, by decide +kernel⟩

theorem witness_FreezeAndSwatch_8 : ∃ (s : State), s.health.frozen = false :=
  ⟨run, by decide +kernel⟩

theorem witness_FreezeAndSwatch_12 : ∃ (s : State), s.power.phase ≠ PowerPhase.held :=
  ⟨run, by decide +kernel⟩

theorem witness_ResetsAndLastGasp_1 : ∃ (s : State), (s.power.phase = PowerPhase.run ∨ s.power.phase = PowerPhase.stopped ∨ s.power.phase = PowerPhase.refHeld) :=
  ⟨run, by decide +kernel⟩

theorem witness_ResetsAndLastGasp_4 : ∃ (s : State), (s.power.phase = PowerPhase.castOn ∨ s.power.phase = PowerPhase.held) :=
  ⟨State.reset, by decide +kernel⟩

theorem witness_ResetsAndLastGasp_5 : ∃ (s : State), (s.power.phase = PowerPhase.run ∨ s.power.phase = PowerPhase.refHeld) :=
  ⟨run, by decide +kernel⟩

theorem witness_ResetsAndLastGasp_7 : ∃ (s : State), s.power.phase = PowerPhase.castOn :=
  ⟨State.reset, by decide +kernel⟩

theorem witness_ResetsAndLastGasp_9 : ∃ (s : State), (s.power.phase = PowerPhase.run ∨ s.power.phase = PowerPhase.castOn ∨ s.power.phase = PowerPhase.held ∨ s.power.phase = PowerPhase.refHeld) :=
  ⟨run, by decide +kernel⟩

theorem witness_ResetsAndLastGasp_10 : ∃ (s : State), s.power.phase = PowerPhase.run ∧ s.health.frozen = false :=
  ⟨run, by decide +kernel, by decide +kernel⟩

theorem witness_ResetsAndLastGasp_12 : ∃ (s : State), s.power.phase ≠ PowerPhase.run :=
  ⟨State.reset, by decide +kernel⟩

theorem witness_ResetsAndLastGasp_14 : ∃ (s : State), (s.power.phase ≠ PowerPhase.lastGasp ∨ s.now < s.power.gaspAt + cMs 180) :=
  ⟨run, by decide +kernel⟩

theorem witness_ResetsAndLastGasp_15 : ∃ (s : State) (role : Nat), TakesCommands s ∧ roleMay role .operator = true ∧ s.power.phase = PowerPhase.run :=
  ⟨run, 1, ⟨rfl, rfl, rfl⟩, by decide +kernel, by decide +kernel⟩

theorem witness_ResetsAndLastGasp_16 : ∃ (s : State) (role : Nat) (v : Nat), TakesCommands s ∧ roleMay role .operator = true ∧ v ≠ 1 :=
  ⟨run, 1, 0, ⟨rfl, rfl, rfl⟩, by decide +kernel, by decide +kernel⟩

theorem witness_ClocksSupplyAndCastOn_1 : ∃ (s : State), s.live = true ∧ s.power.refLostAt = none :=
  ⟨run, rfl, by decide +kernel⟩

theorem witness_ClocksSupplyAndCastOn_4 : ∃ (s : State), s.live = true ∧ (s.power.refLostAt = none ∨ s.power.phase = PowerPhase.lastGasp) :=
  ⟨run, rfl, by decide +kernel⟩

theorem witness_ClocksSupplyAndCastOn_8 : ∃ (s : State) (rail : Fin 7) (bank : Nat) (mV : Nat), s.live = true ∧ mV < warnLevel (↑rail) (s.board.banks33.getD bank false) ∧ s.perSecond (s.power.warnEventAt.getD (↑rail) none) = true ∧ at' s.power.warnLowest ↑rail = 0 :=
  ⟨run, 0, 0, 0, rfl, by decide +kernel, by decide +kernel, by decide +kernel⟩

theorem witness_ClocksSupplyAndCastOn_10 : ∃ (s : State), s.running = true ∧ s.now < s.power.lastSaveAt + cSec 60 :=
  ⟨run, rfl, by decide +kernel⟩

theorem witness_ClocksSupplyAndCastOn_11 : ∃ (s : State), (s.power.phase ≠ PowerPhase.castOn ∧ s.power.phase ≠ PowerPhase.held ∨ s.inRecovery = true ∨ s.health.frozen = true) :=
  ⟨run, by decide +kernel⟩

theorem witness_ClocksSupplyAndCastOn_12 : ∃ (s : State) (i : CastOnInput), s.power.phase = PowerPhase.castOn ∧ s.inRecovery = false ∧ s.health.frozen = false ∧ i.vbatLost = false :=
  ⟨State.reset, default, by decide +kernel, by decide +kernel, by decide +kernel, by decide +kernel⟩

theorem witness_PhaseAndMembership_4 : ∃ (s : State) (role : Nat) (i : Nat) (m : Meter) (g : Nat) (t : State), TakesCommands s ∧ roleMay role .operator = true ∧ s.selected = some (i, m) ∧ g ≤ 4095 ∧ s.addRefusal m g = 0 ∧ s.sendCtl 33024 i 4 g 0 [] = some t :=
  ⟨met, 1, _, _, 0, _, ⟨rfl, rfl, rfl⟩, by decide +kernel, rfl, by decide +kernel, rfl, got (by decide +kernel)⟩

theorem witness_PhaseAndMembership_8 : ∃ (s : State) (role : Nat) (i : Nat) (m : Meter) (v : Nat), TakesCommands s ∧ roleMay role .operator = true ∧ s.selected = some (i, m) ∧ v ≤ 4 :=
  ⟨met, 1, _, _, 0, ⟨rfl, rfl, rfl⟩, by decide +kernel, rfl, by decide +kernel⟩

theorem witness_DownlinkCommands_17 : ∃ (s : State) (role : Nat) (v : Nat) (i : Nat) (m : Meter) (t : State), TakesCommands s ∧ roleMay role .operator = true ∧ (v ≤ 255 ∨ v = 65535) ∧ s.selected = some (i, m) ∧ s.sendCtl 33024 i 14 v 0 [] = some t :=
  ⟨met, 1, 0, _, _, _, ⟨rfl, rfl, rfl⟩, by decide +kernel, by decide +kernel, rfl, got (by decide +kernel)⟩

end Sys2Proof.Tests
end

section
/-!
The error collectors: what one error taken in leaves in the counts and in the first-error record (R22, R24), and the order of two errors of one
cycle.
-/
namespace Sys2Proof.Proofs
open Sys2Proof.Machine

variable {top : Nat} {c : Collector} {e f : ErrReport}

@[simp] theorem take_counts : (c.take top e).counts = upd c.counts e.cls (fun n => satAdd top n 1) := rfl

theorem take_first_of_cleared (hc : c.first = none) : (c.take top e).first = some e := by
  simp [Collector.take, hc]

/-- R24: an error of the record's own cycle and of a lower cell replaces the record. -/
theorem take_first_of_lower (hc : c.first = some f) (ht : f.time = e.time) (hlt : e.cell < f.cell) : (c.take top e).first = some e := by
  simp [Collector.take, hc, ht, hlt]

/-- R22: an error of no lower cell than the record's leaves the record, whatever the cycle. -/
theorem take_first_of_not_lower (hc : c.first = some f) (hge : f.cell ≤ e.cell) : (c.take top e).first = some f := by
  simp [Collector.take, hc, Nat.not_lt.mpr hge]

/-- Settles O8: the lower cell stays when it was taken first and replaces the other's record when it was taken second. -/
theorem firstErrorRecord : Obligations.FirstErrorRecord := by
  intro top c e f hc ht hlt
  have lower_then_higher : ((c.take top e).take top f).first = some e :=
    take_first_of_not_lower (take_first_of_cleared hc) hlt.le
  have higher_then_lower : ((c.take top f).take top e).first = some e :=
    take_first_of_lower (take_first_of_cleared hc) ht.symm hlt
  exact ⟨lower_then_higher, higher_then_lower, by simp, by simp⟩

end Sys2Proof.Proofs
end

section
/-!
An accepted request of the dictionary: the admitted state, the path from the request to its operation (R59 to R65), and COMMIT as a write of 1 to
ConfigCommit (R32 step 1, R36, R70).
-/
namespace Sys2Proof.Proofs
open Sys2Proof.Machine Sys2Proof.Laws

/-! ### The admitted state -/

/-- R563: a delivery that is not refused changes the vault alone. -/
theorem deliverKey_vaultOnly {s : State} {c : Consumer} {slot : Nat} {u : KeyUse} (h : (s.deliverKey c slot u).2 = 0) :
    (s.deliverKey c slot u).1 = { s with vault := (s.deliverKey c slot u).1.vault } := by
  unfold State.deliverKey at h ⊢
  dsimp only at h ⊢
  split at h
  case isTrue refused => exact absurd h refused
  case isFalse notRefused =>
    rw [if_neg notRefused]
    split at h
    case isTrue tagBroken => exact absurd h (show Abort.keySlotBad ≠ 0 by decide)
    case isFalse tagRight =>
      rw [if_neg tagRight]
      cases u <;> rfl

theorem roleKey_fst (s : State) (role : Nat) : (s.roleKey role).1 = (s.deliverKey .dictAuth (s.roleSlot role) (.raw 3)).1 := rfl

/-- R52: the check of a role that has a key changes the vault alone. -/
theorem roleKey_vaultOnly {s : State} {role : Nat} {key : Bytes} (h : (s.roleKey role).2 = some key) :
    (s.roleKey role).1 = { s with vault := (s.roleKey role).1.vault } := by
  have served : (s.deliverKey .dictAuth (s.roleSlot role) (.raw 3)).2 = 0 := by
    by_contra refused
    simp [State.roleKey, refused] at h
  rw [roleKey_fst]
  exact deliverKey_vaultOnly served

@[simp] theorem dictCount_health (s : State) (i : Nat) : (s.dictCount i).health = s.health := rfl
@[simp] theorem dictCount_power (s : State) (i : Nat) : (s.dictCount i).power = s.power := rfl
@[simp] theorem countWindow_health (s : State) : s.countWindow.health = s.health := by simp only [State.countWindow]
@[simp] theorem countWindow_power (s : State) : s.countWindow.power = s.power := by simp only [State.countWindow]

/-- Whether the device runs is read off the freeze and the power phase. -/
theorem live_congr {s t : State} (hh : t.health = s.health) (hp : t.power = s.power) : t.live = s.live := by
  simp only [State.live, hh, hp]

section AcceptedRequest
variable {s : State} {m : Bytes} {via : Via} {q : DictMsg} {key : Bytes}

/-- A device that admits a request runs. -/
theorem admitted_live (ha : Accepted s m via q key) : (s.admitted q).live = true := by
  obtain ⟨hlive, -, -, -, hkey, -⟩ := ha
  have hhealth : (s.admitted q).health = s.health := by
    rw [State.admitted, roleKey_vaultOnly hkey]; simp
  have hpower : (s.admitted q).power = s.power := by
    rw [State.admitted, roleKey_vaultOnly hkey]; simp
  rw [live_congr hhealth hpower, hlive]

/-- An accepted request that is executed finds a device that takes commands. -/
theorem admitted_takesCommands (ha : Accepted s m via q key) (he : Executes s q via) : TakesCommands (s.admitted q) :=
  ⟨admitted_live ha, he.2⟩

/-! ### From the request to its operation -/

/-- R59, checks 1 to 3: an accepted request is run in its admitted state. -/
theorem dictRequest_accepted (ha : Accepted s m via q key) : dictRequest m via s = (s.admitted q).runAccepted key q via m := by
  obtain ⟨-, -, -, hparse, hkey, htag, hfresh, -⟩ := ha
  simp only [dictRequest, hparse, hkey, htag, hfresh, ne_eq, not_true_eq_false, if_false]
  rfl

/-- R63: by UDP and under the limit of its second it reaches the checks. -/
theorem dictArrive_accepted (ha : Accepted s m via q key) : dictArrive m via s = (s.admitted q).runAccepted key q via m := by
  have hrequest := dictRequest_accepted ha
  obtain ⟨-, hudp, hroom, -⟩ := ha
  have notPort : via.transport ≠ 2 := by omega
  have notMaster : via.transport ≠ 3 := by omega
  simp only [dictArrive, notPort, notMaster, hroom, if_false, Bool.false_eq_true, hrequest]

/-- R59, checks 4 to 6: a request for this device that nothing refuses or holds is executed and answered. -/
theorem runAccepted_executed {t : State} (hnode : q.node = 0) (hrole : t.roleRefused q.role via.transport = false)
    (hpay : payloadAbort q.operation q.payload = 0) (hfault : t.health.deviceFault = false) (hpause : t.fw.pauseAt = none) :
    t.runAccepted key q via m =
      (runRequest q.role q.operation 0 via q.payload t).1.respond key q.role q.operation q.seq 0 via
        (runRequest q.role q.operation 0 via q.payload t).2 := by
  have own : t.nodeAbort 0 = 0 := rfl
  simp [State.runAccepted, hnode, hrole, hpay, own, hfault, hpause]

/-- An accepted request, executed: its operation in the admitted state, and the response to it. -/
theorem dictArrive_executed (ha : Accepted s m via q key) (he : Executes s q via) :
    dictArrive m via s =
      (runRequest q.role q.operation 0 via q.payload (s.admitted q)).1.respond key q.role q.operation q.seq 0 via
        (runRequest q.role q.operation 0 via q.payload (s.admitted q)).2 := by
  rw [dictArrive_accepted ha]
  obtain ⟨-, -, -, -, -, -, -, hnode, hpay⟩ := ha
  obtain ⟨hrole, hfault, hpause⟩ := he
  exact runAccepted_executed hnode hrole hpay hfault hpause

/-! ### Sealing the staged set -/

/-- R36: with two epochs pending nothing is sealed. -/
theorem sealStaged_full {t : State} (h : 2 ≤ t.cfg.sets.length) : t.sealStaged = (t, Abort.busy) := by
  simp [State.sealStaged, h]

/-- R32 step 1: with fewer the staged set, empty or not, is the last sealed set, and a new one begins empty. -/
theorem sealStaged_room {t : State} (h : t.cfg.sets.length < 2) :
    t.sealStaged.2 = Abort.ok ∧ t.sealStaged.1.cfg.staged = [] ∧
      ∃ p, t.sealStaged.1.cfg.sets = t.cfg.sets ++ [p] ∧ p.values = t.cfg.staged := by
  unfold State.sealStaged
  rw [if_neg (by omega)]
  exact ⟨rfl, rfl, _, rfl, rfl⟩

/-- A write of 1 to ConfigCommit seals the staged set, and the answer leaves. -/
theorem exec_configCommit {t : State} (h : TakesCommands t) {role : Nat} (hr : roleMay role .operator = true) :
    exec (.configCommit role 1) t = .next (t.sealStaged.1.put (.answer 0x1010 1 t.sealStaged.2)) :=
  command_taken h hr 0x1010 1 (configCommit 1)

/-- R70: what COMMIT adds to the code in its response: the number of the sealed set, where one was sealed. -/
def commitPayload (t : State) : Bytes := if t.sealStaged.2 = 0 then leBytes 4 t.sealStaged.1.pendingEpoch else []

/-- COMMIT by a role that may write ConfigCommit seals the staged set. -/
theorem runRequest_commit {role node : Nat} (hr : roleMay role .operator = true) (p : Bytes) (t : State) :
    runRequest role opCommit node via p t = (t.sealStaged.1, t.sealStaged.2, commitPayload t) := by
  have dispatched : runRequest role opCommit node via p t = commitOp role t := rfl
  rw [dispatched, commitOp, hr]
  rfl

/-- An accepted COMMIT seals the staged set of the admitted state, and its response is sent. -/
theorem exec_commit (ha : Accepted s m via q key) (he : Executes s q via) (hop : q.operation = opCommit) (hr : roleMay q.role .operator = true) :
    exec (.commit m via) s = .next ((s.admitted q).sealStaged.1.respond key q.role q.operation q.seq 0 via
      ((s.admitted q).sealStaged.2, commitPayload (s.admitted q))) := by
  have hrun : exec (.commit m via) s = .next (dictArrive m via s) := whenLive_live ha.1 _
  have hseal := runRequest_commit (via := via) (node := 0) hr q.payload (s.admitted q)
  rw [hrun, dictArrive_executed ha he, hop, hseal]

end AcceptedRequest

/-- Settles O9: both commands seal the staged set of the admitted state (`State.sealStaged`), the one under an answer to the write, the other under
the response to the request. -/
theorem commitOperation : Obligations.CommitOperation := by
  intro s m via q key ha he hop hr
  refine ⟨(s.admitted q).sealStaged.1, (s.admitted q).sealStaged.2, commitPayload (s.admitted q), exec_configCommit (admitted_takesCommands ha he) hr,
    exec_commit ha he hop hr, sealStaged_room, fun full => ?_⟩
  have busy := sealStaged_full full
  exact ⟨congrArg Prod.snd busy, congrArg Prod.fst busy⟩

end Sys2Proof.Proofs
end

section
/-!
ESTIMATE: what stage 7 leaves of the last-good state in the shadow record (R187).
-/
namespace Sys2Proof.Proofs
open Sys2Proof.Machine

variable {s : State} {it : Item} {m : Meter}

/-- A valid or suspect reading of an interval above LG_ID becomes the last-good state: its interval, its values with absent channels absent, its
outcome. -/
theorem estimateStage_shadow_of_advances (hr : it.isReading = true) (ho : it.outcome ≤ 1) (hn : m.lgId < it.reading.interval) :
    (estimateStage s it m).shadow = { m with lgId := it.reading.interval, lgVal := it.reading.vals, lgOutcome := it.outcome } := by
  simp [estimateStage, hr, ho, hn]

/-- An invalid reading, or one of an interval not above LG_ID, leaves the shadow record as it came in. -/
theorem estimateStage_shadow_of_not_advances (hr : it.isReading = true) (h : 1 < it.outcome ∨ it.reading.interval ≤ m.lgId) :
    (estimateStage s it m).shadow = m := by
  have stays : ¬(it.outcome ≤ 1 ∧ m.lgId < it.reading.interval) := by omega
  simp [estimateStage, hr, stays]

/-- Settles O10: the reading either replaces the last-good fields of the shadow record or leaves the whole record. -/
theorem lastGoodState : Obligations.LastGoodState := by
  intro s it m hr
  constructor
  · intro ho hn
    rw [estimateStage_shadow_of_advances hr ho hn]
    exact ⟨rfl, rfl⟩
  · intro h
    rw [estimateStage_shadow_of_not_advances hr h]
    exact ⟨rfl, rfl⟩

end Sys2Proof.Proofs
end

section
/-!
TIME: the time of a domain at its own anchor, and what a change of its period leaves of it (R521, R522).
-/
namespace Sys2Proof.Proofs
open Sys2Proof.Machine

/-- R521 at C = C0: no cycles have passed since the anchor, so the period has no part in the time. -/
@[simp] theorem timeAt_anchor (offset : Int) (period anchor : Nat) : timeAt offset period anchor anchor = offset := by
  simp [timeAt]

/-- A domain's time at its anchor is its offset, whatever its period. -/
theorem domain_at_anchor (d : Domain) : d.at d.anchor = d.offset :=
  timeAt_anchor d.offset d.period d.anchor

/-- Settles O11: the re-anchored domain is read at its new anchor, where its time is its new offset, the time under the old period. -/
theorem periodContinuity : Obligations.PeriodContinuity := by
  intro d now p
  have continuous : (d.setPeriod now p).at now = d.at now := domain_at_anchor (d.setPeriod now p)
  exact ⟨rfl, rfl, rfl, continuous⟩

end Sys2Proof.Proofs
end

section
/-!
The gates of the commands: by which condition each command row comes about, said once, and what follows for the step, the roles, and a frozen
device (log entry 1; R53, R690).
-/
namespace Sys2Proof.Proofs
open Sys2Proof.Machine Sys2Proof.Laws

/-- R53, R86: a command row that is a write of a CMD object goes through the gate of commands, under that object's Role column. -/
theorem exec_of_cmdObject {c : Instr} {idx sub role : Nat} {col : RoleCol} (h : Instr.cmdObject c = some (idx, sub, role, col)) :
    ∃ f, ∀ s, exec c s = s.command idx sub role col f := by
  cases c <;> cases h <;> exact ⟨_, fun _ => rfl⟩

/-- The commands of the service port. -/
def ofServicePort (c : Instr) : Bool :=
  match c with
  | .serviceWrite _ | .serviceRead _ | .flags | .status | .imageBegin | .imageData | .imageEnd => true
  | _ => false

/-- The gates by which a command comes about that neither is a write of a CMD object nor comes about in every state. -/
inductive Gated (c : Instr) : Prop
  | live (f : State → State) (h : ∀ s, exec c s = s.whenLive f)
  | running (f : State → State) (h : ∀ s, exec c s = s.whenRunning f)
  | radio (f : State → State) (h : ∀ s, exec c s = s.whenRadio f)
  | lanes (f : State → State) (h : ∀ s, exec c s = s.whenLanes f)
  | port (f : State → State) (h : ∀ s, exec c s = s.whenPort f) (hc : ofServicePort c = true)

theorem gated_of_not_ungated {c : Instr} (hu : Instr.ungated c = false) (hc : Instr.cmdObject c = none) : Gated c := by
  cases c <;> cases hu <;> cases hc
  case txRequest | txOn | transmissionStart | sfdFound | radioFrameEnd | beaconSend | radioAckSend | downCellSend | floodCellSend =>
    exact .radio _ fun _ => rfl
  case dispatch | fetch | identify | derive | decrypt | decode | validate | estimate | balanceContribution | verify | commitOrSquash |
      recordAndAcknowledge | exportEnqueue =>
    exact .lanes _ fun _ => rfl
  case serviceWrite | serviceRead | flags | status | imageBegin | imageData | imageEnd => exact .port _ (fun _ => rfl) rfl
  case configSetCheck | rekeySend | rekeyRetry | joinAcceptSend | joinExpired | networkKeyGraceEnd | sweepStep | historyRebuild | editApplied |
      preambleDetected | syncWordFound | syncWordNotFound | headerDecoded | plcFrameEnd | energyBelowBusy | plcAgcStep | plcTransmit | ackWindowOpen |
      backoffBoundary | neighbourQueryPeriod | commandTake | commandTimeout | roundStart | roundEnd | blockSend | batchAgeSeal | patrolRead |
      unitRelocate | dayReclaimed | storeResumed | storeFullHourly | garbageCollection | wearMove | dieRebuildDone | mapCheckpoint |
      formatComplete | importDatagram | heartbeatLost | periodicSave =>
    exact .running _ fun _ => rfl
  all_goals exact .live _ fun _ => rfl

/-- A device that neither runs nor serves its service port. -/
structure Still (s : State) : Prop where
  live : s.live = false
  running : s.running = false
  radioRuns : s.radioRuns = false
  portRuns : s.portRuns = false

/-- Such a device leaves its whole state as it is at every command with a gate. -/
theorem exec_of_still {c : Instr} {s : State} (h : Still s) (hu : Instr.ungated c = false) : exec c s = .next s := by
  cases hc : Instr.cmdObject c with
  | some o =>
    obtain ⟨f, hf⟩ := exec_of_cmdObject hc
    have idle : ¬ TakesCommands s := fun t => absurd t.1 (by simp [h.live])
    rw [hf, command_idle idle]
  | none =>
    cases gated_of_not_ungated hu hc with
    | live f hf => rw [hf, whenLive_idle h.live]
    | running f hf => rw [hf, whenRunning_idle h.running]
    | radio f hf => rw [hf, whenRadio_idle h.radioRuns]
    | lanes f hf => rw [hf, whenLanes_idle (.inl h.live)]
    | port f hf _ => rw [hf, whenPort_idle h.portRuns]

/-- R690: a frozen device is still. -/
theorem still_of_frozen {s : State} (h : s.health.frozen = true) : Still s := by
  obtain ⟨live, running, radio, port⟩ := live_of_frozen h
  exact ⟨live, running, radio, port⟩

/-- Settles O1: the step reads the front of the queue. -/
theorem stepRunsFront : Obligations.StepRunsFront := by
  intro c s rest
  rfl

/-- Settles O2: each of the 273 arms of exec, whatever its gate, answers a next state. -/
theorem everyCommandCompletes : Obligations.EveryCommandCompletes := by
  intro c s
  cases c <;> exact ⟨_, rfl⟩

/-- Settles O5: every gate is shut on a frozen device. -/
theorem frozenLeaves : Obligations.FrozenLeaves := by
  intro c s hf hu
  exact exec_of_still (still_of_frozen hf) hu

/-- Settles O14: the gate of commands answers for the object before its command comes about. -/
theorem roleDenied : Obligations.RoleDenied := by
  intro c s idx sub role col ho ht hr
  obtain ⟨f, hf⟩ := exec_of_cmdObject ho
  rw [hf, command_denied ht hr]

end Sys2Proof.Proofs
end

section
/-!
The tick and the reset value: what a count of 2 ns changes while nothing is under way (R519, R536; log entry 1), and what reset leaves (R705).
-/
namespace Sys2Proof.Proofs
open Sys2Proof.Machine Sys2Proof.Laws

/-! ### What the reads of the state look at -/

theorem counts_congr {s t : State} (hh : t.health = s.health) (hp : t.power = s.power) : t.counts = s.counts := by
  simp only [State.counts, hh, hp]

theorem hasPacket_congr {s t : State} (h : t.queue = s.queue) (i : Nat) : t.hasPacket i = s.hasPacket i := by
  simp only [State.hasPacket, h]

/-- The value of an object is read off the configuration and the board. -/
theorem val_congr {s t : State} (hc : t.cfg = s.cfg) (hb : t.board = s.board) (idx sub : Nat) : t.val idx sub = s.val idx sub := by
  simp only [State.val, State.valB, State.valIn, State.settingsFor, hc, hb]

theorem cfgN_congr {s t : State} (hc : t.cfg = s.cfg) (hb : t.board = s.board) (idx sub : Nat) : t.cfgN idx sub = s.cfgN idx sub := by
  simp only [State.cfgN, val_congr hc hb]

/-! ### What the device does by the clock, where it has nothing to do -/

theorem popPacket_eq_none_iff (s : State) (i : Nat) : s.popPacket i = none ↔ s.hasPacket i = false := by
  cases h : s.hasPacket i <;> simp [State.popPacket, h]

theorem firmwareTake_none {s : State} {q : Nat} (h : s.popPacket q = none) (f : State → Bytes → State) : s.firmwareTake q f = s := by
  simp [State.firmwareTake, h]

theorem drainReturns_idle {s : State} (h : (at' s.queue.queues 13).level = 0) : s.drainReturns = s := by
  rw [State.drainReturns, h, State.drainReturnsN]

theorem transitionTick_idle {s : State} (h : s.vault.lifeStatus ≠ 1) : s.transitionTick = s := by
  unfold State.transitionTick
  split
  · rfl
  · rw [if_pos h]

theorem attestTick_idle {s : State} (h : s.vault.attestAsked = none) : s.attestTick = s := by
  simp [State.attestTick, h]

theorem reportCounts_unformed {s : State} (h : s.casc.formed = false) : s.reportCounts = s := by
  simp [State.reportCounts, State.leafPresent, h]

theorem settleEpoch_no_set {s : State} (h : s.cfg.sets = []) : s.settleEpoch = s := by
  simp [State.settleEpoch, CfgState.publishing, h]

theorem ptpRun_disabled {s : State} {p : Nat} (h : s.ptpCfg p 1 ≠ 1) (h3 : (s.ptpPort p).state = 3) : s.ptpRun p = s := by
  simp [State.ptpRun, h, h3]

/-- Firmware without a packet, with PTP off, does nothing. -/
theorem firmwareTick_idle {s : State} (hq : ∀ q ∈ [53, 54, 55], s.popPacket q = none)
    (hp : ∀ p < 2, s.ptpCfg p 1 ≠ 1 ∧ (s.ptpPort p).state = 3) : s.firmwareTick = s := by
  have port (p : Nat) (lt : p < 2) : s.ptpRun p = s := ptpRun_disabled (hp p lt).1 (hp p lt).2
  unfold State.firmwareTick
  split
  · rfl
  · simp only [firmwareTake_none (hq 53 (by simp)), firmwareTake_none (hq 54 (by simp)), firmwareTake_none (hq 55 (by simp)), port 0 (by omega),
      port 1 (by omega)]

theorem step_of_no_pending {s : State} (h : s.pending = []) : step s = .next (tick s) := by
  simp [step, h]

/-! ### A tick -/

/-- The state with its counters at other values: what a count of 2 ns changes (R519, R536). -/
def clocked (s : State) (c b p : Nat) : State := { s with time := { s.time with counter := c, backup := b, backupPart := p } }

theorem backupTick_eq (s : State) : ∃ b p, s.backupTick = clocked s s.time.counter b p := ⟨_, _, rfl⟩

theorem count_clocked (s : State) (c b p : Nat) : (clocked s c b p).count = clocked s ((c + 1) % 2 ^ 64) b p := rfl

theorem clocked_live (s : State) (c b p : Nat) : (clocked s c b p).live = s.live := live_congr rfl rfl

theorem clocked_counts (s : State) (c b p : Nat) : (clocked s c b p).counts = s.counts := counts_congr rfl rfl

/-- R519, R538: where the free-running counter stands, a tick is a count of the backup counter. -/
theorem tick_of_not_counts {s : State} (h : s.counts = false) : tick s = s.backupTick := by
  have stands : s.backupTick.counts = false := by
    obtain ⟨b, p, hb⟩ := backupTick_eq s
    rw [hb, clocked_counts, h]
  simp [tick, stands]

/-- What the device does by the clock while it runs. -/
def byTheClock (s : State) : State := s.attestTick.drainReturns.reportCounts.settleEpoch.firmwareTick

/-- Where it counts and no life-cycle transition is under way, both counters count before what the device does by the clock. -/
theorem tick_of_counts {s : State} (h : s.counts = true) (hv : s.vault.lifeStatus ≠ 1) :
    tick s = if s.live then byTheClock s.backupTick.count else s.backupTick.count := by
  have counts : s.backupTick.counts = true := by
    obtain ⟨b, p, hb⟩ := backupTick_eq s
    rw [hb, clocked_counts, h]
  have idle : s.backupTick.count.transitionTick = s.backupTick.count := by
    obtain ⟨b, p, hb⟩ := backupTick_eq s
    rw [hb, count_clocked]
    generalize (s.time.counter + 1) % 2 ^ 64 = c
    exact transitionTick_idle hv
  have live : s.backupTick.count.live = s.live := by
    obtain ⟨b, p, hb⟩ := backupTick_eq s
    rw [hb, count_clocked, clocked_live]
  simp [tick, counts, idle, live, byTheClock]

/-- No signature, no return traffic, no cascade, no epoch and no packet: nothing follows from the clock. -/
theorem byTheClock_idle {s : State} (ha : s.vault.attestAsked = none) (hd : (at' s.queue.queues 13).level = 0) (hf : s.casc.formed = false)
    (hs : s.cfg.sets = []) (hq : ∀ q ∈ [53, 54, 55], s.popPacket q = none) (hp : ∀ p < 2, s.ptpCfg p 1 ≠ 1 ∧ (s.ptpPort p).state = 3) :
    byTheClock s = s := by
  rw [byTheClock, attestTick_idle ha, drainReturns_idle hd, reportCounts_unformed hf, settleEpoch_no_set hs, firmwareTick_idle hq hp]

theorem live_of_running {s : State} (h : s.running = true) : s.live = true := by
  simp only [State.running, Bool.and_eq_true] at h
  simp [State.live, h.1, h.2]

theorem counts_of_running {s : State} (h : s.running = true) : s.counts = true := by
  simp only [State.running, Bool.and_eq_true, beq_iff_eq] at h
  simp [State.counts, h.1, h.2]

/-- Settles O3: `tick_of_not_counts` and `tick_of_counts`, and in a running device what each unit does by the clock when it has nothing to do. -/
theorem idleStep : Obligations.IdleStep := by
  refine ⟨fun s hp hc => ?_, fun s hp hc hl hv => ?_, fun s hp hr hv ha hq hf hs hpk hptp => ?_⟩
  · refine ⟨_, _, ?_, rfl, rfl⟩
    rw [step_of_no_pending hp, tick_of_not_counts hc]
    rfl
  · obtain ⟨b, p, hb⟩ := backupTick_eq s
    refine ⟨b, p, ?_⟩
    rw [step_of_no_pending hp, tick_of_counts hc hv, hl, if_neg Bool.false_ne_true, hb, count_clocked]
    rfl
  · obtain ⟨b, p, hb⟩ := backupTick_eq s
    refine ⟨b, p, ?_⟩
    rw [step_of_no_pending hp, tick_of_counts (counts_of_running hr) hv, live_of_running hr, if_pos rfl, hb, count_clocked]
    generalize (s.time.counter + 1) % 2 ^ 64 = c
    refine congrArg _ (byTheClock_idle ha hq hf hs (fun q hm => ?_) (fun q lt => ?_))
    · rw [popPacket_eq_none_iff, hasPacket_congr (s := s) (by rfl), ← popPacket_eq_none_iff]
      exact hpk q hm
    · rw [State.ptpCfg, cfgN_congr (s := s) (by rfl) (by rfl)]
      exact hptp q lt

/-- A queue of the reset value holds nothing and is owned by nobody. -/
theorem initQueues_empty {q : Queue} (h : q ∈ initQueues.queues) : q.level = 0 ∧ q.reserved = 0 ∧ q.fenced = false ∧ q.owner = none := by
  obtain ⟨i, -, rfl⟩ := List.mem_map.mp h
  exact ⟨rfl, rfl, rfl, rfl⟩

/-- Settles O4: read off the reset value of each unit. -/
theorem resetState : Obligations.ResetState := by
  have waits : AwaitsCastOn State.reset := ⟨rfl, fun c hc => absurd hc (List.not_mem_nil)⟩
  have queues : ∀ q ∈ State.reset.queue.queues, q.level = 0 ∧ q.reserved = 0 ∧ q.fenced = false ∧ q.owner = none := fun q => initQueues_empty
  refine ⟨waits, rfl, rfl, rfl, rfl, rfl, rfl, rfl, ?_, rfl, rfl, rfl, rfl, queues, rfl, rfl, rfl⟩
  decide

end Sys2Proof.Proofs
end

section
/-!
Reset and freeze are kept (R538, R690, R705 to R707): every command that comes about in such a state leaves the queue of commands and the power
phase, or ends in a cold reset.
-/
namespace Sys2Proof.Proofs
open Sys2Proof.Machine Sys2Proof.Laws

/-! ### What leaves the waiting commands and the power phase -/

/-- `t` has the same commands waiting as `s` and is in the same power phase. -/
def SamePhase (s t : State) : Prop := t.pending = s.pending ∧ t.power.phase = s.power.phase

theorem SamePhase.refl (s : State) : SamePhase s s := ⟨rfl, rfl⟩

theorem SamePhase.trans {s t u : State} (h : SamePhase s t) (k : SamePhase t u) : SamePhase s u :=
  ⟨k.1.trans h.1, k.2.trans h.2⟩

theorem SamePhase.ite {s t u : State} {p : Prop} [Decidable p] (ht : SamePhase s t) (hu : SamePhase s u) : SamePhase s (if p then t else u) := by
  split
  · exact ht
  · exact hu

theorem SamePhase.foldl {α : Type} {f : State → α → State} (h : ∀ s x, SamePhase s (f s x)) (l : List α) (s : State) :
    SamePhase s (l.foldl f s) := by
  induction l generalizing s with
  | nil => exact .refl s
  | cons x l ih => exact (h s x).trans (ih _)

theorem SamePhase.foldl_fst {α β : Type} {f : State × β → α → State × β} (h : ∀ a x, SamePhase a.1 (f a x).1) (l : List α) (a : State × β) :
    SamePhase a.1 (l.foldl f a).1 := by
  induction l generalizing a with
  | nil => exact .refl a.1
  | cons x l ih => exact (h a x).trans (ih _)

theorem samePhase_of_eventsOnly {s t : State} (h : EventsOnly s t) : SamePhase s t := by
  obtain ⟨_, _, _, rfl⟩ := h
  exact ⟨rfl, rfl⟩

theorem event_samePhase (s : State) (code cell : Nat) (data : Bytes) : SamePhase s (s.event code cell data) :=
  samePhase_of_eventsOnly (event_eventsOnly ..)

/-! ### Time, and the end of a freeze -/

theorem follow_samePhase (s : State) (k : Nat) : SamePhase s (s.follow k) := by
  unfold State.follow
  split <;> exact ⟨rfl, rfl⟩

theorem settlePair_samePhase (s : State) (k : Nat) : SamePhase s (s.settlePair k) := by
  unfold State.settlePair
  exact .ite (.refl s) (.ite (.refl s) ⟨rfl, rfl⟩)

theorem settleTime_samePhase (s : State) : SamePhase s s.settleTime :=
  ((settlePair_samePhase s 0).trans (settlePair_samePhase _ 1)).trans (.foldl (fun s _ => .foldl follow_samePhase _ s) _ _)

theorem setRw_samePhase (s : State) (idx sub : Nat) (v : Bytes) : SamePhase s (s.setRw idx sub v) := ⟨rfl, rfl⟩

theorem leapCheck_samePhase (s : State) : SamePhase s s.leapCheck :=
  .ite (.refl s) (((setRw_samePhase s _ _ _).trans (setRw_samePhase _ _ _ _)).trans (event_samePhase ..))

theorem freezeGapSteps_samePhase (s : State) (gap : Nat) : SamePhase s (s.freezeGapSteps gap) := by
  refine .trans ?_ (((settleTime_samePhase _).trans (leapCheck_samePhase _)).trans (event_samePhase ..))
  refine .trans (.trans (.foldl (fun s k => ?_) _ s) (.foldl (fun s k => ?_) _ _)) ⟨rfl, rfl⟩
  · exact ⟨rfl, rfl⟩
  · exact ⟨rfl, rfl⟩

theorem dropPendingAcks_samePhase (s : State) : SamePhase s s.dropPendingAcks := by
  refine SamePhase.trans (.foldl_fst (fun a k => ?_) (List.range 5) (s, 0)) ⟨rfl, rfl⟩
  exact ⟨rfl, rfl⟩

theorem thaw_samePhase (s : State) : SamePhase s s.thaw := by
  have gap (u : State) (n : Nat) : SamePhase u (u.freezeGapSteps n).dropPendingAcks :=
    (freezeGapSteps_samePhase u n).trans (dropPendingAcks_samePhase _)
  unfold State.thaw
  dsimp only
  generalize hx : (State.freezeGapSteps _ _).dropPendingAcks = x
  have stepped : SamePhase s x := by
    rw [← hx]
    refine .trans ?_ (gap _ _)
    exact ⟨rfl, rfl⟩
  exact .trans ⟨stepped.1, stepped.2⟩ (event_samePhase ..)

theorem freezeReleased_samePhase (r : Nat) (s : State) : SamePhase s (freezeReleased r s) := by
  unfold freezeReleased
  dsimp only
  refine .ite (.refl s) (.ite ⟨rfl, rfl⟩ (.trans ?_ (thaw_samePhase _)))
  exact ⟨rfl, rfl⟩

theorem freeze_samePhase (r : Nat) (s : State) : SamePhase s (freeze r s) := by
  unfold freeze
  dsimp only
  exact .ite (.refl s) (.ite ⟨rfl, rfl⟩ ⟨rfl, rfl⟩)

/-! ### The debug access port, the swatch and the battery island -/

/-- `t` differs from `s` in nothing that a freeze or a reset is told by: the waiting commands, the power unit, the time unit, the freeze. -/
def SameClock (s t : State) : Prop :=
  t.pending = s.pending ∧ t.power = s.power ∧ t.time = s.time ∧ t.health.frozen = s.health.frozen

theorem SameClock.refl (s : State) : SameClock s s := ⟨rfl, rfl, rfl, rfl⟩

theorem SameClock.trans {s t u : State} (h : SameClock s t) (k : SameClock t u) : SameClock s u := by
  obtain ⟨h1, h2, h3, h4⟩ := h
  obtain ⟨k1, k2, k3, k4⟩ := k
  exact ⟨k1.trans h1, k2.trans h2, k3.trans h3, k4.trans h4⟩

theorem SameClock.ite {s t u : State} {p : Prop} [Decidable p] (ht : SameClock s t) (hu : SameClock s u) : SameClock s (if p then t else u) := by
  split
  · exact ht
  · exact hu

theorem SameClock.samePhase {s t : State} (h : SameClock s t) : SamePhase s t := ⟨h.1, congrArg PowerState.phase h.2.1⟩

theorem event_sameClock (s : State) (code cell : Nat) (data : Bytes) : SameClock s (s.event code cell data) := by
  obtain ⟨_, _, _, h⟩ := event_eventsOnly s code cell data
  rw [h]
  exact ⟨rfl, rfl, rfl, rfl⟩

theorem issueChallenge_sameClock (s : State) : SameClock s (issueChallenge s) := by
  unfold issueChallenge
  dsimp only
  exact .ite (.refl s) (.ite ⟨rfl, rfl, rfl, rfl⟩ ⟨rfl, rfl, rfl, rfl⟩)

theorem submitResponse_sameClock (b : Bytes) (s : State) : SameClock s (submitResponse b s) :=
  .ite ⟨rfl, rfl, rfl, rfl⟩ (.refl s)

theorem closeSession_sameClock (s : State) : SameClock s (closeSession s) := ⟨rfl, rfl, rfl, rfl⟩

theorem challengeLapse_sameClock (s : State) : SameClock s (challengeLapse s) :=
  .ite ⟨rfl, rfl, rfl, rfl⟩ (.refl s)

theorem debugReturn_sameClock (s : State) : SameClock s s.debugReturn :=
  .ite ⟨rfl, rfl, rfl, rfl⟩ (.refl s)

theorem debugAuthorised_sameClock (s : State) : SameClock s (debugAuthorised s) := by
  unfold debugAuthorised
  dsimp only
  refine .ite (.refl s) (.ite (.ite (.trans ?granted (debugReturn_sameClock _)) ?granted) (.ite (.trans ?_ (event_sameClock ..)) ?_))
  case granted =>
    refine .trans ?_ (event_sameClock ..)
    exact ⟨rfl, rfl, rfl, rfl⟩
  all_goals exact ⟨rfl, rfl, rfl, rfl⟩

theorem swData_sameClock (cell space addr : Nat) (present secret : Bool) (s : State) : SameClock s (swData cell space addr present secret s) := by
  unfold swData
  dsimp only
  exact .ite ⟨rfl, rfl, rfl, rfl⟩ ⟨rfl, rfl, rfl, rfl⟩

theorem swStatus_sameClock (s : State) : SameClock s (swStatus s) := ⟨rfl, rfl, rfl, rfl⟩

theorem tamperRearm_sameClock (source n : Nat) (s : State) : SameClock s (tamperRearm source n s) :=
  .ite ⟨rfl, rfl, rfl, rfl⟩ (.refl s)

theorem sameClock_of_whenPowered {f : State → State} {s t : State} (hf : SameClock s (f s)) (h : s.whenPowered f = .next t) : SameClock s t := by
  obtain rfl := Host.Outcome.next.inj h
  exact .ite (.refl s) hf

/-- The commands of the debug access port, of the swatch and of the rearming of a tamper source. -/
def ofDebugPort (c : Instr) : Bool :=
  match c with
  | .tamperRearm _ _ | .issueChallenge | .submitResponse _ | .debugAuthorised | .closeSession | .challengeLapse | .swData _ _ _ _ _ | .swStatus => true
  | _ => false

theorem exec_ofDebugPort_sameClock {c : Instr} {s t : State} (hc : ofDebugPort c = true) (h : exec c s = .next t) : SameClock s t := by
  cases c <;> cases hc
  case tamperRearm source n =>
    obtain rfl := Host.Outcome.next.inj h
    exact tamperRearm_sameClock _ n s
  case issueChallenge => exact sameClock_of_whenPowered (issueChallenge_sameClock s) h
  case submitResponse b => exact sameClock_of_whenPowered (submitResponse_sameClock b s) h
  case debugAuthorised => exact sameClock_of_whenPowered (debugAuthorised_sameClock s) h
  case closeSession => exact sameClock_of_whenPowered (closeSession_sameClock s) h
  case challengeLapse => exact sameClock_of_whenPowered (challengeLapse_sameClock s) h
  case swData cell space addr present secret => exact sameClock_of_whenPowered (swData_sameClock cell space addr present secret s) h
  case swStatus => exact sameClock_of_whenPowered (swStatus_sameClock s) h

/-! ### A freeze is kept -/

/-- FREEZE in a frozen device notes its requester alone. -/
theorem freeze_frozen_sameClock {s : State} (h : s.health.frozen = true) (r : Nat) : SameClock s (freeze r s) := by
  unfold freeze
  dsimp only
  rw [if_pos h]
  exact .ite (.refl s) ⟨rfl, rfl, rfl, rfl⟩

theorem exec_ungated_frozen_sameClock {c : Instr} {s t : State} (hf : s.health.frozen = true) (hp : s.power.phase ≠ .refHeld)
    (hu : Instr.ungated c = true) (hc : Instr.endsFreeze c = false) (h : exec c s = .next t) : SameClock s t := by
  cases c <;> cases hu <;> cases hc
  case freeze r =>
    obtain rfl := Host.Outcome.next.inj h
    exact freeze_frozen_sameClock hf r
  case referenceRestored =>
    obtain rfl := Host.Outcome.next.inj h
    rw [if_neg (by simp [(live_of_frozen hf).1, hp])]
    exact .refl s
  all_goals exact exec_ofDebugPort_sameClock rfl h

/-- A frozen device not held by the loss of its reference keeps its clock at every command that cannot end the freeze. -/
theorem exec_frozen_sameClock {c : Instr} {s t : State} (hf : s.health.frozen = true) (hp : s.power.phase ≠ .refHeld)
    (hc : Instr.endsFreeze c = false) (h : exec c s = .next t) : SameClock s t := by
  cases hu : Instr.ungated c with
  | false =>
    rw [exec_of_still (still_of_frozen hf) hu] at h
    obtain rfl := Host.Outcome.next.inj h
    exact .refl s
  | true => exact exec_ungated_frozen_sameClock hf hp hu hc h

/-- Settles O6: a tick leaves the counter, and so does every command that cannot end the freeze. -/
theorem freezeKept : Obligations.FreezeKept := by
  intro n s t ⟨hf, hp, hn, hq⟩ h
  cases hs : s.pending with
  | nil =>
    rw [step_of_no_pending hs, tick_of_not_counts (by simp [State.counts, hf])] at h
    obtain rfl := Host.Outcome.next.inj h
    obtain ⟨b, p, hb⟩ := backupTick_eq s
    rw [hb]
    exact ⟨hf, hp, hn, hq⟩
  | cons c rest =>
    rw [hs] at hq
    simp only [step, hs] at h
    obtain ⟨pending, power, time, frozen⟩ :=
      exec_frozen_sameClock (s := { s with pending := rest }) hf hp (hq c List.mem_cons_self) h
    refine ⟨frozen.trans hf, ?_, ?_, ?_⟩
    · rw [power]; exact hp
    · rw [time]; exact hn
    · rw [pending]; exact fun d hd => hq d (List.mem_cons_of_mem c hd)

/-! ### The service port -/

theorem updFw_samePhase (s : State) (f : UpdateState → UpdateState) : SamePhase s (s.updFw f) := ⟨rfl, rfl⟩

theorem frameDone_samePhase (s : State) (typ code : Nat) : SamePhase s (s.frameDone typ code) := ⟨rfl, rfl⟩

theorem portError_samePhase (s : State) (kind : Nat) : SamePhase s (s.portError kind) :=
  .ite ((updFw_samePhase s _).trans (event_samePhase ..)) (updFw_samePhase s _)

theorem takeInput_samePhase {s s1 : State} {typ : Nat} {p : Bytes} (h : s.takeInput typ = some (s1, p)) : SamePhase s s1 := by
  unfold State.takeInput at h
  split at h
  · cases h
  · split at h
    · obtain ⟨rfl, -⟩ := Prod.mk.inj (Option.some.inj h)
      exact updFw_samePhase s _
    · cases h

theorem serviceWrite_samePhase (b : Bytes) (s : State) : SamePhase s (serviceWrite b s) := by
  unfold serviceWrite
  split
  · exact .ite (.refl s) (updFw_samePhase s _)
  · exact .trans ((updFw_samePhase s _).trans (updFw_samePhase _ _)) (portError_samePhase _ _)
  · exact .trans ((updFw_samePhase s _).trans (updFw_samePhase _ _)) (portError_samePhase _ _)
  · exact (updFw_samePhase s _).trans (portError_samePhase _ _)

theorem serviceRead_samePhase (n : Nat) (s : State) : SamePhase s (serviceRead n s) := by
  unfold serviceRead
  split
  · exact ⟨rfl, rfl⟩
  · exact .ite ⟨rfl, rfl⟩ ⟨rfl, rfl⟩

theorem flagsRead_samePhase (s : State) : SamePhase s (flagsRead s) := ⟨rfl, rfl⟩

theorem statusFrame_samePhase (s : State) : SamePhase s (statusFrame s) := by
  unfold statusFrame
  split
  · exact .refl s
  · rename_i h
    exact (takeInput_samePhase h).trans ⟨rfl, rfl⟩

theorem imageBegin_samePhase (s : State) : SamePhase s (imageBegin s) := by
  unfold imageBegin
  split
  · exact .refl s
  · rename_i s1 p h
    have done (u : State) (code : Nat) (hu : SamePhase s1 u) : SamePhase s (u.frameDone 0x10 code) :=
      ((takeInput_samePhase h).trans hu).trans (frameDone_samePhase u _ code)
    dsimp only
    refine .ite (done _ _ (.refl s1)) (.ite (done _ _ (.refl s1)) (.ite (done _ _ (.refl s1)) (.ite (done _ _ (.refl s1)) (done _ _ ?_))))
    exact ⟨rfl, rfl⟩

theorem imageData_samePhase (s : State) : SamePhase s (imageData s) := by
  unfold imageData
  split
  · exact .refl s
  · rename_i s1 p h
    have done (u : State) (code : Nat) (hu : SamePhase s1 u) : SamePhase s (u.frameDone 0x11 code) :=
      ((takeInput_samePhase h).trans hu).trans (frameDone_samePhase u _ code)
    dsimp only
    refine .ite (done _ _ (.refl s1)) (.ite (done _ _ (.refl s1)) (.ite (done _ _ (.refl s1)) (.ite (done _ _ (.refl s1)) (done _ _ ?_))))
    exact ⟨rfl, rfl⟩

theorem raiseErrorAt_samePhase (s : State) (entry cell code : Nat) : SamePhase s (s.raiseErrorAt entry cell code) := by
  unfold State.raiseErrorAt State.reportTo
  dsimp only
  split <;> exact ⟨rfl, rfl⟩

theorem slotBad_samePhase (s : State) (slot consumer : Nat) : SamePhase s (s.slotBad slot consumer) := by
  have cleared (u : State) (slots : List Nat) : SamePhase u (((u.clearRegs slots).notify slot).vaultCount 3 1) := ⟨rfl, rfl⟩
  unfold State.slotBad
  refine .trans (.trans (.trans ?_ (cleared _ _)) (raiseErrorAt_samePhase _ _ _ _)) (event_samePhase ..)
  exact ⟨rfl, rfl⟩

theorem checkImageSlot_samePhase (s : State) (b : Bytes) : SamePhase s (s.checkImageSlot b) := by
  unfold State.checkImageSlot
  dsimp only
  split
  · exact .ite (slotBad_samePhase s _ _) (.refl s)
  · exact .refl s

theorem imageRefused_samePhase (s : State) (check code version : Nat) : SamePhase s (s.imageRefused check code version) := by
  refine .trans ?_ (event_samePhase ..)
  exact ⟨rfl, rfl⟩

theorem loadImageKey_samePhase (s : State) (b : Bytes) : SamePhase s (s.loadImageKey b) := by
  unfold State.loadImageKey
  split <;> exact ⟨rfl, rfl⟩

theorem imageStaged_samePhase (s : State) (b : Bytes) : SamePhase s (s.imageStaged b) := by
  have loaded := loadImageKey_samePhase s b
  unfold State.imageStaged
  generalize s.loadImageKey b = x at loaded
  refine loaded.trans (.trans ?_ (event_samePhase ..))
  exact ⟨rfl, rfl⟩

/-! ### What stays in reset -/

/-- `t` has the same commands waiting as `s`, and is in reset where `s` is. -/
def StaysInReset (s t : State) : Prop := t.pending = s.pending ∧ (s.power.phase = .castOn → t.power.phase = .castOn)

theorem SamePhase.staysInReset {s t : State} (h : SamePhase s t) : StaysInReset s t := ⟨h.1, fun r => h.2.trans r⟩

theorem StaysInReset.trans {s t u : State} (h : StaysInReset s t) (k : StaysInReset t u) : StaysInReset s u :=
  ⟨k.1.trans h.1, fun r => k.2 (h.2 r)⟩

theorem StaysInReset.ite {s t u : State} {p : Prop} [Decidable p] (ht : StaysInReset s t) (hu : StaysInReset s u) :
    StaysInReset s (if p then t else u) := by
  split
  · exact ht
  · exact hu

/-- R705, R706: a cold reset, whatever its cause, leaves the device in reset. -/
theorem coldReset_staysInReset (s : State) (cause : Nat) : StaysInReset s (s.coldReset cause) := ⟨rfl, fun _ => rfl⟩

theorem imageEnd_staysInReset (s : State) : StaysInReset s (imageEnd s) := by
  unfold imageEnd
  split
  · exact (SamePhase.refl s).staysInReset
  · rename_i s1 p h
    have taken := takeInput_samePhase h
    have done (u : State) (code : Nat) (hu : SamePhase s1 u) : SamePhase s (u.frameDone 0x12 code) :=
      (taken.trans hu).trans (frameDone_samePhase u _ code)
    dsimp only
    refine .ite (done _ _ (.refl s1)).staysInReset (.ite (done _ _ (.refl s1)).staysInReset ?_)
    have checked := checkImageSlot_samePhase s1 (s1.fwSlot s1.idleSlot).image
    split
    · exact (done _ _ (checked.trans (imageRefused_samePhase ..))).staysInReset
    · have staged := done _ 0 (checked.trans (imageStaged_samePhase _ (s1.fwSlot s1.idleSlot).image))
      refine .ite (StaysInReset.trans ?_ (coldReset_staysInReset _ _)) staged.staysInReset
      generalize (State.imageStaged _ _).frameDone 0x12 0 = x at staged
      exact ⟨staged.1, fun r => staged.2.trans r⟩

/-- R579: a source that fires in reset writes the Hold log alone. -/
theorem tamperFire_staysInReset {s : State} (h : s.power.phase = .castOn) (source : Nat) : StaysInReset s (s.tamperFire source) := by
  have held : s.vaultRuns = false := by simp [State.vaultRuns, h]
  unfold State.tamperFire
  dsimp only
  refine .ite (SamePhase.refl s).staysInReset ?_
  rw [if_pos]
  · exact ⟨rfl, fun r => r⟩
  · simpa [State.vaultRuns] using held

theorem tamperDetected_staysInReset {s : State} (h : s.power.phase = .castOn) (source : Nat) : StaysInReset s (tamperDetected source s) :=
  .ite (SamePhase.refl s).staysInReset (tamperFire_staysInReset h source)

theorem meshPair_staysInReset {s : State} (h : s.power.phase = .castOn) (p : Nat) (d : Bool) : StaysInReset s (s.meshPair p d) := by
  unfold State.meshPair
  dsimp only
  refine .ite (SamePhase.refl s).staysInReset (.ite (StaysInReset.trans ?_ (tamperFire_staysInReset ?_ p)) ?_)
  · exact ⟨rfl, fun r => r⟩
  · exact h
  · exact ⟨rfl, fun r => r⟩

theorem staysInReset_of_whenPort {f : State → State} {s t : State} (hf : StaysInReset s (f s)) (h : s.whenPort f = .next t) : StaysInReset s t := by
  obtain rfl := Host.Outcome.next.inj h
  exact .ite hf (SamePhase.refl s).staysInReset

theorem exec_ofServicePort_staysInReset {c : Instr} {s t : State} (hc : ofServicePort c = true) (h : exec c s = .next t) : StaysInReset s t := by
  cases c <;> cases hc
  case serviceWrite b => exact staysInReset_of_whenPort (serviceWrite_samePhase b s).staysInReset h
  case serviceRead n => exact staysInReset_of_whenPort (serviceRead_samePhase n s).staysInReset h
  case flags => exact staysInReset_of_whenPort (flagsRead_samePhase s).staysInReset h
  case status => exact staysInReset_of_whenPort (statusFrame_samePhase s).staysInReset h
  case imageBegin => exact staysInReset_of_whenPort (imageBegin_samePhase s).staysInReset h
  case imageData => exact staysInReset_of_whenPort (imageData_samePhase s).staysInReset h
  case imageEnd => exact staysInReset_of_whenPort (imageEnd_staysInReset s) h

/-- In reset every command with a gate, but those of the service port, leaves the whole state. -/
theorem exec_of_reset {c : Instr} {s : State} (hr : s.power.phase = .castOn) (hu : Instr.ungated c = false) (hp : ofServicePort c = false) :
    exec c s = .next s := by
  obtain ⟨live, running, radio⟩ := live_of_castOn hr
  cases hc : Instr.cmdObject c with
  | some o =>
    obtain ⟨f, hf⟩ := exec_of_cmdObject hc
    rw [hf, command_idle (fun t => absurd t.1 (by simp [live]))]
  | none =>
    cases gated_of_not_ungated hu hc with
    | live f hf => rw [hf, whenLive_idle live]
    | running f hf => rw [hf, whenRunning_idle running]
    | radio f hf => rw [hf, whenRadio_idle radio]
    | lanes f hf => rw [hf, whenLanes_idle (.inl live)]
    | port _ _ ho => exact absurd ho (by simp [hp])

theorem cutGasp_samePhase (s : State) (cause : Nat) : SamePhase s (s.cutGasp cause) := .ite ⟨rfl, rfl⟩ (.refl s)

/-- R704, R711: what power, clock, tamper and debug bring about in reset. -/
theorem exec_ungated_staysInReset {c : Instr} {s t : State} (hr : s.power.phase = .castOn) (hc : ∀ i, c ≠ .castOn i) (hu : Instr.ungated c = true)
    (h : exec c s = .next t) : StaysInReset s t := by
  cases c <;> cases hu
  case castOn i => exact absurd rfl (hc i)
  case freeze r =>
    obtain rfl := Host.Outcome.next.inj h
    exact (freeze_samePhase r s).staysInReset
  case freezeReleased r =>
    obtain rfl := Host.Outcome.next.inj h
    exact (freezeReleased_samePhase r s).staysInReset
  case tamperDetected source =>
    obtain rfl := Host.Outcome.next.inj h
    exact tamperDetected_staysInReset hr source
  case meshSample first second =>
    obtain rfl := Host.Outcome.next.inj h
    have one := meshPair_staysInReset hr 0 first
    exact one.trans (meshPair_staysInReset (one.2 hr) 1 second)
  case porst =>
    obtain rfl := Host.Outcome.next.inj h
    refine .trans ?_ (coldReset_staysInReset _ 1)
    exact ⟨(cutGasp_samePhase s 1).1, fun r => (cutGasp_samePhase s 1).2.trans r⟩
  case brownOut =>
    obtain rfl := Host.Outcome.next.inj h
    rw [brownOut, hr]
    exact coldReset_staysInReset s 2
  case lastGasp =>
    obtain rfl := Host.Outcome.next.inj h
    simp only [lastGasp, hr]
    exact (SamePhase.refl s).staysInReset
  case lastGaspStop n =>
    obtain rfl := Host.Outcome.next.inj h
    simp only [lastGaspStop, hr]
    exact (SamePhase.refl s).staysInReset
  case pfailReleased =>
    obtain rfl := Host.Outcome.next.inj h
    simp only [pfailReleased, hr]
    exact (SamePhase.refl s).staysInReset
  case referenceRestored =>
    obtain rfl := Host.Outcome.next.inj h
    rw [if_neg (by simp [(live_of_castOn hr).1, hr])]
    exact (SamePhase.refl s).staysInReset
  all_goals exact (exec_ofDebugPort_sameClock rfl h).samePhase.staysInReset

/-- No command but CAST_ON takes a device out of reset. -/
theorem exec_staysInReset {c : Instr} {s t : State} (hr : s.power.phase = .castOn) (hc : ∀ i, c ≠ .castOn i) (h : exec c s = .next t) :
    StaysInReset s t := by
  cases hu : Instr.ungated c with
  | false =>
    cases hp : ofServicePort c with
    | true => exact exec_ofServicePort_staysInReset hp h
    | false =>
      rw [exec_of_reset hr hu hp] at h
      obtain rfl := Host.Outcome.next.inj h
      exact (SamePhase.refl s).staysInReset
  | true => exact exec_ungated_staysInReset hr hc hu h

/-- Settles O7: a tick moves the backup counter alone, and every command but CAST_ON leaves the device in reset. -/
theorem resetKept : Obligations.ResetKept := by
  intro s t ⟨hr, hq⟩ h
  cases hs : s.pending with
  | nil =>
    rw [step_of_no_pending hs, tick_of_not_counts (by simp [State.counts, hr])] at h
    obtain rfl := Host.Outcome.next.inj h
    obtain ⟨b, p, hb⟩ := backupTick_eq s
    rw [hb]
    exact ⟨hr, hq⟩
  | cons c rest =>
    rw [hs] at hq
    simp only [step, hs] at h
    obtain ⟨pending, phase⟩ := exec_staysInReset (s := { s with pending := rest }) hr (hq c List.mem_cons_self) h
    refine ⟨phase hr, ?_⟩
    rw [pending]
    exact fun d hd => hq d (List.mem_cons_of_mem c hd)

end Sys2Proof.Proofs
end

section
/-!
The discipline of the hardware queues: order and bounds through a push and the moves between head, skein and tail (R426, R428, R431).
-/
namespace Sys2Proof.Proofs
open Sys2Proof.Machine Sys2Proof.Laws

variable {q q' : Queue} {c : QCell} {limit : Nat} {poolFree : Bool}

/-! ### Order -/

/-- R428: a cell that finds a place is the youngest. -/
theorem place_cells (h : q.place c = some q') : q'.cells = q.cells ++ [c] := by
  unfold Queue.place at h
  split at h
  case isTrue e =>
    obtain rfl := Option.some.inj h
    simp [Queue.cells, e.1, e.2.1]
  case isFalse =>
    split at h
    · obtain rfl := Option.some.inj h
      simp [Queue.cells]
    · cases h

@[simp] theorem spill_cells (q : Queue) : q.spill.cells = q.cells := by
  simp [Queue.spill, Queue.cells]

@[simp] theorem refill_cells (q : Queue) : q.refill.cells = q.cells := by
  unfold Queue.refill
  split
  case h_1 b r h => simp [Queue.cells, h]
  case h_2 => rfl

@[simp] theorem tailToHead_cells (q : Queue) : q.tailToHead.cells = q.cells := by
  unfold Queue.tailToHead
  split
  case isTrue e => simp [Queue.cells, e]
  case isFalse => rfl

/-- R431: a push finds its place at once, after a spill, or after a refill with the tail's moves. -/
theorem placeMoving_cases (h : q.placeMoving limit poolFree c = some q') :
    q.place c = some q' ∨ (q.canSpill limit poolFree = true ∧ q.spill.place c = some q') ∨
      (q.canRefill = true ∧ q.refill.tailToHead.place c = some q') ∨ q.tailToHead.place c = some q' := by
  unfold Queue.placeMoving at h
  split at h
  case h_1 e => exact .inl (e.trans h)
  case h_2 =>
    split at h
    case isTrue e => exact .inr (.inl ⟨e, h⟩)
    case isFalse =>
      split at h
      case isTrue e => exact .inr (.inr (.inl ⟨e, h⟩))
      case isFalse => exact .inr (.inr (.inr h))

theorem placeMoving_cells (h : q.placeMoving limit poolFree c = some q') : q'.cells = q.cells ++ [c] := by
  rcases placeMoving_cases h with h | ⟨-, h⟩ | ⟨-, h⟩ | h <;> simpa using place_cells h

/-! ### Bounds -/

/-- R426, R428: the SRAM parts of a queue hold at most 16 cells each, and every skein block 8. -/
structure InBounds (q : Queue) : Prop where
  head : q.head.length ≤ 16
  tail : q.tail.length ≤ 16
  skein : ∀ b ∈ q.skein, b.length = 8

theorem place_inBounds (hq : InBounds q) (h : q.place c = some q') : InBounds q' ∧ q'.level = q.level + 1 ∧ q'.skein = q.skein := by
  unfold Queue.place at h
  split at h
  case isTrue e =>
    obtain rfl := Option.some.inj h
    refine ⟨⟨?_, hq.tail, hq.skein⟩, ?_, rfl⟩
    · simp only [List.length_append, List.length_singleton]; omega
    · simp only [Queue.level, List.length_append, List.length_singleton]; omega
  case isFalse =>
    split at h
    case isTrue e =>
      obtain rfl := Option.some.inj h
      refine ⟨⟨hq.head, ?_, hq.skein⟩, ?_, rfl⟩
      · simp only [List.length_append, List.length_singleton]; omega
      · simp only [Queue.level, List.length_append, List.length_singleton]; omega
    case isFalse => cases h

/-- A spill moves 8 cells of the tail into a block of the skein. -/
theorem spill_inBounds (hq : InBounds q) (hs : q.canSpill limit poolFree = true) :
    InBounds q.spill ∧ q.spill.level = q.level ∧ 8 * q.spill.skein.length ≤ limit + 7 := by
  simp only [Queue.canSpill, Bool.and_eq_true, decide_eq_true_eq] at hs
  obtain ⟨⟨full, -, below⟩, -⟩ := hs
  refine ⟨⟨hq.head, ?_, fun b hb => ?_⟩, ?_, ?_⟩
  · have := hq.tail
    simp only [Queue.spill, List.length_drop]; omega
  · rcases List.mem_append.mp hb with old | new
    · exact hq.skein b old
    · rw [List.mem_singleton.mp new, List.length_take]; omega
  · simp only [Queue.spill, Queue.level, List.length_append, List.length_singleton, List.length_drop]; omega
  · simp only [Queue.spill, List.length_append, List.length_singleton]; omega

/-- A refill moves the 8 cells of the oldest block into the head. -/
theorem refill_inBounds (hq : InBounds q) (hr : q.canRefill = true) :
    InBounds q.refill ∧ q.refill.level = q.level ∧ q.refill.skein = q.skein.drop 1 := by
  simp only [Queue.canRefill, decide_eq_true_eq] at hr
  obtain ⟨hne, room⟩ := hr
  obtain ⟨b, r, h⟩ := List.exists_cons_of_ne_nil hne
  have hb : b.length = 8 := hq.skein b (by simp [h])
  have refilled : q.refill = { q with head := q.head ++ b, skein := r } := by simp [Queue.refill, h]
  rw [refilled]
  refine ⟨⟨?_, hq.tail, fun x hx => hq.skein x (by simp [h, hx])⟩, ?_, by simp [h]⟩
  · simp only [List.length_append]; omega
  · simp only [Queue.level, List.length_append, h, List.length_cons]; omega

theorem tailToHead_inBounds (hq : InBounds q) : InBounds q.tailToHead ∧ q.tailToHead.level = q.level ∧ q.tailToHead.skein = q.skein := by
  unfold Queue.tailToHead
  have hh := hq.head
  have ht := hq.tail
  split
  case isTrue e =>
    refine ⟨⟨?_, ?_, hq.skein⟩, ?_, rfl⟩
    · simp only [List.length_append, List.length_take]; omega
    · simp only [List.length_drop]; omega
    · simp only [Queue.level, List.length_append, List.length_take, List.length_drop]; omega
  case isFalse => exact ⟨hq, rfl, rfl⟩

theorem placeMoving_inBounds (hq : InBounds q) (h : q.placeMoving limit poolFree c = some q') :
    InBounds q' ∧ q'.level = q.level + 1 ∧ (q'.skein = q.skein ∨ q'.skein = q.skein.drop 1 ∨ 8 * q'.skein.length ≤ limit + 7) := by
  rcases placeMoving_cases h with h | ⟨hs, h⟩ | ⟨hr, h⟩ | h
  · obtain ⟨bounds, level, skein⟩ := place_inBounds hq h
    exact ⟨bounds, level, .inl skein⟩
  · obtain ⟨sBounds, sLevel, sSkein⟩ := spill_inBounds hq hs
    obtain ⟨bounds, level, skein⟩ := place_inBounds sBounds h
    exact ⟨bounds, by rw [level, sLevel], .inr (.inr (by rw [skein]; exact sSkein))⟩
  · obtain ⟨rBounds, rLevel, rSkein⟩ := refill_inBounds hq hr
    obtain ⟨tBounds, tLevel, tSkein⟩ := tailToHead_inBounds rBounds
    obtain ⟨bounds, level, skein⟩ := place_inBounds tBounds h
    exact ⟨bounds, by rw [level, tLevel, rLevel], .inr (.inl (by rw [skein, tSkein, rSkein]))⟩
  · obtain ⟨tBounds, tLevel, tSkein⟩ := tailToHead_inBounds hq
    obtain ⟨bounds, level, skein⟩ := place_inBounds tBounds h
    exact ⟨bounds, by rw [level, tLevel], .inl (by rw [skein, tSkein])⟩

/-- Settles O33: order by `placeMoving_cells` and the three moves, bounds by `placeMoving_inBounds`. -/
theorem queueDiscipline : Obligations.QueueDiscipline := by
  refine ⟨⟨fun q q' limit poolFree c => placeMoving_cells, spill_cells, refill_cells, tailToHead_cells, fun q c r h => ?_⟩,
    fun q q' limit poolFree c hh ht hs h => ?_⟩
  · rw [← tailToHead_cells q]
    simp [Queue.cells, h]
  · obtain ⟨⟨head, tail, skein⟩, level, moved⟩ := placeMoving_inBounds ⟨hh, ht, hs⟩ h
    exact ⟨head, tail, skein, level, moved⟩

end Sys2Proof.Proofs
end

section
/-!
Requests that reach the dictionary engine: malformed ones and those above the limit of a second (R56, R59, R63), and the sequence window of a role
(R60, R61).
-/
namespace Sys2Proof.Proofs
open Sys2Proof.Machine Sys2Proof.Laws

/-! ### Bits of a number -/

theorem bit_eq_true_iff (v i : Nat) : bit v i = true ↔ v / 2 ^ i % 2 = 1 := by simp [bit]

theorem bit_setBit (v i : Nat) : bit (setBit v i) i = true := by
  unfold setBit
  split
  case isTrue h => exact h
  case isFalse h =>
    rw [bit_eq_true_iff] at h ⊢
    rw [Nat.add_div_right v (Nat.two_pow_pos i)]
    omega

/-- Setting one of the lowest `n` bits keeps a number of `n` bits one. -/
theorem setBit_lt {v i n : Nat} (hv : v < 2 ^ n) (hi : i < n) : setBit v i < 2 ^ n := by
  unfold setBit
  split
  case isTrue => exact hv
  case isFalse h =>
    rw [bit_eq_true_iff] at h
    obtain ⟨m, rfl⟩ := Nat.exists_eq_add_of_lt hi
    have top : 2 ^ (i + m + 1) = 2 * 2 ^ m * 2 ^ i := by ring
    rw [top] at hv ⊢
    rw [← Nat.div_lt_iff_lt_mul (Nat.two_pow_pos i)] at hv ⊢
    rw [Nat.add_div_right v (Nat.two_pow_pos i)]
    omega

/-! ### The window -/

variable {r : RoleState} {seq : Nat}

theorem judge_zero (r : RoleState) : r.judge 0 = .drop := by simp [RoleState.judge]

theorem judge_of_high_lt (h : r.high < seq) : r.judge seq = .fresh := by
  have : seq ≠ 0 := by omega
  simp [RoleState.judge, h, this]

theorem judge_of_old (h0 : 0 < seq) (h : seq + 63 < r.high) : r.judge seq = .replay := by
  have : seq ≠ 0 := by omega
  have : ¬ r.high < seq := by omega
  simp [RoleState.judge, *]

theorem judge_in_window (h0 : 0 < seq) (hh : seq ≤ r.high) (hw : r.high ≤ seq + 63) :
    r.judge seq = if bit r.bitmap (r.high - seq) then .repeated else .fresh := by
  have : seq ≠ 0 := by omega
  have : ¬ r.high < seq := by omega
  have : ¬ seq + 63 < r.high := by omega
  simp [RoleState.judge, *]

/-- R60: a fresh sequence is above H, or within the window with its bit clear. -/
theorem fresh_cases (h : r.judge seq = .fresh) : 0 < seq ∧ (r.high < seq ∨ (seq ≤ r.high ∧ r.high ≤ seq + 63)) := by
  unfold RoleState.judge at h
  split at h
  · cases h
  · split at h
    · exact ⟨by omega, .inl (by assumption)⟩
    · split at h
      · cases h
      · exact ⟨by omega, .inr ⟨by omega, by omega⟩⟩

/-- R60, R61: above H the window moves up, and the floor is raised before H passes it. -/
theorem accept_above (h : r.high < seq) : r.accept seq = { r with
    high := seq, bitmap := (r.bitmap * 2 ^ (min 64 (seq - r.high)) + 1) % 2 ^ 64, floor := if r.floor < seq then seq + 65536 else r.floor } := by
  simp [RoleState.accept, h]

theorem accept_within (h : seq ≤ r.high) : r.accept seq = { r with bitmap := setBit r.bitmap (r.high - seq) } := by
  simp [RoleState.accept, h]

/-- A window moved up shows its new highest sequence as taken. -/
theorem bit_zero_of_shifted (b k : Nat) (hk : 0 < k) : bit ((b * 2 ^ (min 64 k) + 1) % 2 ^ 64) 0 = true := by
  rw [bit_eq_true_iff, Nat.pow_zero, Nat.div_one, Nat.mod_mod_of_dvd _ (by decide)]
  obtain ⟨m, hm⟩ := Nat.exists_eq_succ_of_ne_zero (n := min 64 k) (by omega)
  have : b * 2 ^ (m + 1) = 2 * (b * 2 ^ m) := by ring
  rw [hm, Nat.succ_eq_add_one, this]
  omega

/-- R60, R61: what an accepted sequence leaves. -/
theorem accept_fresh (hb : r.bitmap < 2 ^ 64) (h : r.judge seq = .fresh) :
    (r.accept seq).judge seq = .repeated ∧ r.high ≤ (r.accept seq).high ∧ seq ≤ (r.accept seq).high ∧ (r.accept seq).bitmap < 2 ^ 64 ∧
      (r.high ≤ r.floor → (r.accept seq).high ≤ (r.accept seq).floor) := by
  obtain ⟨h0, above | ⟨hh, hw⟩⟩ := fresh_cases h
  · rw [accept_above above]
    refine ⟨?_, above.le, le_refl seq, Nat.mod_lt _ (Nat.two_pow_pos 64), fun _ => ?_⟩
    · rw [judge_in_window h0 (le_refl seq) (Nat.le_add_right seq 63), Nat.sub_self, bit_zero_of_shifted _ _ (by omega), if_pos rfl]
    · dsimp only
      split <;> omega
  · rw [accept_within hh]
    refine ⟨?_, le_refl _, hh, setBit_lt hb (by omega), id⟩
    rw [judge_in_window (r := { r with bitmap := setBit r.bitmap (r.high - seq) }) h0 hh hw, bit_setBit, if_pos rfl]

/-! ### Arrival -/

/-- The rows of the dictionary's operations share one arrival. -/
theorem exec_dictionary {s : State} (h : s.live = true) (m : Bytes) (via : Via) {c : Instr}
    (hc : c ∈ [Instr.read m via, .write m via, .readBlock m via, .writeBlock m via, .commit m via, .subscribeCreate m via, .subscribeCancel m via,
      .subscribeRenew m via]) : exec c s = .next (dictArrive m via s) := by
  have same : exec c s = s.whenLive (dictArrive m via) := by
    simp only [List.mem_cons, List.not_mem_nil, or_false] at hc
    rcases hc with rfl | rfl | rfl | rfl | rfl | rfl | rfl | rfl <;> rfl
  rw [same, whenLive_live h]

/-- R63: by UDP a message above the limit of its second is counted, any other goes on. -/
theorem dictArrive_udp {via : Via} (h : via.transport < 2) (m : Bytes) (s : State) :
    dictArrive m via s = if s.dictOverload then s.dictCount 6 else dictRequest m via s := by
  have notPort : via.transport ≠ 2 := by omega
  have notMaster : via.transport ≠ 3 := by omega
  simp [dictArrive, notPort, notMaster]

theorem dictRequest_malformed {m : Bytes} (h : dictParse m = none) (via : Via) (s : State) : dictRequest m via s = s.dictCount 5 := by
  simp [dictRequest, h]

/-- Settles O15: arrival by `dictArrive_udp`, the verdicts of the window case by case, and what acceptance leaves by `accept_fresh`. -/
theorem requestIntake : Obligations.RequestIntake := by
  refine ⟨fun s m via hl hv c hc => ⟨fun ho hp => ?_, fun ho => ?_⟩, fun r seq => ⟨?_, judge_of_high_lt, judge_of_old, ?_⟩,
    fun r seq => accept_fresh⟩
  · rw [exec_dictionary hl m via hc, dictArrive_udp hv, ho, if_neg Bool.false_ne_true, dictRequest_malformed hp]
    rfl
  · rw [exec_dictionary hl m via hc, dictArrive_udp hv, ho, if_pos rfl]
    rfl
  · rintro rfl
    exact judge_zero r
  · intro h0 hh hw
    simp only [judge_in_window h0 hh hw, bit_eq_true_iff]

end Sys2Proof.Proofs
end

section
/-!
A command whose gate is open: what it answers is what its meaning makes of the state.
-/
namespace Sys2Proof.Proofs
open Sys2Proof.Machine Sys2Proof.Laws

variable {c : Instr} {s t : State} {f : State → State}

theorem next_of_live (hc : exec c s = s.whenLive f) (hs : s.live = true) (h : f s = t) : exec c s = .next t := by
  rw [hc, whenLive_live hs, h]

theorem next_of_running (hc : exec c s = s.whenRunning f) (hs : s.running = true) (h : f s = t) : exec c s = .next t := by
  rw [hc, whenRunning_running hs, h]

theorem next_of_radio (hc : exec c s = s.whenRadio f) (hs : s.radioRuns = true) (h : f s = t) : exec c s = .next t := by
  rw [hc, whenRadio_runs hs, h]

theorem next_of_lanes (hc : exec c s = s.whenLanes f) (hs : LanesRun s) (h : f s = t) : exec c s = .next t := by
  rw [hc, whenLanes_runs hs, h]

theorem next_of_port (hc : exec c s = s.whenPort f) (hs : s.portRuns = true) (h : f s = t) : exec c s = .next t := by
  rw [hc, whenPort_runs hs, h]

/-- A write of a CMD object by a role that may write it: what the command does, and its answer. -/
theorem next_of_command {g : State → State × Nat} {idx sub role code : Nat} {col : RoleCol} (hc : exec c s = s.command idx sub role col g)
    (hs : TakesCommands s) (hr : roleMay role col = true) (h : g s = (t, code)) : exec c s = .next (t.put (.answer idx sub code)) := by
  rw [hc, command_taken hs hr, h]

end Sys2Proof.Proofs
end

section
/-!
Configuration epochs: the commands on the staged set (R32 step 1, R36, R69, R88), and the way of a sealed set to the applied epoch (R32 to R36).
-/
namespace Sys2Proof.Proofs
open Sys2Proof.Machine Sys2Proof.Laws

/-! ### The staged set -/

theorem restoreDefaults_one (s : State) :
    restoreDefaults 1 s =
      (let new := restorable.foldl (fun acc o => insertKey (objKey o.1 o.2) (defaultOf s.board.cascMaster o.1 o.2) acc) s.cfg.staged
       if new.length ≤ 4096 then (State.event { s with cfg := { s.cfg with staged := new } } 0x1007 0x8100 (leBytes 2 restorable.length), Abort.ok)
       else (s, Abort.stagedLimit)) := by
  unfold restoreDefaults one stagedLimit
  simp only [if_true, ← not_le, ite_not]

/-- Settles O12: each command is its meaning at the value 1 behind the gate of commands. -/
theorem stagedSetCommands : Obligations.StagedSetCommands := by
  refine ⟨fun s role ht hr room => ?_, fun s role ht hr full => ?_, fun s role ht hr => ?_, fun s role new ht hr hnew => ?_⟩
  · exact next_of_command rfl ht hr ((one_one _ _).trans (if_neg (Nat.not_le.mpr room)))
  · exact next_of_command rfl ht hr ((one_one _ _).trans (sealStaged_full full))
  · exact next_of_command rfl ht hr (one_one _ _)
  · have made := restoreDefaults_one s
    dsimp only at made
    rw [← hnew] at made
    split
    case isTrue fits => exact next_of_command rfl ht hr (made.trans (if_pos fits))
    case isFalse full => exact next_of_command rfl ht hr (made.trans (if_neg full))

/-! ### A sealed set -/

section SealedSet
variable {s : State} {p : Sealed} {rest : List Sealed}

theorem configSetCheck_failing {f : Nat × Nat} (hs : s.cfg.sets = p :: rest) (hp : p.published = false)
    (hf : firstFailure (s.setFailures p.values) = some f) : configSetCheck s = s.rejectSet p rest f := by
  simp [configSetCheck, hs, hp, hf]

theorem configSetCheck_passing (hs : s.cfg.sets = p :: rest) (hp : p.published = false)
    (hf : firstFailure (s.setFailures p.values) = none) : configSetCheck s = (s.saveSet p.values).publishSet p rest := by
  simp [configSetCheck, hs, hp, hf]

theorem publishing_of_published (hs : s.cfg.sets = p :: rest) (hp : p.published = true) : s.cfg.publishing = some p := by
  simp [CfgState.publishing, hs, hp]

theorem switchBlock_waiting {b : Blk} (hs : s.cfg.sets = p :: rest) (hp : p.published = true) (hb : p.switched.contains b = false) :
    s.switchBlock b = (State.blockSwitched
      { s with cfg := { s.cfg with sets := { p with switched := p.switched ++ [b] } :: rest } } s b).returnCells b p.number := by
  simp only [State.switchBlock, hs, hp, hb, Bool.not_true, Bool.or_self, Bool.false_eq_true, if_false]

theorem mem_allBlks (b : Blk) : b ∈ allBlks := by
  cases b <;> decide

/-- R35: while a block in service has not switched, the epoch waits. -/
theorem settleEpoch_waits {b : Blk} (hs : s.cfg.sets = p :: rest) (hp : p.published = true) (hb : p.switched.contains b = false)
    (hf : s.blkFenced b = false) : s.settleEpoch = s := by
  have waits : allBlks.all (fun b => p.switched.contains b || s.blkFenced b) = false :=
    List.all_eq_false.mpr ⟨b, mem_allBlks b, by rw [hb, hf]; decide⟩
  simp only [State.settleEpoch, publishing_of_published hs hp, waits, Bool.false_eq_true, if_false]

/-- R32 step 6, R35: once every block has switched or is fenced, the epoch is applied. -/
theorem settleEpoch_applies (hs : s.cfg.sets = p :: rest) (hp : p.published = true)
    (hall : ∀ b ∈ allBlks, p.switched.contains b = true ∨ s.blkFenced b = true) :
    s.settleEpoch = ((allBlks.filter (fun b => !p.switched.contains b)).foldl (fun (st : State) b => st.blockMissed s b)
      { s with cfg := { s.cfg with active := overlay p.values s.cfg.active, applied := p.number, sets := rest } }).event 0x1001 0xE200
        (leBytes 4 p.number) := by
  have every : allBlks.all (fun b => p.switched.contains b || s.blkFenced b) = true := by
    simpa using hall
  simp only [State.settleEpoch, publishing_of_published hs hp, every, if_true, hs, List.drop_one, List.tail_cons, commitCell]

theorem configEpochLate_early {b : Blk} (hs : s.cfg.sets = p :: rest) (hp : p.published = true) (hb : p.switched.contains b = false)
    (hf : s.blkFenced b = false) (early : s.now < p.publishedAt + cSec 2) : configEpochLate s = s := by
  simp only [configEpochLate, settleEpoch_waits hs hp hb hf, hs, early, decide_true, Bool.or_true, if_true]

/-- R35: a block that is late is in service and has not switched. -/
theorem late_waits {late : List Blk} (hl : late = allBlks.filter (fun b => !p.switched.contains b && !s.blkFenced b && !p.lateRaised.contains b))
    (hne : late ≠ []) : ∃ b, p.switched.contains b = false ∧ s.blkFenced b = false := by
  obtain ⟨b, hb⟩ := List.exists_mem_of_ne_nil late hne
  rw [hl, List.mem_filter] at hb
  simp only [Bool.and_eq_true, Bool.not_eq_true'] at hb
  exact ⟨b, hb.2.1⟩

theorem configEpochLate_due {late : List Blk} (hs : s.cfg.sets = p :: rest) (hp : p.published = true) (due : p.publishedAt + cSec 2 ≤ s.now)
    (hl : late = allBlks.filter (fun b => !p.switched.contains b && !s.blkFenced b && !p.lateRaised.contains b)) (hne : late ≠ []) :
    configEpochLate s = late.foldl (fun st b => st.event 0x1003 b.cell (leBytes 4 p.number))
      { s with cfg := { s.cfg with sets := { p with lateRaised := p.lateRaised ++ late } :: rest } } := by
  obtain ⟨b, hb, hf⟩ := late_waits hl hne
  have notEarly : ¬ s.now < p.publishedAt + cSec 2 := by omega
  simp only [configEpochLate, settleEpoch_waits hs hp hb hf, hs, hp, notEarly, decide_false, Bool.not_true, Bool.or_self, Bool.false_eq_true, if_false, hl]

end SealedSet

theorem blockEpochSwitch_elsewhere {s : State} {b : Blk} (h : s.atBoundary b = false) : blockEpochSwitch b s = s.settleEpoch := by
  simp [blockEpochSwitch, h]

theorem blockEpochSwitch_at {s : State} {b : Blk} (h : s.atBoundary b = true) : blockEpochSwitch b s = (s.switchBlock b).settleEpoch := by
  simp [blockEpochSwitch, h]

/-- Settles O13: the steps of a sealed set in their order, and the end of the epoch by `settleEpoch_applies`. -/
theorem epochSteps : Obligations.EpochSteps := by
  refine ⟨⟨fun s p rest f hr hs hp hf => ?_, fun s p rest hr hs hp hf => ?_, fun s b p rest hl hs hp hb ha => ?_, fun s b hl ha => ?_,
    fun s p rest b hl hs hp hb hf early => ?_, fun s p rest late hl hs hp due hlate hne => ?_⟩, fun s p rest => settleEpoch_applies⟩
  · exact next_of_running rfl hr (configSetCheck_failing hs hp hf)
  · exact next_of_running rfl hr (configSetCheck_passing hs hp hf)
  · exact next_of_live rfl hl ((blockEpochSwitch_at ha).trans (by rw [switchBlock_waiting hs hp hb]))
  · exact next_of_live rfl hl (blockEpochSwitch_elsewhere ha)
  · exact next_of_live rfl hl (configEpochLate_early hs hp hb hf early)
  · exact next_of_live rfl hl (configEpochLate_due hs hp due hlate hne)

end Sys2Proof.Proofs
end

section
/-!
The dictionary: what each operation of an accepted request does (R59, R66 to R73, R82, R83), and what the engine does by itself (R71, R76, R77, R83
to R85).
-/
namespace Sys2Proof.Proofs
open Sys2Proof.Machine Sys2Proof.Laws

/-! ### One element of a list -/

theorem at'_upd_same {α : Type} [Inhabited α] {l : List α} {i : Nat} (h : i < l.length) (f : α → α) : at' (upd l i f) i = f (at' l i) := by
  simp [at', upd, List.getD_eq_getElem?_getD, h]

theorem length_upd {α : Type} (l : List α) (i : Nat) (f : α → α) : (upd l i f).length = l.length := List.length_modify ..

/-! ### Operations -/

/-- An accepted request, whichever operation's row brings it, is answered with what its operation makes of the admitted state. -/
theorem exec_accepted {s u : State} {m : Bytes} {via : Via} {q : DictMsg} {key : Bytes} {c : Instr} {x : Reply} (ha : Accepted s m via q key)
    (he : Executes s q via)
    (hc : c ∈ [Instr.read m via, .write m via, .readBlock m via, .writeBlock m via, .commit m via, .subscribeCreate m via, .subscribeCancel m via,
      .subscribeRenew m via])
    (h : runRequest q.role q.operation 0 via q.payload (s.admitted q) = (u, x)) :
    exec c s = .next (u.respond key q.role q.operation q.seq 0 via x) := by
  rw [exec_dictionary ha.1 m via hc, dictArrive_executed ha he, h]

variable {t : State} {role : Nat} {p : Bytes} {r : ObjRow}

theorem readOp_readable (hrow : rowOf (payIdx p) (paySub p) = some r) (hty : r.ty ≠ .blob) (hab : t.readAbort (payIdx p) (paySub p) r = 0) :
    readOp role p t =
      let b := t.readBytes role (bit (fieldLE p 3 1) 0) (payIdx p) (paySub p) r
      (t.afterRead (payIdx p) (paySub p), (Abort.ok, [byte r.ty.code, 0] ++ leBytes 2 b.length ++ b)) := by
  simp only [readOp, hrow, hty, hab, ne_eq, not_true_eq_false, if_false]

/-- R48, R53: an object that is not RO is written by a role of its Role column. -/
theorem writeAbort_ok (hacc : r.acc ≠ .ro) (hr : roleMay role r.role = true) : writeAbort role r = 0 := by
  simp [writeAbort, hacc, hr, Abort.ok]

/-- R69: a good value of an RWC object is staged while the staged set has room. -/
theorem applyWrite_staged {idx sub : Nat} {b v : Bytes} (hacc : r.acc = .rwc) (henc : r.ty.encodingAbort b = 0) (hv : v = takenValue idx sub b)
    (hrange : r.range.ok v = true) (hval : valueOk idx sub b = true) (hweak : t.weakens idx sub v = false)
    (room : (insertKey (objKey idx sub) v t.cfg.staged).length ≤ 4096) :
    applyWrite r idx sub b t = ({ t with cfg := { t.cfg with staged := insertKey (objKey idx sub) v t.cfg.staged } }, Abort.ok) := by
  have fits : ¬ stagedLimit < (insertKey (objKey idx sub) v t.cfg.staged).length := Nat.not_lt.mpr room
  simp only [applyWrite, henc, ← hv, hrange, hval, hacc, State.stage, hweak, fits, ne_eq, not_true_eq_false, Bool.not_true, Bool.or_self,
    Bool.false_eq_true, if_false]

theorem writeOp_staged {v : Bytes} (hrow : rowOf (payIdx p) (paySub p) = some r) (hty : r.ty ≠ .blob) (hacc : r.acc = .rwc)
    (hr : roleMay role r.role = true) (hlen : fieldLE p 4 2 = r.ty.size) (henc : r.ty.encodingAbort (p.drop 6) = 0)
    (hv : v = takenValue (payIdx p) (paySub p) (p.drop 6)) (hrange : r.range.ok v = true) (hval : valueOk (payIdx p) (paySub p) (p.drop 6) = true)
    (hweak : t.weakens (payIdx p) (paySub p) v = false) (room : (insertKey (objKey (payIdx p) (paySub p)) v t.cfg.staged).length ≤ 4096) :
    writeOp role p t =
      ({ t with cfg := { t.cfg with staged := insertKey (objKey (payIdx p) (paySub p)) v t.cfg.staged } }, (Abort.ok, [])) := by
  have mayWrite : writeAbort role r = 0 := writeAbort_ok (by simp [hacc]) hr
  simp only [writeOp, hrow, hty, mayWrite, hlen, applyWrite_staged hacc henc hv hrange hval hweak room, ne_eq, not_true_eq_false, if_false]

/-- R72: the first segment of a BLOB opens a session over a snapshot. -/
theorem readBlockOp_opening (hrow : rowOf (payIdx p) (paySub p) = some r) (hty : r.ty = .blob)
    (hab : t.readAbort (payIdx p) (paySub p) r = 0) (hoff : fieldLE p 4 4 = 0) (hidx : payIdx p ≠ 0x4C20) :
    readBlockOp role p t =
      (t.updRole role (fun x => { x with readS := some { key := objKey (payIdx p) (paySub p), data := t.readBytes role false (payIdx p) (paySub p) r, lastAt := t.now } }),
        (Abort.ok, segment (t.readBytes role false (payIdx p) (paySub p) r) 0 (fieldLE p 8 2))) := by
  simp only [readBlockOp, hrow, hty, hab, hoff, hidx, ne_eq, not_true_eq_false, if_false, if_true]

/-- R73: a segment that does not complete its value is kept in the session. -/
theorem takeSegment_partial {idx sub : Nat} {w : WriteSession} {seg : Bytes} (h : (w.data ++ seg).length < w.total) :
    takeSegment role r idx sub w seg t =
      (t.updRole role (fun y => { y with writeS := some { w with data := w.data ++ seg, lastAt := t.now } }),
        (Abort.ok, leBytes 4 (w.data ++ seg).length)) := by
  simp only [takeSegment, h, Nat.not_lt.mpr h.le, if_false, if_true]

theorem writeBlockOp_opening (hrow : rowOf (payIdx p) (paySub p) = some r) (hty : r.ty = .blob) (hacc : r.acc ≠ .ro)
    (hr : roleMay role r.role = true) (hoff : fieldLE p 4 4 = 0) (hlim : fieldLE p 8 4 ≤ blobLimit r) (hpart : (p.drop 20).length < fieldLE p 8 4) :
    writeBlockOp role p t =
      ((t.updRole role (fun x => { x with writeS := none })).updRole role (fun y => { y with writeS := some { key := objKey (payIdx p) (paySub p), total := fieldLE p 8 4, crc := fieldLE p 12 4, data := p.drop 20, lastAt := t.now } }),
        (Abort.ok, leBytes 4 (p.drop 20).length)) := by
  simp only [writeBlockOp, hrow, hty, writeAbort_ok hacc hr, hoff, Nat.not_lt.mpr hlim, ne_eq, not_true_eq_false, if_false, if_true]
  exact takeSegment_partial (w := ⟨_, _, _, [], t.now⟩) hpart

/-- R73: an opening segment that leaves its value incomplete changes the dictionary alone, and its role's session holds it. -/
theorem writeBlockOp_opens (hrow : rowOf (payIdx p) (paySub p) = some r) (hty : r.ty = .blob) (hacc : r.acc ≠ .ro)
    (hr : roleMay role r.role = true) (hoff : fieldLE p 4 4 = 0) (hlim : fieldLE p 8 4 ≤ blobLimit r) (hpart : (p.drop 20).length < fieldLE p 8 4) :
    ∃ u, writeBlockOp role p t = (u, (Abort.ok, leBytes 4 (p.drop 20).length)) ∧ u = { t with dict := u.dict } ∧
      (role < t.dict.roles.length → (at' u.dict.roles role).writeS =
        some { key := objKey (payIdx p) (paySub p), total := fieldLE p 8 4, crc := fieldLE p 12 4, data := p.drop 20, lastAt := t.now }) := by
  refine ⟨_, writeBlockOp_opening hrow hty hacc hr hoff hlim hpart, rfl, fun hlt => ?_⟩
  simp only [updRole_dict]
  rw [at'_upd_same (by rw [length_upd]; exact hlt)]

/-- R83: whether the slot, the action and the lease of a SUBSCRIBE are in range. -/
def SubscribeInRange (p : Bytes) : Prop := fieldLE p 0 1 ≤ 7 ∧ fieldLE p 1 1 ≤ 2 ∧ 10 ≤ fieldLE p 2 2 ∧ fieldLE p 2 2 ≤ 3600

/-- The response to a SUBSCRIBE that is taken. -/
def subscribed (p : Bytes) : Reply := (Abort.ok, [byte (fieldLE p 0 1), 0] ++ leBytes 2 (fieldLE p 2 2))

section Subscribe
variable {node : Nat} {via : Via}

theorem subscribe_not_refused (h : SubscribeInRange p) : ¬ (7 < fieldLE p 0 1 ∨ 2 < fieldLE p 1 1 ∨ fieldLE p 2 2 < 10 ∨ 3600 < fieldLE p 2 2) := by
  obtain ⟨_, _, _, _⟩ := h
  omega

theorem subscribeOp_cancel (h : SubscribeInRange p) (ha : fieldLE p 1 1 = 0) :
    subscribeOp role node via p t = (t.setSub (fieldLE p 0 1) none, subscribed p) := by
  unfold subscribeOp
  dsimp only
  rw [if_neg (subscribe_not_refused h), if_pos ha, subscribed]

theorem subscribeOp_create (h : SubscribeInRange p) (ha : fieldLE p 1 1 = 1) :
    subscribeOp role node via p t =
      (t.setSub (fieldLE p 0 1) (some { role := role, via := via, node := node, leaseEnd := t.now + cSec (fieldLE p 2 2)
                                        cellFilter := fieldLE p 4 2, ranges := subRanges p, ordinal := 0, dropped := 0, buffered := [] }),
        subscribed p) := by
  have notCancel : ¬ fieldLE p 1 1 = 0 := by omega
  unfold subscribeOp
  dsimp only
  rw [if_neg (subscribe_not_refused h), if_neg notCancel, if_pos ha, subscribed]

theorem subscribeOp_renew {u : Subscription} (h : SubscribeInRange p) (ha : fieldLE p 1 1 = 2) (hu : at' t.dict.subs (fieldLE p 0 1) = some u) :
    subscribeOp role node via p t = (t.setSub (fieldLE p 0 1) (some { u with leaseEnd := t.now + cSec (fieldLE p 2 2) }), subscribed p) := by
  have notCancel : ¬ fieldLE p 1 1 = 0 := by omega
  have notCreate : ¬ fieldLE p 1 1 = 1 := by omega
  unfold subscribeOp
  dsimp only
  rw [if_neg (subscribe_not_refused h), if_neg notCancel, if_neg notCreate, hu, subscribed]

end Subscribe

/-- R59, check 6: the operation by its number. -/
theorem runRequest_op (role operation node : Nat) (via : Via) (p : Bytes) (s : State) :
    (operation = opRead → runRequest role operation node via p s = readOp role p s) ∧
    (operation = opWrite → runRequest role operation node via p s = writeOp role p s) ∧
    (operation = opReadBlock → runRequest role operation node via p s = readBlockOp role p s) ∧
    (operation = opWriteBlock → runRequest role operation node via p s = writeBlockOp role p s) ∧
    (operation = opSubscribe → runRequest role operation node via p s = subscribeOp role node via p s) := by
  refine ⟨?_, ?_, ?_, ?_, ?_⟩ <;> rintro rfl <;> rfl

/-- Settles O16: the operation by its number in the admitted state, its case, and the response to it. -/
theorem dictionaryOperations : Obligations.DictionaryOperations := by
  intro s m via q key ha he t idx sub slot lease answer
  obtain ⟨asRead, asWrite, asReadBlock, asWriteBlock, asSubscribe⟩ := runRequest_op q.role q.operation 0 via q.payload t
  refine ⟨fun r hop hrow hty hab => ?_, fun r v hop hrow hty hacc hr hlen henc hv hrange hval hweak room => ?_,
    fun r hop hrow hty hab hoff hidx => ?_, fun r hop hrow hty hacc hr hoff hlim hpart => ?_, fun hop hr room => ?_,
    fun hop hact hslot hlo hhi => ?_, fun hop hact hslot hlo hhi => ?_, fun x hop hact hslot hlo hhi hx => ?_⟩
  · exact ⟨_, rfl, exec_accepted ha he (by simp) ((asRead hop).trans (readOp_readable hrow hty hab))⟩
  · exact exec_accepted ha he (by simp) ((asWrite hop).trans (writeOp_staged hrow hty hacc hr hlen henc hv hrange hval hweak room))
  · exact exec_accepted ha he (by simp) ((asReadBlock hop).trans (readBlockOp_opening hrow hty hab hoff hidx))
  · obtain ⟨u, hu, only, session⟩ := writeBlockOp_opens (t := t) hrow hty hacc hr hoff hlim hpart
    exact ⟨u, exec_accepted ha he (by simp) ((asWriteBlock hop).trans hu), only, session⟩
  · have sealed : (s.admitted q).sealStaged = _ := if_neg (Nat.not_le.mpr room)
    rw [exec_commit ha he hop hr, commitPayload, sealed]
    simp only [Abort.ok, if_true, State.pendingEpoch, List.getLast?_append, List.getLast?_singleton, Option.some_or]
    rfl
  · exact exec_accepted ha he (by simp) ((asSubscribe hop).trans (subscribeOp_create ⟨hslot, by omega, hlo, hhi⟩ hact))
  · exact exec_accepted ha he (by simp) ((asSubscribe hop).trans (subscribeOp_cancel ⟨hslot, by omega, hlo, hhi⟩ hact))
  · exact exec_accepted ha he (by simp) ((asSubscribe hop).trans (subscribeOp_renew ⟨hslot, by omega, hlo, hhi⟩ hact hx))

/-! ### What the engine does by itself -/

section Engine
variable {s : State} {k : Nat} {u : Subscription} {kb : Bytes}

/-- R84, R85: a notification that is due, over the network, with a key of its role. -/
theorem notify_due (hu : at' s.dict.subs k = some u) (hb : u.buffered ≠ []) (hdue : 32 ≤ u.buffered.length ∨ u.firstAt + cMs 10 ≤ s.now)
    (hvia : u.via.transport ≠ 2) (hk : (s.roleKey u.role).2 = some kb) :
    notify k s =
      (let s1 := (s.roleKey u.role).1.updRole u.role RoleState.nextNotify
       let batch := notifyBatch 32 u.buffered
       (s1.setSub k (some { u with buffered := u.buffered.drop batch.length })).dictSend u.via
         (dictMessage kb 2 u.role opNotify (at' s1.dict.roles u.role).notifySeq u.node
           ([byte k, byte batch.length, 0, 0] ++ leBytes 4 ((batch.map (·.ordinal)).headD 0 % 2 ^ 32) ++ (batch.map (·.record)).flatten))) := by
  have due : ¬ (u.buffered = [] ∨ (u.buffered.length < 32 ∧ s.now < u.firstAt + cMs 10) ∨ (u.via.transport = 2 ∧ 16 ≤ s.fw.port.outputs.length)) := by
    rintro (h | ⟨h1, h2⟩ | ⟨h, -⟩)
    · exact hb h
    · rcases hdue with h | h <;> omega
    · exact hvia h
  simp only [notify, hu, due, if_false, hk]

theorem subscriptionExpired_ended (hu : at' s.dict.subs k = some u) (h : u.leaseEnd ≤ s.now) :
    subscriptionExpired k s = (s.setSub k none).event 0x1006 0x8100 [byte k] := by
  simp [subscriptionExpired, hu, Nat.not_lt.mpr h]

theorem subscriptionExpired_running (hu : at' s.dict.subs k = some u) (h : s.now < u.leaseEnd) : subscriptionExpired k s = s := by
  simp [subscriptionExpired, hu, h]

/-- R71: of the two sessions of a role those stay whose last segment came within 10 s. -/
theorem blockSessionEnd_roles (h : k < s.dict.roles.length) :
    at' (blockSessionEnd k s).dict.roles k = { at' s.dict.roles k with
      readS := (at' s.dict.roles k).readS.filter (fun x => s.sessionOpen x.lastAt)
      writeS := (at' s.dict.roles k).writeS.filter (fun x => s.sessionOpen x.lastAt) } := by
  rw [blockSessionEnd, updRole_dict]
  exact at'_upd_same h _

theorem nodeTimeout_due {x : Proxied} {rest : List Proxied} (hx : s.dict.proxied = x :: rest) (due : x.sentAt + cMs 50 ≤ s.now)
    (hk : (State.roleKey { s with dict := { s.dict with proxied := rest } } x.role).2 = some kb) :
    nodeTimeout s = (State.roleKey { s with dict := { s.dict with proxied := rest } } x.role).1.respond kb x.role x.operation x.seq x.node x.via
      (Abort.nodeTimeout, if x.operation = opRead then zeros 4 else []) := by
  simp only [nodeTimeout, hx, Nat.not_lt.mpr due, if_false, hk]

/-- R77: a result whose request has been answered is discarded. -/
theorem leafResult_late {node : Nat} {b : Bytes} {rest : List (Nat × Bytes)} (hr : s.casc.results = (node, b) :: rest)
    (hf : s.dict.proxied.find? (fun x => x.ident == fieldLE b 0 4 && x.node == node) = none) :
    leafResult s = { s with casc := { s.casc with results := rest } } := by
  simp only [leafResult, hr, State.updCasc, hf]

theorem leafResult_answered {s2 : State} {node : Nat} {b : Bytes} {rest : List (Nat × Bytes)} {x : Proxied}
    (hr : s.casc.results = (node, b) :: rest) (hf : s.dict.proxied.find? (fun x => x.ident == fieldLE b 0 4 && x.node == node) = some x)
    (h2 : s2 = { s with casc := { s.casc with results := rest }
                        dict := { s.dict with proxied := s.dict.proxied.filter (fun y => y.ident != x.ident) } })
    (hk : (s2.roleKey x.role).2 = some kb) :
    leafResult s = (s2.roleKey x.role).1.respond kb x.role x.operation x.seq x.node x.via (fieldLE b 4 4, b.drop 8) := by
  subst h2
  simp only [leafResult, hr, State.updCasc, hf, hk]

end Engine

theorem sessionOpen_iff (s : State) (n : Nat) : s.sessionOpen n = true ↔ s.now < n + cSec 10 := by simp [State.sessionOpen]

/-- Settles O17: each event of the engine behind its gate. -/
theorem dictionaryEngine : Obligations.DictionaryEngine := by
  refine ⟨⟨fun s k u kb hl hd hu hb hdue hvia hk => ?_, fun s k u hl hu h => ?_, fun s k u hl hu h => ?_, fun s role hl hrole => ?_⟩,
    fun s x rest kb hl hx due hk => ?_, fun s node b rest hl hr hf => ?_, fun s s2 node b kb rest x hl hr hf h2 hk => ?_⟩
  · refine next_of_live (f := fun t => if t.health.deviceFault then t else notify k t) rfl hl ?_
    simp only [hd, Bool.false_eq_true, if_false]
    exact notify_due hu hb hdue hvia hk
  · exact next_of_live rfl hl (subscriptionExpired_ended hu h)
  · exact next_of_live rfl hl (subscriptionExpired_running hu h)
  · refine ⟨_, next_of_live rfl hl rfl, rfl, fun x => ?_, fun x => ?_⟩ <;>
      rw [blockSessionEnd_roles hrole, Option.filter_eq_some_iff, sessionOpen_iff]
  · exact next_of_live rfl hl (nodeTimeout_due hx due hk)
  · exact next_of_live rfl hl (leafResult_late hr hf)
  · exact next_of_live rfl hl (leafResult_answered hr hf h2 hk)

end Sys2Proof.Proofs
end

section
/-!
Meter security: control items for the selected meter (R107, R128, R130, R178), rekeys (R108, R148), joins and the network key (R103, R124, R125).
-/
namespace Sys2Proof.Proofs
open Sys2Proof.Machine Sys2Proof.Laws

/-! ### Control items for the selected meter -/

section Selected
variable {s t : State} {i : Nat} {m : Meter} {code a : Nat} {check : Meter → Nat}

theorem ctlForSelected_sent (hm : s.selected = some (i, m)) (hc : check m = 0) (ht : s.sendCtl 0x8100 i code a 0 [] = some t) :
    s.ctlForSelected code a check = (t, Abort.ok) := by
  simp only [State.ctlForSelected, hm, hc, dictCell, ht, ne_eq, not_true_eq_false, if_false]

theorem ctlForSelected_full (hm : s.selected = some (i, m)) (hc : check m = 0) (ht : s.sendCtl 0x8100 i code a 0 [] = none) :
    s.ctlForSelected code a check = (s, Abort.busy) := by
  simp only [State.ctlForSelected, hm, hc, dictCell, ht, ne_eq, not_true_eq_false, if_false]

theorem ctlForSelected_refused (hm : s.selected = some (i, m)) (hc : check m ≠ 0) : s.ctlForSelected code a check = (s, check m) := by
  simp only [State.ctlForSelected, hm, hc, ne_eq, not_false_eq_true, if_true]

theorem rekeyRefusal_none (hp : m.pendingGen = 0) (hg : m.gen ≠ 0xFFFF) : rekeyRefusal m = 0 := by
  simp [rekeyRefusal, hp, hg, Abort.ok]

theorem rekeyRefusal_pending (hp : m.pendingGen ≠ 0) : rekeyRefusal m = Abort.busy := if_pos hp

end Selected

/-! ### Rekeys -/

section Rekeying
variable {s : State} {r : Rekey} {m : Meter}

theorem rekeySend_first (hr : s.mtr.rekeys.find? (fun x => x.meter == r.meter) = some r) (hs : r.stalled = false) (ha : r.asked = false)
    (h0 : r.sends = 0) (due : r.dueAt ≤ s.now) : rekeySend r.meter s = s.askRekey r.meter := by
  simp [rekeySend, hr, hs, ha, h0, Nat.not_lt.mpr due]

theorem rekeySend_not_due (hr : s.mtr.rekeys.find? (fun x => x.meter == r.meter) = some r) (early : s.now < r.dueAt) :
    rekeySend r.meter s = s := by
  simp [rekeySend, hr, early]

theorem rekeyRetry_again (hr : s.mtr.rekeys.find? (fun x => x.meter == r.meter) = some r) (hm : s.meter r.meter = some m)
    (hs : r.stalled = false) (ha : r.asked = false) (some_sent : 0 < r.sends) (room : r.sends < 8) (due : r.dueAt ≤ s.now) :
    rekeyRetry r.meter s = (s.downUnanswered r.meter r.lseq).askRekey r.meter := by
  simp [rekeyRetry, hr, hm, hs, ha, some_sent.ne', room, Nat.not_lt.mpr due]

theorem rekeyRetry_stalls (hr : s.mtr.rekeys.find? (fun x => x.meter == r.meter) = some r) (hm : s.meter r.meter = some m)
    (hs : r.stalled = false) (ha : r.asked = false) (used : 8 ≤ r.sends) (due : r.dueAt ≤ s.now) :
    rekeyRetry r.meter s = ((s.downUnanswered r.meter r.lseq).updRekey r.meter (fun x => { x with stalled := true })).emit
      0x3805 0x2200 r.meter (leBytes 2 m.pendingGen ++ [byte r.sends]) := by
  have some_sent : r.sends ≠ 0 := by omega
  simp only [rekeyRetry, hr, hm, hs, ha, some_sent, Nat.not_lt.mpr used, Nat.not_lt.mpr due, Bool.false_eq_true, or_self, if_false, meterTableCell]

theorem rekeyRetry_not_due (hr : s.mtr.rekeys.find? (fun x => x.meter == r.meter) = some r) (early : s.now < r.dueAt) :
    rekeyRetry r.meter s = s := by
  cases hm : s.meter r.meter <;> simp [rekeyRetry, hr, hm, early]

theorem rekeyTaken_sends (hr : s.mtr.rekeys.find? (fun x => x.meter == r.meter) = some r) (hs : r.stalled = false) :
    s.rekeyTaken r.meter = (s.updRekey r.meter (fun x => { x with asked := false })).sendRekey { r with asked := false } := by
  simp [State.rekeyTaken, hr, hs]

end Rekeying

/-! ### Joins -/

section Joins
variable {s s1 : State} {b : Bytes} {m : Meter}

/-- R404: DLFC is raised for a meter of the table alone. -/
theorem raiseDlFc_of_no_meter {i : Nat} (h : s.meter i = none) : s.raiseDlFc i = s := by
  simp [State.raiseDlFc, h]

theorem joinAcceptSend_no_meter (hp : s.popPacket 48 = some (s1, b, false)) (hm : s1.meter (joinAnswerOf b).meter = none) :
    joinAcceptSend s = s1 := by
  simp [joinAcceptSend, hp, raiseDlFc_of_no_meter hm, hm]

theorem joinAcceptSend_no_key (hp : s.popPacket 48 = some (s1, b, false))
    (hm : (s1.raiseDlFc (joinAnswerOf b).meter).meter (joinAnswerOf b).meter = some m)
    (hk : ((s1.raiseDlFc (joinAnswerOf b).meter).joinAcceptBody (joinAnswerOf b) m).2 = none) :
    joinAcceptSend s = ((s1.raiseDlFc (joinAnswerOf b).meter).joinAcceptBody (joinAnswerOf b) m).1 := by
  simp only [joinAcceptSend, hp, hm, hk, Bool.false_eq_true, if_false]

/-- R124 over the power line: the answer is built under the meter's key and goes back over the hops of its JOIN. -/
theorem joinAcceptSend_plc {plain : Bytes} (hp : s.popPacket 48 = some (s1, b, false))
    (hm : (s1.raiseDlFc (joinAnswerOf b).meter).meter (joinAnswerOf b).meter = some m) (plc : (joinAnswerOf b).route ≤ 2)
    (hk : ((s1.raiseDlFc (joinAnswerOf b).meter).joinAcceptBody (joinAnswerOf b) m).2 = some plain) :
    let j := joinAnswerOf b
    let c := ((s1.raiseDlFc j.meter).joinAcceptBody j m).1.takeJoin
    let r := c.1.buildUnder m 0 Config.deviceEui c.2 9 j.dest (.route j.hops) plain
    (∀ f, r.2 = some f → joinAcceptSend s = (r.1.macSend j.route distCell m.eui
      { frame := f, meter := j.meter, dest := j.dest, prio := 1, ident := 0, kind := 0, backoff := 0, cw := 0, tries := 0 }).1) ∧
    (r.2 = none → joinAcceptSend s = r.1) := by
  have notRadio : ¬ ((joinAnswerOf b).route = 3 ∨ (joinAnswerOf b).route = 4) := by omega
  refine ⟨fun f hf => ?_, fun hf => ?_⟩ <;>
    simp only [joinAcceptSend, hp, hm, hk, notRadio, plc, hf, decide_false, Bool.false_and, Bool.false_eq_true, if_false, if_true]

section Expiry
variable {t : State} {k at0 : Nat}

theorem joinExpired_due (hm : s.meter k = some m) (hj : lookupKey k s.mtr.joins = some at0) (provisional : m.state = 1)
    (due : at0 + cSec (s.cfgN 0x3812 3) ≤ s.now) (ht : s.sendCtl 0x2200 k 6 0 0 [] = some t) :
    joinExpired k s = { t with mtr := { t.mtr with joins := eraseKey k t.mtr.joins } } := by
  simp only [joinExpired, hm, hj, provisional, Nat.not_lt.mpr due, meterTableCell, ht, ne_eq, not_true_eq_false, or_self, if_false]

theorem joinExpired_not_due (hm : s.meter k = some m) (hj : lookupKey k s.mtr.joins = some at0)
    (early : s.now < at0 + cSec (s.cfgN 0x3812 3)) : joinExpired k s = s := by
  simp only [joinExpired, hm, hj, early, or_true, if_true]

end Expiry

theorem networkKeyGraceEnd_due {u : Nat} (hu : s.mtr.prevUntil = some u) (due : u ≤ s.now) :
    networkKeyGraceEnd s = { s with mtr := { s.mtr with prevUntil := none, unconfirmed := [] } } := by
  simp only [networkKeyGraceEnd, hu, Nat.not_lt.mpr due, if_false]

end Joins

/-- Settles O18: a control item for the selected meter, a rekey and a join each by its cases. -/
theorem meterSecurity : Obligations.MeterSecurity := by
  refine ⟨fun s role i m ht hm => ⟨fun t hr hp hg hsend => ?_, fun hr hp => ?_, fun t hr hsend => ?_, fun hr hsend => ?_,
      fun v t hr hv hsend => ?_, fun v hr hv => ?_, fun eui k hr hk => ?_, fun eui hr hk => ?_⟩,
    ⟨fun s r hl hr hs ha h0 due => ?_, fun s r m hl hr hm hs ha hpos hlt due => ?_, fun s r m hl hr hm hs ha h8 due => ?_,
      fun s r hr hs => rekeyTaken_sends hr hs, fun s r hl hr early => ⟨?_, ?_⟩⟩,
    fun s s1 b hl hp hm => ?_, fun s s1 b m hl hp hm plc => ⟨fun hk => ?_, fun plain hk => ⟨fun f hf => ?_, fun hf => ?_⟩⟩,
    fun s t k at0 m hl hm hj prov due hsend => ?_, fun s k at0 m hl hm hj early => ?_, fun s u hl hu due => ?_⟩
  · exact next_of_command rfl ht hr (ctlForSelected_sent hm (rekeyRefusal_none hp hg) hsend)
  · have busy : rekeyRefusal m ≠ 0 := by rw [rekeyRefusal_pending hp]; decide
    exact next_of_command rfl ht hr ((ctlForSelected_refused hm busy).trans (by rw [rekeyRefusal_pending hp]))
  · exact next_of_command rfl ht hr (ctlForSelected_sent hm rfl hsend)
  · exact next_of_command rfl ht hr (ctlForSelected_full hm rfl hsend)
  · exact next_of_command rfl ht hr ((if_neg (Nat.not_lt.mpr hv)).trans (ctlForSelected_sent hm rfl hsend))
  · exact next_of_command rfl ht hr (if_pos hv)
  · exact next_of_command rfl ht hr (by simp only [meterSelectEui, hk])
  · exact next_of_command rfl ht hr (by simp only [meterSelectEui, hk])
  · exact next_of_running rfl hl (rekeySend_first hr hs ha h0 due)
  · exact next_of_running rfl hl (rekeyRetry_again hr hm hs ha hpos hlt due)
  · exact next_of_running rfl hl (rekeyRetry_stalls hr hm hs ha h8 due)
  · exact next_of_running rfl hl (rekeySend_not_due hr early)
  · exact next_of_running rfl hl (rekeyRetry_not_due hr early)
  · exact next_of_running rfl hl (joinAcceptSend_no_meter hp hm)
  · exact next_of_running rfl hl (joinAcceptSend_no_key hp hm hk)
  · exact next_of_running rfl hl ((joinAcceptSend_plc hp hm plc hk).1 f hf)
  · exact next_of_running rfl hl ((joinAcceptSend_plc hp hm plc hk).2 hf)
  · exact next_of_running rfl hl (joinExpired_due hm hj prov due hsend)
  · exact next_of_running rfl hl (joinExpired_not_due hm hj early)
  · exact next_of_running rfl hl (networkKeyGraceEnd_due hu due)

end Sys2Proof.Proofs
end

section
/-!
The front of the lanes: dispatch and the bucket map (R135, R138 to R141), fetch and identification (R133, R135, R142, R146, R147), key and text
(R99, R100, R122, R134).
-/
namespace Sys2Proof.Proofs
open Sys2Proof.Machine Sys2Proof.Laws

/-! ### The dispatcher -/

/-- What the dispatcher gives to a lane for a packet of queue `q`. -/
def laneInput (s : State) (q : Nat) (b : Bytes) : Input4 :=
  { isCtl := q == 37, ctl := if q = 37 then ctlOf b else default, frame := if q = 37 then [] else b.drop 64
    info := if q = 37 then [] else b.take 64, entered := s.headPushedAt q }

theorem dispatch_settled {s s0 s1 : State} {q : Nat} {ls : LaneState} {b : Bytes} {e : Nat} (h0 : s0 = s.syncMap)
    (hserves : ∃ l < 4, (s0.laneOf l).serves = true) (hpick : s0.pickQueue = some (q, ls))
    (hpop : ({ s0 with lane := ls } : State).popPacket q = some (s1, b, false)) (hhead : headEui q b = some e)
    (hstays : s1.lane.moving.any (fun m => m.bucket == bucketOf e) = false) :
    dispatch s = s1.updLane (s1.lane.map.getD (bucketOf e) 0) (fun x => { x with input := x.input ++ [laneInput s0 q b] }) := by
  have served : (List.range 4).any (fun l => (s0.laneOf l).serves) = true := by
    obtain ⟨l, hl, h⟩ := hserves
    exact List.any_eq_true.mpr ⟨l, List.mem_range.mpr hl, h⟩
  simp only [dispatch, ← h0, served, hpick, hpop, hhead, hstays, laneInput, Bool.not_true, Bool.false_eq_true, if_false]

section Moving
variable {s : State} {m : Moving}

/-- R141: the held items fit in the input buffer: the bucket's move is complete. -/
theorem releaseHeld_all (fits : m.held.length ≤ 4 - (s.laneOf m.new).input.length) :
    s.releaseHeld m = (State.updLane { s with lane := { s.lane with moving := s.lane.moving.filter (fun x => x.bucket ≠ m.bucket) } }
      m.new (fun x => { x with input := x.input ++ m.held })).event 0x4005 0x2000 [byte m.bucket, byte m.old, byte m.new] := by
  unfold State.releaseHeld
  dsimp only
  rw [if_pos fits, List.take_of_length_le fits, dispatcherCell]
  rfl

theorem releaseHeld_part (more : 4 - (s.laneOf m.new).input.length < m.held.length) :
    s.releaseHeld m = State.updLane { s with lane := { s.lane with moving := s.lane.moving.map (fun x =>
        if x.bucket = m.bucket then { x with switched := true, held := m.held.drop (4 - (s.laneOf m.new).input.length) } else x) } } m.new
      (fun x => { x with input := x.input ++ m.held.take (4 - (s.laneOf m.new).input.length) }) := by
  unfold State.releaseHeld
  dsimp only
  rw [if_neg (Nat.not_le.mpr more)]
  rfl

variable {b : Nat}

theorem bucket_of_find {l : List Moving} (hm : l.find? (fun m => m.bucket == b) = some m) : m.bucket = b := by
  simpa using List.find?_some hm

theorem laneMapMove_switches (hsync : s.syncMap = s) (hm : s.lane.moving.find? (fun m => m.bucket == b) = some m)
    (hsw : m.switched = false) (idle : s.bucketBusy m.old b = false) :
    laneMapMove b s = ({ s with lane := { s.lane with map := s.lane.map.set b m.new } } : State).releaseHeld m := by
  unfold laneMapMove
  rw [hsync]
  dsimp only
  rw [hm]
  dsimp only
  rw [hsw, idle]
  rfl

theorem laneMapMove_busy (hsync : s.syncMap = s) (hm : s.lane.moving.find? (fun m => m.bucket == b) = some m)
    (hsw : m.switched = false) (busy : s.bucketBusy m.old b = true) : laneMapMove b s = s := by
  unfold laneMapMove
  rw [hsync]
  dsimp only
  rw [hm]
  dsimp only
  rw [hsw, busy]
  rfl

theorem laneMapMove_switched (hsync : s.syncMap = s) (hm : s.lane.moving.find? (fun m => m.bucket == b) = some m)
    (hsw : m.switched = true) : laneMapMove b s = s.releaseHeld m := by
  unfold laneMapMove
  rw [hsync]
  dsimp only
  rw [hm]
  dsimp only
  rw [hsw]
  rfl

end Moving

/-! ### Fetch -/

section Fetch
variable {s : State} {l : Nat}

/-- A lane changed, and the next number of an item: nothing but the lanes' state changes. -/
theorem updLane_numbered (h : l < s.lane.lanes.length) (n : Nat) (f : Lane → Lane) :
    let t := State.updLane { s with lane := { s.lane with nextIdent := n } } l f
    t = { s with lane := t.lane } ∧ t.laneOf l = f (s.laneOf l) ∧ t.lane.nextIdent = n :=
  ⟨rfl, at'_upd_same h f, rfl⟩

theorem fetchItem_stays (h : (s.laneOf l).mayFetch = false) : fetchItem l s = s := by
  cases hi : (s.laneOf l).input <;> simp [fetchItem, hi, h]

/-- The item in flight that the front of a lane's input becomes. -/
def fetchedItem (s : State) (l : Nat) (i : Input4) : Item :=
  { (default : Item) with
    ident := s.lane.nextIdent, isCtl := i.isCtl, ctl := i.ctl, frame := i.frame, info := i.info
    ingestAt := i.entered, epoch := s.laneEpoch, cfg := s.settingsFor .lanes, plain := (s.laneOf l).mode != .runAhead
    next := 2, deadline := if i.isCtl then 0 else fieldLE i.info 16 8, judged := 0xFFFF }

/-- A lane whose front has been fetched. -/
def fetchedLane (s : State) (l : Nat) (i : Input4) (rest : List Input4) (x : Lane) : Lane :=
  { x with
    input := rest, items := x.items ++ [fetchedItem s l i], peak := max x.peak (x.items.length + 1)
    plainItems := x.plainItems + b2n ((s.laneOf l).mode != .runAhead) }

theorem fetchItem_front {i : Input4} {rest : List Input4} (hi : (s.laneOf l).input = i :: rest) (hf : (s.laneOf l).mayFetch = true) :
    fetchItem l s = State.updLane { s with lane := { s.lane with nextIdent := s.lane.nextIdent + 1 } } l (fetchedLane s l i rest) := by
  unfold fetchItem
  dsimp only
  rw [hi]
  simp only [hf, Bool.not_true, Bool.false_eq_true, if_false]
  rfl

end Fetch

/-! ### Identification -/

section Identify
variable {s : State} {l i : Nat} {it : Item}

theorem identify_must_wait (hi : s.item l i = some it) (h2 : it.next = 2) (hh : it.held = false)
    (he : (s.laneOf l).mayEnter { it with ident := i } 2 = false) : identify l i s = s := by
  unfold identify
  rw [hi]
  dsimp only
  rw [if_neg (not_not_intro h2), he, hh]
  rfl

theorem identify_enters_hold (hi : s.item l i = some it) (h2 : it.next = 2) (hh : it.held = false)
    (he : (s.laneOf l).mayEnter { it with ident := i } 2 = true) (hm : (s.laneOf l).mustHold it = true)
    (room : ((s.laneOf l).items.filter (·.held)).length < 8) :
    identify l i s = s.updItem l i (fun y => { y with held := true, overtaken := true }) := by
  unfold identify
  rw [hi]
  dsimp only
  rw [if_neg (not_not_intro h2), he, if_neg (by simp), if_pos hm, if_neg (by simpa [hh] using room)]

theorem identify_stays_held (hi : s.item l i = some it) (h2 : it.next = 2) (hm : (s.laneOf l).mustHold it = true)
    (full : it.held = true ∨ 8 ≤ ((s.laneOf l).items.filter (·.held)).length) : identify l i s = s := by
  unfold identify
  rw [hi]
  dsimp only
  have noPlace : (it.held || decide (8 ≤ ((s.laneOf l).items.filter (·.held)).length)) = true := by simpa using full
  rw [if_neg (not_not_intro h2), if_pos hm, if_pos noPlace, ite_self]

/-- An item that may go on: a held one, or one that may enter stage 2 now. -/
theorem identify_not_waiting (h : it.held = true ∨ (s.laneOf l).mayEnter { it with ident := i } 2 = true) :
    (!it.held && !(s.laneOf l).mayEnter { it with ident := i } 2) = false := by
  rcases h with h | h <;> simp [h]

theorem identify_unknown (hi : s.item l i = some it) (h2 : it.next = 2)
    (hgo : it.held = true ∨ (s.laneOf l).mayEnter { it with ident := i } 2 = true) (hm : (s.laneOf l).mustHold it = false)
    (hc : it.isCtl = false) (hj : fType it.frame ≠ 3) (hidx : s.indexOf it.eui = none) :
    identify l i s = (s.updItem l i (fun y => { y with
        held := false, meter := none, shadow := default, unknown := true, producer := none, next := 10 })).updLane l
      (fun y => { y with restarting := y.restarting.filter (· ≠ i) }) := by
  have notJoin : (fType it.frame != 3) = true := by simpa using hj
  unfold identify
  rw [hi]
  dsimp only
  rw [if_neg (not_not_intro h2), identify_not_waiting hgo, hm, hc, notJoin, hidx]
  simp only [Bool.false_eq_true, if_false, Bool.not_false, Bool.and_self, Option.isNone_none, Option.bind_none, Option.getD_none, or_true, if_true]

theorem identify_known {k : Nat} {m : Meter} (hi : s.item l i = some it) (h2 : it.next = 2)
    (hgo : it.held = true ∨ (s.laneOf l).mayEnter { it with ident := i } 2 = true) (hm : (s.laneOf l).mustHold it = false)
    (hc : it.isCtl = false) (hj : fType it.frame ≠ 3) (hpl : it.plain = false) (hidx : s.indexOf it.eui = some k) (hk : s.meter k = some m) :
    identify l i s = (s.updItem l i (fun y => { y with
        held := false, meter := some k, shadow := m, unknown := false, producer := (s.laneOf l).producerOf it, next := 3 })).updLane l
      (fun y => { y with restarting := y.restarting.filter (· ≠ i) }) := by
  have noBarrier : it.barrier = false := by simp [Item.barrier, hc, hj]
  unfold identify
  rw [hi]
  dsimp only
  rw [if_neg (not_not_intro h2), identify_not_waiting hgo, hm, hc, hidx, noBarrier, hpl]
  simp only [Option.bind_some, hk, Option.isNone_some, Bool.and_false, Bool.false_eq_true, or_self, if_false, Option.getD_some]

end Identify

/-! ### Key and text -/

section KeyAndText
variable {s : State} {l i : Nat} {it : Item}

theorem derive_delivers (hi : s.item l i = some it) (h3 : it.next = 3) (he : (s.laneOf l).mayEnter it 3 = true)
    (free : (s.laneOf l).items.any (fun y => y.next == 4 && y.mark.isNone) = false) (hslot : s.cfgIn it.cfg (0x3800 + it.family) 1 ≠ 0xFF) :
    let slot := s.cfgIn it.cfg (0x3800 + it.family) 1
    let r := s.deliverKey (laneConsumer l) slot (.up (fEui it.frame) (fGen it.frame))
    derive l i s = r.1.updItem l i (fun y => { y with
      slot := slot, slotGen := polGen (r.1.slot slot).policy, next := 4
      mark := if r.2 = 0 then none else some (keyMark (fType it.frame == 3) (r.2 == Abort.rootRevoked) s.vault.lockdown) }) := by
  simp only [derive, hi, h3, he, free, hslot, ne_eq, not_true_eq_false, Bool.not_true, Bool.false_eq_true, or_self, if_false]

theorem derive_waits (hi : s.item l i = some it) (busy : (s.laneOf l).items.any (fun y => y.next == 4 && y.mark.isNone) = true) :
    derive l i s = s := by
  simp only [derive, hi, busy, or_true, if_true]

/-- R100, R122: a marked frame has neither text nor tag. -/
theorem decrypt_computes (hi : s.item l i = some it) (h4 : it.next = 4) (he : (s.laneOf l).mayEnter it 4 = true) :
    decrypt l i s = s.updItem l i (fun y => { y with
      text := if y.mark.isSome then [] else gcmCrypt (s.reg (laneConsumer l)).key (frameNonce (fEui it.frame) (fFc it.frame)) (fCipher it.frame)
      tag := if y.mark.isSome then []
             else frameTag (s.reg (laneConsumer l)).key (fEui it.frame) (fFc it.frame) (fAad it.frame) (fCipher it.frame)
      next := y.after 4 }) := by
  simp only [decrypt, hi, h4, he, ne_eq, not_true_eq_false, Bool.not_true, Bool.false_eq_true, or_self, if_false]
  congr 1
  funext y
  split <;> rfl

end KeyAndText

/-- Settles O19: dispatch, a bucket's move, fetch, identification, key and text, each by its cases. -/
theorem laneFront : Obligations.LaneFront := by
  refine ⟨⟨fun s s0 s1 q ls b e hl h0 hserves hpick hpop hhead hstays => ?_, fun s b m hl hsync hm hsw idle fits => ?_,
      fun s b m hl hsync hm hsw busy => ?_, fun s b m hl hsync hm hsw => ?_, fun s m more => releaseHeld_part more,
      fun s l i rest hl hi hf hlt => ?_, fun s l hl hf => ?_⟩,
    fun s l i it hl hi h2 => ⟨fun hh he => ?_, fun hh he hm room => ?_, fun hm full => ?_, fun hgo hm hc hj hidx => ?_,
      fun k m hgo hm hc hj hpl hidx hk => ?_⟩,
    fun s l i it hl hi h3 he free hslot => ?_, fun s l i it hl hi h3 busy => ?_, fun s l i it hl hi h4 he => ?_⟩
  · exact next_of_lanes rfl hl (dispatch_settled h0 hserves hpick hpop hhead hstays)
  · refine next_of_live rfl hl ((laneMapMove_switches hsync hm hsw idle).trans ?_)
    rw [releaseHeld_all (s := { s with lane := { s.lane with map := s.lane.map.set b m.new } }) fits, bucket_of_find hm]
  · exact next_of_live rfl hl (laneMapMove_busy hsync hm hsw busy)
  · exact next_of_live rfl hl (laneMapMove_switched hsync hm hsw)
  · obtain ⟨only, lane, ident⟩ := updLane_numbered hlt (s.lane.nextIdent + 1) (fetchedLane s l i rest)
    refine ⟨_, fetchedItem s l i, next_of_lanes rfl hl (fetchItem_front hi hf), only, ?_⟩
    rw [lane]
    exact ⟨rfl, rfl, rfl, rfl, rfl, rfl, rfl, rfl, rfl, ident⟩
  · exact next_of_lanes rfl hl (fetchItem_stays hf)
  · exact next_of_lanes rfl hl (identify_must_wait hi h2 hh he)
  · exact next_of_lanes rfl hl (identify_enters_hold hi h2 hh he hm room)
  · exact next_of_lanes rfl hl (identify_stays_held hi h2 hm full)
  · exact next_of_lanes rfl hl (identify_unknown hi h2 hgo hm hc hj hidx)
  · exact next_of_lanes rfl hl (identify_known hi h2 hgo hm hc hj hpl hidx hk)
  · exact next_of_lanes rfl hl (derive_delivers hi h3 he free hslot)
  · exact next_of_lanes rfl hl (derive_waits hi busy)
  · exact next_of_lanes rfl hl (decrypt_computes hi h4 he)

end Sys2Proof.Proofs
end

section
/-!
The middle of the lanes: stages 5 to 8 on forwarded state (R133, R143, R144), what each makes of its item (R110 to R113, R117, R182, R188, R267), and
VERIFY (R105, R149, R150).
-/
namespace Sys2Proof.Proofs
open Sys2Proof.Machine Sys2Proof.Laws

/-! ### The order of the stages -/

section Stages
variable {s : State} {l i k : Nat} {it : Item} {m : Meter} {f : Item → Meter → Item}

theorem runStage_runs (hi : s.item l i = some it) (hk : it.next = k) (he : (s.laneOf l).mayEnter it k = true)
    (port : k = 5 → it.rewinding = true ∨ s.portBusy l = false) (hm : s.stageInput l k it = some m) :
    s.runStage l i k f = s.updItem l i (fun y => { f { y with shadow := m } m with next := y.after k }) := by
  have free : ¬ (k = 5 ∧ (!it.rewinding) = true ∧ s.portBusy l = true) := by
    rintro ⟨h5, hr, hp⟩
    rcases port h5 with h | h <;> simp [h] at hr hp
  simp only [State.runStage, hi, hk, he, free, hm, ne_eq, not_true_eq_false, Bool.not_true, Bool.false_eq_true, or_self, if_false]

/-- R133, R143: without its turn, or without its input, a stage waits. -/
theorem runStage_waits (hi : s.item l i = some it) (h : s.stageInput l k it = none ∨ (s.laneOf l).mayEnter it k = false) :
    s.runStage l i k f = s := by
  rcases h with h | h
  · simp only [State.runStage, hi, h, ite_self]
  · simp only [State.runStage, hi, h, Bool.not_false, true_or, or_true, if_true]

/-- R144: the rewind port goes before stage 4. -/
theorem runStage_port_busy (hi : s.item l i = some it) (hr : it.rewinding = false) (hp : s.portBusy l = true) : s.runStage l i 5 f = s := by
  simp [State.runStage, hi, hr, hp]

theorem validateItem_runs {g : Meter} (hi : s.item l i = some it) (hk : it.next = 6) (he : (s.laneOf l).mayEnter it 6 = true)
    (hm : s.stageInput l 6 it = some m) (hg : s.stageInput l 7 it = some g) :
    validateItem l i s = s.updItem l i (fun y => { validateStage s g.lgId g.lgVal { y with shadow := m } m with next := y.after 6 }) := by
  simp only [validateItem, hi, State.lastGood, hg, Option.map_some]
  exact runStage_runs hi hk he (fun h => absurd h (by decide)) hm

theorem validateItem_waits (hi : s.item l i = some it) (h : s.stageInput l 6 it = none ∨ (s.laneOf l).mayEnter it 6 = false) :
    validateItem l i s = s := by
  cases hg : s.lastGood l it with
  | none => simp only [validateItem, hi, hg]
  | some g =>
    simp only [validateItem, hi, hg]
    exact runStage_waits hi h

theorem verify_runs (hi : s.item l i = some it) (hk : it.next = 9) (he : (s.laneOf l).mayEnter it 9 = true) (hm : s.stageInput l 9 it = some m) :
    verify l i s = s.updItem l i (fun y => plainSkip { verifyStage s { y with shadow := m, otherGen := false } m with next := y.after 9 }) := by
  simp only [verify, hi, hk, he, hm, ne_eq, not_true_eq_false, Bool.not_true, Bool.false_eq_true, or_self, if_false]

theorem verify_waits (hi : s.item l i = some it) (h : s.stageInput l 9 it = none ∨ (s.laneOf l).mayEnter it 9 = false) : verify l i s = s := by
  rcases h with h | h
  · simp only [verify, hi, h, ite_self]
  · simp only [verify, hi, h, Bool.not_false, or_true, if_true]

end Stages

/-! ### What a stage makes of its item -/

section OneItem
variable {s : State} {it : Item} {m : Meter}

theorem decodeStage_marked (h : it.mark.isSome = true) : decodeStage it m = { it with rewinding := false } := by
  simp [decodeStage, h]

theorem decodeStage_undecodable (hm : it.mark = none) (ht : fType it.frame = 1) (hd : decodeReading m.base it.text = none) :
    (decodeStage it m).undecodable = true ∧ (decodeStage it m).shadow = { m with rflags := setBit m.rflags 0 } := by
  simp [decodeStage, hm, ht, hd]

theorem decodeStage_decoded {r : Reading} (hm : it.mark = none) (ht : fType it.frame = 1) (hd : decodeReading m.base it.text = some r) :
    (decodeStage it m).undecodable = false ∧ (decodeStage it m).reading = r ∧ (decodeStage it m).shadow.base = pushBase m.base r.interval r.vals := by
  simp [decodeStage, hm, ht, hd]

section Validation
variable {lg : Nat} {vals : List Nat}

theorem validateStage_not_reading (h : it.isReading = false) : validateStage s lg vals it m = it := by
  simp [validateStage, h]

theorem validateStage_undecodable (h : it.isReading = true) (hu : it.undecodable = true) :
    (validateStage s lg vals it m).outcome = 2 ∧ (validateStage s lg vals it m).reasons = 2 ^ 10 := by
  simp [validateStage, h, hu]

theorem validateStage_shadow (h : it.isReading = true) :
    (validateStage s lg vals it m).shadow =
      { m with badrun := if (validateStage s lg vals it m).outcome = 0 then 0 else min 255 (m.badrun + 1) } := by
  simp [validateStage, h]

end Validation

theorem estimateStage_not_reading (h : it.isReading = false) : estimateStage s it m = it := by
  simp [estimateStage, h]

theorem balanceStage_not_reading (h : it.isReading = false) (ht : it.tamper m = false) : balanceStage s it m = { it with deltas := [] } := by
  simp [balanceStage, h, ht]

/-! ### VERIFY -/

theorem verifyStage_marked {o : Nat} (h : it.mark = some o) : (verifyStage s it m).verdict = o := by
  simp [verifyStage, h]

theorem verifyStage_wrong_tag (hm : it.mark = none) (ht : it.tag ≠ fTag it.frame) : (verifyStage s it m).verdict = 3 := by
  simp [verifyStage, hm, ht]

theorem verifyStage_no_window {o : Nat} {c : Bool} (hm : it.mark = none) (ht : it.tag = fTag it.frame) (hj : fType it.frame ≠ 3)
    (hw : selectWindow m (fGen it.frame) s.secs32 (s.cfgIn it.cfg 0x3812 2) = .inr (o, c)) :
    (verifyStage s it m).verdict = o ∧ (verifyStage s it m).otherGen = c := by
  simp [verifyStage, hm, ht, hj, State.windowOf, hw]

/-- R105, R149, R150: an authentic frame is judged in its window, which takes the counter of a new one. -/
theorem verifyStage_window {w : Window} (hm : it.mark = none) (ht : it.tag = fTag it.frame) (hj : fType it.frame ≠ 3)
    (hw : selectWindow m (fGen it.frame) s.secs32 (s.cfgIn it.cfg 0x3812 2) = .inl w) :
    (verifyStage s it m).verdict = judgeWindow m w (fFc it.frame) ∧
    (verifyStage s it m).shadow = if judgeWindow m w (fFc it.frame) = 0 then takeWindow m w (fFc it.frame) s.secs32 else m := by
  simp [verifyStage, hm, ht, hj, State.windowOf, hw]

/-- R123: a JOIN of an unknown meter is new; that of a recorded one is judged by JOIN_FC_HIGH. -/
theorem verifyStage_join (hm : it.mark = none) (ht : it.tag = fTag it.frame) (hj : fType it.frame = 3) :
    (verifyStage s it m).verdict =
      if it.meter.isNone then 0 else if m.joinFcHigh < fFc it.frame then 0 else if fFc it.frame = m.joinFcHigh then 1 else 2 := by
  cases known : it.meter <;> simp [verifyStage, hm, ht, hj, known, State.windowOf, judgeWindow]

end OneItem

/-- Settles O20: each stage by the order of the lane and its input, and what it makes of its item by the item's kind. -/
theorem laneMiddle : Obligations.LaneMiddle := by
  refine ⟨fun s l i it m hl hi => ⟨fun hk he port hm => ?_, fun g hk he hm hg => ?_, fun hk he hm => ?_, fun hk he hm => ?_, fun hk he hm => ?_,
      fun hk hr hp => ?_, fun k hk waits => ⟨?_, ?_, ?_, ?_, ?_⟩⟩,
    fun s it m => ⟨fun r hm ht hd => decodeStage_decoded hm ht hd, fun hm ht hd => decodeStage_undecodable hm ht hd, fun h => decodeStage_marked h,
      fun lg vals h => ⟨fun hu => validateStage_undecodable h hu, validateStage_shadow h⟩,
      fun h => ⟨validateStage_not_reading h, estimateStage_not_reading h⟩, fun h ht => balanceStage_not_reading h ht⟩,
    fun s it m => ⟨fun o h => verifyStage_marked h, fun hm ht => verifyStage_wrong_tag hm ht, fun w hm ht hj hw => ?_,
      fun o c hm ht hj hw => verifyStage_no_window hm ht hj hw, fun hm ht hj => verifyStage_join hm ht hj⟩⟩
  · exact next_of_lanes rfl hl (runStage_runs hi hk he (fun _ => port) hm)
  · exact next_of_lanes rfl hl (validateItem_runs hi hk he hm hg)
  · exact next_of_lanes rfl hl (runStage_runs hi hk he (fun h => absurd h (by decide)) hm)
  · exact next_of_lanes rfl hl (runStage_runs hi hk he (fun h => absurd h (by decide)) hm)
  · exact next_of_lanes rfl hl (verify_runs hi hk he hm)
  · exact next_of_lanes rfl hl (runStage_port_busy hi hr hp)
  · rintro rfl
    exact next_of_lanes rfl hl (runStage_waits hi waits)
  · rintro rfl
    exact next_of_lanes rfl hl (validateItem_waits hi waits)
  · rintro rfl
    exact next_of_lanes rfl hl (runStage_waits hi waits)
  · rintro rfl
    exact next_of_lanes rfl hl (runStage_waits hi waits)
  · rintro rfl
    exact next_of_lanes rfl hl (verify_waits hi waits)
  · obtain ⟨verdict, shadow⟩ := verifyStage_window (s := s) (m := m) hm ht hj hw
    exact ⟨verdict, fun new => by rw [shadow, if_pos new], fun old => by rw [shadow, if_neg old]⟩

end Sys2Proof.Proofs
end

section
/-!
The back of the lanes: stage 10 in the order of the lane (R42, R147, R151, R159, R160), stages 11 and 12 in commit order (R43, R156, R157, R163, R190),
and notices and statistics (R155, R159, R173, R174).
-/
namespace Sys2Proof.Proofs
open Sys2Proof.Machine Sys2Proof.Laws

/-! ### Stage 10 -/

section Commit
variable {s : State} {l i k : Nat} {it : Item} {m : Meter}

theorem commitOrSquash_waits (hi : s.item l i = some it) (he : (s.laneOf l).mayEnter it 10 = false) : commitOrSquash l i s = s := by
  simp only [commitOrSquash, hi, he, Bool.not_false, or_true, if_true]

theorem commitOrSquash_ctl (hi : s.item l i = some it) (hn : it.next = 10) (he : (s.laneOf l).mayEnter it 10 = true) (hc : it.isCtl = true) :
    commitOrSquash l i s = commitCtl l it s := by
  simp only [commitOrSquash, hi, hn, he, hc, ne_eq, not_true_eq_false, Bool.not_true, Bool.false_eq_true, or_self, if_false, if_true]

theorem commitOrSquash_unknown (hi : s.item l i = some it) (hn : it.next = 10) (he : (s.laneOf l).mayEnter it 10 = true) (hc : it.isCtl = false)
    (hu : it.unknown = true) : commitOrSquash l i s = s.squash l it 4 := by
  simp only [commitOrSquash, hi, hn, he, hc, hu, ne_eq, not_true_eq_false, Bool.not_true, Bool.false_eq_true, or_self, if_false, if_true]

/-- R160: the slot of its key has changed since its key was delivered. -/
theorem commitOrSquash_restart (hi : s.item l i = some it) (hn : it.next = 10) (he : (s.laneOf l).mayEnter it 10 = true) (hc : it.isCtl = false)
    (hu : it.unknown = false) (hs : it.slot ≠ 0xFF) (hg : it.slotGen ≠ (s.laneOf l).gens.getD it.slot 0) :
    commitOrSquash l i s = s.restartFrame l it := by
  simp only [commitOrSquash, hi, hn, he, hc, hu, hs, hg, ne_eq, not_true_eq_false, not_false_eq_true, and_self, Bool.not_true, Bool.false_eq_true, or_self,
    if_false, if_true]

/-- A frame of a known meter whose key slot stands is at its verdict. -/
theorem commitOrSquash_verdict (hi : s.item l i = some it) (hn : it.next = 10) (he : (s.laneOf l).mayEnter it 10 = true) (hc : it.isCtl = false)
    (hu : it.unknown = false) (stands : it.slot = 0xFF ∨ it.slotGen = (s.laneOf l).gens.getD it.slot 0) :
    (2 ≤ it.verdict → commitOrSquash l i s = (if it.otherGen then s.frameCount 7 else s).squash l it it.verdict) ∧
    (it.meter = some k → s.meter k = some m →
      (it.verdict = 1 → commitOrSquash l i s = squashDuplicate l k m it s) ∧ (it.verdict = 0 → commitOrSquash l i s = commitFrame l k m it s)) := by
  have unchanged : ¬ (it.slot ≠ 0xFF ∧ it.slotGen ≠ (s.laneOf l).gens.getD it.slot 0) := by tauto
  refine ⟨fun hv => ?_, fun hk hm => ⟨fun hv => ?_, fun hv => ?_⟩⟩
  · have not_duplicate : it.verdict ≠ 1 := by omega
    have not_new : it.verdict ≠ 0 := by omega
    simp only [commitOrSquash, hi, hn, he, hc, hu, unchanged, not_duplicate, not_new, ne_eq, not_true_eq_false, not_false_eq_true, Bool.not_true,
      Bool.false_eq_true, or_self, if_false, if_true]
  all_goals
    simp only [commitOrSquash, hi, hn, he, hc, hu, unchanged, hv, hk, Option.bind_some, hm, ne_eq, not_true_eq_false, Bool.not_true, Bool.false_eq_true,
      or_self, zero_ne_one, if_false, if_true]

end Commit

/-! ### Stages 11 and 12 -/

section After
variable {s t : State} {l i : Nat} {it : Item}

theorem recordAndAcknowledge_in_order (hi : (s.laneOf l).done.find? (fun y => y.ident == i) = some it)
    (first : ((s.laneOf l).done.takeWhile (fun y => y.ident != i)).any (fun y => y.eui == it.eui && y.next == 11) = true) :
    recordAndAcknowledge l i s = s := by
  simp only [recordAndAcknowledge, hi, first, or_true, if_true]

theorem recordAndAcknowledge_full (hi : (s.laneOf l).done.find? (fun y => y.ident == i) = some it)
    (full : (s.pushEach (laneCell l) (it.records.map (fun b => (40, b)))).bind (fun t => t.issueAck l it) = none) :
    recordAndAcknowledge l i s = s := by
  simp only [recordAndAcknowledge, hi, full, ite_self]

theorem recordAndAcknowledge_leaves (hi : (s.laneOf l).done.find? (fun y => y.ident == i) = some it) (hn : it.next = 11)
    (first : ((s.laneOf l).done.takeWhile (fun y => y.ident != i)).any (fun y => y.eui == it.eui && y.next == 11) = false)
    (ht : (s.pushEach (laneCell l) (it.records.map (fun b => (40, b)))).bind (fun t => t.issueAck l it) = some t) :
    recordAndAcknowledge l i s = t.updLane l (fun x => { x with
      done := if it.verdict = 0 ∧ it.exportCells ≠ [] then x.done.map (fun y => if y.ident = i then { y with next := 12 } else y)
              else x.done.filter (fun y => y.ident ≠ i) }) := by
  simp only [recordAndAcknowledge, hi, hn, first, ht, ne_eq, not_true_eq_false, Bool.false_eq_true, or_self, if_false]

/-- An item with nothing to send out is done at stage 11. -/
theorem recordAndAcknowledge_ends (hi : (s.laneOf l).done.find? (fun y => y.ident == i) = some it) (hn : it.next = 11)
    (first : ((s.laneOf l).done.takeWhile (fun y => y.ident != i)).any (fun y => y.eui == it.eui && y.next == 11) = false)
    (ht : (s.pushEach (laneCell l) (it.records.map (fun b => (40, b)))).bind (fun t => t.issueAck l it) = some t)
    (noExport : ¬ (it.verdict = 0 ∧ it.exportCells ≠ [])) :
    recordAndAcknowledge l i s = t.updLane l (fun x => { x with done := x.done.filter (fun y => y.ident ≠ i) }) := by
  rw [recordAndAcknowledge_leaves hi hn first ht]
  simp only [if_neg noExport]

theorem issueAck_none (h : it.ackReq = []) : s.issueAck l it = some s := if_pos h

theorem exportEnqueue_in_order (hi : (s.laneOf l).done.find? (fun y => y.ident == i) = some it)
    (first : ((s.laneOf l).done.takeWhile (fun y => y.ident != i)).any (fun y => y.eui == it.eui) = true) : exportEnqueue l i s = s := by
  simp only [exportEnqueue, hi, first, or_true, if_true]

theorem exportEnqueue_full (hi : (s.laneOf l).done.find? (fun y => y.ident == i) = some it)
    (full : s.pushReserved (it.exportPacket l).1 (laneCell l) (it.exportPacket l).2 = none) : exportEnqueue l i s = s := by
  simp only [exportEnqueue, hi, full, ite_self]

theorem exportEnqueue_leaves (hi : (s.laneOf l).done.find? (fun y => y.ident == i) = some it) (hn : it.next = 12)
    (first : ((s.laneOf l).done.takeWhile (fun y => y.ident != i)).any (fun y => y.eui == it.eui) = false)
    (ht : s.pushReserved (it.exportPacket l).1 (laneCell l) (it.exportPacket l).2 = some t) :
    exportEnqueue l i s = t.updLane l (fun x => { x with done := x.done.filter (fun y => y.ident ≠ i) }) := by
  simp only [exportEnqueue, hi, hn, first, ht, ne_eq, not_true_eq_false, Bool.false_eq_true, or_self, if_false]

end After

/-! ### Notices and statistics -/

section Notices
variable {s : State}

theorem generationNotice_oldest {l : Nat} {n : Notice} (hn : s.vault.notices.find? (fun n => n.lane == l) = some n) :
    generationNotice l s = (State.updLane { s with vault := { s.vault with notices := s.vault.notices.erase n } } l
      (fun x => { x with gens := x.gens.set n.slot n.gen })).finishRevokes := by
  simp only [generationNotice, hn]

theorem quarantineSummary_due (some_counted : s.lane.second.any (· ≠ 0) = true) (due : s.lane.summaryAt + cSec 1 ≤ s.now) :
    quarantineSummary s = State.event { s with lane := { s.lane with second := [0, 0, 0, 0, 0, 0], summaryAt := s.now } } 0x4003 0x2000
      ((s.lane.second.map (fun n => leBytes 2 (min 0xFFFF n))).flatten) := by
  have not_all : ¬ (s.lane.second.all (· == 0) = true) := by simpa using some_counted
  unfold quarantineSummary
  rw [if_neg (not_or.mpr ⟨not_all, Nat.not_lt.mpr due⟩)]
  rfl

theorem latencyExceeded_due (late : s.lane.lateSecond ≠ 0) (due : s.perSecond s.lane.lateEventAt = true) :
    latencyExceeded s = State.event { s with lane := { s.lane with lateSecond := 0, lateEventAt := some s.now } } 0x4004 0x2000
      (leBytes 4 s.lane.lateSecond ++ leBytes 4 s.lane.latencyMax) := by
  unfold latencyExceeded
  rw [if_neg (by simp [late, due])]
  rfl

end Notices

/-- Settles O21: stage 10 by the kind and verdict of its item, stages 11 and 12 by the place in the order and the room in the queues. -/
theorem laneBack : Obligations.LaneBack := by
  refine ⟨fun s l i it hl hi hn => ⟨fun he => ?_, fun he => ⟨fun hc => ?_, fun hc hu => ?_, fun hc hu hs hg => ?_, fun hc hu hst hv => ?_,
      fun k m hc hu hst hv hk hm => ?_, fun k m hc hu hst hv hk hm => ?_⟩⟩,
    fun s l i it hl hi => ⟨fun hn first => ?_, fun hn first hr ha hv => ?_, fun b t hn first hr ha hv hx ht => ?_, fun t hn first ht => ?_,
      fun hn full => ?_, fun hn full => ?_, fun t hn first ht => ?_, fun hn first => ?_⟩,
    fun s l n hl hn => ?_, fun s hl counted due => ?_, fun s hl late due => ?_, fun s role ht hr => ?_⟩
  · exact next_of_lanes rfl hl (commitOrSquash_waits hi he)
  · exact next_of_lanes rfl hl (commitOrSquash_ctl hi hn he hc)
  · exact next_of_lanes rfl hl (commitOrSquash_unknown hi hn he hc hu)
  · exact next_of_lanes rfl hl (commitOrSquash_restart hi hn he hc hu hs hg)
  · exact next_of_lanes rfl hl ((commitOrSquash_verdict (k := 0) (m := default) hi hn he hc hu hst).1 hv)
  · exact next_of_lanes rfl hl (((commitOrSquash_verdict hi hn he hc hu hst).2 hk hm).1 hv)
  · exact next_of_lanes rfl hl (((commitOrSquash_verdict hi hn he hc hu hst).2 hk hm).2 hv)
  · exact next_of_lanes rfl hl (recordAndAcknowledge_in_order hi first)
  · have nothing : (s.pushEach (laneCell l) (it.records.map (fun b => (40, b)))).bind (fun t => t.issueAck l it) = some s := by
      rw [hr]
      exact issueAck_none ha
    exact next_of_lanes rfl hl (recordAndAcknowledge_ends hi hn first nothing (fun h => hv h.1))
  · have pushed : (s.pushEach (laneCell l) (it.records.map (fun b => (40, b)))).bind (fun t => t.issueAck l it) = some t := by
      simp only [hr, List.map_cons, List.map_nil, State.pushEach, ht, Option.bind_some, issueAck_none ha]
    exact next_of_lanes rfl hl (recordAndAcknowledge_ends hi hn first pushed (fun h => h.2 hx))
  · exact next_of_lanes rfl hl (recordAndAcknowledge_leaves hi hn first ht)
  · exact next_of_lanes rfl hl (recordAndAcknowledge_full hi full)
  · exact next_of_lanes rfl hl (exportEnqueue_full hi full)
  · exact next_of_lanes rfl hl (exportEnqueue_leaves hi hn first ht)
  · exact next_of_lanes rfl hl (exportEnqueue_in_order hi first)
  · exact next_of_live rfl hl (generationNotice_oldest hn)
  · exact next_of_live rfl hl (quarantineSummary_due counted due)
  · exact next_of_live rfl hl (latencyExceeded_due late due)
  · exact next_of_command rfl ht hr (one_one _ _)

end Sys2Proof.Proofs
end

section
/-!
The validation engine: the oldest record of Q40 (R192, R199, R448), and what becomes of a record by the state of its interval (R195 to R198).
-/
namespace Sys2Proof.Proofs
open Sys2Proof.Machine Sys2Proof.Laws

/-! ### The oldest record of Q40 -/

section Oldest
variable {s s1 t : State} {b : Bytes} {mr : Meter}

theorem veeRecord_state (hp : s.popPacket 40 = some (s1, b, false)) (hs : s.inService 0x2300 = true) (hst : rIsState (b.take 32) = true) :
    veeRecord s = VeeWork.finish (s1, ⟨[b.take 32], [], []⟩) s := by
  simp only [veeRecord, hp, veeCell, hs, hst, Bool.not_true, Bool.false_eq_true, if_false, if_true]

theorem veeRecord_meter (hp : s.popPacket 40 = some (s1, b, false)) (hs : s.inService 0x2300 = true) (hst : rIsState (b.take 32) = false)
    (hm : s1.meter (rMeter (b.take 32)) = some mr)
    (hb : ((s1.rebuildMeter (rMeter (b.take 32))).histOf (rMeter (b.take 32))).below (rInterval (b.take 32)) = false) :
    veeRecord s = (veeAct (s1.rebuildMeter (rMeter (b.take 32)), ⟨[], [], []⟩)
      ((s1.rebuildMeter (rMeter (b.take 32))).veeClass mr) (rMeter (b.take 32)) (b.take 32) (packetX b)).finish s := by
  simp only [veeRecord, hp, veeCell, hs, hst, hm, hb, Bool.not_true, Bool.false_eq_true, if_false]

theorem veeRecord_fenced (hp : s.popPacket 40 = some (s1, b, false)) (hs : s.inService 0x2300 = false) :
    veeRecord s = veeBypass s1 s (b.take 32) := by
  simp only [veeRecord, hp, veeCell, hs, Bool.not_false, Bool.false_eq_true, if_false, if_true]

theorem veeBypass_passes (h : s1.pushPacket 41 0x4000 b = some t) :
    veeBypass s1 s b = { t with vee := { t.vee with bypassed := t.vee.bypassed + 1 } } := by
  simp only [veeBypass, h]

theorem veeBypass_waits (h : s1.pushPacket 41 0x4000 b = none) : veeBypass s1 s b = s.backpressure 41 := by
  simp only [veeBypass, h]

end Oldest

/-! ### The state of an interval -/

section Act
variable {w0 w : VeeWork} {k : ClassCfg} {m : Nat} {r : Bytes} {c8 : Option Int}

/-- R182: an INVALID reading is appended as it is. -/
theorem veeAct_invalid (hw : w = w0.hist m (fun h => h.raise (rInterval r))) (hm : rMethod r = 0) (ho : rOutcome r = 2) :
    veeAct w0 k m r c8 = (w.count 3).append r := by
  simp only [veeAct, hm, ho, hw, if_true]

/-- R195, R196: a real reading that is not INVALID, by the state of its interval. -/
theorem veeAct_real (hw : w = w0.hist m (fun h => h.raise (rInterval r))) (hm : rMethod r = 0) (ho : rOutcome r ≠ 2) :
    ((w.1.histOf m).at (rInterval r) = .missing →
      veeAct w0 k m r c8 = ((w.count (1 + rOutcome r)).first k m r c8).hist m (fun x => x.set (rInterval r) .real)) ∧
    ((w.1.histOf m).at (rInterval r) = .estimated →
      veeAct w0 k m r c8 = if w.1.lateOk k (w.1.histOf m) (rInterval r) then
          (((w.count (1 + rOutcome r)).replace k m r 1 0 c8).hist m (fun x => x.set (rInterval r) .real)).reestimateAround k m (rInterval r)
        else (w.count (1 + rOutcome r)).reject m r 15 6 c8) ∧
    ((w.1.histOf m).at (rInterval r) = .real → veeAct w0 k m r c8 = (w.count (1 + rOutcome r)).reject m r 11 5 c8) ∧
    ((w.1.histOf m).at (rInterval r) = .edited → veeAct w0 k m r c8 = (w.count (1 + rOutcome r)).reject m r 14 5 c8) := by
  refine ⟨fun h => ?_, fun h => ?_, fun h => ?_, fun h => ?_⟩ <;> simp only [veeAct, ← hw, hm, ho, h, if_true, if_false]

/-- R195, R197: an estimate, by the state of its interval. -/
theorem veeAct_estimate (hw : w = w0.hist m (fun h => h.raise (rInterval r))) (hm : rMethod r ≠ 0) :
    ((w.1.histOf m).at (rInterval r) = .missing →
      veeAct w0 k m r c8 = (((w.first k m r c8).hist m (fun x => x.set (rInterval r) .estimated)).sendOut r).count 4) ∧
    ((w.1.histOf m).at (rInterval r) = .estimated → veeAct w0 k m r c8 = ((w.replace k m r 2 0 c8).sendOut r).count 4) ∧
    ((w.1.histOf m).at (rInterval r) = .real ∨ (w.1.histOf m).at (rInterval r) = .edited →
      veeAct w0 k m r c8 = (w.count 10).takeBack m (rInterval r) 0 false c8) := by
  refine ⟨fun h => ?_, fun h => ?_, ?_⟩
  · simp only [veeAct, ← hw, hm, h, if_false]
  · simp only [veeAct, ← hw, hm, h, if_false]
  · rintro (h | h) <;> simp only [veeAct, ← hw, hm, h, if_false]

end Act

/-- Settles O22: the front of Q40 by its kind, and a record of a meter by method, outcome and the state of its interval. -/
theorem veeRecords : Obligations.VeeRecords := by
  refine ⟨fun s s1 b hl hp => ⟨fun hs hst => ?_, fun mr hs hst hm hb => ?_, fun t hs ht => ?_, fun hs ht => ?_⟩, fun w0 k m r c8 => ?_⟩
  · exact next_of_live rfl hl (veeRecord_state hp hs hst)
  · exact next_of_live rfl hl (veeRecord_meter hp hs hst hm hb)
  · exact next_of_live rfl hl ((veeRecord_fenced hp hs).trans (veeBypass_passes ht))
  · exact next_of_live rfl hl ((veeRecord_fenced hp hs).trans (veeBypass_waits ht))
  · intro w st
    have real := veeAct_real (w0 := w0) (w := w) (k := k) (c8 := c8) rfl
    have estimate := veeAct_estimate (w0 := w0) (w := w) (k := k) (c8 := c8) rfl
    refine ⟨fun hm ho => veeAct_invalid rfl hm ho, fun hm ho => (real hm ho).1, fun hm ho hst late => ?_, fun hm ho hst late => ?_,
      fun hm ho => (real hm ho).2.2.1, fun hm ho => (real hm ho).2.2.2, fun hm => (estimate hm).1, fun hm => (estimate hm).2.1,
      fun hm => (estimate hm).2.2⟩
    · rw [(real hm ho).2.1 hst, if_pos late]
    · rw [(real hm ho).2.1 hst, if_neg (by simp [late])]

end Sys2Proof.Proofs
end

section
/-!
Histories rebuilt and swept (R200 to R203, R456), and edits (R206, R207).
-/
namespace Sys2Proof.Proofs
open Sys2Proof.Machine Sys2Proof.Laws

/-! ### Histories -/

section Histories
variable {s s1 t : State} {m : Nat}

theorem rebuildMeter_due (h : s.vee.toRebuild.contains m = true) :
    s.rebuildMeter m =
      (let t := s.putHist m (rebuildHist (s.recordsOf m))
       { t with vee := { t.vee with toRebuild := t.vee.toRebuild.filter (· ≠ m) } }) := if_pos h

theorem rebuildMeter_done (h : s.vee.toRebuild.contains m = false) : s.rebuildMeter m = s := by
  simp only [State.rebuildMeter, h, Bool.false_eq_true, if_false]

/-- Asking the store changes nothing of the engine's own. -/
theorem askStore_vee {q p a b : Nat} (h : s.askStore q p a b = some t) : t.vee = s.vee := by
  obtain ⟨_, _, _, rfl⟩ := pushPacket_eventsOnly h
  rfl

theorem historyRebuild_asks (hs : s.inService 0x2300 = true) (hr : s.storeReads = true) (hm : s.vee.toRebuild.contains m = true)
    (h : s.askStore 43 0x2300 m 0 = some s1) : historyRebuild m s = s1.rebuildMeter m := by
  simp only [historyRebuild, veeCell, hs, hr, hm, h, and_self, if_true]

theorem historyRebuild_waits (hs : s.inService 0x2300 = true) (hr : s.storeReads = true) (hm : s.vee.toRebuild.contains m = true)
    (h : s.askStore 43 0x2300 m 0 = none) : historyRebuild m s = s.backpressure 43 := by
  simp only [historyRebuild, veeCell, hs, hr, hm, h, and_self, if_true]

theorem historyRebuild_done (hm : s.vee.toRebuild.contains m = false) : historyRebuild m s = s := by
  simp only [historyRebuild, hm, Bool.false_eq_true, and_false, if_false]

theorem sweepStep_waits (hp : s.hasPacket 40 = true) : sweepStep m s = s := by
  unfold sweepStep
  split
  · rfl
  · rw [if_pos (Or.inl hp)]

/-- R201, R203: the intervals from the first that may be due up to the current one, and then the silence of the meter. -/
theorem sweepStep_visits {mr : Meter} {hi : Nat} (hm : s.meter m = some mr) (hp : s.hasPacket 40 = false) (hs : s.inService 0x2300 = true)
    (hr : s.vee.toRebuild.contains m = false) (hh : (s.histOf m).high = some hi) :
    let cur := intervalOf s.utcNow (s.veeClass mr).len
    let lo := max (((s.histOf m).firstReal.map (· + 1)).getD cur) (hi - 2047)
    sweepStep m s = ((VeeWork.sweep (s, ⟨[], [], []⟩) (s.veeClass mr) m cur ((List.range (min (cur - lo) 4200)).map (lo + ·))).silent
      (s.veeClass mr) m cur).finish s := by
  simp only [sweepStep, hm, veeCell, hp, hs, hr, hh, Bool.not_true, Bool.false_eq_true, or_self, if_false]

end Histories

/-! ### Edits -/

section Edits
variable {s s1 t : State} {m : Nat} {mr : Meter} {b : Bytes} {ab : Bool}

theorem editApply_good (hsel : s.selected = some (m, mr)) (hr : s.vee.toRebuild.contains m = false) (hc : s.editCheck = 0)
    (ht : s.pushPacket 44 0x8100 (Edit.bytes { meter := m, interval := s.cfgN 0x4420 1, mask := s.cfgN 0x4420 2 % 16, vals := s.val 0x4420 3
                                               outcome := s.cfgN 0x4420 4, editId := s.cfgN 0x4420 5 }) = some t) :
    editApply 1 s = ({ t with vee := { t.vee with editState := 1, edit := some { meter := m, interval := s.cfgN 0x4420 1, mask := s.cfgN 0x4420 2 % 16, vals := s.val 0x4420 3, outcome := s.cfgN 0x4420 4, editId := s.cfgN 0x4420 5 } } },
      Abort.ok) := by
  simp only [editApply, one_one, hsel, rebuildMeter_done hr, hc, dictCell, Option.map_some, Option.getD_some, ht, ne_eq, not_true_eq_false, if_false]

theorem editApply_refused (hsel : s.selected = some (m, mr)) (hr : s.vee.toRebuild.contains m = false) (hc : s.editCheck ≠ 0) :
    editApply 1 s = (s.editRefused s.editCheck, s.editCheck) := by
  simp only [editApply, one_one, hsel, rebuildMeter_done hr, hc, ne_eq, not_false_eq_true, if_true]

theorem editApplied_unknown (hp : s.hasPacket 40 = false) (hs : s.inService 0x2300 = true) (h : s.popPacket 44 = some (s1, b, ab))
    (hm : s1.meter (editOf b).meter = none) :
    editApplied s = { s1 with vee := { s1.vee with edit := none, editState := 3, editAbort := Abort.unknownMeter } } := by
  have gone : State.meter { s1 with vee := { s1.vee with edit := none } } (editOf b).meter = none := hm
  simp only [editApplied, veeCell, hp, hs, h, gone, Bool.not_true, Bool.false_eq_true, or_self, if_false]

theorem editApplied_below (hp : s.hasPacket 40 = false) (hs : s.inService 0x2300 = true) (h : s.popPacket 44 = some (s1, b, ab))
    (hm : s1.meter (editOf b).meter = some mr) (hb : ((s1.histOf (editOf b).meter).below (editOf b).interval) = true) :
    editApplied s = { s1 with vee := { s1.vee with edit := none, editState := 3, editAbort := Abort.valueRange } } := by
  have there : State.meter { s1 with vee := { s1.vee with edit := none } } (editOf b).meter = some mr := hm
  have lost : (State.histOf { s1 with vee := { s1.vee with edit := none } } (editOf b).meter).below (editOf b).interval = true := hb
  simp only [editApplied, veeCell, hp, hs, h, there, lost, Bool.not_true, Bool.false_eq_true, or_self, if_false, if_true]

/-- R206, R207: within its window the edit replaces the current record of its interval, and 0x4403 tells the record before it. -/
theorem editApplied_good (hp : s.hasPacket 40 = false) (hs : s.inService 0x2300 = true) (h : s.popPacket 44 = some (s1, b, ab))
    (hm : s1.meter (editOf b).meter = some mr) (hb : ((s1.histOf (editOf b).meter).below (editOf b).interval) = false) :
    let e := editOf b
    let s2 : State := { s1 with vee := { s1.vee with edit := none } }
    let r := intervalRecord e.interval e.meter (recordFlags e.outcome 3 false) 0 (2 ^ 14)
      ((List.range 4).map (fun c => if bit e.mask c then fieldLE e.vals (5 * c) 5 else absentVal))
    let w2 := ((VeeWork.replace (s2, ⟨[], [], []⟩) (s2.veeClass mr) e.meter r 4 e.editId none).hist e.meter
      (fun h => (h.raise e.interval).set e.interval .edited)).count 8
    editApplied s = VeeWork.finish
      ((State.emit { w2.1 with vee := { w2.1.vee with editState := 2 } } 0x4403 0x2300 e.meter (leBytes 4 e.interval ++ leBytes 4 e.editId ++
        [byte (((VeeWork.current (s2, ⟨[], [], []⟩) e.meter e.interval).map rMethod).getD 0xFF), byte e.outcome])), w2.2) s := by
  have there : State.meter { s1 with vee := { s1.vee with edit := none } } (editOf b).meter = some mr := hm
  have kept : (State.histOf { s1 with vee := { s1.vee with edit := none } } (editOf b).meter).below (editOf b).interval = false := hb
  simp only [editApplied, veeCell, hp, hs, h, there, kept, Bool.not_true, Bool.false_eq_true, or_self, if_false]

theorem editRelease_not_edited (hsel : s.selected = some (m, mr)) (hr : s.vee.toRebuild.contains m = false) (hs : s.inService 0x2300 = true)
    (hw : (s.histOf m).inWindow (s.cfgN 0x4420 1) = true) (he : (s.histOf m).at (s.cfgN 0x4420 1) ≠ .edited) :
    editRelease 1 s = (s, Abort.valueInconsistent) := by
  simp only [editRelease, one_one, hsel, rebuildMeter_done hr, veeCell, hs, hw, he, ne_eq, not_false_eq_true, Bool.not_true, Bool.false_eq_true, if_false,
    if_true]

theorem editRelease_edited (hsel : s.selected = some (m, mr)) (hr : s.vee.toRebuild.contains m = false) (hs : s.inService 0x2300 = true)
    (hw : (s.histOf m).inWindow (s.cfgN 0x4420 1) = true) (he : (s.histOf m).at (s.cfgN 0x4420 1) = .edited)
    (ht : let r := intervalRecord (s.cfgN 0x4420 1) m (recordFlags 2 4 false) 0 (2 ^ 14) (List.replicate 4 absentVal)
      ((s.putHist m ((s.histOf m).set (s.cfgN 0x4420 1) .missing)).pushPacket 41 0x2300 r).bind (fun t => t.pushPacket 17 0x2300 r) = some t) :
    editRelease 1 s = (t, Abort.ok) := by
  simp only [editRelease, one_one, hsel, rebuildMeter_done hr, veeCell, hs, hw, he, ne_eq, not_true_eq_false, Bool.not_true, Bool.false_eq_true, if_false]
  rw [ht]

end Edits

/-- Settles O23: rebuild and sweep by the service and the state of the history, an edit by its checks and the state of its interval. -/
theorem historyAndEdits : Obligations.HistoryAndEdits := by
  refine ⟨⟨fun s s1 m hl hs hr hm h => ?_, fun s m hl hs hr hm h => ?_, fun s m hl hm => ?_, fun s m f hi mr hl hm hp hs hr hf hh => ?_,
      fun s m hi mr hl hm hp hs hr hf hh => ?_, fun s m hl hp => ?_⟩,
    fun s role m mr t ht hrole hsel hr hc => ?_, fun s role m mr ht hrole hsel hr hc => ?_, fun s s1 b ab hl hp hs h hm => ?_,
    fun s s1 b ab mr hl hp hs h hm hb => ?_, fun s s1 b ab mr hl hp hs h hm hb => ?_,
    fun s role m mr ht hrole hsel hr hs hw => ⟨fun he => ?_, fun t he => ?_⟩⟩
  · have due : s1.vee.toRebuild.contains m = true := by rw [askStore_vee h]; exact hm
    exact next_of_running rfl hl ((historyRebuild_asks hs hr hm h).trans (rebuildMeter_due due))
  · exact next_of_running rfl hl (historyRebuild_waits hs hr hm h)
  · exact next_of_running rfl hl (historyRebuild_done hm)
  · refine next_of_running rfl hl ((sweepStep_visits hm hp hs hr hh).trans ?_)
    simp only [hf, Option.map_some, Option.getD_some]
  · refine next_of_running rfl hl ((sweepStep_visits hm hp hs hr hh).trans ?_)
    simp only [hf, Option.map_none, Option.getD_none]
  · exact next_of_running rfl hl (sweepStep_waits hp)
  · exact fun pushed => next_of_command rfl ht hrole (editApply_good hsel hr hc pushed)
  · exact next_of_command rfl ht hrole (editApply_refused hsel hr hc)
  · exact next_of_running rfl hl (editApplied_unknown hp hs h hm)
  · exact next_of_running rfl hl (editApplied_below hp hs h hm hb)
  · exact next_of_running rfl hl (editApplied_good hp hs h hm hb)
  · exact next_of_command rfl ht hrole (editRelease_not_edited hsel hr hs hw he)
  · exact fun pushed => next_of_command rfl ht hrole (editRelease_edited hsel hr hs hw he pushed)

end Sys2Proof.Proofs
end

section
/-!
Sensing, first part: what measurements, crossings and voltage events can change at all, and what stands over a record that is sent.
-/
namespace Sys2Proof.Proofs
open Sys2Proof.Machine Sys2Proof.Laws

/-! ### One element of a list -/

section Elements
variable {α : Type} [Inhabited α] {l : List α} {i j : Nat}

theorem at'_set_same (h : i < l.length) (x : α) : at' (l.set i x) i = x := by
  simp [at', List.getD_eq_getElem?_getD, h]

theorem at'_set_other (h : j ≠ i) (x : α) : at' (l.set i x) j = at' l j := by
  simp [at', List.getD_eq_getElem?_getD, List.getElem?_set_ne h.symm]

end Elements

/-- A number of the settings under a change of something else. -/
theorem cfgI_congr {s t : State} (hc : t.cfg = s.cfg) (hb : t.board = s.board) (idx sub : Nat) : t.cfgI idx sub = s.cfgI idx sub := by
  simp only [State.cfgI, val_congr hc hb]

theorem eventsOnly_sense {s t : State} (h : EventsOnly s t) : t.sense = s.sense := by
  obtain ⟨_, _, _, rfl⟩ := h
  rfl

/-! ### What sensing can change -/

/-- `t` differs from `s` at most in the sensing front-end and in what an event touches. -/
def SenseOnly (s t : State) : Prop :=
  t = { s with sense := t.sense, queue := t.queue, dict := { s.dict with subs := t.dict.subs }, vaultNv := { s.vaultNv with log := t.vaultNv.log } }

namespace SenseOnly
variable {s t u : State}

theorem refl (s : State) : SenseOnly s s := rfl

theorem trans (h : SenseOnly s t) (k : SenseOnly t u) : SenseOnly s u := by
  unfold SenseOnly at *
  rw [h] at k
  exact k

theorem of_events (h : EventsOnly s t) : SenseOnly s t := by
  obtain ⟨_, _, _, rfl⟩ := h
  rfl

theorem of_sense (s : State) (x : SenseState) : SenseOnly s { s with sense := x } := rfl

theorem ite {c : Prop} [Decidable c] (h : SenseOnly s t) (k : SenseOnly s u) : SenseOnly s (if c then t else u) := by
  split
  · exact h
  · exact k

end SenseOnly

/-! ### Records sent -/

section Sending
variable (s : State)

theorem sensePush_senseOnly (q : Nat) (b : Bytes) : SenseOnly s (s.sensePush q b) := by
  unfold State.sensePush
  have pushed := SenseOnly.of_events (pushOrDrop_eventsOnly s q 0x0100 b)
  refine .ite pushed (pushed.trans ?_)
  generalize (s.pushOrDrop q 0x0100 b).1 = t
  have counted : SenseOnly t (t.senseCount 3 1) := .of_sense t _
  refine counted.trans ?_
  generalize t.senseCount 3 1 = u
  dsimp only
  split
  · exact .trans (.of_sense u _) (.of_events (event_eventsOnly ..))
  · exact .of_sense u _

/-- R243: what a record that is sent leaves of the front-end: all but the counts of records lost. -/
theorem sensePush_sense (q : Nat) (b : Bytes) :
    ∃ c a n, (s.sensePush q b).sense = { s.sense with counters := c, overrunAt := a, overruns := n } := by
  have pushed : (s.pushOrDrop q 0x0100 b).1.sense = s.sense := eventsOnly_sense (pushOrDrop_eventsOnly ..)
  unfold State.sensePush
  dsimp only
  split
  · exact ⟨_, _, _, pushed⟩
  · split
    · exact ⟨_, _, _, (eventsOnly_sense (event_eventsOnly ..)).trans (by rw [State.senseCount, pushed])⟩
    · exact ⟨_, _, _, by rw [State.senseCount, pushed]⟩

theorem zcSend_senseOnly (p : Nat) (b : Bytes) : SenseOnly s (s.zcSend p b) :=
  .trans (.ite (sensePush_senseOnly ..) (.refl s)) (sensePush_senseOnly ..)

theorem sensePush_phases (q : Nat) (b : Bytes) : (s.sensePush q b).sense.phases = s.sense.phases := by
  obtain ⟨_, _, _, h⟩ := sensePush_sense s q b
  rw [h]

theorem zcSend_phases (p : Nat) (b : Bytes) : (s.zcSend p b).sense.phases = s.sense.phases := by
  unfold State.zcSend
  rw [sensePush_phases]
  split
  · exact sensePush_phases ..
  · rfl

theorem event_phases (code cell : Nat) (d : Bytes) : (s.event code cell d).sense.phases = s.sense.phases := by
  rw [eventsOnly_sense (event_eventsOnly ..)]

end Sending

/-! ### Phase voltages -/

section Phases
variable {s : State} {p : Nat}

theorem setPhaseV_senseOnly (s : State) (p : Nat) (v : PhaseV) : SenseOnly s (s.setPhaseV p v) := .of_sense s _

theorem setPhaseV_same (hp : p < s.sense.phases.length) (v : PhaseV) : at' (s.setPhaseV p v).sense.phases p = v := at'_set_same hp v

theorem setPhaseV_sag (hp : p < s.sense.phases.length) (v : PhaseV) : (at' (s.setPhaseV p v).sense.phases p).sag = v.sag :=
  congrArg PhaseV.sag (setPhaseV_same hp v)

theorem setPhaseV_length (s : State) (p : Nat) (v : PhaseV) : (s.setPhaseV p v).sense.phases.length = s.sense.phases.length := List.length_set

theorem setPhaseV_other {q : Nat} (h : q ≠ p) (v : PhaseV) : at' (s.setPhaseV p v).sense.phases q = at' s.sense.phases q := at'_set_other h v

theorem endSag_senseOnly (s : State) (p : Nat) : SenseOnly s (s.endSag p) := by
  unfold State.endSag
  dsimp only
  split
  · exact .refl s
  · exact .trans (.of_sense s _) (.of_events (event_eventsOnly ..))

/-- R235: the sag of a phase ended, and nothing else of it changed. -/
theorem endSag_phase (hp : p < s.sense.phases.length) :
    at' (s.endSag p).sense.phases p = { at' s.sense.phases p with sag := none } := by
  unfold State.endSag
  dsimp only
  split
  case h_1 h => rw [← h]
  case h_2 t ext h =>
    rw [event_phases]
    exact setPhaseV_same hp _

theorem endSwell_sag (hp : p < s.sense.phases.length) : (at' (s.endSwell p).sense.phases p).sag = (at' s.sense.phases p).sag := by
  unfold State.endSwell
  dsimp only
  split
  · rfl
  · rw [event_phases]
    exact setPhaseV_sag hp _

end Phases

end Sys2Proof.Proofs
end

section
/-!
Sensing, second part: the grid (R212, R223 to R227), blocks (R213, R214, R239 to R243), crossings and voltage events (R230 to R235, R248).
-/
namespace Sys2Proof.Proofs
open Sys2Proof.Machine Sys2Proof.Laws

/-! ### The grid -/

section Grid
variable {s : State}

theorem alignCause_needed {source c : Nat} {err : Int} (h : s.sense.needAlign = some c) : s.alignCause source err = some c := by
  simp only [State.alignCause, h]

theorem alignCause_none {source limit : Nat} {err : Int} (hn : s.sense.needAlign = none) (hs : s.sense.syncNow = false)
    (hl : s.cfgN 0x2000 5 = limit) (lo : -(limit : Int) ≤ err) (hi : err ≤ limit) : s.alignCause source err = none := by
  have within : ¬ (limit : Int) < (if err < 0 then -err else err) := by split <;> omega
  simp only [State.alignCause, hn, hs, hl, within, and_false, Bool.false_eq_true, if_false]

/-- R225: an event of the TD0 second measures the grid error and then realigns the grid if a cause is due. -/
theorem syncEvent_second (h : s.cfgN 0x2000 4 = 0) :
    let s1 : State := { s with sense := { s.sense with gridError := s.gridErrorNow } }
    (∀ c, s1.alignCause 0 s.gridErrorNow = some c → syncEvent 0 s = s1.align c s.gridErrorNow) ∧
    (s1.alignCause 0 s.gridErrorNow = none → syncEvent 0 s = s1) := by
  have taken : s.takeEpoch 0 = some s := rfl
  refine ⟨fun c hc => ?_, fun hc => ?_⟩
  all_goals
    unfold syncEvent
    rw [h, if_neg (by simp), taken]
    dsimp only
    rw [if_neg (by decide), hc]

theorem syncEvent_other {source : Nat} (h : s.cfgN 0x2000 4 ≠ source) : syncEvent source s = s := by
  unfold syncEvent
  rw [if_pos h]

theorem localReset_due {c : Nat} (h : (at' s.sense.chains c).pendingReset = true) :
    localReset c s = { s with sense := { s.sense with
        chains := upd s.sense.chains c (fun x => x.reset (s.chainTaps c))
        fir := upd s.sense.fir c (fun f => { f with settle := (s.chainTaps c + 13) / 2 - 1 }), counters := upd s.sense.counters 0 (· + 1) } } :=
  if_pos h

theorem localReset_not_due {c : Nat} (h : (at' s.sense.chains c).pendingReset = false) : localReset c s = s := by
  simp only [localReset, h, Bool.false_eq_true, if_false]

section Steering
variable {steer : Int}

theorem gridUnlocked_within (lo : -20000 ≤ steer) (hi : steer ≤ 20000) :
    gridUnlocked steer s = { s with sense := { s.sense with gridOfs := s.gridNow, gridRef := s.now, gridDrift := 0, locked := true } } := by
  have none_lacks : steer - clampInt steer (-20000) 20000 = 0 := by unfold clampInt; split_ifs <;> omega
  unfold gridUnlocked
  rw [none_lacks, if_pos ⟨lo, hi⟩]
  rfl

theorem gridUnlocked_beyond (h : steer < -20000 ∨ 20000 < steer) :
    gridUnlocked steer s =
      if s.sense.locked then
        State.event { s with sense := { s.sense with
          gridOfs := s.gridNow, gridRef := s.now, gridDrift := steer - clampInt steer (-20000) 20000, locked := false } } 0x2009 0x0100 (leInt 4 steer)
      else { s with sense := { s.sense with gridOfs := s.gridNow, gridRef := s.now, gridDrift := steer - clampInt steer (-20000) 20000 } } := by
  unfold gridUnlocked
  rw [if_neg (by omega)]
  rfl

end Steering

end Grid

/-! ### Blocks -/

section Blocks
variable (s : State)

theorem senseInstant_senseOnly (bits : List Nat) : SenseOnly s (senseInstant bits s) := .of_sense s _

/-- R242, R243: the event of a frequency out of range, and the block record, leave what the block has put in the front-end's registers. -/
theorem sensePush_after_event {c : Bool} {e : State} (he : EventsOnly s e) (q : Nat) (b : Bytes) :
    let x := ((if c then e else s).sensePush q b).sense
    x.resetMask = s.sense.resetMask ∧ x.freq = s.sense.freq ∧ x.freqOut = s.sense.freqOut ∧ x.energy = s.sense.energy ∧ x.dieTemp = s.sense.dieTemp := by
  have after : (if c then e else s).sense = s.sense := by
    split
    · exact eventsOnly_sense he
    · rfl
  obtain ⟨_, _, _, h⟩ := sensePush_sense (if c then e else s) q b
  dsimp only
  rw [h, after]
  exact ⟨rfl, rfl, rfl, rfl, rfl⟩

theorem closeBlock_senseOnly (t : Int) : SenseOnly s (s.closeBlock t) := by
  unfold State.closeBlock
  dsimp only
  refine .trans ?_ (sensePush_senseOnly ..)
  split
  · exact .trans (.of_sense s _) (.of_events (event_eventsOnly ..))
  · exact .of_sense s _

theorem closeBlock_dieTemp (t : Int) : (s.closeBlock t).sense.dieTemp = s.sense.dieTemp := by
  unfold State.closeBlock
  dsimp only
  obtain ⟨-, -, -, -, temp⟩ := sensePush_after_event _ (event_eventsOnly ..) _ _
  exact temp

/-- R241, R242: the registers that the end of a block leaves. -/
theorem closeBlock_registers (t : Int) :
    (s.closeBlock t).sense.resetMask = 0 ∧ (s.closeBlock t).sense.freq = s.blockFreq ∧
    (s.closeBlock t).sense.freqOut =
      decide (s.blockFreq * 100 < s.cfgN 0x2000 2 * 1000000 * 85 ∨ s.cfgN 0x2000 2 * 1000000 * 115 < s.blockFreq * 100) ∧
    ∀ p < 3, bit s.sense.resetMask p = true → at' (s.closeBlock t).sense.energy p = List.replicate 7 0 := by
  unfold State.closeBlock
  dsimp only
  obtain ⟨mask, freq, out, energy, -⟩ := sensePush_after_event _ (event_eventsOnly ..) _ _
  refine ⟨mask, freq, out, fun p hp hb => ?_⟩
  rw [energy]
  simp [at', hp, hb]

theorem gridInstant_senseOnly (t : Int) (bits : List Nat) : SenseOnly s (s.gridInstant t bits) := by
  unfold State.gridInstant
  dsimp only
  have run := senseInstant_senseOnly s bits
  exact .ite (run.trans (closeBlock_senseOnly ..)) run

theorem gridInstant_dieTemp (t : Int) (bits : List Nat) : (s.gridInstant t bits).sense.dieTemp = s.sense.dieTemp := by
  unfold State.gridInstant
  dsimp only
  split
  · exact closeBlock_dieTemp ..
  · rfl

theorem gridInstants_senseOnly (l : List (List Nat)) (t : Int) :
    SenseOnly s (State.gridInstants l t s) ∧ (State.gridInstants l t s).sense.dieTemp = s.sense.dieTemp := by
  induction l generalizing s t with
  | nil => exact ⟨.refl s, rfl⟩
  | cons b l ih =>
    obtain ⟨only, temp⟩ := ih (s.gridInstant t b) (t + gridStep)
    exact ⟨(gridInstant_senseOnly s t b).trans only, temp.trans (gridInstant_dieTemp s t b)⟩

/-- R213: every channel's chain runs through the instant. -/
theorem senseInstant_chain (bits : List Nat) {c : Nat} (hc : c < 8) :
    at' (senseInstant bits s).sense.chains c =
      (let f := at' s.sense.fir c
       (at' s.sense.chains c).instant [s.cfgN (0x2001 + c) 2, s.cfgN (0x2001 + c) 3, at' f.shifts f.bank] (at' f.coefs f.bank)
        (Config.factoryOffset c) (s.tau c) (at' bits c)).1 := by
  simp only [senseInstant, State.senseCount, State.chainOuts, FirCell.active]
  simp [at', hc]

variable {s}

theorem measurementBlock_one (bits : List Nat) (dieTemp : Int) :
    measurementBlock [bits] dieTemp s =
      (let s1 := senseInstant bits { s with sense := { s.sense with dieTemp := dieTemp } }
       if blockIndex (s.instantNow gridStep) = 1599 then s1.closeBlock (s.instantNow gridStep) else s1) := by
  have now : s.instantNow gridStep - (([bits].length : Int) - 1) * gridStep = s.instantNow gridStep := by simp
  unfold measurementBlock
  rw [now]
  rfl

theorem channelOverrange_due {c : Nat} (some_over : (at' s.sense.chains c).overs.foldl (· + ·) 0 ≠ 0)
    (due : s.perSecond (at' s.sense.chains c).overAt = true) :
    channelOverrange c s = State.event { s with sense := { s.sense with
        chains := upd s.sense.chains c (fun x => { x with overs := [0, 0, 0, 0], overAt := some s.now }) } } 0x2002 (senseCell c)
      ([byte c, byte ((at' s.sense.chains c).overs.findIdx (· != 0) + 1)] ++ leBytes 2 (min ((at' s.sense.chains c).overs.foldl (· + ·) 0) maxU16)) := by
  unfold channelOverrange
  exact if_neg (by simp [some_over, due])

theorem channelOverrange_none {c : Nat} (none_over : (at' s.sense.chains c).overs.foldl (· + ·) 0 = 0) : channelOverrange c s = s := by
  unfold channelOverrange
  exact if_pos (.inl none_over)

end Blocks

/-! ### Crossings -/

section Crossings
variable {s : State} {p : Nat}

/-- A phase voltage after a rising crossing stamped `stamp`, found in `v` and at counter value `now` (R231, R234). -/
def risenPhase (v : PhaseV) (now nominal : Nat) (stamp : Int) : PhaseV :=
  let period := match v.last with | some t => (nsOf (stamp - t)).toNat | none => 0
  let normal := decide (900000000 ≤ period * nominal ∧ period * nominal ≤ 1100000000)
  let good := if v.lost then (if normal then v.good + 1 else 0) else 0
  let back := v.lost && decide (8 ≤ good)
  { v with last := some stamp, period := period, seq := (v.seq + 1) % 2 ^ 32, since := now, good := if back then 0 else good
           lost := v.lost && !back, periods := if period = 0 then v.periods else v.periods + 1, span := v.span + period }

theorem risenPhase_period {v : PhaseV} {u : Int} (h : v.last = some u) (now nominal : Nat) (stamp : Int) :
    (risenPhase v now nominal stamp).period = (nsOf (stamp - u)).toNat := by
  simp only [risenPhase, h]

theorem phases_of_ite {c : Prop} [Decidable c] {t u : State} {l : List PhaseV} (ht : t.sense.phases = l) (hu : u.sense.phases = l) :
    (if c then t else u).sense.phases = l := by
  split
  · exact ht
  · exact hu

theorem risingCrossing_phases (s : State) (p : Nat) (stamp : Int) :
    (s.risingCrossing p stamp).sense.phases = s.sense.phases.set p (risenPhase (at' s.sense.phases p) s.now (s.cfgN 0x2000 2) stamp) := by
  unfold State.risingCrossing
  dsimp only
  refine (phases_of_ite (l := (s.setPhaseV p (risenPhase (at' s.sense.phases p) s.now (s.cfgN 0x2000 2) stamp)).sense.phases) ?_ (phases_of_ite ?_ ?_))
  · rw [event_phases, zcSend_phases]
    rfl
  · rfl
  · rw [zcSend_phases]
    rfl

theorem risingCrossing_senseOnly (s : State) (p : Nat) (stamp : Int) : SenseOnly s (s.risingCrossing p stamp) := by
  unfold State.risingCrossing
  dsimp only
  generalize hs1 : s.setPhaseV p _ = s1
  have only : SenseOnly s s1 := hs1 ▸ setPhaseV_senseOnly ..
  exact .ite ((only.trans (zcSend_senseOnly ..)).trans (.of_events (event_eventsOnly ..))) (.ite only (only.trans (zcSend_senseOnly ..)))

theorem tau_congr {s t : State} (hc : t.cfg = s.cfg) (hb : t.board = s.board) (c : Nat) : t.tau c = s.tau c := by
  simp only [State.tau, cfgI_congr hc hb, cfgN_congr hc hb]

/-- R232: the first crossing of a phase voltage ends no half cycle. -/
theorem crossed_first {t z : Int} {ys : List Int} (hh : (at' s.sense.phases p).half = none) (hz : fitZero ys = some z) :
    s.crossed p true false t ys =
      (s.setPhaseV p { at' s.sense.phases p with armed := false, half := some (0, 0) }).risingCrossing p
        (t + z - 7568 * 65536 + s.tau p) := by
  unfold State.crossed
  dsimp only
  rw [hz, hh, tau_congr (s := s) rfl rfl]
  rfl

theorem coarseSample_rising {t : Int} {y : Int × Bool} {v : PhaseV}
    (hv : v = { at' s.sense.phases p with ys := (y :: (at' s.sense.phases p).ys).take 8 }) (hlen : v.ys.length = 8) (ha : v.armed = true)
    (before : (at' v.ys 4).1 < 0) (after : 0 ≤ (at' v.ys 3).1) :
    s.coarseSample p t y =
      (let s1 := (s.setPhaseV p v).crossed p true (at' v.ys 3).2 (t - 3 * coarseStepTime) (v.ys.map (·.1)).reverse
       s1.setPhaseV p ((at' s1.sense.phases p).sampled ((s.cfgN (0x2001 + p) 8 : Int) * 8388608) (at' v.ys 3).1)) := by
  subst hv
  dsimp only at hlen ha before after ⊢
  unfold State.coarseSample
  dsimp only
  rw [if_neg (by omega), ha, decide_eq_true (And.intro before after)]
  rfl

theorem zeroCrossing_off {c bits n : Nat} (h : s.chanOn c = false) : zeroCrossing c bits n s = s := by
  simp only [zeroCrossing, h, Bool.false_eq_true, if_false]

theorem zeroCrossing_one {c bits : Nat} (h : s.chanOn c = true) :
    zeroCrossing c bits 1 s =
      (let r := (at' s.sense.chains c).coarseStep bits
       let s1 : State := { s with sense := { s.sense with chains := upd s.sense.chains c (fun _ => r.1) } }
       if c < 3 then s1.coarseSample c (s.instantNow coarseStepTime) r.2 else s1) := by
  have now : s.instantNow coarseStepTime - (((1 : Nat) : Int) - 1) * coarseStepTime = s.instantNow coarseStepTime := by simp
  unfold zeroCrossing
  rw [if_pos h, now]
  rfl

end Crossings

/-! ### Voltage events -/

section Voltage
variable {s : State} {p rms : Nat}

/-- R235: what the half-cycle test makes of a sag stands over its test of a swell. -/
theorem halfCycle_begins_sag (hp : p < s.sense.phases.length) (hv : (at' s.sense.phases p).sag = none)
    (low : rms * 100 < s.cfgN 0x2111 1 * s.cfgN 0x2000 3) : (at' (s.halfCycle p rms).sense.phases p).sag = some (s.td0, rms) := by
  unfold State.halfCycle
  dsimp only
  rw [hv]
  dsimp only
  rw [if_pos low]
  generalize hs1 : s.setPhaseV p _ = s1
  have there : p < s1.sense.phases.length := by rw [← hs1, setPhaseV_length]; exact hp
  have sagging : (at' s1.sense.phases p).sag = some (s.td0, rms) := by rw [← hs1, setPhaseV_sag hp]
  split <;> split
  · rw [setPhaseV_sag there, sagging]
  · exact sagging
  · rw [endSwell_sag there, sagging]
  · rw [setPhaseV_sag there, sagging]

theorem endSag_length (s : State) (p : Nat) : (s.endSag p).sense.phases.length = s.sense.phases.length := by
  unfold State.endSag
  dsimp only
  split
  · rfl
  · rw [event_phases]
    exact setPhaseV_length ..

theorem halfCycle_ends_sag (hp : p < s.sense.phases.length) (hv : (at' s.sense.phases p).sag ≠ none)
    (high : (s.cfgN 0x2111 1 + s.cfgN 0x2111 3) * s.cfgN 0x2000 3 < rms * 100) : (at' (s.halfCycle p rms).sense.phases p).sag = none := by
  obtain ⟨x, hx⟩ := Option.ne_none_iff_exists'.mp hv
  unfold State.halfCycle
  dsimp only
  rw [hx]
  dsimp only
  rw [if_pos high]
  generalize hs1 : s.endSag p = s1
  have there : p < s1.sense.phases.length := by rw [← hs1, endSag_length]; exact hp
  have ended : (at' s1.sense.phases p).sag = none := by rw [← hs1, endSag_phase hp]
  split <;> split
  · rw [setPhaseV_sag there, ended]
  · exact ended
  · rw [endSwell_sag there, ended]
  · rw [setPhaseV_sag there, ended]

/-- R234: the phase voltage that a loss leaves. -/
theorem voltageLost_due (hp : p < s.sense.phases.length) (hl : (at' s.sense.phases p).lost = false)
    (due : (at' s.sense.phases p).since + cNs (3000000000 / s.cfgN 0x2000 2) ≤ s.now ∨ s.chanFenced p = true) :
    SenseOnly s (voltageLost p s) ∧ at' (voltageLost p s).sense.phases p =
      { at' s.sense.phases p with lost := true, lostInBlock := true, good := 0, half := none, sag := none } := by
  have lost : ¬ ((at' s.sense.phases p).lost = true ∨
      (s.now < (at' s.sense.phases p).since + cNs (3000000000 / s.cfgN 0x2000 2) ∧ (!s.chanFenced p) = true)) := by
    rintro (h | ⟨h, hf⟩)
    · simp [hl] at h
    · rcases due with d | d
      · omega
      · simp [d] at hf
  unfold voltageLost
  dsimp only
  rw [if_neg lost]
  generalize hs1 : s.setPhaseV p _ = s1
  have only : SenseOnly s s1 := hs1 ▸ setPhaseV_senseOnly ..
  generalize hs2 : (s1.zcSend p _).event _ _ _ = s2
  have same : s2.sense.phases = s1.sense.phases := by rw [← hs2, event_phases, zcSend_phases]
  have told : SenseOnly s1 s2 := hs2 ▸ (zcSend_senseOnly ..).trans (.of_events (event_eventsOnly ..))
  have length : s1.sense.phases.length = s.sense.phases.length := by rw [← hs1, setPhaseV_length]
  refine ⟨(only.trans told).trans (endSag_senseOnly ..), ?_⟩
  rw [endSag_phase (by rw [same, length]; exact hp), same, ← hs1, setPhaseV_same hp]

theorem voltageLost_already (h : (at' s.sense.phases p).lost = true) : voltageLost p s = s := by
  unfold voltageLost
  exact if_pos (.inl h)

end Voltage

end Sys2Proof.Proofs
end

section
/-!
Sensing, third part: a rising crossing as a whole, and the obligation.
-/
namespace Sys2Proof.Proofs
open Sys2Proof.Machine Sys2Proof.Laws

section Rising
variable {s : State} {p : Nat} {t z : Int} {y : Int × Bool} {v : PhaseV}

/-- R230 to R232: a coarse sample that ends the first half cycle of a phase voltage upwards: its crossing is stamped, and the sample then counts. -/
theorem coarseSample_first_rising (hp : p < s.sense.phases.length)
    (hv : v = { at' s.sense.phases p with ys := (y :: (at' s.sense.phases p).ys).take 8 }) (hlen : v.ys.length = 8) (ha : v.armed = true)
    (before : (at' v.ys 4).1 < 0) (after : 0 ≤ (at' v.ys 3).1) (settled : (at' v.ys 3).2 = false) (hh : v.half = none)
    (hz : fitZero (v.ys.map (·.1)).reverse = some z) :
    let stamp := t - 3 * coarseStepTime + z - 7568 * 65536 + s.tau p
    ∃ h, SenseOnly s (s.coarseSample p t y) ∧ (s.coarseSample p t y).sense.phases =
      s.sense.phases.set p ((risenPhase { v with armed := false, half := some (0, 0) } s.now (s.cfgN 0x2000 2) stamp).sampled h (at' v.ys 3).1) := by
  intro stamp
  refine ⟨(s.cfgN (0x2001 + p) 8 : Int) * 8388608, ?_⟩
  generalize hs0 : s.setPhaseV p v = s0
  have there : at' s0.sense.phases p = v := by rw [← hs0]; exact setPhaseV_same hp v
  have crossed := crossed_first (s := s0) (p := p) (t := t - 3 * coarseStepTime) (by rw [there]; exact hh) hz
  have tau : s0.tau p = s.tau p := by rw [← hs0]; exact tau_congr rfl rfl p
  have nominal : s0.cfgN 0x2000 2 = s.cfgN 0x2000 2 := by rw [← hs0]; exact cfgN_congr rfl rfl _ _
  have now : s0.now = s.now := by rw [← hs0]; rfl
  rw [coarseSample_rising hv hlen ha before after, settled, hs0]
  dsimp only
  rw [crossed, there, tau]
  generalize hs1 : s0.setPhaseV p _ = s1
  have phase : at' s1.sense.phases p = { v with armed := false, half := some (0, 0) } := by
    rw [← hs1]
    exact setPhaseV_same (by rw [← hs0, setPhaseV_length]; exact hp) _
  have phases : s1.sense.phases = s.sense.phases.set p { v with armed := false, half := some (0, 0) } := by
    rw [← hs1, ← hs0]
    exact List.set_set ..
  have same : s1.now = s.now ∧ s1.cfgN 0x2000 2 = s.cfgN 0x2000 2 := by
    rw [← hs1, ← now, ← nominal]
    exact ⟨rfl, cfgN_congr rfl rfl _ _⟩
  have risen := risingCrossing_phases s1 p stamp
  rw [phase, phases, List.set_set, same.1, same.2] at risen
  have only : SenseOnly s s1 := by
    rw [← hs1, ← hs0]
    exact (setPhaseV_senseOnly ..).trans (setPhaseV_senseOnly ..)
  refine ⟨(only.trans (risingCrossing_senseOnly s1 p stamp)).trans (setPhaseV_senseOnly ..), ?_⟩
  rw [State.setPhaseV]
  dsimp only
  rw [risen, List.set_set, at'_set_same hp]

end Rising

/-- Settles O24: the grid by the events that move it, a block by its instants, a phase voltage by the samples that its crossings are found in. -/
theorem sensing : Obligations.Sensing := by
  refine ⟨⟨fun s c hl hsrc hn => ?_, fun s hl hsrc hn hs lo hi => ?_, fun s source hl hsrc => ?_, fun s role ht hr => ?_, fun s c hl hp => ?_,
      fun s c hl hp => ?_, fun s steer hl lo hi => ?_, fun s steer hl out hlock => ?_, fun s steer hl out hlock => ?_⟩,
    ⟨fun s instants dieTemp hl => ?_, fun s bits dieTemp hl => ⟨fun inside => ?_, fun ends => ?_⟩, fun s bits c hc => senseInstant_chain s bits hc,
      fun s t => ?_, fun s c hl hn hd => ?_, fun s c hl hn => ?_, fun s role mask ht hr lo hi => ?_, fun s role mask ht hr bad => ?_⟩,
    fun s c bits n hl => ⟨fun off => ?_, fun on hc => ?_⟩, fun s p bits z hl on hlen => ?_, fun s p rms hp => ?_, fun s p hl hlen hlost due => ?_,
    fun s p hl hlost => ?_⟩
  · exact next_of_live rfl hl ((syncEvent_second hsrc).1 c (alignCause_needed hn))
  · have within := alignCause_none (s := { s with sense := { s.sense with gridError := s.gridErrorNow } }) (source := 0) (err := s.gridErrorNow)
      hn hs (cfgN_congr rfl rfl _ _) lo hi
    exact next_of_live rfl hl ((syncEvent_second hsrc).2 within)
  · exact next_of_live rfl hl (syncEvent_other hsrc)
  · cases hs : s.sense.syncNow with
    | true => exact next_of_command rfl ht hr ((one_one _ _).trans (if_pos hs))
    | false => exact next_of_command rfl ht hr ((one_one _ _).trans (if_neg (by simp [hs])))
  · exact next_of_live rfl hl (localReset_due hp)
  · exact next_of_live rfl hl (localReset_not_due hp)
  · exact next_of_live rfl hl (gridUnlocked_within lo hi)
  · exact next_of_live rfl hl ((gridUnlocked_beyond out).trans (if_pos hlock))
  · exact next_of_live rfl hl ((gridUnlocked_beyond out).trans (if_neg (by simp [hlock])))
  · obtain ⟨only, temp⟩ := gridInstants_senseOnly { s with sense := { s.sense with dieTemp := dieTemp } } instants
      (s.instantNow gridStep - ((instants.length : Int) - 1) * gridStep)
    exact ⟨_, next_of_live rfl hl rfl, temp, (SenseOnly.of_sense s _).trans only⟩
  · exact next_of_live rfl hl ((measurementBlock_one bits dieTemp).trans (if_neg inside))
  · exact next_of_live rfl hl ((measurementBlock_one bits dieTemp).trans (if_pos ends))
  · obtain ⟨mask, freq, out, energy⟩ := closeBlock_registers s t
    exact ⟨mask, freq, energy, by rw [out]; exact decide_eq_true_iff⟩
  · exact next_of_live rfl hl (channelOverrange_due hn hd)
  · exact next_of_live rfl hl (channelOverrange_none hn)
  · exact next_of_command rfl ht hr (if_neg (by omega))
  · exact next_of_command rfl ht hr (if_pos bad)
  · exact next_of_live rfl hl (zeroCrossing_off off)
  · exact next_of_live rfl hl ((zeroCrossing_one on).trans (if_neg (Nat.not_lt.mpr hc)))
  · intro v ys stamp hlen8 ha before after settled hh hz
    generalize hs1 : ({ s with sense := { s.sense with
      chains := upd s.sense.chains p (fun _ => ((at' s.sense.chains p).coarseStep bits).1) } } : State) = s1
    have phases : s1.sense.phases = s.sense.phases := by rw [← hs1]
    have only : SenseOnly s s1 := by rw [← hs1]; exact .of_sense s _
    have tau : s1.tau p = s.tau p := by rw [← hs1]; exact tau_congr rfl rfl p
    have hp : (p : Nat) < s1.sense.phases.length := by rw [phases, hlen]; exact p.isLt
    have three : (p : Nat) < 3 := p.isLt
    obtain ⟨h, sampled, after⟩ := coarseSample_first_rising (s := s1) (p := p) (t := s.instantNow coarseStepTime)
      (y := ((at' s.sense.chains p).coarseStep bits).2) (v := { v with ys := ys }) hp (by rw [phases]) hlen8 ha before after settled hh hz
    refine ⟨_, next_of_live rfl hl ((zeroCrossing_one on).trans ((if_pos three).trans (by rw [hs1]))), only.trans sampled, ?_⟩
    rw [after, at'_set_same hp, tau]
    refine ⟨rfl, rfl, fun u hu => ?_, fun q hq hne => ?_⟩
    · exact risenPhase_period (v := { v with ys := ys, armed := false, half := some (0, 0) }) hu s1.now (s1.cfgN 0x2000 2) stamp
    rw [at'_set_other hne, phases]
  · exact ⟨halfCycle_begins_sag hp, halfCycle_ends_sag hp⟩
  · obtain ⟨only, phase⟩ := voltageLost_due (s := s) (p := p) (by rw [hlen]; exact p.isLt) hlost due
    exact ⟨_, next_of_live rfl hl rfl, only, by rw [phase], by rw [phase], by rw [phase]⟩
  · exact next_of_live rfl hl (voltageLost_already hlost)

end Sys2Proof.Proofs
end

section
/-!
The balance engine, first part: what it can change (R267, R679), and the keyed lists that it keeps.
-/
namespace Sys2Proof.Proofs
open Sys2Proof.Machine Sys2Proof.Laws

/-! ### Keyed lists -/

section Keys
variable {α : Type}

theorem lookupKey_insertKey_same (k : Nat) (v : α) (l : List (Nat × α)) : lookupKey k (insertKey k v l) = some v := by
  induction l with
  | nil => simp [insertKey, lookupKey]
  | cons x l ih =>
    obtain ⟨k', v'⟩ := x
    unfold insertKey
    split_ifs with hlt heq
    · simp [lookupKey]
    · simp [lookupKey]
    · simpa [lookupKey, Ne.symm heq] using ih

theorem lookupKey_insertKey_other {h k : Nat} (hne : h ≠ k) (v : α) (l : List (Nat × α)) : lookupKey h (insertKey k v l) = lookupKey h l := by
  induction l with
  | nil => simp [insertKey, lookupKey, Ne.symm hne]
  | cons x l ih =>
    obtain ⟨k', v'⟩ := x
    unfold insertKey
    split_ifs with hlt heq
    · simp [lookupKey, Ne.symm hne]
    · subst heq
      simp [lookupKey, Ne.symm hne]
    · simp only [lookupKey, ih]

end Keys

/-! ### Time and service under a change of something else -/

theorem utcNow_congr {s t : State} (hc : t.cfg = s.cfg) (hb : t.board = s.board) (ht : t.time = s.time) : t.utcNow = s.utcNow := by
  simp only [State.utcNow, State.utcOf, State.utcOffset, cfgI_congr hc hb, State.td0, State.td, State.tdAt, State.pairAt, State.now, ht]

theorem utcDay_congr {s t : State} (hc : t.cfg = s.cfg) (hb : t.board = s.board) (ht : t.time = s.time) : t.utcDay = s.utcDay := by
  simp only [State.utcDay, utcNow_congr hc hb ht]

theorem inService_congr {s t : State} (h : t.health = s.health) (a : Nat) : t.inService a = s.inService a := by
  simp only [State.inService, State.cellStatus, State.cellRec, h]

/-! ### What the balance engine can change -/

/-- `t` differs from `s` at most in what the balance engine keeps, in the free values drawn and in what an event touches. -/
def BalanceOnly (s t : State) : Prop :=
  t = { s with bal := t.bal, fresh := t.fresh, queue := t.queue, dict := { s.dict with subs := t.dict.subs }
               vaultNv := { s.vaultNv with log := t.vaultNv.log } }

/-- The same, the groups and the days closed as they were. -/
def DetectorsOnly (s t : State) : Prop := BalanceOnly s t ∧ t.bal.groups = s.bal.groups ∧ t.bal.dayClosed = s.bal.dayClosed

theorem BalanceOnly.trans {s t u : State} (h : BalanceOnly s t) (k : BalanceOnly t u) : BalanceOnly s u := by
  unfold BalanceOnly at *
  rw [h] at k
  exact k

theorem BalanceOnly.of_bal (s : State) (x : BalState) : BalanceOnly s { s with bal := x } := rfl

theorem BalanceOnly.of_events {s t : State} (h : EventsOnly s t) : BalanceOnly s t := by
  obtain ⟨_, _, _, rfl⟩ := h
  rfl

/-- Settings, meters and store stand. -/
theorem BalanceOnly.stands {s t : State} (h : BalanceOnly s t) : t.mtr = s.mtr ∧ t.cfg = s.cfg ∧ t.store = s.store := by
  unfold BalanceOnly at h
  rw [h]
  exact ⟨rfl, rfl, rfl⟩

namespace DetectorsOnly
variable {s t u : State}

theorem refl (s : State) : DetectorsOnly s s := ⟨rfl, rfl, rfl⟩

theorem trans (h : DetectorsOnly s t) (k : DetectorsOnly t u) : DetectorsOnly s u :=
  ⟨h.1.trans k.1, k.2.1.trans h.2.1, k.2.2.trans h.2.2⟩

theorem of_events (h : EventsOnly s t) : DetectorsOnly s t := by
  obtain ⟨_, _, _, rfl⟩ := h
  exact refl _

theorem ite {c : Prop} [Decidable c] (h : DetectorsOnly s t) (k : DetectorsOnly s u) : DetectorsOnly s (if c then t else u) := by
  split
  · exact h
  · exact k

theorem foldl {α : Type} {f : State → α → State} (h : ∀ s x, DetectorsOnly s (f s x)) (l : List α) (s : State) : DetectorsOnly s (l.foldl f s) := by
  induction l generalizing s with
  | nil => exact .refl s
  | cons x l ih => exact (h s x).trans (ih _)

theorem updMeterBal (s : State) (i : Nat) (f : MeterBal → MeterBal) : DetectorsOnly s (s.updMeterBal i f) := ⟨rfl, rfl, rfl⟩

theorem balCount (s : State) (i n : Nat) : DetectorsOnly s (s.balCount i n) := ⟨rfl, rfl, rfl⟩

theorem freeNat (s : State) : DetectorsOnly s s.freeNat.1 := ⟨rfl, rfl, rfl⟩

theorem alertRaised (s : State) (cell det i interval : Nat) (value : Int) : DetectorsOnly s (s.alertRaised cell det i interval value) :=
  .trans (.updMeterBal s i _) (.of_events (emit_eventsOnly ..))

theorem alertCleared (s : State) (cell det i interval cause : Nat) : DetectorsOnly s (s.alertCleared cell det i interval cause) :=
  .trans (.updMeterBal s i _) (.of_events (emit_eventsOnly ..))

theorem voltOutlier (s : State) (limit day j : Nat) (p : Nat × Int) : DetectorsOnly s (s.voltOutlier limit day j p) := by
  unfold State.voltOutlier
  dsimp only
  have counted := updMeterBal s p.1 (fun x => { x with
    voltDay := day, voltCount := if (s.meterBal p.1).voltDay = day then (s.meterBal p.1).voltCount + 1 else 1 })
  exact .ite (counted.trans (.alertRaised ..)) counted

theorem voltageTest (s : State) (e : Bytes) (o : GInt) : DetectorsOnly s (s.voltageTest e o) :=
  foldl (fun _ _ => foldl (fun _ _ => .voltOutlier ..) ..) ..

theorem takeSeries (s : State) (g i : Nat) : DetectorsOnly s (s.takeSeries g i) := by
  unfold State.takeSeries
  split
  · exact .refl s
  · split
    · exact ⟨rfl, rfl, rfl⟩
    · exact ⟨rfl, rfl, rfl⟩

theorem assignSeries (s : State) (g : Nat) (e : Bytes) : DetectorsOnly s (s.assignSeries g e) := by
  unfold State.assignSeries
  dsimp only
  have released : DetectorsOnly s { s with bal := { s.bal with series := s.bal.series.filter (fun p => p.1 ≠ g) } } := ⟨rfl, rfl, rfl⟩
  exact .ite (released.trans (foldl (fun _ _ => .takeSeries ..) ..)) released

theorem correlateFrom (s : State) (g : Nat) (old e : Bytes) : DetectorsOnly s (s.correlateFrom g old e) :=
  .ite (.refl s) (.assignSeries ..)

theorem pushQ18 {l : List Bytes} : ∀ {s t : State}, s.pushQ18 l = some t → DetectorsOnly s t := by
  induction l with
  | nil =>
    intro s t h
    cases h
    exact .refl s
  | cons b l ih =>
    intro s t h
    obtain ⟨u, hu, ht⟩ := Option.bind_eq_some_iff.mp h
    exact (of_events (pushPacket_eventsOnly hu)).trans (ih ht)

theorem voltageDay (day i : Nat) (s : State) : DetectorsOnly s (voltageDay day i s) :=
  .ite ((freeNat s).trans (.alertCleared ..)) (.refl s)

/-- R268: judging a member's day. -/
theorem collapseTest (day i : Nat) (s : State) : DetectorsOnly s (collapseTest day i s) := by
  unfold Machine.collapseTest
  split
  · exact .refl s
  · split
    · exact .refl s
    · dsimp only
      split
      · exact .refl s
      · have low := fun k => updMeterBal s i (fun x => { x with lowDays := k })
        refine .ite (.refl s) (.ite ?_ ?_)
        · exact .ite ((low _).trans ((freeNat _).trans (.alertRaised ..))) (low _)
        · exact .ite ((low 0).trans ((freeNat _).trans (.alertCleared ..))) (low 0)

end DetectorsOnly

end Sys2Proof.Proofs
end

section
/-!
The balance engine, second part: contributions (R254, R259 to R261), closing an interval (R252, R262 to R265, R270) and closing a day (R267, R268).
-/
namespace Sys2Proof.Proofs
open Sys2Proof.Machine Sys2Proof.Laws

/-! ### Contributions -/

section Contributions
variable {s s1 : State} {d : Delta} {r : List Delta} {m : Meter} {g : Nat} {x y : Group} {b : Bytes}

/-- R253, R260: a contribution to a group at work that is the node's own, in an interval that takes it. -/
theorem contributeTo_taken (hx : lookupKey g s.bal.groups = some x) (hlen : gLen x.entry % max 1 d.len = 0) (hc : gCascade x.entry = false)
    (ht : x.touch (d.interval * d.len / max 1 (gLen x.entry))
      (Contribution.addTo { group := g, meter := d.meter, supply := gCheckSupply x.entry && gCheck x.entry == d.meter
                            phase := (s.meterBal d.meter).phase, delta := d, home := m.groups.getD 0 0xFFFF == g }) = some y) :
    s.contributeTo d d.meter m g = (s.balCount 1 1).updGroup g (fun _ => y) := by
  simp only [State.contributeTo, hx, hlen, hc, State.contribute, ht, ne_eq, not_true_eq_false, Bool.false_and, Bool.false_eq_true, if_false]

/-- R260, R268: a contribution of a meter of one group. -/
theorem applyDelta_one_group (hm : s.meter d.meter = some m) (hg : m.groups = [g, 0xFFFF, 0xFFFF, 0xFFFF]) (hne : g ≠ 0xFFFF) :
    s.applyDelta d = (s.contributeTo d d.meter m g).updMeterBal d.meter
      (fun b => { b with days := addDay b.days (d.interval * d.len / 1440) d.x d.real }) := by
  have home : m.groups.filter (· ≠ 0xFFFF) = [g] := by simp [hg, hne]
  have first : m.groups.getD 0 0xFFFF = g := by simp [hg]
  simp only [State.applyDelta, hm, home, first, hne, List.foldl_cons, List.foldl_nil, if_false]

theorem balanceDeltaApply_in_service (hi : s.bal.inbox = d :: r) (hs : s.inService 0x2400 = true) :
    balanceDeltaApply s = State.applyDelta { s with bal := { s.bal with inbox := r } } d := by
  simp only [balanceDeltaApply, hi, balCell, hs, if_true]

theorem balanceDeltaApply_fenced (hi : s.bal.inbox = d :: r) (hs : s.inService 0x2400 = false) :
    balanceDeltaApply s = { s with bal := { s.bal with inbox := r }, health := { s.health with drained := s.health.drained + 1 } } := by
  simp only [balanceDeltaApply, hi, balCell, hs, Bool.false_eq_true, if_false]
  rfl

theorem balanceCorrectionApply_meter (hp : s.popPacket 39 = some (s1, b, false)) (hs : s1.inService 0x2400 = true)
    (hm : s1.meter (fieldLE b 0 4) = some m) :
    balanceCorrectionApply s = s1.applyDelta
      { meter := fieldLE b 0 4, groups := m.groups, interval := fieldLE b 4 4, len := s1.lenOf m, x := fieldInt b 12 8, real := fieldInt b 9 1
        count := fieldInt b 10 1, volt := none, cause := some (fieldLE b 8 1) } := by
  simp only [balanceCorrectionApply, hp, balCell, hs, hm, Bool.not_true, Bool.false_eq_true, if_false]

theorem balanceCorrectionApply_no_meter (hp : s.popPacket 39 = some (s1, b, false)) (hs : s1.inService 0x2400 = true)
    (hm : s1.meter (fieldLE b 0 4) = none) : balanceCorrectionApply s = s1 := by
  simp only [balanceCorrectionApply, hp, balCell, hs, hm, Bool.not_true, Bool.false_eq_true, if_false]

theorem sensingBlockApply_one_group (hp : s.popPacket 52 = some (s1, b, false)) (hs : s1.inService 0x2400 = true) (hg : s1.bal.groups = [(g, x)])
    (hsup : gCheckSupply x.entry = false) (hc : gCascade x.entry = false)
    (ht : x.touch (intervalOf (s1.blockUtc b) (max 1 (gLen x.entry))) (addBlock (gPhases x.entry) b x.carry) = some y) :
    sensingBlockApply s = s1.updGroup g (fun _ => { y with
      carry := (List.range 3).map (fun k => (x.carry.getD k 0 + fieldInt b (12 + 12 * k) 4) % 18000) }) := by
  have there : lookupKey g [(g, x)] = some x := by simp [lookupKey]
  simp only [sensingBlockApply, hp, balCell, hs, hg, hsup, hc, List.foldl_cons, List.foldl_nil, State.blockTo, there, ht, Bool.not_true, Bool.false_and,
    Bool.false_eq_true, if_false]

end Contributions

/-! ### Closing an interval -/

section Close
variable {s : State} {g : Nat} {x : Group}

theorem groupIntervalClose_starts (hs : s.inService 0x2400 = true) (hx : lookupKey g s.bal.groups = none) (he : gEnabled (s.groupNow g) = true) :
    let y := Group.start (s.groupNow g) (intervalOf s.utcNow (max 1 (gLen (s.groupNow g)))) [0, 0, 0, 0] [false, false, false, false]
    groupIntervalClose g s = State.assignSeries { s with bal := { s.bal with groups := insertKey g y s.bal.groups } } g (s.groupNow g) := by
  simp only [groupIntervalClose, balCell, hs, hx, he, Bool.not_true, Bool.false_eq_true, if_false, if_true]

theorem groupIntervalClose_not_due (hs : s.inService 0x2400 = true) (hx : lookupKey g s.bal.groups = some x)
    (early : s.utcNow < (((x.lastClosed + 2) * gLen x.entry * 60 + s.cfgB .balance 0x2400 1 : Nat) : Int)) : groupIntervalClose g s = s := by
  simp only [groupIntervalClose, balCell, hs, hx, early, Bool.not_true, Bool.false_eq_true, if_false, if_true]

/-- R252, R262: a group that is due ends, starts again, or closes an interval. -/
theorem groupIntervalClose_due (hs : s.inService 0x2400 = true) (hx : lookupKey g s.bal.groups = some x)
    (due : (((x.lastClosed + 2) * gLen x.entry * 60 + s.cfgB .balance 0x2400 1 : Nat) : Int) ≤ s.utcNow) :
    (gEnabled (s.groupNow g) = false → groupIntervalClose g s = { s with
      bal := { s.bal with groups := eraseKey g s.bal.groups, series := s.bal.series.filter (fun p => p.1 ≠ g) } }) ∧
    (gEnabled (s.groupNow g) = true → (gLen (s.groupNow g) ≠ gLen x.entry ∨ gCheckSupply (s.groupNow g) ≠ gCheckSupply x.entry) →
      groupIntervalClose g s = State.assignSeries (s.updGroup g (fun _ =>
        Group.start (s.groupNow g) (intervalOf s.utcNow (max 1 (gLen (s.groupNow g)))) x.runs x.alerts)) g (s.groupNow g)) ∧
    (gEnabled (s.groupNow g) = true → gLen (s.groupNow g) = gLen x.entry → gCheckSupply (s.groupNow g) = gCheckSupply x.entry →
      gCascade (s.groupNow g) = false → groupIntervalClose g s = closeInterval g x (s.groupNow g) s) := by
  refine ⟨fun he => ?_, fun he changed => ?_, fun he hl hc hcas => ?_⟩
  · simp only [groupIntervalClose, balCell, hs, hx, Int.not_lt.mpr due, he, Bool.not_true, Bool.not_false, Bool.false_eq_true, if_false, if_true]
  · simp only [groupIntervalClose, balCell, hs, hx, Int.not_lt.mpr due, he, changed, Bool.not_true, Bool.false_eq_true, if_false, if_true]
  · simp only [groupIntervalClose, balCell, hs, hx, Int.not_lt.mpr due, he, hl, hc, hcas, Bool.not_true, Bool.false_eq_true, ne_eq, not_true_eq_false,
      or_self, false_and, if_false]

theorem closeResult_entry (s : State) (g : Nat) (e : Bytes) (v : Nat) (w : CloseWork × GInt) (k : Nat) :
    (s.closeResult g e v w k).1.group.entry = w.1.group.entry := rfl

theorem closeResults_entry (s : State) (g : Nat) (e : Bytes) (v : Nat) (l : List Nat) (w : CloseWork × GInt) :
    (l.foldl (s.closeResult g e v) w).1.group.entry = w.1.group.entry := by
  induction l generalizing w with
  | nil => rfl
  | cons k l ih => exact (ih _).trans (closeResult_entry ..)

theorem updGroup_some (hx : lookupKey g s.bal.groups = some x) (f : Group → Group) :
    s.updGroup g f = { s with bal := { s.bal with groups := insertKey g (f x) s.bal.groups } } := by
  simp only [State.updGroup, hx]

/-- R262 to R265, R269: what is published of a group's interval that has closed, and the group put in its place. -/
theorem publish_close {s1 : State} (before : DetectorsOnly s s1) (hx : lookupKey g s.bal.groups = some x) (y : Group) (n k : Nat)
    (evs : List (Nat × Bytes)) (e : Bytes) (o : GInt) :
    let t := State.voltageTest (evs.foldl (fun st ev => st.event ev.1 balCell ev.2)
      ((((s1.updGroup g (fun _ => y)).balCount 7 1).balCount 8 n).balCount 2 k)) e o
    BalanceOnly s t ∧ t.bal.groups = insertKey g y s.bal.groups := by
  intro t
  have there : lookupKey g s1.bal.groups = some x := by rw [before.2.1]; exact hx
  have put : BalanceOnly s1 (s1.updGroup g (fun _ => y)) ∧ (s1.updGroup g (fun _ => y)).bal.groups = insertKey g y s.bal.groups := by
    rw [updGroup_some there, ← before.2.1]
    exact ⟨.of_bal s1 _, rfl⟩
  have counted : DetectorsOnly (s1.updGroup g (fun _ => y)) ((((s1.updGroup g (fun _ => y)).balCount 7 1).balCount 8 n).balCount 2 k) :=
    .trans (.trans (.balCount ..) (.balCount ..)) (.balCount ..)
  obtain ⟨only, groups, -⟩ := counted.trans (.trans (.foldl (fun _ _ => .of_events (event_eventsOnly ..)) evs _) (.voltageTest _ e o))
  exact ⟨(before.1.trans put.1).trans only, groups.trans put.2⟩

/-- R262: an interval that closes leaves its group with the next one last closed and the entry taken over, and every other group as it was; or
Q18 has no room, and it waits. -/
theorem closeInterval_closes (hx : lookupKey g s.bal.groups = some x) (e : Bytes) :
    closeInterval g x e s = (s.correlateFrom g x.entry e).backpressure 18 ∨
    (BalanceOnly s (closeInterval g x e s) ∧ ∃ y : Group, y.lastClosed = x.lastClosed + 1 ∧ y.entry = e ∧
      (closeInterval g x e s).bal.groups = insertKey g y s.bal.groups) := by
  have correlated : DetectorsOnly s (s.correlateFrom g x.entry e) := .correlateFrom s g x.entry e
  unfold closeInterval
  dsimp only
  generalize s.correlateFrom g x.entry e = s0 at correlated ⊢
  split
  case h_1 => exact .inl rfl
  case h_2 s1 pushed =>
    right
    have before : DetectorsOnly s s1 := correlated.trans (.pushQ18 pushed)
    refine ⟨(publish_close before hx _ _ _ _ _ _).1, _, ?_, ?_, (publish_close before hx _ _ _ _ _ _).2⟩
    · split <;> rfl
    · split <;> exact closeResults_entry ..

end Close

/-! ### Closing a day -/

section Day
variable {s : State}

/-- R454: closing the index of a day leaves everything but the store. -/
theorem closeDay_stands (s : State) :
    s.closeDay.cfg = s.cfg ∧ s.closeDay.board = s.board ∧ s.closeDay.time = s.time ∧ s.closeDay.health = s.health ∧ s.closeDay.bal = s.bal ∧
    s.closeDay.dict = s.dict ∧ s.closeDay.vaultNv = s.vaultNv := by
  have only : StoreOnly s s.closeDay := closeDay_storeOnly s
  unfold StoreOnly at only
  rw [only]
  exact ⟨rfl, rfl, rfl, rfl, rfl, rfl, rfl⟩

theorem utcDayClose_judged (h : s.utcDay - 1 ≤ s.bal.dayClosed) : utcDayClose s = s.closeDay := by
  obtain ⟨cfg, board, time, -, bal, -, -⟩ := closeDay_stands s
  unfold utcDayClose
  dsimp only
  rw [utcDay_congr cfg board time, bal, if_pos (.inr h)]

/-- R268: the day before this one is judged, meter by meter. -/
theorem utcDayClose_due (hs : s.inService 0x2400 = true) (h : s.bal.dayClosed < s.utcDay - 1) :
    DetectorsOnly { s.closeDay with bal := { s.bal with dayClosed := s.utcDay - 1 } } (utcDayClose s) := by
  obtain ⟨cfg, board, time, health, bal, -, -⟩ := closeDay_stands s
  have dueDay : ¬ ((!s.closeDay.inService balCell) = true ∨ s.utcDay - 1 ≤ s.bal.dayClosed) := by
    rw [inService_congr health, balCell, hs]
    simp only [Bool.not_true, Bool.false_eq_true, false_or]
    omega
  unfold utcDayClose
  dsimp only
  rw [utcDay_congr cfg board time, bal, if_neg dueDay]
  exact .foldl (fun _ _ => .trans (.collapseTest ..) (.voltageDay ..)) _ _

end Day

/-- Settles O25: the front of what the engine takes, a group by the state of its next interval, a day by whether it has been judged. -/
theorem balance : Obligations.Balance := by
  refine ⟨⟨fun s d r m g x x' hl hi hs hm hg hne hx hlen hc => ?_, fun s d r hl hi hs => ?_, fun s s1 b m hl hp hs hm => ?_,
      fun s s1 b hl hp hs hm => ?_, fun s s1 b g x y hl hp hs hg hsup hc ht => ?_⟩,
    fun s g hl hs => ⟨fun hx he => ?_, fun x hx => ⟨fun early => ?_, fun due he => ?_, fun due he changed => ?_, fun due he hlen hc hcas room => ?_⟩⟩,
    fun s hl hs => ⟨fun judged => ?_, fun due => ?_⟩⟩
  · intro c ht
    have home : (m.groups.getD 0 0xFFFF == g) = true := by simp [hg]
    have applied := applyDelta_one_group (s := { s with bal := { s.bal with inbox := r } }) hm hg hne
    rw [contributeTo_taken (s := { s with bal := { s.bal with inbox := r } }) hx hlen hc (by rw [home]; exact ht)] at applied
    exact next_of_live rfl hl ((balanceDeltaApply_in_service hi hs).trans applied)
  · exact next_of_live rfl hl (balanceDeltaApply_fenced hi hs)
  · exact next_of_live rfl hl (balanceCorrectionApply_meter hp hs hm)
  · exact next_of_live rfl hl (balanceCorrectionApply_no_meter hp hs hm)
  · exact next_of_live rfl hl (sensingBlockApply_one_group hp hs hg hsup hc ht)
  · exact next_of_live rfl hl (groupIntervalClose_starts hs hx he)
  · exact next_of_live rfl hl (groupIntervalClose_not_due hs hx early)
  · exact next_of_live rfl hl ((groupIntervalClose_due hs hx due).1 he)
  · exact next_of_live rfl hl ((groupIntervalClose_due hs hx due).2.1 he changed)
  · rcases closeInterval_closes hx (s.groupNow g) with waits | ⟨only, y, last, entry, groups⟩
    · exact absurd waits room
    · obtain ⟨mtr, cfg, store⟩ := only.stands
      refine ⟨_, next_of_live rfl hl ((groupIntervalClose_due hs hx due).2.2 he hlen hc hcas), mtr, cfg, store, ?_, fun h hne => ?_⟩
      · rw [groups, lookupKey_insertKey_same, Option.map_some, last, entry]
      · rw [groups, lookupKey_insertKey_other hne]
  · exact next_of_live rfl hl (utcDayClose_judged judged)
  · obtain ⟨only, groups, day⟩ := utcDayClose_due hs due
    obtain ⟨-, -, -, -, -, dict, nv⟩ := closeDay_stands s
    refine ⟨_, next_of_live rfl hl rfl, day, groups, ?_⟩
    unfold BalanceOnly at only
    rw [← dict, ← nv]
    exact only

end Sys2Proof.Proofs
end

section
/-!
Phase identification (R273 to R275) and the commands on memberships (R267, R273, R279).
-/
namespace Sys2Proof.Proofs
open Sys2Proof.Machine Sys2Proof.Laws

/-! ### What the engine keeps of a meter -/

section MeterBalance
variable {s : State} {i : Nat}

theorem meterBal_updMeterBal_same (s : State) (i : Nat) (f : MeterBal → MeterBal) : (s.updMeterBal i f).meterBal i = f (s.meterBal i) := by
  simp only [State.meterBal, updMeterBal_bal, lookupKey_insertKey_same, Option.getD_some]

theorem meterBal_congr {s t : State} (h : t.bal = s.bal) (i : Nat) : t.meterBal i = s.meterBal i := by
  simp only [State.meterBal, h]

theorem eventsOnly_bal {s t : State} (h : EventsOnly s t) : t.bal = s.bal := by
  obtain ⟨_, _, _, rfl⟩ := h
  rfl

/-- R267: telling a detector leaves all but its bit of what is kept of the meter. -/
theorem alertRaised_meterBal (s : State) (cell det i interval : Nat) (value : Int) :
    (s.alertRaised cell det i interval value).meterBal i = { s.meterBal i with mask := setBit (s.meterBal i).mask det } := by
  rw [State.alertRaised, meterBal_congr (eventsOnly_bal (emit_eventsOnly ..)), meterBal_updMeterBal_same]

theorem alertCleared_meterBal (s : State) (cell det i interval cause : Nat) :
    (s.alertCleared cell det i interval cause).meterBal i = { s.meterBal i with mask := clearBit (s.meterBal i).mask det } := by
  rw [State.alertCleared, meterBal_congr (eventsOnly_bal (emit_eventsOnly ..)), meterBal_updMeterBal_same]

theorem phaseDetector_detectorsOnly (s : State) (i : Nat) : DetectorsOnly s (s.phaseDetector i) := by
  unfold State.phaseDetector
  dsimp only
  refine .ite (.refl s) (.ite (.ite ?_ (.refl s)) (.ite (.refl s) ?_))
  · exact (DetectorsOnly.freeNat s).trans (.alertCleared ..)
  · exact ((DetectorsOnly.freeNat s).trans (.alertRaised ..)).trans (.of_events (emit_eventsOnly ..))

theorem phaseDetector_meterBal (s : State) (i : Nat) :
    ((s.phaseDetector i).meterBal i).decided = (s.meterBal i).decided ∧ ((s.phaseDetector i).meterBal i).run = (s.meterBal i).run := by
  unfold State.phaseDetector
  dsimp only
  split
  · exact ⟨rfl, rfl⟩
  · split
    · split
      · rw [alertCleared_meterBal]
        exact ⟨rfl, rfl⟩
      · exact ⟨rfl, rfl⟩
    · split
      · exact ⟨rfl, rfl⟩
      · rw [meterBal_congr (eventsOnly_bal (emit_eventsOnly ..)), alertRaised_meterBal]
        exact ⟨rfl, rfl⟩

end MeterBalance

/-! ### Phase reports -/

section PhaseReports
variable {s : State} {i th : Nat} {m : Meter} {e : Bytes}

/-- The run of a report that names phase `q`. -/
def phaseRun (b : MeterBal) (q : Nat) : Nat := if q = b.cand then min 255 (b.run + 1) else 1

theorem phaseAngle_far (h : 3000 < (angleTo th (gOffset e) (nearest th (gOffset e))).natAbs) :
    s.phaseAngle i m e th = (s.updMeterBal i (fun x => { x with theta := th, cand := 0, run := 0 })).balCount 5 1 := if_pos h

theorem phaseAngle_counts {q : Nat} (hq : q = nearest th (gOffset e)) (near : (angleTo th (gOffset e) q).natAbs ≤ 3000)
    (short : phaseRun (s.meterBal i) q < s.cfgB .balance 0x2400 4 ∨ q = (s.meterBal i).decided) :
    s.phaseAngle i m e th =
      (s.updMeterBal i (fun _ => { s.meterBal i with theta := th, cand := q, run := phaseRun (s.meterBal i) q })).balCount 4 1 := by
  have stays : ¬ (s.cfgB .balance 0x2400 4 ≤ phaseRun (s.meterBal i) q ∧ q ≠ (s.meterBal i).decided) := by
    rintro ⟨h, hne⟩
    rcases short with h' | h'
    · omega
    · exact hne h'
  unfold State.phaseAngle
  dsimp only
  rw [← hq, if_neg (Nat.not_lt.mpr near)]
  exact if_neg stays

/-- R275: a run of the configured length decides the phase. -/
theorem phaseAngle_decides {q : Nat} (hq : q = nearest th (gOffset e)) (near : (angleTo th (gOffset e) q).natAbs ≤ 3000)
    (long : s.cfgB .balance 0x2400 4 ≤ phaseRun (s.meterBal i) q) (new : q ≠ (s.meterBal i).decided) :
    DetectorsOnly s (s.phaseAngle i m e th) ∧ ((s.phaseAngle i m e th).meterBal i).decided = q ∧
      ((s.phaseAngle i m e th).meterBal i).run = phaseRun (s.meterBal i) q := by
  unfold State.phaseAngle
  dsimp only
  rw [← hq, if_neg (Nat.not_lt.mpr near), if_pos ⟨long, new⟩]
  generalize hs1 : (s.updMeterBal i _).balCount 4 1 = s1
  have counted : DetectorsOnly s s1 := hs1 ▸ (DetectorsOnly.updMeterBal s i _).trans (.balCount ..)
  generalize hs2 : s1.updMeterBal i _ = s2
  have put : DetectorsOnly s1 s2 := hs2 ▸ .updMeterBal ..
  have kept : (s2.meterBal i).decided = q ∧ (s2.meterBal i).run = phaseRun (s.meterBal i) q := by
    rw [← hs2, meterBal_updMeterBal_same]
    exact ⟨rfl, rfl⟩
  generalize hs3 : State.sendPacket _ 18 _ _ = s3
  have sent : EventsOnly s2 s3.1 := hs3 ▸ (emit_eventsOnly ..).trans (sendPacket_eventsOnly ..)
  obtain ⟨decided, run⟩ := phaseDetector_meterBal s3.1 i
  rw [meterBal_congr (eventsOnly_bal sent)] at decided run
  exact ⟨((counted.trans put).trans (.of_events sent)).trans (phaseDetector_detectorsOnly ..), decided.trans kept.1, run.trans kept.2⟩

/-- R274: the oldest report, of a meter in a group with local crossings. -/
theorem phaseReportApply_local {r : PhaseRep} {rest : List PhaseRep} {g : Nat} {room : State} (hq : (at' s.queue.queues 51).level = 0)
    (hr : s.bal.reports = r :: rest) (hs : s.inService 0x2402 = true) (hroom : s.pushPacket 18 0x2402 (zeros 64) = some room)
    (hm : s.meter r.meter = some m) (hg : m.groups.getD 0 0xFFFF = g) (hne : g ≠ 0xFFFF) (href : gPhaseRef (s.groupIn g) = false)
    (hth : s.thetaLocal r.tm = some th) :
    phaseReportApply s = State.phaseAngle
      (State.updMeterBal { s with bal := { s.bal with reports := rest } } r.meter (fun b => { b with lastTm := some r.tm })) r.meter m (s.groupIn g) th := by
  have entry : State.groupIn { s with bal := { s.bal with reports := rest } } g = s.groupIn g := rfl
  have theta : State.thetaLocal { s with bal := { s.bal with reports := rest } } r.tm = some th := hth
  have meter : State.meter { s with bal := { s.bal with reports := rest } } r.meter = some m := hm
  have none_taken : s.takeCrossings (at' s.queue.queues 51).level = s := by rw [hq]; rfl
  unfold phaseReportApply
  dsimp only
  rw [none_taken, hr]
  dsimp only
  rw [phaseCell, hs, hroom, meter]
  dsimp only
  rw [hg, if_neg hne, entry, href, theta]
  rfl

end PhaseReports

/-! ### Membership commands -/

section Membership
variable {s t : State} {i g : Nat} {m : Meter}

theorem addRefusal_in_range (h : g ≤ 4095) : s.addRefusal m g ≠ Abort.valueRange := by
  unfold State.addRefusal
  rw [if_neg (Nat.not_lt.mpr h)]
  split_ifs <;> decide

theorem memberAnswer_taken (t : State) : memberAnswer (t, Abort.ok) = ({ t with bal := { t.bal with cmdState := 1 } }, Abort.ok) := rfl

theorem memberAnswer_refused {c : Nat} (s : State) (h0 : c ≠ 0) (hv : c ≠ Abort.valueRange) :
    memberAnswer (s, c) = ({ s with bal := { s.bal with cmdState := 3, cmdAbort := c } }, c) := by
  simp only [memberAnswer, hv, h0, if_false]

theorem addGroup_sent (hsel : s.selected = some (i, m)) (hg : g ≤ 4095) (hok : s.addRefusal m g = 0) (ht : s.sendCtl 0x8100 i 4 g 0 [] = some t) :
    addGroup g s = ({ t with bal := { t.bal with cmdState := 1 } }, Abort.ok) := by
  unfold addGroup
  rw [if_neg (Nat.not_lt.mpr hg), ctlForSelected_sent hsel hok ht, memberAnswer_taken]

theorem addGroup_refused (hsel : s.selected = some (i, m)) (hg : g ≤ 4095) (h : s.addRefusal m g ≠ 0) :
    addGroup g s = ({ s with bal := { s.bal with cmdState := 3, cmdAbort := s.addRefusal m g } }, s.addRefusal m g) := by
  unfold addGroup
  rw [if_neg (Nat.not_lt.mpr hg), ctlForSelected_refused hsel h, memberAnswer_refused s h (addRefusal_in_range hg)]

theorem removeGroup_sent (hsel : s.selected = some (i, m)) (hg : g ≤ 4095) (hok : removeRefusal m g = 0)
    (ht : s.sendCtl 0x8100 i 5 g 0 [] = some t) : removeGroup g s = ({ t with bal := { t.bal with cmdState := 1 } }, Abort.ok) := by
  unfold removeGroup
  rw [if_neg (Nat.not_lt.mpr hg), ctlForSelected_sent hsel hok ht, memberAnswer_taken]

theorem configPhase_done {v : Nat} (hsel : s.selected = some (i, m)) (hv : v ≤ 4) :
    configPhase v s = ({ s.phaseConfigured i v with bal := { (s.phaseConfigured i v).bal with cmdState := 2 } }, Abort.ok) := by
  simp only [configPhase, Nat.not_lt.mpr hv, hsel, memberDone, Abort.ok, if_false, if_true]

/-- R267: the detectors of the engine's own that a clearing finds set. -/
theorem clearDetectors_none_set {v : Nat} (h : ∀ d ∈ [3, 4, 5], bit v d = true → bit (s.meterBal i).mask d = false) :
    [3, 4, 5].filter (fun d => bit v d && bit (s.meterBal i).mask d) = [] := by
  rw [List.filter_eq_nil_iff]
  intro d hd both
  rw [Bool.and_eq_true] at both
  rw [h d hd both.1] at both
  exact absurd both.2 (by decide)

theorem clearDetectors_own {v : Nat} (hsel : s.selected = some (i, m)) (hv : v % 8 = 0)
    (h : ∀ d ∈ [3, 4, 5], bit v d = true → bit (s.meterBal i).mask d = false) :
    clearDetectorsCmd v s = ({ s with bal := { s.bal with cmdState := 2 } }, Abort.ok) := by
  simp only [clearDetectorsCmd, hsel, clearDetectors_none_set h, hv, List.foldl_nil, memberDone, Abort.ok, if_true]

theorem clearDetectors_lane {v : Nat} (hsel : s.selected = some (i, m)) (hv : v % 8 ≠ 0) (h : ∀ d ∈ [3, 4, 5], bit v d = false)
    (ht : s.sendCtl 0x8100 i 7 (v % 8) 0 [] = some t) :
    clearDetectorsCmd v s = ({ t with bal := { t.bal with cmdState := 1 } }, Abort.ok) := by
  have none_set := clearDetectors_none_set (s := s) (i := i) (v := v) (fun d hd hb => by rw [h d hd] at hb; exact absurd hb (by decide))
  simp only [clearDetectorsCmd, hsel, none_set, hv, List.foldl_nil, ite_self, if_false]
  rw [ctlForSelected_sent hsel rfl ht, memberAnswer_taken]

/-- R279: a list of one entry. -/
theorem memberBulk_one {b : Bytes} (hlen : b.length = 8) (hm : s.meter (fieldLE b 0 4) ≠ none) (ha : fieldLE b 6 1 ≤ 1)
    (ht : State.sendCtl { s with bal := { s.bal with bulk := [0, 0, maxU32] } } 0x8100 (fieldLE b 0 4) (if fieldLE b 6 1 = 0 then 4 else 5)
      (fieldLE b 4 2) 1 [] = some t) : memberBulk b s = (t, Abort.ok) := by
  obtain ⟨mr, hmr⟩ := Option.ne_none_iff_exists'.mp hm
  have there : State.meter { s with bal := { s.bal with bulk := [0, 0, maxU32] } } (fieldLE b 0 4) = some mr := hmr
  have entry : bulkEntry b (some { s with bal := { s.bal with bulk := [0, 0, maxU32] } }) 0 = some t := by
    simp only [bulkEntry, Option.bind_some, Nat.mul_zero, Nat.zero_add, there, Nat.not_lt.mpr ha, if_false, dictCell]
    exact ht
  have one_entry : (List.range (b.length / 8)).foldl (bulkEntry b) (some { s with bal := { s.bal with bulk := [0, 0, maxU32] } }) = some t := by
    rw [hlen]
    exact entry
  unfold memberBulk
  rw [if_neg (by omega), one_entry]

end Membership

/-- Settles O26: a report by its distance and its run, a command by its checks. -/
theorem phaseAndMembership : Obligations.PhaseAndMembership := by
  refine ⟨fun s r rest m g th room hl hq hr hs hroom hm hg hne href hth => ?_, fun s role i m ht hrole hsel =>
    ⟨fun g t hg hok hsend => ?_, fun g hg h => ?_, fun g hg => ⟨?_, ?_⟩, fun g t hg hok hsend => ?_, fun v hv => ?_, fun v hv => ?_,
     fun v hv h => ?_, fun v t hv h hsend => ?_, fun b t hlen hmeter ha hsend => ?_, fun b hlen => ?_⟩⟩
  · intro s2 off q b run
    have reported := phaseReportApply_local hq hr hs hroom hm hg hne href hth
    have length : s2.cfgB .balance 0x2400 4 = s.cfgB .balance 0x2400 4 := rfl
    refine ⟨fun far => ?_, fun near short => ?_, fun near long new => ?_⟩
    · exact next_of_live rfl hl (reported.trans (phaseAngle_far far))
    · exact next_of_live rfl hl (reported.trans (phaseAngle_counts (s := s2) rfl near (by rw [length]; exact short)))
    · obtain ⟨only, decided, ran⟩ := phaseAngle_decides (s := s2) (i := r.meter) (m := m) (e := s.groupIn g) (th := th) rfl near
        (by rw [length]; exact long) new
      obtain ⟨mtr, cfg, -⟩ := only.1.stands
      exact ⟨_, next_of_live rfl hl reported, decided, ran, mtr, cfg⟩
  · exact next_of_command rfl ht hrole (addGroup_sent hsel hg hok hsend)
  · exact next_of_command rfl ht hrole (addGroup_refused hsel hg h)
  · exact next_of_command rfl ht hrole (if_pos hg)
  · exact next_of_command rfl ht hrole (if_pos hg)
  · exact next_of_command rfl ht hrole (removeGroup_sent hsel hg hok hsend)
  · exact next_of_command rfl ht hrole (configPhase_done hsel hv)
  · exact next_of_command rfl ht hrole (if_pos hv)
  · exact next_of_command rfl ht hrole (clearDetectors_own hsel hv h)
  · exact next_of_command rfl ht hrole (clearDetectors_lane hsel hv h hsend)
  · exact next_of_command rfl ht hrole (memberBulk_one hlen hmeter ha hsend)
  · exact next_of_command rfl ht hrole (if_pos (.inl hlen))

end Sys2Proof.Proofs
end

section
/-!
The power line: blanking and gain (R305, R307), transmission (R284, R289), access to the medium (R304, R313 to R319).
-/
namespace Sys2Proof.Proofs
open Sys2Proof.Machine Sys2Proof.Laws

/-! ### One engine -/

section Engines
variable {s : State} {e : Nat}

theorem eng_updEng_same (h : e < s.plc.engines.length) (f : Engine → Engine) : (s.updEng e f).eng e = f (s.eng e) := at'_upd_same h f

theorem updEng_length (s : State) (e : Nat) (f : Engine → Engine) : (s.updEng e f).plc.engines.length = s.plc.engines.length := length_upd ..

end Engines

/-! ### Blanking and gain -/

section Gain
variable (x : Engine)

theorem bandSample_gain (band : Nat) (v t : Int) : (x.bandSample band v t).gain = x.gain ∧ (x.bandSample band v t).gainAt = x.gainAt := by
  unfold Engine.bandSample
  dsimp only
  split
  · exact ⟨rfl, rfl⟩
  · split
    · exact ⟨rfl, rfl⟩
    · exact ⟨rfl, rfl⟩
    · split <;> exact ⟨rfl, rfl⟩

theorem adcSample_gain (band decim : Nat) (coef : List Int) (thr hold : Nat) (t v : Int) :
    (x.adcSample band decim coef thr hold t v).gain = x.gain ∧ (x.adcSample band decim coef thr hold t v).gainAt = x.gainAt := by
  unfold Engine.adcSample
  dsimp only
  split
  · exact bandSample_gain ..
  · exact ⟨rfl, rfl⟩

/-- R305: samples that come leave the amplifier as it is. -/
theorem adcSamples_gain (band decim : Nat) (coef : List Int) (thr hold : Nat) (t : Int) (l : List Int) :
    (Engine.adcSamples band decim coef thr hold t l x).gain = x.gain ∧ (Engine.adcSamples band decim coef thr hold t l x).gainAt = x.gainAt := by
  induction l generalizing x with
  | nil => exact ⟨rfl, rfl⟩
  | cons v l ih =>
    obtain ⟨gain, gainAt⟩ := ih (x.adcSample band decim coef thr hold (t - ((l.length * 65536000000000 / 1843200 : Nat) : Int)) v)
    obtain ⟨gain', gainAt'⟩ := adcSample_gain x band decim coef thr hold (t - ((l.length * 65536000000000 / 1843200 : Nat) : Int)) v
    exact ⟨gain.trans gain', gainAt.trans gainAt'⟩

variable {x}

/-- R307: within a frame, or within a millisecond of the last step, a gain that follows the signal stands. -/
theorem gainStep_stands {idle : Bool} {now : Nat} (h : idle = false ∨ now < x.gainAt + cMs 1) :
    (x.gainStep 0xFF idle now).gain = x.gain ∧ (x.gainStep 0xFF idle now).gainAt = x.gainAt := by
  have waits : ¬ (idle = true ∧ x.gainAt + cMs 1 ≤ now) := by
    rintro ⟨hi, hn⟩
    rcases h with h | h
    · simp [h] at hi
    · omega
  simp [Engine.gainStep, waits]

end Gain

section AgcStep
variable {s : State} {e : Nat} {samples : List Int}

theorem plcAgcStep_works (hon : s.engineOn e = true) (hsend : (s.eng e).sendUntil ≤ s.now) :
    let f := at' s.sense.fir (8 + e)
    plcAgcStep e samples s = s.updEng e (fun y => Engine.gainStep (Engine.adcSamples (s.band e) (max 1 (at' f.decim f.bank)) (at' f.coefs f.bank)
      (s.cfgN (0x2801 + e) 2) (s.cfgN (0x2801 + e) 3) s.td0 samples y) (s.cfgN (0x2801 + e) 8) ((s.eng e).rx == .search) s.now) := by
  simp only [plcAgcStep, hon, Nat.not_lt.mpr hsend, Bool.not_true, Bool.false_eq_true, or_self, if_false]

theorem plcAgcStep_rests (h : s.engineOn e = false ∨ s.now < (s.eng e).sendUntil) : plcAgcStep e samples s = s := by
  unfold plcAgcStep
  exact if_pos (by simpa using h)

end AgcStep

/-! ### Transmission -/

/-- `t` differs from `s` at most in the power line, in what is put out and in what an event touches. -/
def PlcOnly (s t : State) : Prop :=
  t = { s with plc := t.plc, out := t.out, queue := t.queue, dict := { s.dict with subs := t.dict.subs }, vaultNv := { s.vaultNv with log := t.vaultNv.log } }

namespace PlcOnly
variable {s t u : State}

theorem trans (h : PlcOnly s t) (k : PlcOnly t u) : PlcOnly s u := by
  unfold PlcOnly at *
  rw [h] at k
  exact k

theorem of_events (h : EventsOnly s t) : PlcOnly s t := by
  obtain ⟨_, _, _, rfl⟩ := h
  rfl

theorem updEng (s : State) (e : Nat) (f : Engine → Engine) : PlcOnly s (s.updEng e f) := rfl

theorem put (s : State) (o : Out) : PlcOnly s (s.put o) := rfl

end PlcOnly

theorem eventsOnly_plc {s t : State} (h : EventsOnly s t) : t.plc = s.plc ∧ t.out = s.out := by
  obtain ⟨_, _, _, rfl⟩ := h
  exact ⟨rfl, rfl⟩

section Sending
variable {s : State} {e : Nat}

/-- Engine `e` sends: `t` is `s` with a frame put out. -/
def Sends (s t : State) (e : Nat) : Prop :=
  PlcOnly s t ∧ (t.eng e).txReq = none ∧ (t.eng e).rx = .search ∧ s.now ≤ (t.eng e).sendUntil ∧ ∃ hd tones dac, t.out = s.out ++ [.plc e hd tones dac]

/-- R308: the event of tones over the limit leaves the engine and what has been put out, but for the limit's own count. -/
theorem Sends.limit_event {x : State} (h : Sends s x e) {k d : Nat} {c : Prop} [Decidable c] {b : Bytes} (hx : e < x.plc.engines.length) :
    Sends s (if c then (x.updEng e (fun y => { y with limitAt := some d, limited := 0 })).event 0x2805 k b else x) e := by
  obtain ⟨only, idle, search, busy, sent⟩ := h
  split
  · generalize hy : x.updEng e _ = y
    have told := event_eventsOnly y 0x2805 k b
    obtain ⟨plc, out⟩ := eventsOnly_plc told
    have same : (State.event y 0x2805 k b).eng e = y.eng e := by simp only [State.eng, plc]
    rw [Sends, same, out, ← hy, eng_updEng_same hx]
    exact ⟨(only.trans (.updEng x e _)).trans (.of_events (hy ▸ told)), idle, search, busy, sent⟩
  · exact ⟨only, idle, search, busy, sent⟩

/-- R284, R289, R308: what a transmission leaves. -/
theorem plcSend_sends (he : e < s.plc.engines.length) (f : Bytes) (id : Nat) (b : Int × Nat) : Sends s (s.plcSend e f id b) e := by
  unfold State.plcSend
  dsimp only
  generalize hs0 : s.updEng e (fun y => { y with txReq := none }) = s0
  have idle : (s0.eng e).txReq = none := by rw [← hs0, eng_updEng_same he]
  have there : e < s0.plc.engines.length := by rw [← hs0, updEng_length]; exact he
  have asked : PlcOnly s s0 ∧ s0.out = s.out := by rw [← hs0]; exact ⟨.updEng .., rfl⟩
  generalize hs1 : (if (s.eng e).rx = .search then s0 else s0.plcCount e 5 1) = s1
  have stopped : PlcOnly s0 s1 ∧ s1.out = s0.out ∧ (s1.eng e).txReq = none ∧ e < s1.plc.engines.length := by
    rw [← hs1]
    split
    · exact ⟨rfl, rfl, idle, there⟩
    · refine ⟨.updEng .., rfl, ?_, by rw [State.plcCount, updEng_length]; exact there⟩
      rw [State.plcCount, eng_updEng_same there]
      exact idle
  obtain ⟨only1, out1, idle1, there1⟩ := stopped
  generalize hs2 : (s1.plcCount e 11 1).plcCount e 13 _ = s2
  have counted : PlcOnly s1 s2 ∧ s2.out = s1.out ∧ (s2.eng e).txReq = none ∧ e < s2.plc.engines.length := by
    have first : e < (s1.plcCount e 11 1).plc.engines.length := by rw [State.plcCount, updEng_length]; exact there1
    rw [← hs2]
    refine ⟨(PlcOnly.updEng ..).trans (.updEng ..), rfl, ?_, by rw [State.plcCount, updEng_length]; exact first⟩
    rw [State.plcCount, eng_updEng_same first, State.plcCount, eng_updEng_same there1]
    exact idle1
  obtain ⟨only2, out2, idle2, there2⟩ := counted
  generalize hs3 : s2.updEng e _ = s3
  have sending : PlcOnly s2 s3 ∧ s3.out = s2.out ∧ (s3.eng e).txReq = none ∧ (s3.eng e).rx = .search ∧ s.now ≤ (s3.eng e).sendUntil ∧
      e < s3.plc.engines.length := by
    rw [← hs3, eng_updEng_same there2]
    exact ⟨.updEng .., rfl, idle2, rfl, Nat.le_add_right .., by rw [updEng_length]; exact there2⟩
  obtain ⟨only3, out3, idle3, search, busy, there3⟩ := sending
  refine Sends.limit_event ?_ there3
  refine ⟨((asked.1.trans only1).trans (only2.trans only3)).trans (.put s3 _), idle3, search, busy, ?_⟩
  rw [put_out, out3, out2, out1, asked.2]
  exact ⟨_, _, _, rfl⟩

theorem plcTransmit_no_request (h : (s.eng e).txReq = none) : plcTransmit e s = s := by
  simp only [plcTransmit, h]

variable {f : Bytes} {id : Nat}

theorem plcTransmit_off (h : (s.eng e).txReq = some (f, id)) (hon : s.engineOn e = false) :
    plcTransmit e s = s.updEng e (fun y => { y with txReq := none }) := by
  simp only [plcTransmit, h, hon, Bool.not_false, if_true]

theorem plcTransmit_sends {b : Int × Nat} (h : (s.eng e).txReq = some (f, id)) (hon : s.engineOn e = true) (hb : s.boundaryNow e = some b)
    (hs : (s.eng e).sendUntil ≤ s.now) : plcTransmit e s = s.plcSend e f id b := by
  simp only [plcTransmit, h, hon, hb, Nat.not_lt.mpr hs, Bool.not_true, Bool.false_eq_true, if_false]

theorem plcTransmit_waits (h : (s.eng e).txReq = some (f, id)) (hon : s.engineOn e = true)
    (hw : s.boundaryNow e = none ∨ s.now < (s.eng e).sendUntil) : plcTransmit e s = s := by
  cases hb : s.boundaryNow e with
  | none => simp only [plcTransmit, h, hon, hb, Bool.not_true, Bool.false_eq_true, if_false]
  | some b =>
    have sending : s.now < (s.eng e).sendUntil := by simpa [hb] using hw
    simp only [plcTransmit, h, hon, hb, sending, Bool.not_true, Bool.false_eq_true, if_false, if_true]

end Sending

/-! ### Access -/

section Access
variable {s : State} {e : Nat} {b : Int × Nat}

theorem ackWindowOpen_other (hf : s.macFetch e = s) (hb : s.boundaryNow e = some b) (ho : (s.eng e).openA ≠ some b.1) : ackWindowOpen e s = s := by
  unfold ackWindowOpen
  dsimp only
  rw [hf, hb]
  exact if_pos ho

theorem ackWindowOpen_no_request (hf : s.macFetch e = s) (hb : s.boundaryNow e = some b) (ho : (s.eng e).openA = some b.1)
    (hn : ((s.eng e).acks.find? (fun a => a.deadline == (s.eng e).deadline)) = none) :
    ackWindowOpen e s = s.updEng e (fun y => { y with acks := [], ackMine := false }) := by
  unfold ackWindowOpen
  dsimp only
  rw [hf, hb]
  dsimp only
  rw [if_neg (not_not_intro ho), hn]

theorem ackWindowOpen_request {a : AckReq} (hf : s.macFetch e = s) (hb : s.boundaryNow e = some b) (ho : (s.eng e).openA = some b.1)
    (ha : ((s.eng e).acks.find? (fun a => a.deadline == (s.eng e).deadline)) = some a) (hon : s.engineOn e = true) (hm : (s.eng e).ackMine = true)
    (hq : s.mediumBusy e b.1 = false) (hd : (s.eng e).deadline ≠ 0) :
    let s1 := s.updEng e (fun y => { y with acks := [], ackMine := false })
    let r := s1.buildAck a (.route (s1.ackHops e (s1.meter a.meter) (s.eng e).lastHops)) ((s.eng e).ready.any (fun f => f.meter == a.meter))
      (s1.mapReport e (s.eng e).lastTx)
    (∀ f, r.2 = some f → ackWindowOpen e s = (r.1.accessCount e 1).updEng e (fun y => { y with txReq := some (f, 0) })) ∧
    (r.2 = none → ackWindowOpen e s = r.1) := by
  refine ⟨fun f hr => ?_, fun hr => ?_⟩
  all_goals
    unfold ackWindowOpen
    dsimp only
    rw [hf, hb]
    dsimp only
    rw [if_neg (not_not_intro ho), ha, hon, hm, hq, decide_eq_true hd]
    dsimp only
    rw [hr]
    rfl

theorem backoffBoundary_done (hf : s.macFetch e = s) (hb : s.boundaryNow e = some b) (h : (s.eng e).doneB = some b.1 ∨ s.engineOn e = false) :
    backoffBoundary e s = s := by
  have passed : (s.eng e).doneB = some b.1 ∨ (!s.engineOn e) = true := by simpa using h
  unfold backoffBoundary
  dsimp only
  rw [hf, hb]
  exact if_pos passed

/-- R315 to R319: a frame that may start at the boundary finds the medium busy, is sent, or counts down. -/
theorem backoffBoundary_frame {f : MacFrame} (hf : s.macFetch e = s) (hb : s.boundaryNow e = some b) (hon : s.engineOn e = true)
    (hd : (s.eng e).doneB ≠ some b.1) (hbest : bestFrame (s.eng e).ready = some f) (hreq : (s.eng e).txReq = none)
    (hmay : (s.eng e).mayStart b.1 f.prio = true) :
    backoffBoundary e s =
      (let s1 := s.updEng e (fun y => { y with doneB := some b.1 })
       if s.mediumBusy e b.1 then s1.accessCount e 3
       else if f.backoff = 0 then
         (s1.accessCount e 2).updEng e (fun y => { y with ready := y.ready.erase f, txReq := some (f.frame, s.cfgB (plcBlk e) 0x2800 2) })
       else s1.updEng e (fun y => { y with ready := y.ready.map (fun g => if g == f then { g with backoff := g.backoff - 1 } else g) })) := by
  unfold backoffBoundary
  dsimp only
  rw [hf, hb]
  dsimp only
  rw [if_neg (by simp [hd, hon]), hbest]
  exact if_neg (by simp [hmay, hreq])

end Access

/-! ### Links and routes -/

section Links
variable {s : State} {m : Meter}

theorem neighbourQueryPeriod_no_meters (hp : s.cfgB .plc0 0x2850 6 ≠ 0) (due : s.plc.queryAt.getD 0 0 + cSec (s.cfgB .plc0 0x2850 6) ≤ s.now)
    (hm : s.mtr.table = []) : neighbourQueryPeriod s = { s with plc := { s.plc with queryAt := [s.now] } } := by
  simp only [neighbourQueryPeriod, hp, Nat.not_lt.mpr due, hm, or_self, if_false, List.filter_nil, List.foldl_nil]

theorem neighbourQueryPeriod_off (hp : s.cfgB .plc0 0x2850 6 = 0) : neighbourQueryPeriod s = s := by
  simp only [neighbourQueryPeriod, hp, true_or, if_true]

theorem neighbourReport_one {i : Nat} {d : Bytes} {rest : List (Nat × Bytes)} (hr : s.plc.reports = (i, d) :: rest) (hm : s.meter i = some m)
    (h1 : fieldLE d 0 1 = 1) (hn : fieldLE d 1 2 ≠ 0xFFFE) (hs : fieldLE d 1 2 ≠ m.short) :
    let s1 : State := { s with plc := { s.plc with reports := rest } }
    neighbourReport s = (s1.measureLink (fieldLE d 1 2) m.short ((s1.plcTarget m).1 + 1) (fieldInt d 3 2 * 256) false).recompute m.short 6 := by
  intro s1
  have there : s1.meter i = some m := hm
  unfold neighbourReport
  rw [hr]
  dsimp only
  rw [there]
  dsimp only
  rw [h1, show min 16 1 = 1 from rfl, List.range_one, List.foldl_cons, List.foldl_nil, if_neg (by simp [hn, hs])]

theorem neighbourReport_none (hr : s.plc.reports = []) : neighbourReport s = s := by
  simp only [neighbourReport, hr]

theorem linkAgeExpire_none (h : ∀ l ∈ s.plc.links, s.now < l.lastAt + cSec (s.cfgB (plcBlk (l.engine - 1)) 0x2850 5)) : linkAgeExpire s = s := by
  have no_old : s.plc.links.filter (fun l => decide (l.lastAt + cSec (s.cfgB (plcBlk (l.engine - 1)) 0x2850 5) ≤ s.now)) = [] := by
    rw [List.filter_eq_nil_iff]
    intro l hl
    have := h l hl
    simp only [decide_eq_true_eq]
    omega
  have all_kept : s.plc.links.filter (fun l => !decide (l.lastAt + cSec (s.cfgB (plcBlk (l.engine - 1)) 0x2850 5) ≤ s.now)) = s.plc.links := by
    rw [List.filter_eq_self]
    intro l hl
    have := h l hl
    simp only [Bool.not_eq_true', decide_eq_false_iff_not]
    omega
  simp only [linkAgeExpire, no_old, all_kept, List.foldl_nil]

theorem linkAgeExpire_one {l : Link} (hl : s.plc.links = [l]) (due : l.lastAt + cSec (s.cfgB (plcBlk (l.engine - 1)) 0x2850 5) ≤ s.now)
    (hr : s.plc.routes = []) : linkAgeExpire s = { s with plc := { s.plc with links := [] } } := by
  simp only [linkAgeExpire, hl, List.filter_cons, List.filter_nil, due, decide_true, Bool.not_true, Bool.false_eq_true, if_false, if_true,
    List.foldl_cons, List.foldl_nil, State.recomputeOver, hr]

theorem routePin_direct {i : Nat} {v : Bytes} (hsel : s.selected = some (i, m)) (hlen : v.length = 16) (lo : 1 ≤ fieldLE v 0 1) (hi : fieldLE v 0 1 ≤ 3)
    (h0 : fieldLE v 1 1 = 0) :
    routePin v s = (s.adoptRoute (s.routeOf m.short) m.short (fieldLE v 0 1) []
      (s.bottleneckOf ⟨m.short, fieldLE v 0 1, [], 0, true, 0, false⟩) true 4, Abort.ok) := by
  have engine : ¬ (fieldLE v 0 1 = 0 ∨ 3 < fieldLE v 0 1) := by omega
  unfold routePin
  dsimp only
  rw [if_neg (not_not_intro hlen), if_neg engine, hsel, h0]
  rfl

theorem routePin_too_long {i : Nat} {v : Bytes} (hsel : s.selected = some (i, m)) (hlen : v.length = 16) (lo : 1 ≤ fieldLE v 0 1)
    (hi : fieldLE v 0 1 ≤ 3) (h7 : 7 < fieldLE v 1 1) : routePin v s = (s, Abort.valueInconsistent) := by
  have engine : ¬ (fieldLE v 0 1 = 0 ∨ 3 < fieldLE v 0 1) := by omega
  unfold routePin
  dsimp only
  rw [if_neg (not_not_intro hlen), if_neg engine, hsel]
  exact if_pos (.inl h7)

theorem routeUnpin_route {i : Nat} {r : Route} (hsel : s.selected = some (i, m)) (hr : s.routeOf m.short = some r) :
    routeUnpin 1 s = (if r.pinned = true then (s.putRoute { r with pinned := false }).recompute m.short 5 else s, Abort.ok) := by
  simp only [routeUnpin, one_one, hsel, hr]
  split <;> rfl

end Links

/-- Settles O28: an engine by its power, its boundary and the medium; links and routes by their ages and pins. -/
theorem plcAccess : Obligations.PlcAccess := by
  refine ⟨fun s e hl => ⟨fun samples hon hgain hearly hsend hlen => ?_, fun samples h => ?_, fun h => ?_, fun f id b h hon hb hs hlen => ?_,
      fun f id h hon hw => ?_, fun f id h hon => ?_, fun b hf hb => ⟨fun ho => ?_, fun ho hn => ?_, fun a ho ha hon hm hq hd => ⟨fun f hr => ?_, fun hr => ?_⟩⟩,
      fun f b hf hb hon hd hbest hreq hmay => ⟨fun hq => ?_, fun hq h0 => ?_, fun hq h0 => ?_⟩, fun b hf hb h => ?_⟩,
    fun s hl hp due hm => ?_, fun s hl hp => ?_, fun s i d rest m hl hr hm h1 hn hs => ?_, fun s hl hr => ?_, fun s hl h => ?_,
    fun s l hl hlinks due hr => ?_, fun s role i m v ht hrole hsel hlen lo hi h0 => ?_, fun s role i m v ht hrole hsel hlen lo hi h7 => ?_,
    fun s role i m r ht hrole hsel hr => ?_⟩
  · have works := plcAgcStep_works (samples := samples) hon hsend
    dsimp only at works
    rw [hgain] at works
    have there : (e : Nat) < s.plc.engines.length := by rw [hlen]; exact e.isLt
    refine ⟨_, next_of_running rfl hl works, ?_⟩
    rw [eng_updEng_same there, ← and_assoc]
    refine ⟨?_, rfl⟩
    generalize hx : Engine.adcSamples _ _ _ _ _ _ samples (s.eng e) = x
    obtain ⟨gain, gainAt⟩ : x.gain = (s.eng e).gain ∧ x.gainAt = (s.eng e).gainAt := hx ▸ adcSamples_gain ..
    have early : ((s.eng e).rx == PlcRx.search) = false ∨ s.now < x.gainAt + cMs 1 := by simpa [gainAt] using hearly
    rw [← gain, ← gainAt]
    exact gainStep_stands early
  · exact next_of_running rfl hl (plcAgcStep_rests h)
  · exact next_of_running rfl hl (plcTransmit_no_request h)
  · have there : (e : Nat) < s.plc.engines.length := by rw [hlen]; exact e.isLt
    obtain ⟨only, idle, search, busy, sent⟩ := plcSend_sends there f id b
    exact ⟨_, next_of_running rfl hl (plcTransmit_sends h hon hb hs), idle, search, busy, sent, only⟩
  · exact next_of_running rfl hl (plcTransmit_waits h hon hw)
  · exact next_of_running rfl hl (plcTransmit_off h hon)
  · exact next_of_running rfl hl (ackWindowOpen_other hf hb ho)
  · exact next_of_running rfl hl (ackWindowOpen_no_request hf hb ho hn)
  · exact next_of_running rfl hl ((ackWindowOpen_request hf hb ho ha hon hm hq hd).1 f hr)
  · exact next_of_running rfl hl ((ackWindowOpen_request hf hb ho ha hon hm hq hd).2 hr)
  · exact next_of_running rfl hl ((backoffBoundary_frame hf hb hon hd hbest hreq hmay).trans (if_pos hq))
  · exact next_of_running rfl hl ((backoffBoundary_frame hf hb hon hd hbest hreq hmay).trans ((if_neg (by simp [hq])).trans (if_pos h0)))
  · exact next_of_running rfl hl ((backoffBoundary_frame hf hb hon hd hbest hreq hmay).trans ((if_neg (by simp [hq])).trans (if_neg h0)))
  · exact next_of_running rfl hl (backoffBoundary_done hf hb h)
  · exact next_of_running rfl hl (neighbourQueryPeriod_no_meters hp due hm)
  · exact next_of_running rfl hl (neighbourQueryPeriod_off hp)
  · exact next_of_live rfl hl (neighbourReport_one hr hm h1 hn hs)
  · exact next_of_live rfl hl (neighbourReport_none hr)
  · exact next_of_live rfl hl (linkAgeExpire_none h)
  · exact next_of_live rfl hl (linkAgeExpire_one hlinks due hr)
  · exact next_of_command rfl ht hrole (routePin_direct hsel hlen lo hi h0)
  · exact next_of_command rfl ht hrole (routePin_too_long hsel hlen lo hi h7)
  · exact next_of_command rfl ht hrole (routeUnpin_route hsel hr)

end Sys2Proof.Proofs
end

section
/-!
Reception by radio: front end and IQ interface (R338 to R344), slots and schedules (R350, R375), frames (R354, R366).
-/
namespace Sys2Proof.Proofs
open Sys2Proof.Machine Sys2Proof.Laws

/-! ### An element changed in place -/

/-- Two changes of an element that agree on the value there leave the same list. -/
theorem upd_congr {α : Type} [Inhabited α] {l : List α} {i : Nat} {f g : α → α} (h : f (at' l i) = g (at' l i)) : upd l i f = upd l i g := by
  unfold upd
  by_cases hi : i < l.length
  · have there : at' l i = l[i] := by simp [at', hi]
    rw [List.modify_eq_set_get f hi, List.modify_eq_set_get g hi, List.get_eq_getElem, ← there, h]
  · rw [List.modify_eq_self (by omega), List.modify_eq_self (by omega)]

/-- A change that keeps the value there leaves the list. -/
theorem upd_stands {α : Type} [Inhabited α] {l : List α} {i : Nat} {f : α → α} (h : f (at' l i) = at' l i) : upd l i f = l :=
  (upd_congr (g := id) h).trans (List.modify_id ..)

section Macs
variable {s : State} {p : Nat} {f g : RadioMac → RadioMac}

theorem updMac_congr (h : f (s.mac p) = g (s.mac p)) : s.updMac p f = s.updMac p g := by
  unfold State.updMac
  rw [upd_congr h]

theorem updMac_stands (h : f (s.mac p) = s.mac p) : s.updMac p f = s := by
  unfold State.updMac
  rw [upd_stands h]

end Macs

theorem updPort_updPort (s : State) (p : Nat) (f g : RadioPort → RadioPort) : (s.updPort p f).updPort p g = s.updPort p (fun x => g (f x)) := by
  unfold State.updPort upd
  rw [List.modify_modify_eq]
  rfl

/-! ### The front end -/

section FrontEnd
variable {s : State} {p t param : Nat} {miso : Bytes} {waits : List Bool}

theorem scriptRun_none (h : nextTrigger (s.port p).triggers = none) : scriptRun p miso waits s = s := by
  unfold scriptRun
  rw [h]

/-- R344: words past the end of the table end a script with cause 3. -/
theorem runScript_past (table : Bytes) (dir fuel pc : Nat) (r : ScriptRun) (h : 1023 < pc) : runScript table dir param (fuel + 1) pc r = (3, pc, r) :=
  if_pos h

/-- R342: a trigger whose script is gone fails with cause 3 at the end of the table. -/
theorem scriptRun_no_start (h : nextTrigger (s.port p).triggers = some (t, param)) (hs : s.scriptStart p t = none) :
    scriptRun p miso waits s =
      (let s0 := s.updPort p (fun y => { y with triggers := y.triggers.erase (t, param), ctl := s.ctlIdle p (s.port p).ctl, capture := (s.port p).capture })
       let d := (s0.event 0x3003 (spiCell p) ([byte p, byte t, 3, 0] ++ leBytes 2 1024)).triggerDone p t 3
       d.2.foldl (fun st q => st.trigger 3 p q.1 q.2) d.1) := by
  unfold scriptRun
  rw [h]
  dsimp only
  rw [hs, Option.getD_none, runScript_past _ _ _ _ _ (by omega)]
  rw [updPort_updPort]
  simp only [List.foldl_nil, OfNat.ofNat_ne_zero, if_false]
  rfl

/-- R362: a trigger of the host's is raised while the port's SPI cell is in service. -/
theorem userTrigger_step {c : Instr} {role sub : Nat} (hc : exec c s = s.command 0x3006 sub role .operator (userTrigger p t))
    (ht : TakesCommands s) (hr : roleMay role .operator = true) :
    exec c s = .next (if s.inService (spiCell p) = true then (s.trigger 3 p t 0).put (.answer 0x3006 sub Abort.ok)
      else s.put (.answer 0x3006 sub Abort.fenced)) := by
  split
  case isTrue h => exact next_of_command hc ht hr (if_neg (by simp [h]))
  case isFalse h => exact next_of_command hc ht hr (if_pos (by simp [h]))

theorem frontEndAlarm_iff {line : Nat} : frontEndAlarm p line s =
    if bit (s.portN p 21) line = false ∧ bit (s.portN p 23) line = true then s.event 0x3006 (spiCell p) [byte p, byte line] else s := by
  unfold frontEndAlarm
  simp only [Bool.and_eq_true, Bool.not_eq_true']

end FrontEnd

/-! ### The IQ interface -/

section Iq
variable {s : State} {p : Nat} {samples : List (Int × Int)}

theorem agcBlock_off (h : s.portOn p = false) : agcBlock p samples s = s := if_pos (.inl (by rw [h]; rfl))

/-- R361: with a fixed gain a block that does not complete 1 ms only adds to the power and counts its clipping. -/
theorem agcBlock_fixed (hon : s.portOn p = true) (hs : s.inService (iqCell p) = true) (hg : s.portN p 16 ≠ 0xFF) (hn : (s.port p).powerBlocks < 99) :
    let w := phaseTrig (s.portI p 5)
    let r := correctSamples (s.portN p 2 == 1) (s.portN p 3) (s.portI p 4) w.2 w.1 (s.port p).dcI (s.port p).dcQ samples
    let s1 := (s.channelize p r.2.2).updPort p (fun y => { y with
      dcI := r.1, dcQ := r.2.1, powerSum := (s.port p).powerSum + meanPower (r.2.2.map (fun v => (v.1 * v.1 + v.2 * v.2).toNat))
      powerBlocks := (s.port p).powerBlocks + 1 })
    agcBlock p samples s = if samples.any (fun v => v.1 == 2047 || v.1 == -2048 || v.2 == 2047 || v.2 == -2048) = true then
      (s1.radioCount p 7 1).updPort p (fun y => { y with clipSecond := y.clipSecond + 1 }) else s1 := by
  intro w r s1
  have full : decide (100 ≤ (s.port p).powerBlocks + 1) = false := decide_eq_false (by omega)
  have auto : decide (s.portN p 16 = 0xFF) = false := decide_eq_false hg
  unfold agcBlock
  dsimp only
  rw [if_neg (by simp [hon, hs]), full, auto]
  simp only [Bool.false_eq_true, false_and, if_false]
  rfl

theorem rxClipping_none (h : (s.port p).clipSecond = 0) : rxClipping p s = s := if_neg fun hc => by omega

end Iq

/-! ### Slots and schedules -/

section Slots
variable {s : State} {p : Nat}

theorem scheduleActivated_due {b : Bytes} (h : (s.mac p).pending = some b) (hn : s.slotBoundaryNow = true) (hl : (s.mac p).lastAsn ≠ asnOf (s.td 2))
    (ha : fieldLE b 8 5 = 0 ∨ fieldLE b 8 5 ≤ asnOf (s.td 2)) :
    scheduleActivated p s = (s.updMac p (fun m => { m with sched := b, pending := none })).event 0x3110 (radioMacCell p)
      (byte p :: leBytes 5 (asnOf (s.td 2)) ++ [0, 0] ++ leBytes 4 (schHash b)) := by
  unfold scheduleActivated
  rw [h]
  exact if_pos ⟨hn, hl, ha⟩

theorem scheduleActivated_early {b : Bytes} (h : (s.mac p).pending = some b) (h0 : fieldLE b 8 5 ≠ 0) (ha : asnOf (s.td 2) < fieldLE b 8 5) :
    scheduleActivated p s = s := by
  unfold scheduleActivated
  rw [h]
  exact if_neg fun ⟨_, _, due⟩ => due.elim h0 (Nat.not_le.mpr ha)

theorem slotBoundary_none (h : s.portOn p = false ∨ s.slotBoundaryNow = false) : slotBoundary p s = s :=
  if_pos (h.elim (fun h => .inl (by rw [h]; rfl)) (fun h => .inr (.inl (by rw [h]; rfl))))

/-- R350, R367: a boundary of a MAC with no meters and nothing to send opens its slot. -/
theorem slotBoundary_quiet (hon : s.portOn p = true) (hn : s.slotBoundaryNow = true) (hl : (s.mac p).lastAsn ≠ asnOf (s.td 2))
    (hst : at' s.radio.stepped p = false) (hc : (s.mac p).children = []) (hf : s.macFetch (3 + p) = s) (hr : (s.mac p).ready = []) :
    slotBoundary p s = (s.updMac p (fun m => { m with
        lastAsn := asnOf (s.td 2), slotFrames := []
        wait := if (cellsAt (s.mac p).sched (asnOf (s.td 2))).any (fun c => c.kind == 4) then m.wait - 1 else m.wait
        ready := [] })).assignDemods p
      ((listenCells (s.mac p).sched (asnOf (s.td 2))).map (fun c => (hopChannel (s.hopSeq p (s.mac p).sched) (asnOf (s.td 2)) c.choff, c))) := by
  unfold slotBoundary
  dsimp only
  rw [if_neg (by simp [hon, hn, hl]), hst, if_neg Bool.false_ne_true, hc, List.foldl_nil, hf]
  rw [updMac_congr]
  rw [hr, List.map_nil]

end Slots

/-! ### Frames -/

section Frames
variable {s : State} {p d : Nat} {air : List Bool}

theorem sfdFound_searching {coded : Bool} (hon : s.portOn p = true) (hc : (s.port p).iqCause = 0) (ht : (s.port p).iqSince ≤ s.now)
    (hi : s.inService (iqCell p) = true) (hd : s.inService (demodCell p d) = true) (h1 : (at' (s.port p).demods d).state = 1) :
    let dm := at' (s.port p).demods d
    sfdFound p d coded s = (s.radioCount p 1 1).updPort p (fun y => { y with demods := y.demods.set d { dm with
      state := 2, stamp := s.now - cNs (sfdDelay dm.mode + s.portN p 6), gainDb := s.gainDb p (s.port p).gainEntry
      coded := coded, slot := asnOf (s.td 2), slotAt := slotStart (s.td 2), gains := at' (s.port p).counters 12, moved := false, next := none
      due := phrPowers dm.mode coded - latePowers dm.mode } }) :=
  if_pos (by simp [hon, hc, ht, hi, hd, h1])

theorem radioFrameEnd_idle (h : (at' (s.port p).demods d).state ≠ 2) : radioFrameEnd p d air s = s := if_pos h

/-- R353: the bytes of FCS that a header announces. -/
def fcsBytes (phr : Nat) : Nat := if bit phr 3 = true then 2 else 4

theorem two_le_fcsBytes (phr : Nat) : 2 ≤ fcsBytes phr := by
  unfold fcsBytes
  split <;> omega

/-- R353: a header that begins a frame that can be received. -/
structure HeaderTaken (phr : Nat) : Prop where
  single : bit phr 0 = false
  reserved1 : bit phr 1 = false
  reserved2 : bit phr 2 = false
  least : fcsBytes phr + 1 ≤ phr / 32
  most : phr / 32 ≤ 259

/-- The test by which the model refuses a header. -/
theorem HeaderTaken.not_refused {phr : Nat} (h : HeaderTaken phr) :
    ¬ (bit phr 1 = true ∨ bit phr 2 = true ∨ phr / 32 < 3 ∨ 259 < phr / 32 ∨ phr / 32 < fcsBytes phr + 1) := by
  obtain ⟨_, h1, h2, least, most⟩ := h
  have := two_le_fcsBytes phr
  simp only [h1, h2, Bool.false_eq_true, false_or]
  omega

section Receiving
variable {phr : Nat} {psdu : Bytes} (h2 : (at' (s.port p).demods d).state = 2) (hr : airRead (at' (s.port p).demods d).coded air = (phr, psdu))
include h2 hr

theorem radioFrameEnd_mode_switch (h0 : bit phr 0 = true) : radioFrameEnd p d air s = (s.demodDone p d).radioCount p 2 1 := by
  unfold radioFrameEnd
  dsimp only
  rw [if_neg (not_not_intro h2), hr]
  exact if_pos h0

theorem radioFrameEnd_refused (h0 : bit phr 0 = false) (hbad : bit phr 1 = true ∨ bit phr 2 = true ∨ phr / 32 < fcsBytes phr + 1 ∨ 259 < phr / 32) :
    radioFrameEnd p d air s = (s.demodDone p d).radioCount p 3 1 := by
  unfold radioFrameEnd
  dsimp only
  rw [if_neg (not_not_intro h2), hr]
  refine (if_neg (by simp [h0])).trans (if_pos ?_)
  obtain h | h | h | h := hbad
  · exact .inl h
  · exact .inr (.inl h)
  · exact .inr (.inr (.inr (.inr h)))
  · exact .inr (.inr (.inr (.inl h)))

theorem radioFrameEnd_fcs (ht : HeaderTaken phr)
    (hf : psdu.length ≠ phr / 32 ∨ psdu.drop (phr / 32 - fcsBytes phr) ≠ fcsOf (fcsBytes phr) (psdu.take (phr / 32 - fcsBytes phr))) :
    radioFrameEnd p d air s = (s.demodDone p d).radioCount p 4 1 := by
  unfold radioFrameEnd
  dsimp only
  rw [if_neg (not_not_intro h2), hr]
  exact (if_neg (by simp [ht.single])).trans ((if_neg ht.not_refused).trans (if_pos hf))

end Receiving
end Frames

/-- Settles O29: a rule for each step of the front end, of a slot and of a frame. -/
theorem radioReception : Obligations.RadioReception := by
  unfold Obligations.RadioReception
  refine ⟨⟨fun s p miso waits hl h => next_of_live rfl hl (scriptRun_none h), fun s p miso waits t param hl h hs => ?_,
    fun s p role ht hr => ⟨?_, ?_⟩, fun s p line hl => ?_, fun s p cause hl hb hc => ?_, fun s p cause hl hc => ?_, fun s p hl hc => ?_,
    fun s p hl hc => ?_, fun s p samples hl h => ?_, fun s p samples hl hon hs hg hn => ?_, fun s p hl hc hs => ?_, fun s p hl hc => ?_⟩,
    fun s p hl => ⟨?_, fun b hp hn ha hb => ?_, fun b hp h0 ha => ?_, fun h => ?_, fun hon hn ha hst hc hf hr => ?_,
      fun d coded hrun hon hc ht hi hd h1 => ?_, fun d air hrun h => ?_, fun d air hrun h2 => ?_⟩⟩
  · exact next_of_live rfl hl (scriptRun_no_start h hs)
  · exact userTrigger_step rfl ht hr
  · exact userTrigger_step rfl ht hr
  · exact next_of_live rfl hl frontEndAlarm_iff
  · exact next_of_live rfl hl (if_pos ⟨hb, hc⟩)
  · exact next_of_live rfl hl (if_neg fun h => hc h.2)
  · exact next_of_live rfl hl (if_neg hc)
  · exact next_of_live rfl hl (if_pos hc)
  · exact next_of_live rfl hl (agcBlock_off h)
  · intro w r s1
    have step := agcBlock_fixed (samples := samples) hon hs hg hn
    exact ⟨fun h => next_of_live rfl hl (step.trans (if_neg (by rw [h]; exact Bool.false_ne_true))), fun h => next_of_live rfl hl (step.trans (if_pos h))⟩
  · exact next_of_live rfl hl (if_pos ⟨hc, hs⟩)
  · exact next_of_live rfl hl (rxClipping_none hc)
  · exact next_of_live rfl hl rfl
  · exact next_of_live rfl hl (scheduleActivated_due hp hn ha hb)
  · exact next_of_live rfl hl (scheduleActivated_early hp h0 ha)
  · exact next_of_live rfl hl (slotBoundary_none h)
  · exact next_of_live rfl hl (slotBoundary_quiet hon hn ha hst hc hf hr)
  · exact next_of_radio rfl hrun (sfdFound_searching hon hc ht hi hd h1)
  · exact next_of_radio rfl hrun (radioFrameEnd_idle h)
  · exact ⟨fun h0 => next_of_radio rfl hrun (radioFrameEnd_mode_switch h2 rfl h0),
      fun h0 hbad => next_of_radio rfl hrun (radioFrameEnd_refused h2 rfl h0 hbad),
      fun h0 h1 hb lo hi hf => next_of_radio rfl hrun (radioFrameEnd_fcs h2 rfl ⟨h0, h1, hb, lo, hi⟩ hf)⟩

end Sys2Proof.Proofs
end

section
/-!
Transmission by radio (R355 to R357), good frames (R354, R359, R366), and what a port sends in a slot (R368 to R370, R379, R383, R387, R390).
-/
namespace Sys2Proof.Proofs
open Sys2Proof.Machine Sys2Proof.Laws

/-! ### The transmitter -/

section Transmitter
variable {s : State} {p : Nat} {j : TxJob}

theorem txRequest_accepted (h : (s.port p).tx.find? (fun k => k.phase == .asked) = some j) (hon : s.portOn p = true) (hs : s.inService (txCell p) = true)
    (hc : s.channelMode p j.channel j.mode = true) (ht : s.now + cUs (s.portN p 8) ≤ j.startAt) :
    txRequest p s = s.updPort p (fun x => { x with tx := x.tx.map (fun k => if k == j then { k with phase := .accepted } else k) }) := by
  unfold txRequest
  rw [h]
  exact if_pos (by simp [hon, hs, hc, ht])

theorem txRequest_late (h : (s.port p).tx.find? (fun k => k.phase == .asked) = some j) (ht : j.startAt < s.now + cUs (s.portN p 8)) :
    txRequest p s = ((s.radioCount p 10 1).updPort p (fun x => { x with tx := x.tx.erase j })).notSent p j := by
  unfold txRequest
  rw [h]
  exact if_neg (by simp [ht])

theorem txOn_at (h : (s.port p).tx.find? (fun k => k.phase == .accepted) = some j) :
    txOn p s = if j.startAt ≤ s.now + cUs (s.portN p 8) then
      (s.updPort p (fun x => { x with tx := x.tx.map (fun k => if k == j then { k with phase := .onRaised } else k) })).trigger 3 p 2 0 else s := by
  unfold txOn
  rw [h]

section Start
variable (h : (s.port p).tx.find? (fun k => k.phase == .onDone || k.phase == .onRaised || k.phase == .onFailed) = some j)
include h

theorem transmissionStart_early (ht : s.now + cNs (s.portN p 7) < j.startAt) : transmissionStart p s = s := by
  unfold transmissionStart
  rw [h]
  exact if_pos ht

variable (ht : j.startAt ≤ s.now + cNs (s.portN p 7)) (hon : s.portOn p = true) (hs : s.inService (txCell p) = true)
include ht hon hs

/-- R356, R369: an acknowledgement leaves, never coded. -/
theorem transmissionStart_ack (hp : j.phase = .onDone) (ho : j.origin = 1) :
    transmissionStart p s = (((s.radioCount p 9 1).updPort p (fun x => { x with
        air := some (s.airFor p j), tx := x.tx.map (fun k => if k == j then { k with phase := .sending } else k) })).dwellAdd p j.channel
          (s.airNs p j.mode (s.sentAs p j.frame.length true).1 (s.sentAs p j.frame.length true).2)).put
      (.radio p j.startAt j.channel j.mode (s.sentAs p j.frame.length true).2
        (phrOf (s.portN p 10) (s.portN p 12 == 1) (s.sentAs p j.frame.length true).1) (j.frame ++ fcsOf (s.portN p 10) j.frame) (s.airFor p j)) := by
  unfold transmissionStart
  rw [h]
  dsimp only
  rw [if_neg (Nat.not_lt.mpr ht), if_neg (by simp [hon, hs]), hp, ho]
  rfl

theorem transmissionStart_failed (hp : j.phase = .onFailed) : transmissionStart p s = s.txAbandon p 2 j := by
  unfold transmissionStart
  rw [h]
  dsimp only
  rw [if_neg (Nat.not_lt.mpr ht), if_neg (by simp [hon, hs]), hp]

end Start

theorem transmissionEnd_at (h : (s.port p).tx.find? (fun k => k.phase == .sending) = some j) :
    transmissionEnd p s = if s.airEnds p ≤ s.now then (s.updPort p (fun x => { x with tx := x.tx.erase j, air := none })).trigger 3 p 3 0 else s := by
  unfold transmissionEnd
  rw [h]

theorem transmissionEnd_none (h : (s.port p).tx = []) : transmissionEnd p s = s := by
  unfold transmissionEnd
  rw [h, List.find?_nil]

end Transmitter

/-! ### Good frames -/

/-- R367: where the start of a frame lies in its slot, in ns. -/
def frameOffset (s : State) (p : Nat) (dm : Demod) : Int := nsOf (s.tdAt 2 dm.stamp) - s.shrNs p dm.mode - dm.slotAt

/-- R162: the counter value by which a frame of a slot must be acknowledged. -/
def frameDeadline (s : State) (dm : Demod) : Nat := s.counterOfTd2 (dm.slotAt + 21000000) - cUs (s.cfgN 0x4004 2)

section Good
variable {s : State} {p d phr : Nat} {air : List Bool} {psdu f : Bytes} (h2 : (at' (s.port p).demods d).state = 2)
  (hr : airRead (at' (s.port p).demods d).coded air = (phr, psdu)) (ht : HeaderTaken phr) (hl : psdu.length = phr / 32)
  (hf : psdu.take (phr / 32 - fcsBytes phr) = f) (hfcs : psdu.drop (phr / 32 - fcsBytes phr) = fcsOf (fcsBytes phr) f)
include h2 hr ht hl hf hfcs

/-- What is made of a frame whose FCS is right. -/
theorem radioFrameEnd_good : radioFrameEnd p d air s =
    (let dm := at' (s.port p).demods d
     let s0 := s.demodDone p d
     let td2 := s.tdAt 2 dm.stamp
     if s.power.phase = .lastGasp ∧ fType f ≠ 2 then s0.radioCount p 6 1
     else if !isUplink (fType f) ∧ 8 ≤ fType f ∧ fType f ≤ 0xD then (s0.radioCount p 5 1).macCount p 10
     else if !s.inWindow p dm.cell (frameOffset s p dm) td2 then (s0.radioCount p 5 1).macCount p 9
     else
       let dl := frameDeadline s dm
       let r := (s0.macHears p dm f (frameOffset s p dm) dl).pushOrDrop (3 + p) (demodCell p d) (s.radioMeta p d dm f.length (phr / 32) dl (fcsBytes phr == 4) ++ f)
       if r.2 then r.1.radioCount p 5 1 else r.1.radioOverrun p) := by
  unfold radioFrameEnd
  dsimp only
  rw [if_neg (not_not_intro h2), hr]
  dsimp only
  rw [if_neg (by simp [ht.single])]
  refine (if_neg ht.not_refused).trans ((if_neg ?_).trans ?_)
  · rw [not_or, not_not, not_not]
    exact ⟨hl, hf ▸ hfcs⟩
  · subst hf
    rfl

theorem radioFrameEnd_last_gasp (hp : s.power.phase = .lastGasp) (h : fType f ≠ 2) : radioFrameEnd p d air s = (s.demodDone p d).radioCount p 6 1 :=
  (radioFrameEnd_good h2 hr ht hl hf hfcs).trans (if_pos ⟨hp, h⟩)

variable (hp : s.power.phase = .run) (hu : fType f ≤ 2)
include hp hu

theorem radioFrameEnd_outside (hw : s.inWindow p (at' (s.port p).demods d).cell (frameOffset s p (at' (s.port p).demods d))
    (s.tdAt 2 (at' (s.port p).demods d).stamp) = false) :
    radioFrameEnd p d air s = ((s.demodDone p d).radioCount p 5 1).macCount p 9 :=
  (radioFrameEnd_good h2 hr ht hl hf hfcs).trans
    ((if_neg fun h => by simp [hp] at h).trans ((if_neg fun h => by omega).trans (if_pos (by rw [hw]; rfl))))

/-- R359, R366: a good frame in its window enters the ingest queue of the port. -/
theorem radioFrameEnd_taken {t : State} (hw : s.inWindow p (at' (s.port p).demods d).cell (frameOffset s p (at' (s.port p).demods d))
    (s.tdAt 2 (at' (s.port p).demods d).stamp) = true)
    (hq : ((s.demodDone p d).macHears p (at' (s.port p).demods d) f (frameOffset s p (at' (s.port p).demods d))
      (frameDeadline s (at' (s.port p).demods d))).pushOrDrop (3 + p)
      (demodCell p d) (s.radioMeta p d (at' (s.port p).demods d) f.length (phr / 32) (frameDeadline s (at' (s.port p).demods d))
        (fcsBytes phr == 4) ++ f) = (t, true)) :
    radioFrameEnd p d air s = t.radioCount p 5 1 := by
  rw [radioFrameEnd_good h2 hr ht hl hf hfcs]
  dsimp only
  rw [if_neg fun h => by simp [hp] at h, if_neg fun h => by omega, if_neg (by simp [hw]), hq]
  rfl

end Good

/-! ### Beacons -/

section Beacons
variable {s : State} {p : Nat}

theorem beaconSend_no_cell (h : (cellsAt (s.mac p).sched (asnOf (s.td 2))).any (fun c => c.kind == 0) = false) : beaconSend p s = s := by
  unfold beaconSend
  dsimp only
  rw [List.find?_eq_none.mpr fun c hc => by simpa using (List.any_eq_false.mp h) c hc]

/-- R379: in a BEACON cell the beacon under the network key in force is asked of the port at 2 ms. -/
theorem beaconSend_cell {c : CellDef} {f : Bytes} {r : State}
    (hc : (cellsAt (s.mac p).sched (asnOf (s.td 2))).find? (fun c => c.kind == 0) = some c) (hon : s.portOn p = true)
    (ha : (s.mac p).beaconAsn ≠ asnOf (s.td 2)) (hslot : s.slotAhead = true) (hprev : s.mtr.prevUntil = none)
    (hbuilt : s.buildNetwork s.networkSlot s.net.gen 0xC
      (.flood (s.cfgB (radioBlk p) 0x3102 3 * 4096 + (s.mac p).beacons % 4096) (s.cfgB (radioBlk p) 0x3102 3))
      (leBytes 5 (asnOf (s.td 2)) ++ [0] ++ leBytes 4 (schHash (s.mac p).sched) ++ time80 ((slotStart (s.td 2) + 2000000) * 65536)) = (r, some f)) :
    beaconSend p s =
      (let s1 := r.updMac p (fun x => { x with beacons := x.beacons + 1, beaconAsn := asnOf (s.td 2) })
       let ch := hopChannel (s.hopSeq p (s.mac p).sched) (asnOf (s.td 2)) c.choff
       if s1.dwellOk p ch (s1.sendNs p c.mode f.length false) = true then
         (s1.markSeen p 0 (s.cfgB (radioBlk p) 0x3102 3 * 4096 + (s.mac p).beacons % 4096)).askTx p
           ⟨f, ch, c.mode, s.counterOfTd2 (slotStart (s.td 2) + 2000000), 0, .asked, none⟩
       else s1.macCount p 2) := by
  unfold beaconSend
  dsimp only
  rw [hc]
  dsimp only
  have current : (decide (s.mtr.prevUntil.isSome = true ∧ s.mtr.unconfirmed ≠ []) && (s.mac p).beacons % 2 == 1) = false := by simp [hprev]
  rw [if_neg (by simp [hon, ha, hslot]), current, if_neg Bool.false_ne_true, if_neg Bool.false_ne_true, hbuilt]

end Beacons

/-! ### Acknowledgements -/

section Acks
variable {s : State} {p : Nat} (hf : s.macFetch (3 + p) = s)
include hf

theorem radioAckSend_early (ht : s.now + cUs (s.cfgN 0x4004 2) < s.counterOfTd2 (slotStart (s.td 2) + 21000000)) : radioAckSend p s = s := by
  unfold radioAckSend
  dsimp only
  rw [hf]
  exact if_pos ht

variable (ht : s.counterOfTd2 (slotStart (s.td 2) + 21000000) ≤ s.now + cUs (s.cfgN 0x4004 2))
include ht

theorem radioAckSend_none (ha : (s.mac p).acks = []) : radioAckSend p s = s.updMac p (fun x => { x with acks := [] }) := by
  unfold radioAckSend
  dsimp only
  rw [hf, if_neg (Nat.not_lt.mpr ht), ha]
  rfl

/-- R369: the one claim of a slot is answered at 21 ms. -/
theorem radioAckSend_one {a : AckReq} {x : SlotFrame} {r : State} {f : Bytes} (ha : (s.mac p).acks = [a]) (hx : claimOf (s.mac p).slotFrames a = some x)
    (hb : ((s.updMac p (fun y => { y with acks := [] })).updMac p (fun y => { y with counters := upd y.counters 6 (· + 0) })).buildAck a (.route [])
      ((s.mac p).hasFor a.meter) [] = (r, some f)) (hon : s.portOn p = true) (hbusy : s.txBusy p = false)
    (hfit : max 0 (x.start - 2000000) + s.sendNs p (if x.mode = 2 then 2 else 1) f.length true ≤ 4000000)
    (hd : s.dwellOk p x.channel (s.sendNs p (if x.mode = 2 then 2 else 1) f.length true) = true) :
    radioAckSend p s = r.askTx p ⟨f, x.channel, if x.mode = 2 then 2 else 1,
      s.counterOfTd2 (slotStart (s.td 2) + 21000000 + max 0 (x.start - 2000000)), 1, .asked, none⟩ := by
  unfold radioAckSend
  dsimp only
  rw [hf, if_neg (Nat.not_lt.mpr ht), ha, List.filterMap_cons, hx]
  dsimp only [Option.map_some, List.filterMap_nil, List.foldl_nil, List.length_nil]
  rw [hb]
  dsimp only
  refine (if_neg ?_).trans (if_neg fun h => Bool.false_ne_true ((congrArg (!·) hd).symm.trans h))
  rw [hon, hbusy]
  rintro (h | h | h)
  · cases h
  · cases h
  · exact absurd hfit (Int.not_le.mpr h)

end Acks

/-! ### DOWN cells and FLOOD cells -/

section Cells
variable {s : State} {p : Nat} {c : CellDef} {f : MacFrame}

theorem dropTooLong_empty (hr : (s.mac p).ready = []) (hb : (s.mac p).blocks = []) : s.dropTooLong p = s := by
  unfold State.dropTooLong
  dsimp only
  rw [hr, hb]
  rfl

theorem pickFrame_one {ch mode : Nat} (hfit : s.fitsCell p mode f.frame.length = true) (hd : s.dwellOk p ch (s.sendNs p mode f.frame.length false) = true) :
    s.pickFrame p ch mode [f] = (s, some f) := by
  unfold State.pickFrame
  rw [if_neg (by simp [hfit]), if_pos hd]

/-- With no acknowledgement to flood, the MAC keeps what it has. -/
theorem floodAcks_none (hacks : (s.mac p).floodAcks = []) : s.updMac p (fun m => { m with floodAcks := [] }) = s := updMac_stands (by rw [← hacks])

variable (hf : s.macFetch (3 + p) = s)
include hf

theorem downCellSend_nothing (hr : (s.mac p).ready = []) (hb : (s.mac p).blocks = []) : downCellSend p s = s := by
  unfold downCellSend
  dsimp only
  rw [hf, dropTooLong_empty hr hb, hr]
  split
  · rfl
  · rw [List.filter_nil, List.filter_nil, ite_self]
    exact ite_self s

/-- R373, R383: a frame that is not held goes out in a DOWN cell at 2 ms. -/
theorem downCellSend_one (hlong : s.dropTooLong p = s)
    (hc : (cellsAt (s.mac p).sched (asnOf (s.td 2))).find? (fun c => c.kind == 3 || c.kind == 5) = some c) (h3 : c.kind = 3) (hon : s.portOn p = true)
    (hbusy : s.txBusy p = false) (hslot : s.slotAhead = true) (hr : (s.mac p).ready = [f]) (h0 : f.kind = 0) (hheld : s.held p f.meter = false)
    (hfit : s.fitsCell p c.mode f.frame.length = true)
    (hd : s.dwellOk p (hopChannel (s.hopSeq p (s.mac p).sched) (asnOf (s.td 2)) c.choff) (s.sendNs p c.mode f.frame.length false) = true) :
    downCellSend p s = (s.updMac p (fun x => { x with ready := x.ready.erase f })).askTx p
      ⟨f.frame, hopChannel (s.hopSeq p (s.mac p).sched) (asnOf (s.td 2)) c.choff, c.mode, s.counterOfTd2 (slotStart (s.td 2) + 2000000), 2, .asked, some f⟩ := by
  have alone : (s.mac p).ready.filter (fun f => f.kind == 0 && !s.held p f.meter) = [f] := by
    rw [hr, List.filter_cons_of_pos (by simp [h0, hheld]), List.filter_nil]
  unfold downCellSend
  dsimp only
  rw [hf, hlong, hc]
  dsimp only
  rw [if_neg (by simp [hon, hbusy, hslot]), if_pos h3, alone, pickFrame_one hfit hd]

variable (hacks : (s.mac p).floodAcks = [])
include hacks

theorem floodCellSend_nothing (hr : (s.mac p).ready = []) (hb : (s.mac p).blocks = []) : floodCellSend p s = s.updMac p (fun m => { m with floodAcks := [] }) := by
  unfold floodCellSend
  dsimp only
  rw [hf, dropTooLong_empty hr hb, hacks, List.foldl_nil, floodAcks_none hacks, hr, hb]
  split
  · rfl
  · rw [List.filter_nil, List.filter_nil, List.filter_nil, ite_self]
    exact ite_self s

/-- R390: a command's frame goes out in a FLOOD cell at 2 ms, and is seen by the port itself. -/
theorem floodCellSend_one (hlong : s.dropTooLong p = s) (hc : (cellsAt (s.mac p).sched (asnOf (s.td 2))).find? (fun c => c.kind == 4) = some c)
    (hon : s.portOn p = true) (hbusy : s.txBusy p = false) (hslot : s.slotAhead = true) (hr : (s.mac p).ready = [f]) (h1 : f.kind = 1) (hprio : f.prio < 3)
    (hb : (s.mac p).blocks = []) (hfit : s.fitsCell p c.mode f.frame.length = true)
    (hd : s.dwellOk p (hopChannel (s.hopSeq p (s.mac p).sched) (asnOf (s.td 2)) c.choff) (s.sendNs p c.mode f.frame.length false) = true) :
    floodCellSend p s = ((s.updMac p (fun x => { x with ready := [] })).markSeen p (fOrigin f.frame) (fFseq f.frame)).askTx p
      ⟨f.frame, hopChannel (s.hopSeq p (s.mac p).sched) (asnOf (s.td 2)) c.choff, c.mode, s.counterOfTd2 (slotStart (s.td 2) + 2000000), 3, .asked, some f⟩ := by
  unfold floodCellSend
  dsimp only
  rw [hf, hlong, hacks, List.foldl_nil, floodAcks_none hacks, hc]
  dsimp only
  rw [if_neg (by simp [hon, hbusy, hslot]), hr, hb, ite_self, List.filter_cons_of_neg (by simp [h1]), List.filter_nil,
    List.filter_cons_of_neg (by simp [h1]), List.filter_nil, List.filter_cons_of_pos (by simp [h1]), List.filter_nil, List.nil_append, List.nil_append,
    List.append_nil, pickFrame_one hfit hd]
  dsimp only
  rw [if_neg (show f.kind ≠ 3 by omega)]
  rw [updMac_congr (g := fun x => { x with ready := [] })]
  simp only [hr, hb, if_neg (show f.prio ≠ 3 by omega), List.erase_cons_head, List.erase_nil]

end Cells

/-- Settles O30: a rule for each step of the transmitter, of a good frame, and of the cells in which a port sends. -/
theorem radioTransmission : Obligations.RadioTransmission := by
  unfold Obligations.RadioTransmission
  refine ⟨fun s p j hrun => ⟨fun h hon hs hc ht => ?_, fun h ht => ?_, fun h ht => ?_, fun h ht => ?_, fun h ht => ?_, fun h ht hon hs hp ho => ?_,
      fun h ht hon hs hp => ?_, fun hl h ht => ?_, fun hl h ht => ?_, fun hl h => ?_⟩,
    fun s p hrun => ⟨fun d air h2 => ?_, fun h => ?_, fun c f r hc hon ha hslot hprev => ?_, fun hf ht => ?_, fun hf ht ha => ?_, fun hf hr hb => ?_,
      fun c f hf hlong hc h3 hon hbusy hslot hr h0 hheld hfit => ?_, fun hf hr hb ha => ?_,
      fun c f hf hlong hp ha hc hon hbusy hslot hr h1 hprio hb hfit => ?_, fun a x r f hf ha hx hp ht => ?_⟩⟩
  · exact next_of_radio rfl hrun (txRequest_accepted h hon hs hc ht)
  · exact next_of_radio rfl hrun (txRequest_late h ht)
  · exact next_of_radio rfl hrun ((txOn_at h).trans (if_pos ht))
  · exact next_of_radio rfl hrun ((txOn_at h).trans (if_neg (Nat.not_le.mpr ht)))
  · exact next_of_radio rfl hrun (transmissionStart_early h ht)
  · exact next_of_radio rfl hrun (transmissionStart_ack h ht hon hs hp ho)
  · exact next_of_radio rfl hrun (transmissionStart_failed h ht hon hs hp)
  · exact next_of_live rfl hl ((transmissionEnd_at h).trans (if_pos ht))
  · exact next_of_live rfl hl ((transmissionEnd_at h).trans (if_neg (Nat.not_le.mpr ht)))
  · exact next_of_live rfl hl (transmissionEnd_none h)
  · intro dm phr psdu n f off dl h0 h1 hb lo hi hlen hfcs
    exact ⟨fun hp h => next_of_radio rfl hrun (radioFrameEnd_last_gasp h2 rfl ⟨h0, h1, hb, lo, hi⟩ hlen rfl hfcs hp h),
      fun hp hu hw => next_of_radio rfl hrun (radioFrameEnd_outside h2 rfl ⟨h0, h1, hb, lo, hi⟩ hlen rfl hfcs hp hu hw),
      fun t hp hu hw hq => next_of_radio rfl hrun (radioFrameEnd_taken h2 rfl ⟨h0, h1, hb, lo, hi⟩ hlen rfl hfcs hp hu hw hq)⟩
  · exact next_of_radio rfl hrun (beaconSend_no_cell h)
  · exact fun hbuilt => next_of_radio rfl hrun (beaconSend_cell hc hon ha hslot hprev hbuilt)
  · exact next_of_radio rfl hrun (radioAckSend_early hf ht)
  · exact next_of_radio rfl hrun (radioAckSend_none hf ht ha)
  · exact next_of_radio rfl hrun (downCellSend_nothing hf hr hb)
  · exact fun hd => next_of_radio rfl hrun (downCellSend_one hf hlong hc h3 hon hbusy hslot hr h0 hheld hfit hd)
  · exact next_of_radio rfl hrun (floodCellSend_nothing hf ha hr hb)
  · exact fun hd => next_of_radio rfl hrun (floodCellSend_one hf ha hlong hc hon hbusy hslot hr h1 hprio hb hfit hd)
  · exact fun hb hon hbusy hfit hd => next_of_radio rfl hrun (radioAckSend_one hf ht ha hx hb hon hbusy hfit hd)

end Sys2Proof.Proofs
end

section
/-!
Commands for meters (R400 to R404, R410, R423) and tariffs (R411, R413, R417).
-/
namespace Sys2Proof.Proofs
open Sys2Proof.Machine Sys2Proof.Laws

/-! ### The host's commands on a meter's queue -/

/-- R410: the test by which a command of the host's is refused. -/
theorem request_not_refused {cmd n : Nat} (ok : cmd = 0x10 ∨ cmd = 0x11 ∨ cmd = 0x80 ∨ (0x40 ≤ cmd ∧ cmd ≤ 0x7F)) (fits : cmd = 0x80 → 1 ≤ n ∧ n ≤ 181) :
    ¬ ((!decide (cmd = 0x10 ∨ cmd = 0x11 ∨ cmd = 0x80 ∨ (0x40 ≤ cmd ∧ cmd ≤ 0x7F))) = true ∨ (cmd = 0x80 ∧ (n = 0 ∨ 181 < n))) := by
  rw [decide_eq_true ok, Bool.not_true]
  rintro (h | ⟨h80, h⟩)
  · cases h
  · have := fits h80
    omega

section Requests
variable {s : State} {i : Nat} {m : Meter} (hsel : s.selected = some (i, m))
include hsel

section Allowed
variable {cmd : Nat} (hcmd : s.cfgN 0x3C10 1 = cmd) (ok : cmd = 0x10 ∨ cmd = 0x11 ∨ cmd = 0x80 ∨ (0x40 ≤ cmd ∧ cmd ≤ 0x7F))
  (fits : cmd = 0x80 → 1 ≤ (s.val 0x3C10 2).length ∧ (s.val 0x3C10 2).length ≤ 181)
include hcmd ok fits

/-- R410: a command of a kind that the host may send, with an APDU of its size, is queued. -/
theorem commandRequest_queued {r : State × Nat} (hq : s.queueCommand i cmd (s.val 0x3C10 2) 0 = some r) :
    commandRequest 1 s = ({ r.1 with dist := { r.1.dist with lastTag := r.2 } }, Abort.ok) := by
  unfold commandRequest
  rw [one_one]
  dsimp only
  rw [hsel, hcmd]
  dsimp only
  rw [if_neg (request_not_refused ok fits), hq]

theorem commandRequest_full (hq : s.queueCommand i cmd (s.val 0x3C10 2) 0 = none) : commandRequest 1 s = (s, Abort.noResource) := by
  unfold commandRequest
  rw [one_one]
  dsimp only
  rw [hsel, hcmd]
  dsimp only
  rw [if_neg (request_not_refused ok fits), hq]

end Allowed

theorem commandRequest_refused
    (h : (s.cfgN 0x3C10 1 = 0x80 ∧ 181 < (s.val 0x3C10 2).length) ∨ s.cfgN 0x3C10 1 = 0x12) : commandRequest 1 s = (s, Abort.valueRange) := by
  unfold commandRequest
  rw [one_one]
  dsimp only
  rw [hsel]
  dsimp only
  refine if_pos ?_
  obtain ⟨h80, long⟩ | h12 := h
  · exact .inr ⟨h80, .inr long⟩
  · exact .inl (by simp [h12])

theorem commandCancel_found {c : MCmd} (hc : (s.cmds i).find? (fun c => c.tag == s.cfgN 0x3C11 1) = some c) :
    commandCancel 1 s = if c.state = 1 then (s.failCommand i c 4, Abort.ok) else (s, Abort.valueInconsistent) := by
  unfold commandCancel
  rw [one_one, hsel]
  dsimp only
  rw [hc]

section Assigned
variable {v : Nat} (hv : v ≤ 255 ∨ v = 0xFFFF)
include hv

theorem tariffAssign_sent {t : State} (h : s.sendCtl 0x8100 i 14 v 0 [] = some t) : tariffAssign v s = (t, Abort.ok) := by
  unfold tariffAssign
  rw [if_neg (by omega), hsel]
  dsimp only
  rw [h]

theorem tariffAssign_full (h : s.sendCtl 0x8100 i 14 v 0 [] = none) : tariffAssign v s = (s, Abort.busy) := by
  unfold tariffAssign
  rw [if_neg (by omega), hsel]
  dsimp only
  rw [h]

end Assigned

end Requests

theorem tariffAssign_range {s : State} {v : Nat} (hv : 255 < v) (hn : v ≠ 0xFFFF) : tariffAssign v s = (s, Abort.valueRange) := if_pos ⟨hv, hn⟩

/-! ### A command's turn and its timeout -/

section Turns
variable {s : State} {i : Nat} {m : Meter} {c : MCmd} {rest : List MCmd} (hm : s.meter i = some m) (hq : s.cmds i = c :: rest)
include hm hq

theorem commandTake_head : commandTake i s = if c.state ≠ 1 ∨ c.asked ∨ bit m.rflags 1 then s else s.askCommand i c.ident 0 := by
  unfold commandTake
  rw [hq, hm]

/-- R401: the commit of its control item gives the command its tag and sends it. -/
theorem commandTaken_head (h1 : c.state = 1) (hr : bit m.rflags 1 = false) :
    s.commandTaken i c.ident 0 = ((s.updCmd i c.ident (fun x => { x with asked := false })).updMeter i (fun x =>
      { x with nextTag := (c.tag + 1) % 65536 })).buildAndSend i { c with asked := false } := by
  unfold State.commandTaken
  rw [hq, List.find?_cons_of_pos (by simp), hm]
  dsimp only
  rw [if_neg Nat.zero_ne_one, if_neg]
  rintro (h | h)
  · exact h h1
  · rw [hr] at h
    cases h

theorem commandTimeout_waits (ht : s.now < c.sentAt + c.heldFor + s.cmdTimeout m c) : commandTimeout i s = s := by
  unfold commandTimeout
  rw [hq, hm]
  exact if_pos (.inr (.inr ht))

/-- R403, R404: a command without an answer in time fails, is built anew, or goes again. -/
theorem commandTimeout_due (h2 : c.state = 2) (ha : c.asked = false) (ht : c.sentAt + c.heldFor + s.cmdTimeout m c ≤ s.now) :
    commandTimeout i s = (let s1 := if c.rebuild = true then s else s.downUnanswered i (fLseq c.frame)
      if s1.cfgN 0x3C00 3 ≤ c.tries then s1.failCommand i c 1
      else if c.rebuild then s1.askCommand i c.ident 1
      else s1.sendCommand i m { c with resends := c.resends + 1 } c.frame (kindOf c.frame)) := by
  unfold commandTimeout
  rw [hq, hm]
  refine if_neg ?_
  rintro (h | h | h)
  · exact h h2
  · rw [ha] at h
    cases h
  · omega

end Turns

/-! ### Tariff tables -/

section Tariffs
variable {s : State} {b : Bytes} (lo : 17 ≤ b.length) (hi : b.length ≤ 4112) (ht : timeOk (slice b 4 12) = true) (hm : s.store.mode ≠ .readOnly)
include lo hi ht hm

theorem tariffLoad_new (hk : lookupKey (fieldLE b 0 1) s.distNv.tariffs = none) (hr : s.campaignRuns 0 (fieldLE b 0 1) = false) :
    tariffLoad b s =
      (let t := (State.writeTariff { s with distNv := { s.distNv with
          tariffs := insertKey (fieldLE b 0 1) ⟨fieldLE b 2 2, slice b 4 12, b.drop 16⟩ s.distNv.tariffs } } (fieldLE b 0 1)).tariffTargets (fieldLE b 0 1)
       (t.1.startCampaign 0 (fieldLE b 0 1) t.2, Abort.ok)) := by
  unfold tariffLoad
  dsimp only
  rw [if_neg (by simp [lo, hi, ht]), if_neg hm, hk, if_neg (by simp), hr, if_neg Bool.false_ne_true]

theorem tariffLoad_old {t : TariffTable} (hk : lookupKey (fieldLE b 0 1) s.distNv.tariffs = some t) (hv : fieldLE b 2 2 ≤ t.version) :
    tariffLoad b s = (s, Abort.valueInconsistent) := by
  unfold tariffLoad
  dsimp only
  rw [if_neg (by simp [lo, hi, ht]), if_neg hm, hk, if_pos (by simp [hv])]

end Tariffs

/-- Settles O31: a rule for each command of the host and each turn of a meter's queue. -/
theorem downlinkCommands : Obligations.DownlinkCommands := by
  unfold Obligations.DownlinkCommands
  refine ⟨⟨fun s role i m ht hr hsel => ⟨fun r hc hq => ?_, fun hc hq => ?_, fun hc lo hi r hq => ?_, fun hc hl => ?_, fun hc => ?_, fun c hc h1 => ?_,
      fun c hc h1 => ?_⟩, fun s i m c rest hrun hm hq => ⟨fun h1 ha hr => ?_, fun h1 hr => commandTaken_head hm hq h1 hr, fun h => ?_, fun h2 ht => ?_,
      fun h2 ha ht => ?_⟩⟩,
    fun s role ht hr => ⟨fun b lo hi htime hmode hk hruns => ?_, fun b t lo hi htime hmode hk hv => ?_, fun v i m hv hsel => ⟨fun t h => ?_, fun h => ?_⟩,
      fun v hv hn => ?_⟩⟩
  · exact next_of_command rfl ht hr (commandRequest_queued hsel hc (by omega) (by omega) hq)
  · exact next_of_command rfl ht hr (commandRequest_full hsel hc (by omega) (by omega) hq)
  · exact next_of_command rfl ht hr (commandRequest_queued hsel hc (by omega) (fun _ => ⟨lo, hi⟩) hq)
  · exact next_of_command rfl ht hr (commandRequest_refused hsel (.inl ⟨hc, hl⟩))
  · exact next_of_command rfl ht hr (commandRequest_refused hsel (.inr hc))
  · exact next_of_command rfl ht hr ((commandCancel_found hsel hc).trans (if_pos h1))
  · exact next_of_command rfl ht hr ((commandCancel_found hsel hc).trans (if_neg h1))
  · exact next_of_running rfl hrun ((commandTake_head hm hq).trans (if_neg (by simp [h1, ha, hr])))
  · exact next_of_running rfl hrun ((commandTake_head hm hq).trans (if_pos h))
  · exact next_of_running rfl hrun (commandTimeout_waits hm hq ht)
  · intro s1
    have step := commandTimeout_due hm hq h2 ha ht
    exact ⟨fun h => next_of_running rfl hrun (step.trans (if_pos h)),
      fun h hb => next_of_running rfl hrun (step.trans ((if_neg (Nat.not_le.mpr h)).trans (if_pos hb))),
      fun h hb => next_of_running rfl hrun (step.trans ((if_neg (Nat.not_le.mpr h)).trans (if_neg (by rw [hb]; exact Bool.false_ne_true))))⟩
  · exact next_of_command rfl ht hr (tariffLoad_new lo hi htime hmode hk hruns)
  · exact next_of_command rfl ht hr (tariffLoad_old lo hi htime hmode hk hv)
  · exact next_of_command rfl ht hr (tariffAssign_sent hsel hv h)
  · exact next_of_command rfl ht hr (tariffAssign_full hsel hv h)
  · exact next_of_command rfl ht hr (tariffAssign_range hv hn)

end Sys2Proof.Proofs
end

section
/-!
Image slots (R411, R413, R415, R422, R423) and the rounds of a campaign (R414, R419 to R421).
-/
namespace Sys2Proof.Proofs
open Sys2Proof.Machine Sys2Proof.Laws

/-! ### Control items leave the campaigns -/

section Owed
variable {s t : State}

theorem sendCtl_campaigns {producer i code a b : Nat} {data : Bytes} (h : s.sendCtl producer i code a b data = some t) :
    t.dist.campaigns = s.dist.campaigns := by
  unfold State.sendCtl at h
  obtain ⟨m, _, hq⟩ := Option.bind_eq_some_iff.mp h
  obtain ⟨_, _, _, rfl⟩ := pushPacket_eventsOnly hq
  rfl

theorem sendOwedCtl_campaigns (n : Nat) : ∀ s : State, (State.sendOwedCtl n s).dist.campaigns = s.dist.campaigns := by
  induction n with
  | zero => exact fun _ => rfl
  | succ n ih =>
    intro s
    unfold State.sendOwedCtl
    split
    · rfl
    · dsimp only
      split
      · rw [ih]
      · split
        · rfl
        next hs => rw [ih, sendCtl_campaigns hs]

theorem setField_campaigns (s : State) (i field v : Nat) : (s.setField i field v).dist.campaigns = s.dist.campaigns := by
  unfold State.setField State.oweCtl
  split
  · rfl
  · exact sendOwedCtl_campaigns _ _

end Owed

theorem campaign_congr {s t : State} (h : t.dist.campaigns = s.dist.campaigns) (kind slot : Nat) : t.campaign kind slot = s.campaign kind slot := by
  unfold State.campaign
  rw [h]

theorem putImage_campaign (s : State) (slot : Nat) (i : ImageSlot) (kind c : Nat) : (s.putImage slot i).campaign kind c = s.campaign kind c := rfl

theorem campaignRuns_none {s : State} {kind slot : Nat} (h : s.campaign kind slot = none) : s.campaignRuns kind slot = false := by
  unfold State.campaignRuns
  rw [h]

/-! ### Image slots -/

section Slots
variable {s : State} {b : Bytes}

theorem imageBeginSlot_opens (hl : b.length = 28) (hs : fieldLE b 0 1 ≤ 3) (h0 : 0 < fieldLE b 8 4) (h1 : fieldLE b 8 4 ≤ 1048576) (hm : s.store.mode ≠ .readOnly)
    (hc : s.campaign 1 (fieldLE b 0 1) = none) :
    imageBeginSlot b s = (s.putImage (fieldLE b 0 1) ⟨1, fieldLE b 4 4, fieldLE b 8 4, slice b 12 16, []⟩, Abort.ok) := by
  unfold imageBeginSlot
  dsimp only
  rw [if_neg (not_not_intro hl), if_neg (by omega), if_neg hm, campaignRuns_none hc, if_neg Bool.false_ne_true, putImage_campaign, hc]

theorem imageBeginSlot_too_large (hl : b.length = 28) (h : 1048576 < fieldLE b 8 4) : imageBeginSlot b s = (s, Abort.valueRange) :=
  (if_neg (not_not_intro hl)).trans (if_pos (.inr (.inr h)))

section Chunk
variable {i : ImageSlot} (hl : 9 ≤ b.length) (hs : fieldLE b 0 1 ≤ 3) (hm : s.store.mode ≠ .readOnly) (hi : i = at' s.distNv.images (fieldLE b 0 1)) (h1 : i.state = 1)
include hl hs hm hi h1

theorem imageChunk_at : imageChunk b s =
    if fieldLE b 4 4 ≠ i.data.length ∨ i.size < i.data.length + (b.length - 8) then (s, Abort.valueInconsistent)
    else ((s.putImage (fieldLE b 0 1) { i with data := i.data ++ b.drop 8 }).writeImage (fieldLE b 0 1) i.data.length (i.data.length + (b.length - 8)), Abort.ok) := by
  unfold imageChunk
  dsimp only
  rw [if_neg (by omega), if_neg hm, ← hi, if_neg (not_not_intro h1), List.length_drop]

end Chunk

section End
variable {slot : Nat} {i : ImageSlot} (hs : slot ≤ 3) (hi : i = at' s.distNv.images slot) (h1 : i.state = 1)
include hs hi h1

/-- R414: a whole image starts its campaign. -/
theorem imageEndSlot_whole (hsize : i.data.length = i.size) (hd : (sha384 i.data).take 16 = i.digest)
    (hc : (s.putImage slot { i with state := 2 }).campaign 1 slot = none) :
    imageEndSlot slot s = ((s.putImage slot { i with state := 2 }).startCampaign 1 slot [], Abort.ok) := by
  unfold imageEndSlot
  dsimp only
  rw [if_neg (Nat.not_lt.mpr hs), ← hi, if_neg (not_not_intro h1), if_neg (by rw [not_or, not_not, not_not]; exact ⟨hsize, hd⟩), hc]

theorem imageEndSlot_short (hsize : i.data.length ≠ i.size) : imageEndSlot slot s = (s.emptyImage slot, Abort.valueInconsistent) := by
  unfold imageEndSlot
  dsimp only
  rw [if_neg (Nat.not_lt.mpr hs), ← hi, if_neg (not_not_intro h1), if_pos (.inl hsize)]

end End

/-- R413: one meter named as the target of a slot that is not complete. -/
theorem imageTargets_first {m : Meter} (hl : b.length = 8) (hs : fieldLE b 0 1 ≤ 3) (hc : s.campaign 1 (fieldLE b 0 1) = none)
    (hm : s.meter (fieldLE b 4 4) = some m) (may : m.mayTarget 1 (fieldLE b 0 1) = true) (h2 : (at' s.distNv.images (fieldLE b 0 1)).state ≠ 2) :
    imageTargets b s = (((s.distCount 8 0).setField (fieldLE b 4 4) 6 (fieldLE b 0 1)).putCampaign
      ⟨1, fieldLE b 0 1, .idle, 0, [Target.mk (fieldLE b 4 4) 0 [] 0 false 0 0], [], 0⟩, Abort.ok) := by
  have one : (b.length - 4) / 4 = 1 := by omega
  have named : (((List.range 1).map (fun k => fieldLE b (4 + 4 * k) 4)).eraseDups) = [fieldLE b 4 4] := by
    simp [List.range_one, List.eraseDups_cons]
  have ok : [fieldLE b 4 4].filter (fun i => ((s.meter i).map (fun m => m.mayTarget 1 (fieldLE b 0 1))).getD false) = [fieldLE b 4 4] := by
    rw [List.filter_cons_of_pos (by rw [hm]; exact may), List.filter_nil]
  have none : ((s.distCount 8 0).setField (fieldLE b 4 4) 6 (fieldLE b 0 1)).campaign 1 (fieldLE b 0 1) = none :=
    (campaign_congr ((setField_campaigns ..).trans rfl) ..).trans hc
  unfold imageTargets
  dsimp only
  rw [one, if_neg (by omega), named, ok, hc]
  dsimp only [List.filter_nil, List.foldl_nil, List.contains_nil, List.length_cons, List.length_nil]
  rw [List.filter_cons_of_pos rfl, List.filter_nil, if_neg h2]
  dsimp only [List.foldl_cons, List.foldl_nil, Nat.sub_self, List.map_cons, List.map_nil]
  rw [none]
  rfl

section Activate
variable (hl : b.length = 16) (hs : fieldLE b 0 1 ≤ 3) (ht : timeOk (slice b 4 12) = true) (h0 : fieldLE b 1 1 = 0)
include hl hs ht h0

theorem imageActivate_no_campaign (hc : s.campaign 1 (fieldLE b 0 1) = none) : imageActivate b s = (s, Abort.ok) := by
  unfold imageActivate
  dsimp only
  rw [if_neg (not_not_intro hl), if_neg (by simp [hs, ht]), if_neg (by omega), hc]
  rfl

theorem imageActivate_one {c : Campaign} {t : Target} (hc : s.campaign 1 (fieldLE b 0 1) = some c) (hts : c.targets = [t]) (h3 : t.state = 3) :
    imageActivate b s = ((s.setTarget 1 (fieldLE b 0 1) { t with state := 6 }).engineCommand t.meter 0x13
      ([byte (fieldLE b 0 1), 0, 0, 0] ++ leBytes 4 (at' s.distNv.images (fieldLE b 0 1)).object ++ slice b 4 12), Abort.ok) := by
  unfold imageActivate
  dsimp only
  rw [if_neg (not_not_intro hl), if_neg (by simp [hs, ht]), if_neg (by omega), hc, if_neg (show fieldLE b 1 1 ≠ 1 by omega)]
  dsimp only
  rw [hts, List.filter_cons_of_pos (by simp [h3]), List.filter_nil]
  rfl

end Activate

theorem imageRemove_idle {slot : Nat} (hs : slot ≤ 3) (hc : s.campaign 1 slot = none) : imageRemove slot s =
    (State.emptyImage { s with dist := { s.dist with campaigns := s.dist.campaigns.filter (fun c => !(c.kind == 1 && c.slot == slot)) } } slot, Abort.ok) := by
  unfold imageRemove
  dsimp only
  rw [if_neg (Nat.not_lt.mpr hs), hc, campaignRuns_none hc, if_neg Bool.false_ne_true]
  rfl

end Slots

/-! ### Rounds -/

section Rounds
variable {s : State} {kind slot : Nat} {c : Campaign} (hc : s.campaign kind slot = some c)
include hc

theorem roundStart_at : roundStart kind slot s = if c.phase = .offering ∧ !c.targets.any (fun t => t.state == 1) then s.startRound c else s := by
  unfold roundStart
  rw [hc]

theorem roundEnd_blocks_left (h : c.lists.any (fun l => l.blocks != []) = true) : roundEnd kind slot s = s := by
  unfold roundEnd
  rw [hc]
  exact if_pos (.inr (.inl h))

/-- R414: a round without targets ends its campaign. -/
theorem roundEnd_no_targets (hp : c.phase = .round) (hb : c.lists.any (fun l => l.blocks != []) = false)
    (ht : c.lastBlockAt + cSec (s.cfgN 0x3C00 5 + s.cfgN 0x3C00 6 + 30) ≤ s.now) (h0 : c.targets = []) :
    roundEnd kind slot s = (s.putCampaign { c with targets := [], lists := [] }).endCampaign kind slot := by
  unfold roundEnd
  rw [hc]
  dsimp only
  rw [if_neg, h0]
  · rfl
  · rw [not_or, not_or, not_not, hb]
    exact ⟨hp, Bool.false_ne_true, Nat.not_lt.mpr ht⟩

end Rounds

/-! ### Blocks -/

section Blocks
variable {s : State} {port : Nat}

theorem campaignTurn_none (h : s.dist.campaigns = []) : s.campaignTurn port = none := by
  unfold State.campaignTurn
  dsimp only
  rw [h]
  rfl

theorem blockSend_no_campaign (h : s.dist.campaigns = []) : blockSend port s = s := by
  unfold blockSend
  rw [campaignTurn_none h]

/-- What the next block of a port is to become: its transmissions under the keys of its medium. -/
def blockSent (s : State) (port : Nat) (c : Campaign) (l : BlockList) (b : Nat) : Option State :=
  (s.askStore 42 distCell (c.kind * 256 + c.slot) b).bind (fun st => st.sendBlockAll port (s.blockBody c.kind c.slot (mediumOf port) b).1
    (s.blockKeys c (mediumOf port)) l.routes (s.blockBody c.kind c.slot (mediumOf port) b).2)

variable {c : Campaign} {l : BlockList} {b : Nat} {rest : List Nat} (ht : s.campaignTurn port = some c)
  (hl : c.lists.find? (fun l => l.port == port) = some l) (hb : l.blocks = b :: rest)
include ht hl hb

theorem blockSend_waits (h : blockSent s port c l b = none) : blockSend port s = s.backpressure (8 + port) := by
  unfold blockSent at h
  unfold blockSend
  rw [ht]
  dsimp only
  rw [hl]
  dsimp only
  rw [hb]
  dsimp only
  rw [h]

theorem blockSend_goes {s1 : State} (h : blockSent s port c l b = some s1) :
    blockSend port s = (let s2 := s1.putCampaign { c with lists := c.lists.map (fun y => if y.port = port then { y with blocks := rest } else y), lastBlockAt := s.now }
      State.distCount { s2 with dist := { s2.dist with turns := s2.dist.turns.set port (c.kind * 256 + c.slot + 1) } } (if port ≤ 2 then 2 else 3) 1) := by
  unfold blockSent at h
  unfold blockSend
  rw [ht]
  dsimp only
  rw [hl]
  dsimp only
  rw [hb]
  dsimp only
  rw [h]

end Blocks

/-- Settles O32: a rule for each command on an image slot and each step of a campaign's rounds. -/
theorem images : Obligations.Images := by
  unfold Obligations.Images
  refine ⟨fun s role ht hr hm => ⟨fun b hl hs h0 h1 hc => ?_, fun b hl hs h => ?_, fun b i hl hs hi h1 hat hfit => ?_, fun b i hl hs hi h1 hat => ?_,
      fun slot i hs hi h1 hsize hd hc => ?_, fun slot i hs hi h1 hsize => ?_, fun b m hl hs hc hmeter may h2 => ?_, fun b hl hs htime h0 hc => ?_,
      fun b c t hl hs htime h0 hc hts h3 => ?_, fun slot hs hc _ => ?_, fun slot h => ?_⟩,
    fun s kind slot c hrun hc hp ho => ?_, fun s kind slot c hrun hc ho => ?_, fun s kind slot c hrun hc hp hb hlast h0 => ?_, fun s kind slot c hrun hc hb => ?_,
    fun s port hrun h => ?_, fun s s1 port c l b rest hrun hturn hl hb => ?_, fun s port c l b rest hrun hturn hl hb h => ?_⟩
  · exact next_of_command rfl ht hr (imageBeginSlot_opens hl hs h0 h1 hm hc)
  · exact next_of_command rfl ht hr (imageBeginSlot_too_large hl h)
  · exact next_of_command rfl ht hr ((imageChunk_at hl hs hm hi h1).trans (if_neg (by omega)))
  · exact next_of_command rfl ht hr ((imageChunk_at hl hs hm hi h1).trans (if_pos (.inl hat)))
  · exact next_of_command rfl ht hr (imageEndSlot_whole hs hi h1 hsize hd hc)
  · exact next_of_command rfl ht hr (imageEndSlot_short hs hi h1 hsize)
  · exact next_of_command rfl ht hr (imageTargets_first hl hs hc hmeter may h2)
  · exact next_of_command rfl ht hr (imageActivate_no_campaign hl hs htime h0 hc)
  · exact next_of_command rfl ht hr (imageActivate_one hl hs htime h0 hc hts h3)
  · exact next_of_command rfl ht hr (imageRemove_idle hs hc)
  · exact next_of_command rfl ht hr (if_pos h)
  · exact next_of_running rfl hrun ((roundStart_at hc).trans (if_pos ⟨hp, by rw [ho]; rfl⟩))
  · exact next_of_running rfl hrun ((roundStart_at hc).trans (if_neg (by simp [ho])))
  · exact next_of_running rfl hrun (roundEnd_no_targets hc hp hb hlast h0)
  · exact next_of_running rfl hrun (roundEnd_blocks_left hc hb)
  · exact next_of_running rfl hrun (blockSend_no_campaign h)
  · exact fun h => next_of_running rfl hrun (blockSend_goes hturn hl hb h)
  · exact next_of_running rfl hrun (blockSend_waits hturn hl hb h)

end Sys2Proof.Proofs
end

section
/-!
Commands on queues: pushes, reservations, pops, the status word and DROP_PACKET (R425, R433 to R438).
-/
namespace Sys2Proof.Proofs
open Sys2Proof.Machine Sys2Proof.Laws

/-! ### A queue with its marks off, for which no event waits -/

/-- R435: both marks of a queue are off. -/
structure MarksOff (s : State) (i : Nat) : Prop where
  high : s.cfgN (0x4810 + i) 2 = 0
  low : s.cfgN (0x4810 + i) 3 = 0xFFFFFFFF

theorem MarksOff.congr {s t : State} {i : Nat} (h : MarksOff s i) (hc : t.cfg = s.cfg) (hb : t.board = s.board) : MarksOff t i :=
  ⟨(cfgN_congr hc hb ..).trans h.high, (cfgN_congr hc hb ..).trans h.low⟩

/-- A queue as it is put back while its marks are off. -/
def settled (s : State) (i : Nat) (q : Queue) : Queue := { (q.mark 0 0xFFFFFFFF).1 with aboveLimit := q.aboveFor (s.skeinLimit i) }

/-- A state with one queue replaced. -/
def withQueue (s : State) (i : Nat) (q : Queue) : State := { s with queue := { s.queue with queues := s.queue.queues.set i q } }

section Settled
variable {s : State} {i : Nat} {q : Queue}

theorem settled_cells : (settled s i q).cells = q.cells := rfl
theorem settled_owner : (settled s i q).owner = q.owner := rfl
theorem settled_lastPop : (settled s i q).lastPop = q.lastPop := rfl
theorem settled_popped : (settled s i q).popped = q.popped := rfl
theorem settled_dropPending : (settled s i q).dropPending = q.dropPending := rfl
theorem settled_discarded : (settled s i q).discarded = q.discarded := rfl

theorem putQueue_marksOff (h : MarksOff s i) : s.putQueue i q = (withQueue s i (settled s i q), []) := by
  unfold State.putQueue
  dsimp only
  rw [h.high, h.low]
  rfl

theorem placeWaiting_none (h : s.queue.waiting.any (fun w => w.queue == i) = false) : s.placeWaiting i = s := by
  have none : s.queue.waiting.filter (fun w => w.queue == i) = [] :=
    List.filter_eq_nil_iff.mpr fun w hw => by simpa using (List.any_eq_false.mp h) w hw
  have all : s.queue.waiting.filter (fun w => w.queue != i) = s.queue.waiting :=
    List.filter_eq_self.mpr fun w hw => by simpa using (List.any_eq_false.mp h) w hw
  unfold State.placeWaiting
  dsimp only
  rw [none, all]
  rfl

/-- A queue put back with its marks off: no event comes of it, and none is placed. -/
theorem putBack (h : MarksOff s i) (hw : s.queue.waiting.any (fun w => w.queue == i) = false) :
    ((s.putQueue i q).1.emitAll (s.putQueue i q).2).placeWaiting i = withQueue s i (settled s i q) := by
  rw [putQueue_marksOff h]
  exact placeWaiting_none (s := withQueue s i (settled s i q)) hw

theorem withQueue_at (h : i < s.queue.queues.length) : at' (withQueue s i q).queue.queues i = q := at'_set_same h q

end Settled

/-! ### Pushes and reservations -/

section Push
variable {s : State} {i producer tag : Nat} {x : Queue} {c : QCell} {data : Bytes}

theorem countMoves_stands {a b : Queue} (h : b.skein = a.skein) : s.countMoves a b = s := by
  unfold State.countMoves
  rw [h, if_neg (Nat.lt_irrefl _), if_neg (Nat.lt_irrefl _)]

/-- R428: with skein and tail empty a cell goes to the head while it has room. -/
theorem placeMoving_head {q : Queue} (hs : q.skein = []) (ht : q.tail = []) (hh : q.head.length < 16) (limit : Nat) (poolFree : Bool) :
    q.placeMoving limit poolFree c = some { q with head := q.head ++ [c] } := by
  unfold Queue.placeMoving Queue.place
  rw [if_pos ⟨hs, ht, hh⟩]

/-- A cell that is a whole packet enters a queue that has room in its head. -/
theorem pushRaw_whole (hx : x = at' s.queue.queues i) (hf : x.fenced = false) (ho : x.owner = none) (hc : x.cutting = false) (hl : x.losing = false)
    (hd : x.dropPending = false) (first : c.first = true) (last : c.last = true) (hs : x.skein = []) (ht : x.tail = []) (hh : x.head.length < 16)
    (room : x.level + x.reserved < s.queueCap i) :
    s.pushRaw i producer false c = some ((s.queueTotal 1 1).putQueue i
      { x with owner := none, openCells := 0, cutting := false, head := x.head ++ [{ c with pushedAt := s.now }] }) := by
  unfold State.pushRaw
  dsimp only
  rw [← hx, if_neg (by simp [hf]), if_neg (by simp [ho]), if_neg (by simp [hc]), if_neg (by simp [hl]), if_neg (by simp [hd]), last, first]
  rw [if_neg (by simp only [Bool.not_false, Bool.true_and, decide_eq_true_eq]; exact Nat.not_le.mpr room)]
  rw [if_neg (show ¬ ((if true = true then 1 else x.openCells + 1) = 32 ∧ (!true) = true) from fun h => by cases h.2)]
  rw [placeMoving_head (by exact hs) (by exact ht) (by exact hh)]
  dsimp only
  rw [countMoves_stands]
  · rfl
  · rfl

/-- R425: a tag with FIRST and LAST set. -/
theorem cellOf_whole (whole : tag % 4 = 3) (data : Bytes) : (cellOf tag data).first = true ∧ (cellOf tag data).last = true := by
  simp only [cellOf, bit, Nat.pow_zero, Nat.pow_one, Nat.div_one, beq_iff_eq]
  omega

/-- R425: what a push leaves where both marks are off. -/
theorem queuePush_whole (hm : MarksOff s i) (hx : x = at' s.queue.queues i) (hf : x.fenced = false) (ho : x.owner = none)
    (hc : x.cutting = false) (hl : x.losing = false) (hd : x.dropPending = false) (whole : tag % 4 = 3) (hs : x.skein = []) (ht : x.tail = [])
    (hh : x.head.length < 16) (room : x.level + x.reserved < s.queueCap i) :
    queuePush i producer false tag data s = withQueue (s.queueTotal 1 1) i (settled (s.queueTotal 1 1) i
      { x with owner := none, openCells := 0, cutting := false, head := x.head ++ [{ cellOf tag data with pushedAt := s.now }] }) := by
  obtain ⟨first, last⟩ := cellOf_whole whole data
  unfold queuePush
  rw [if_neg Bool.false_ne_true]
  unfold State.pushCell
  rw [pushRaw_whole hx hf ho hc hl hd first last hs ht hh room, putQueue_marksOff (hm.congr (t := s.queueTotal 1 1) rfl rfl)]
  rfl

theorem queuePush_waits (h : s.pushCell i producer false (cellOf tag data) = none) : queuePush i producer false tag data s = s.backpressure i := by
  unfold queuePush
  rw [if_neg Bool.false_ne_true, h]

theorem queuePush_dropped (h : s.pushPacket i producer data = none) : queuePush i producer true tag data s = s.overrun i := by
  unfold queuePush State.pushOrDrop
  rw [if_pos rfl, h]

theorem queueReserve_fits {n : Nat} (hx : x = at' s.queue.queues i) (hf : x.fenced = false) (room : x.level + x.reserved + n ≤ s.queueCap i) :
    queueReserve i n s = withQueue s i { x with reserved := x.reserved + n } := by
  unfold queueReserve State.reserve
  dsimp only
  rw [← hx, if_neg (by simp [hf, room])]
  rfl

theorem queueReserve_waits {n : Nat} (hx : x = at' s.queue.queues i) (h : x.fenced = true ∨ s.queueCap i < x.level + x.reserved + n) :
    queueReserve i n s = s.backpressure i := by
  unfold queueReserve State.reserve
  dsimp only
  rw [← hx, if_pos h]
  rfl

end Push

/-! ### Pops -/

section Pops
variable {s : State} {i : Nat} {x : Queue} (hx : x = at' s.queue.queues i)
include hx

/-- R431: a queue whose head holds a cell needs no block for a pop. -/
theorem refillHead_full {c : QCell} {r : List QCell} (hh : x.head = c :: r) : s.refillHead i = s := by
  unfold State.refillHead
  dsimp only
  rw [← hx, hh]
  exact if_neg fun h => by cases h.1

theorem refillHead_no_skein (hs : x.skein = []) : s.refillHead i = s := by
  unfold State.refillHead Queue.canRefill
  dsimp only
  rw [← hx, hs]
  exact if_neg fun h => by simp at h

omit hx in
theorem tailToHead_head {q : Queue} {c : QCell} {r : List QCell} (hh : q.head = c :: r) :
    ∃ r', q.tailToHead.head = c :: r' ∧ q.cells = c :: ({ q.tailToHead with head := r' } : Queue).cells := by
  rw [← tailToHead_cells q]
  unfold Queue.tailToHead
  split
  · rw [hh]
    exact ⟨_, rfl, rfl⟩
  · exact ⟨r, hh, by simp [Queue.cells, hh]⟩

omit hx in
theorem tailToHead_flags (q : Queue) : q.tailToHead.fenced = q.fenced ∧ q.tailToHead.dropPending = q.dropPending ∧ q.tailToHead.lastPop = q.lastPop ∧
    q.tailToHead.underruns = q.underruns ∧ q.tailToHead.popped = q.popped := by
  unfold Queue.tailToHead
  split <;> exact ⟨rfl, rfl, rfl, rfl, rfl⟩

/-- R433: a pop takes the oldest cell of a queue that may be popped. -/
theorem popCell_takes {c : QCell} {r : List QCell} (hh : x.head = c :: r) (hf : x.fenced = false) (hd : x.dropPending = false) :
    ∃ q : Queue, x.cells = c :: q.cells ∧ q.lastPop = c ∧ q.popped = true ∧
      s.popCell i = (((s.putQueue i q).1.emitAll (s.putQueue i q).2).placeWaiting i, c, true) := by
  obtain ⟨r', head, cells⟩ := tailToHead_head hh
  obtain ⟨fenced, dropPending, -, -, -⟩ := tailToHead_flags x
  obtain ⟨-, -, lastPop, -, popped⟩ := tailToHead_flags { x.tailToHead with head := r', lastPop := c, popped := true, dropDone := false }
  refine ⟨_, ?_, lastPop, popped, ?_⟩
  · rw [tailToHead_cells]
    exact cells
  · unfold State.popCell
    dsimp only
    rw [← hx, head]
    exact if_neg (by simp [fenced, dropPending, hf, hd])

theorem popCell_underrun (hh : x.head = []) (hs : x.skein = []) (ht : x.tail = []) :
    s.popCell i = (withQueue s i { x.tailToHead with underrun := true, underruns := x.tailToHead.underruns + 1 }, x.tailToHead.lastPop, false) := by
  have empty : x.tailToHead.head = [] := by
    unfold Queue.tailToHead
    rw [if_pos hs, hh, ht]
    rfl
  unfold State.popCell
  dsimp only
  rw [← hx, empty]
  rfl

end Pops

/-! ### DROP_PACKET -/

section Drops
variable {s : State} {i : Nat} {x : Queue}

/-- R434: a DROP_PACKET that finds nothing to drop leaves the cells. -/
theorem dropPacket_nothing (h : x.popped = false ∨ x.lastPop.last = true ∨ x.dropPending = true ∨ x.dropDone = true) : x.dropPacket = x := by
  unfold Queue.dropPacket
  refine if_pos ?_
  obtain h | h | h | h := h <;> simp [h]

theorem tailToHead_skein (q : Queue) : q.tailToHead.skein = q.skein := by
  unfold Queue.tailToHead
  split <;> rfl

/-- R428: after the moves to the head, an empty head is that of an empty queue. -/
theorem headMoved (q : Queue) (hb : ∀ b ∈ q.skein, b.length = 8) :
    (if q.head = [] then q.refill else q).tailToHead.cells = q.cells ∧
    (∀ b ∈ (if q.head = [] then q.refill else q).tailToHead.skein, b.length = 8) ∧
    (q.cells ≠ [] → (if q.head = [] then q.refill else q).tailToHead.head ≠ []) := by
  split
  case isFalse e =>
    obtain ⟨c, r, hc⟩ := List.exists_cons_of_ne_nil e
    obtain ⟨r', head, -⟩ := tailToHead_head hc
    exact ⟨tailToHead_cells q, by rwa [tailToHead_skein], fun _ => by simp [head]⟩
  case isTrue e =>
    refine ⟨(tailToHead_cells _).trans (refill_cells q), ?_⟩
    rw [tailToHead_skein]
    cases h : q.skein with
    | nil =>
      have same : q.refill = q := by simp [Queue.refill, h]
      rw [same]
      refine ⟨by simp [h], fun hne => ?_⟩
      have tail : q.tail ≠ [] := by simpa [Queue.cells, e, h] using hne
      simp [Queue.tailToHead, h, e, tail]
    | cons b r =>
      have moved : q.refill = { q with head := b, skein := r } := by simp [Queue.refill, h, e]
      have full : b.length = 8 := hb b (by simp [h])
      obtain ⟨c, b', hc⟩ := List.exists_cons_of_length_pos (l := b) (by omega)
      rw [moved]
      obtain ⟨r', head, -⟩ := tailToHead_head (q := { q with head := b, skein := r }) hc
      exact ⟨fun y hy => hb y (by rw [h]; exact List.mem_cons_of_mem _ hy), fun _ => by simp [head]⟩

/-- A discard step takes the oldest cell. -/
theorem discard_step {q : Queue} (hne : q.cells ≠ []) (hb : ∀ b ∈ q.skein, b.length = 8) :
    let q1 := (if q.head = [] then q.refill else q).tailToHead
    ({ q1 with head := q1.head.drop 1 } : Queue).cells = q.cells.drop 1 ∧ ∀ b ∈ q1.skein, b.length = 8 := by
  intro q1
  obtain ⟨cells, skein, head⟩ := headMoved q hb
  refine ⟨?_, skein⟩
  rw [← cells]
  obtain ⟨c, r, hc⟩ := List.exists_cons_of_ne_nil (head hne)
  simp [q1, Queue.cells, hc]

theorem discard_all (n : Nat) : ∀ q : Queue, q.cells.length = n → (∀ b ∈ q.skein, b.length = 8) → (q.discard n).cells = [] := by
  induction n with
  | zero =>
    intro q hn _
    exact (tailToHead_cells q).trans (List.length_eq_zero_iff.mp hn)
  | succ n ih =>
    intro q hn hb
    obtain ⟨cells, skein⟩ := discard_step (q := q) (by rw [← List.length_pos_iff]; omega) hb
    exact ih _ (by rw [cells, List.length_drop]; omega) skein

/-- R434: with no LAST cell waiting, all cells go and the rest of the packet is still to be dropped. -/
theorem dropPacket_open (hp : x.popped = true) (hl : x.lastPop.last = false) (hd : x.dropPending = false) (hdone : x.dropDone = false)
    (hc : ∀ c ∈ x.cells, c.last = false) :
    x.dropPacket = { x.discard x.cells.length with discarded := x.discarded + x.cells.length, dropPending := true } := by
  have none : x.cells.findIdx (·.last) = x.cells.length := List.findIdx_eq_length.mpr hc
  unfold Queue.dropPacket
  dsimp only
  rw [if_neg (by simp [hp, hl, hd, hdone]), none, if_neg (Nat.lt_irrefl _)]

theorem dropPacket_at (hx : x = at' s.queue.queues i) (hm : MarksOff s i) (hw : s.queue.waiting.any (fun w => w.queue == i) = false) :
    dropPacket i s = withQueue s i (settled s i x.dropPacket) := by
  rw [hx]
  exact putBack hm hw

end Drops

/-- Settles O34: a rule for each command on a queue. -/
theorem queueCommands : Obligations.QueueCommands := by
  unfold Obligations.QueueCommands
  intro s i x hl hx hlt quiet
  refine ⟨fun producer tag data ⟨hh, hlow, _⟩ hf ho hc hlose hd whole hs ht room full => ?_, fun producer tag data h => ?_, fun producer tag data h => ?_,
    fun n hf room => ?_, fun n h => ?_, fun c r ⟨hh, hlow, hw⟩ hhead hf hd => ?_, fun hhead hs ht => ?_, ?_, fun ⟨hh, hlow, hw⟩ h => ?_,
    fun ⟨hh, hlow, hw⟩ hp hlast hd hdone hcells hskein => ?_⟩
  · refine ⟨_, next_of_live rfl hl (queuePush_whole ⟨hh, hlow⟩ hx hf ho hc hlose hd whole hs ht room full), rfl, ?_, ?_, fun j hj => at'_set_other hj _⟩
    · rw [withQueue_at (s := s.queueTotal 1 1) hlt, settled_cells]
      simp [Queue.cells, hs, ht]
    · rw [withQueue_at (s := s.queueTotal 1 1) hlt, settled_owner]
  · exact next_of_live rfl hl (queuePush_waits h)
  · exact next_of_live rfl hl (queuePush_dropped h)
  · exact next_of_live rfl hl (queueReserve_fits hx hf room)
  · exact next_of_live rfl hl (queueReserve_waits hx h)
  · obtain ⟨q, cells, last, popped, taken⟩ := popCell_takes hx hhead hf hd
    have step : queuePop i s = withQueue s i (settled s i q) := by
      unfold queuePop
      rw [refillHead_full hx hhead, taken]
      exact putBack ⟨hh, hlow⟩ hw
    refine ⟨_, next_of_live rfl hl step, rfl, ?_⟩
    rw [withQueue_at hlt, settled_lastPop, settled_cells, settled_popped]
    exact ⟨last, cells, popped⟩
  · obtain ⟨-, -, lastPop, underruns, -⟩ := tailToHead_flags x
    have step := popCell_underrun hx hhead hs ht
    rw [lastPop, underruns] at step
    refine ⟨_, next_of_live rfl hl (congrArg Prod.fst ((congrArg (·.popCell i) (refillHead_no_skein hx hs)).trans step)), rfl, ?_⟩
    rw [withQueue_at hlt]
    exact ⟨rfl, rfl, lastPop⟩
  · subst hx
    exact next_of_live (f := fun st => (queueStatusRead i st).1.put (.value (0x4850 + i) 2 (queueStatusRead i st).2)) rfl hl rfl
  · have step := dropPacket_at hx ⟨hh, hlow⟩ hw
    rw [dropPacket_nothing h] at step
    refine ⟨_, next_of_live rfl hl step, ?_⟩
    rw [withQueue_at hlt, settled_cells, settled_discarded]
    exact ⟨rfl, rfl⟩
  · have step := dropPacket_at hx ⟨hh, hlow⟩ hw
    rw [dropPacket_open hp hlast hd hdone hcells] at step
    refine ⟨_, next_of_live rfl hl step, rfl, ?_⟩
    rw [withQueue_at hlt, settled_cells, settled_dropPending, settled_discarded]
    exact ⟨discard_all _ _ rfl hskein, rfl, rfl⟩

end Sys2Proof.Proofs
end

section
/-!
Moves between SRAM and DRAM (R428, R429) and the host's port (R442, R443).
-/
namespace Sys2Proof.Proofs
open Sys2Proof.Machine Sys2Proof.Laws

/-! ### Spill and refill -/

section Skein
variable {s : State} {i addr : Nat} {x : Queue}

theorem skeinSpill_moves (hw : s.wantsSpill i = true) (hp : s.queue.poolFree = true) :
    skeinSpill i s = { s with queue := { s.queue with
      queues := upd s.queue.queues i Queue.spill, exhausted := false, totals := upd s.queue.totals 1 (· + 1) } } := by
  unfold skeinSpill
  rw [if_neg (by simp [hw]), if_pos hp]
  rfl

theorem skeinSpill_exhausted (hw : s.wantsSpill i = true) (hp : s.queue.poolFree = false) (he : s.queue.exhausted = false) :
    skeinSpill i s = State.event { s with queue := { s.queue with exhausted := true } } 0x4806 0x4000 ([byte i, 0, 0, 0] ++ leBytes 4 s.queue.poolMiB) := by
  unfold skeinSpill
  rw [if_neg (by simp [hw]), if_neg (by simp [hp]), if_neg (by simp [he])]

theorem skeinRefill_none {lost : Bool} (hx : x = at' s.queue.queues i) (hs : x.skein = []) : skeinRefill i lost addr s = s := by
  unfold skeinRefill
  dsimp only
  rw [← hx]
  exact if_pos (by simp [Queue.canRefill, hs])

/-- The queue that a refill leaves, and what it keeps. -/
def refilled (s : State) (i : Nat) (x : Queue) : Queue := { x.refill.tailToHead with aboveLimit := x.refill.tailToHead.aboveFor (s.skeinLimit i) }

theorem refilled_cells : (refilled s i x).cells = x.cells := (tailToHead_cells x.refill).trans (refill_cells x)

theorem refilled_skein {b : List QCell} {r : List (List QCell)} (hs : x.skein = b :: r) : (refilled s i x).skein = r :=
  (tailToHead_skein x.refill).trans (by simp [Queue.refill, hs])

theorem skeinRefill_moves {b : List QCell} {r : List (List QCell)} (hx : x = at' s.queue.queues i) (hs : x.skein = b :: r) (room : x.head.length + 8 ≤ 16)
    (hw : s.queue.waiting.any (fun w => w.queue == i) = false) :
    skeinRefill i false addr s =
      State.queueTotal { s with queue := { s.queue with queues := s.queue.queues.set i (refilled s i x), exhausted := false } } 3 1 := by
  unfold skeinRefill
  dsimp only
  rw [← hx, if_neg (by simp [Queue.canRefill, hs, room]), if_neg Bool.false_ne_true]
  rw [placeWaiting_none (s := (s.refillHeadNow i).queueTotal 3 1) hw]
  unfold State.refillHeadNow
  rw [← hx]
  rfl

end Skein

/-! ### The host's port -/

section HostPort
variable {s : State} {cell : Bytes}

theorem hostPop_takes {c : QCell} {r : List QCell} (h7 : s.hostQueue ≠ 7) (hf : (at' s.queue.queues s.hostQueue).fenced = false)
    (hd : (at' s.queue.queues s.hostQueue).dropPending = false) (hh : (at' s.queue.queues s.hostQueue).head = c :: r) :
    ∃ t : State, hostPop 1 s = (t, Abort.ok) ∧ t.queue.hostPop = leBytes 2 c.tag ++ c.data := by
  obtain ⟨q, -, -, -, taken⟩ := popCell_takes rfl hh hf hd
  let u := ((s.putQueue s.hostQueue q).1.emitAll (s.putQueue s.hostQueue q).2).placeWaiting s.hostQueue
  refine ⟨{ u with queue := { u.queue with hostPop := leBytes 2 c.tag ++ c.data } }, ?_, rfl⟩
  unfold hostPop
  rw [one_one]
  dsimp only
  rw [if_neg h7, if_neg (by simp [hf]), refillHead_full rfl hh, taken]

theorem hostPop_loopback (h7 : s.hostQueue = 7) : hostPop 1 s = (s, Abort.valueInconsistent) := (one_one _ _).trans (if_pos h7)

theorem hostDropPacket_loopback (h7 : s.hostQueue = 7) : hostDropPacket 1 s = (s, Abort.valueInconsistent) := (one_one _ _).trans (if_pos h7)

theorem hostDropPacket_other (h7 : s.hostQueue ≠ 7) : hostDropPacket 1 s = (dropPacket s.hostQueue s, Abort.ok) := (one_one _ _).trans (if_neg h7)

section Pushes
variable (hl : cell.length = 66) (h7 : s.hostQueue ≠ 7) (h15 : s.hostQueue ≠ 15)
  (ht : tagBad (at' s.queue.queues s.hostQueue) (fieldLE cell 0 2) = false) (hf : (at' s.queue.queues s.hostQueue).fenced = false)
include hl h7 h15 ht hf

theorem hostPush_enters {t : State} (h : s.pushCell s.hostQueue 0x8100 false (cellOf (fieldLE cell 0 2) (cell.drop 2)) = some t) :
    hostPush cell s = (t, Abort.ok) := by
  unfold hostPush hostProducer
  dsimp only
  rw [if_neg (not_not_intro hl), if_neg (fun h => h7 h.1), if_neg (by simp [h15, ht]), if_neg (by simp [hf]), if_neg (fun h => h7 h.1), h]

theorem hostPush_full (h : s.pushCell s.hostQueue 0x8100 false (cellOf (fieldLE cell 0 2) (cell.drop 2)) = none) :
    hostPush cell s = (s, Abort.busy) := by
  unfold hostPush hostProducer
  dsimp only
  rw [if_neg (not_not_intro hl), if_neg (fun h => h7 h.1), if_neg (by simp [h15, ht]), if_neg (by simp [hf]), if_neg (fun h => h7 h.1), h]

end Pushes
end HostPort

/-- Settles O35: a rule for each move of a block and for each command of the host's port. -/
theorem skeinAndHostPort : Obligations.SkeinAndHostPort := by
  unfold Obligations.SkeinAndHostPort
  refine ⟨fun s i x hl hx hlt => ⟨fun hw hp => ?_, fun hw hp he => ?_, fun b r addr hs room hw => ?_, fun lost addr hs => ?_⟩,
    fun s role ht hr => ⟨fun c r h7 hf hd hh => ?_, fun h7 => ?_, fun h7 => ?_, fun h7 => ?_, fun cell hlen => ?_, fun cell t hlen h7 h15 htag hf h => ?_,
      fun cell hlen h7 h15 htag hf h => ?_⟩⟩
  · exact next_of_live rfl hl (skeinSpill_moves hw hp)
  · exact next_of_live rfl hl (skeinSpill_exhausted hw hp he)
  · have there : at' (s.queue.queues.set i (refilled s i x)) i = refilled s i x := at'_set_same hlt _
    refine ⟨_, next_of_live rfl hl (skeinRefill_moves hx hs room hw), rfl, ?_, ?_⟩
    · exact (congrArg Queue.cells there).trans refilled_cells
    · exact (congrArg Queue.skein there).trans (refilled_skein hs)
  · exact next_of_live rfl hl (skeinRefill_none hx hs)
  · obtain ⟨t, step, popped⟩ := hostPop_takes h7 hf hd hh
    exact ⟨t, next_of_command rfl ht hr step, popped⟩
  · exact next_of_command rfl ht hr (hostPop_loopback h7)
  · exact next_of_command rfl ht hr (hostDropPacket_loopback h7)
  · exact next_of_command rfl ht hr (hostDropPacket_other h7)
  · exact next_of_command rfl ht hr (if_pos hlen)
  · exact next_of_command rfl ht hr (hostPush_enters hlen h7 h15 htag hf h)
  · exact next_of_command rfl ht hr (hostPush_full hlen h7 h15 htag hf h)

end Sys2Proof.Proofs
end

section
/-!
Lost events (R81) and the windows of the fabric (R17, R19).
-/
namespace Sys2Proof.Proofs
open Sys2Proof.Machine Sys2Proof.Laws

/-! ### Lost events -/

section Lost
variable {s : State}

theorem mem_still_waiting {w : WaitingEvent} :
    w ∈ (eventPlaceTimeout s).queue.waiting ↔ w ∈ s.queue.waiting ∧ s.now < w.since + cMs 1 := by
  change w ∈ s.queue.waiting.filter (fun w => !decide (w.since + cMs 1 ≤ s.now)) ↔ _
  rw [List.mem_filter, Bool.not_eq_true', decide_eq_false_iff_not, Nat.not_le]

theorem eventPlaceTimeout_one {w : WaitingEvent} (hw : s.queue.waiting = [w]) (due : w.since + cMs 1 ≤ s.now) (h0 : s.dict.lostEvents = []) :
    eventPlaceTimeout s = { s with queue := { s.queue with waiting := [] }, dict := { s.dict with lostEvents := [(w.record.cell, 1)] } } := by
  unfold eventPlaceTimeout
  dsimp only
  rw [hw, h0, List.filter_cons_of_pos (by simp [due]), List.filter_cons_of_neg (by simp [due])]
  rfl

theorem eventsLost_none (h : s.dict.lostEvents = []) : eventsLost s = s := by
  unfold eventsLost
  rw [h]
  rfl

/-- R81: the losses of a source are told once its queue has room. -/
theorem eventsLost_one {cell n : Nat} (h : s.dict.lostEvents = [(cell, n)]) (hw : s.queue.waiting = [])
    (room : (at' s.queue.queues (eventQueue 0x1008 cell)).level + (at' s.queue.queues (eventQueue 0x1008 cell)).reserved < s.queueCap (eventQueue 0x1008 cell)) :
    eventsLost s = State.event { s with dict := { s.dict with lostEvents := [] } } 0x1008 cell (leBytes 4 n) := by
  have erased : eraseKey cell [(cell, n)] = [] := by simp [eraseKey]
  unfold eventsLost
  rw [h, List.foldl_cons, List.foldl_nil]
  dsimp only
  rw [if_pos ⟨room, by rw [hw]; rfl⟩, h, erased]

end Lost

/-! ### The fabric -/

/-- Only the fabric has changed. -/
def FabricOnly (s t : State) : Prop := t = { s with fabric := t.fabric }

theorem FabricOnly.trans {s t u : State} (h : FabricOnly s t) (k : FabricOnly t u) : FabricOnly s u := by
  unfold FabricOnly at *
  rw [h] at k
  exact k

theorem FabricOnly.of_fabric (s : State) (f : FabricState) : FabricOnly s { s with fabric := f } := rfl

/-- R17: what an arbiter may do that is given `n` requests: it sends no more, and notes no grant itself. -/
structure Serves (s : State) (n : Nat) (x : State × Nat) : Prop where
  only : FabricOnly s x.1
  granted : x.1.fabric.granted = s.fabric.granted
  sent : x.2 ≤ n

theorem Serves.ite {s : State} {n : Nat} {x y : State × Nat} {c : Prop} [Decidable c] (h : c → Serves s n x) (k : ¬ c → Serves s n y) :
    Serves s n (if c then x else y) := by
  split
  case isTrue hc => exact h hc
  case isFalse hc => exact k hc

/-- An arbiter goes on after a change of its own books. -/
theorem Serves.after {s : State} {f : FabricState} {n : Nat} {x : State × Nat} (h : Serves { s with fabric := f } n x) (hg : f.granted = s.fabric.granted) :
    Serves s n x := ⟨(FabricOnly.of_fabric s f).trans h.only, h.granted.trans hg, h.sent⟩

theorem Serves.one {s : State} {n : Nat} {x : State × Nat} (h : Serves s (n - 1) x) (hn : n ≠ 0) : Serves s n (x.1, x.2 + 1) := by
  obtain ⟨only, granted, sent⟩ := h
  exact ⟨only, granted, show x.2 + 1 ≤ n by omega⟩

section Serving
variable (r : Nat)

theorem serveRegion_serves (fuel : Nat) : ∀ (n : Nat) (s : State), Serves s n (State.serveRegion fuel r n s) := by
  induction fuel with
  | zero => exact fun n s => ⟨rfl, rfl, Nat.zero_le _⟩
  | succ fuel ih =>
    intro n s
    unfold State.serveRegion
    refine Serves.ite (fun _ => ⟨rfl, rfl, Nat.zero_le _⟩) (fun hn => ?_)
    have pos : n ≠ 0 := fun h => hn (.inl h)
    refine Serves.ite (fun _ => (ih n _).after rfl) (fun _ => ?_)
    dsimp only
    exact Serves.ite (fun _ => Serves.one (Serves.after (ih (n - 1) _) rfl) pos) (fun _ => (ih n _).after rfl)

theorem grantRegion_fabricOnly (s : State) (n : Nat) : FabricOnly s (s.grantRegion r n) :=
  (serveRegion_serves r _ n s).only.trans rfl

/-- What an element of a list of counts becomes when one of them rises. -/
theorem at'_upd_add_le (l : List Nat) (i j k : Nat) : at' (upd l i (· + k)) j ≤ at' l j + if i = j then k else 0 := by
  unfold at' upd
  simp only [List.getD_eq_getElem?_getD, List.getElem?_modify]
  split
  case isTrue h =>
    cases l[j]? <;> simp
  case isFalse => simp

/-- R19: the grants of a region rise by no more than it is given. -/
theorem grantRegion_granted (s : State) (n j : Nat) : at' (s.grantRegion r n).fabric.granted j ≤ at' s.fabric.granted j + if r = j then n else 0 := by
  obtain ⟨-, granted, sent⟩ := serveRegion_serves r s.fabricFuel n s
  refine (at'_upd_add_le _ r j _).trans ?_
  rw [granted]
  split <;> omega

end Serving

section Windows
variable {s : State} (share : Nat → Nat)

theorem grantAll_fabricOnly (l : List Nat) : ∀ s : State, FabricOnly s (l.foldl (fun st r => st.grantRegion r (share r)) s) := by
  induction l with
  | nil => exact fun _ => rfl
  | cons r l ih => exact fun s => (grantRegion_fabricOnly r s _).trans (ih _)

/-- R19: regions served once each are granted at most their shares. -/
theorem grantAll_granted (l : List Nat) : ∀ (s : State) (j : Nat), l.Nodup →
    at' (l.foldl (fun st r => st.grantRegion r (share r)) s).fabric.granted j ≤ at' s.fabric.granted j + if j ∈ l then share j else 0 := by
  induction l with
  | nil => exact fun s j _ => by simp
  | cons r l ih =>
    intro s j hn
    obtain ⟨fresh, rest⟩ := List.nodup_cons.mp hn
    have served := ih (s.grantRegion r (share r)) j rest
    have first := grantRegion_granted r s (share r) j
    rw [List.foldl_cons]
    by_cases hj : r = j
    · subst hj
      rw [if_neg fresh] at served
      rw [if_pos rfl] at first
      rw [if_pos List.mem_cons_self]
      omega
    · rw [if_neg hj] at first
      have : j ∈ r :: l ↔ j ∈ l := by simp [Ne.symm hj]
      simp only [this]
      omega

theorem lend_fabricOnly (n : Nat) : ∀ s : State, FabricOnly s (s.lend n) := by
  induction n with
  | zero => exact fun _ => rfl
  | succ n ih =>
    intro s
    unfold State.lend
    dsimp only
    split
    · rfl
    · exact (FabricOnly.of_fabric s _).trans ((grantRegion_fabricOnly _ _ 1).trans (ih _))

theorem enqueueTx_fabricOnly (requests : List (Nat × Nat)) : FabricOnly s (s.enqueueTx requests) := rfl

theorem enqueueTx_granted (requests : List (Nat × Nat)) {r : Nat} (hr : r < 6) : at' (s.enqueueTx requests).fabric.granted r = 0 := by
  change at' (noCounts 6) r = 0
  revert r
  decide

/-- R19: the regions have had their shares. -/
def sharesServed (s : State) (requests : List (Nat × Nat)) : State := (List.range 6).foldl (fun st r => st.grantRegion r (s.share r)) (s.enqueueTx requests)

theorem sharesServed_fabricOnly (requests : List (Nat × Nat)) : FabricOnly s (sharesServed s requests) :=
  (enqueueTx_fabricOnly requests).trans (grantAll_fabricOnly s.share _ _)

theorem sharesServed_granted (requests : List (Nat × Nat)) {r : Nat} (hr : r < 6) : at' (sharesServed s requests).fabric.granted r ≤ s.share r := by
  have served := grantAll_granted s.share (List.range 6) (s.enqueueTx requests) r List.nodup_range
  rw [enqueueTx_granted requests hr, if_pos (List.mem_range.mpr hr), Nat.zero_add] at served
  exact served

theorem fabricWindow_lends (requests : List (Nat × Nat)) : fabricWindow requests s =
    if (sharesServed s requests).cfgN 0x6011 0 = 1 then (sharesServed s requests).lend (sharesServed s requests).spareCycles else sharesServed s requests := rfl

theorem fabricWindow_fabricOnly (requests : List (Nat × Nat)) : FabricOnly s (fabricWindow requests s) := by
  rw [fabricWindow_lends]
  split
  · exact (sharesServed_fabricOnly requests).trans (lend_fabricOnly _ _)
  · exact sharesServed_fabricOnly requests

/-- R19: without FabricBorrow no region is granted more than its share. -/
theorem fabricWindow_granted (requests : List (Nat × Nat)) (hb : s.cfgN 0x6011 0 ≠ 1) {r : Nat} (hr : r < 6) :
    at' (fabricWindow requests s).fabric.granted r ≤ s.share r := by
  have only := sharesServed_fabricOnly (s := s) requests
  have granted := sharesServed_granted (s := s) requests hr
  rw [fabricWindow_lends]
  generalize sharesServed s requests = t at only granted ⊢
  have kept : t.cfgN 0x6011 0 = s.cfgN 0x6011 0 := by
    refine cfgN_congr ?_ ?_ ..
    all_goals rw [only]
  rw [if_neg (by rw [kept]; exact hb)]
  exact granted

end Windows

/-- Settles O36: lost events by the rule of R81, a window by what each region is granted. -/
theorem eventsAndFabric : Obligations.EventsAndFabric := by
  unfold Obligations.EventsAndFabric
  refine ⟨⟨fun s hl => ⟨_, next_of_live rfl hl rfl, rfl, fun w => mem_still_waiting, rfl, rfl⟩, fun s w hl hw due h0 => ?_, fun s cell n hl h hw room => ?_,
    fun s hl h => ?_⟩, fun s requests hl => ?_⟩
  · exact next_of_live rfl hl (eventPlaceTimeout_one hw due h0)
  · exact next_of_live rfl hl (eventsLost_one h hw room)
  · exact next_of_live rfl hl (eventsLost_none h)
  · exact ⟨_, next_of_live rfl hl rfl, fabricWindow_fabricOnly requests, fun hb _ r hr => fabricWindow_granted requests hb hr⟩

end Sys2Proof.Proofs
end

section
/-!
The record store: records appended and sealed (R450 to R452, R458), stripes programmed (R461, R468, R473, R475).
-/
namespace Sys2Proof.Proofs
open Sys2Proof.Machine Sys2Proof.Laws

/-! ### Appends -/

section Appends
variable {s s1 : State} {b : Bytes}

theorem takeQ41_record {take : State → Bytes → State} {mark : State → Nat → State} (h : s.popPacket 41 = some (s1, b, false)) (hb : b.length = 32) :
    s.takeQ41 take mark = take s1 b := by
  unfold State.takeQ41
  rw [h]
  exact (if_neg Bool.false_ne_true).trans (if_pos hb)

theorem recordAppend_ready (hm : s.store.mode = .ready) (hfree : s.appendBlocked = false) (h : s.popPacket 41 = some (s1, b, false)) (hb : b.length = 32) :
    recordAppend s = s1.appendRecord b := by
  unfold recordAppend
  rw [hm]
  dsimp only
  rw [if_neg (by simp [hfree]), takeQ41_record h hb]

theorem recordAppend_readOnly (hm : s.store.mode = .readOnly) (h : s.popPacket 41 = some (s1, b, false)) (hb : b.length = 32) :
    recordAppend s = { s1.storeCount 14 1 with store := { (s1.storeCount 14 1).store with discarded := sat32 s1.store.discarded } } := by
  unfold recordAppend
  rw [hm]
  dsimp only
  rw [takeQ41_record h hb]

theorem recordAppend_mounting (hm : s.store.mode = .mounting) : recordAppend s = s := by
  unfold recordAppend
  rw [hm]

/-- R450: an ASEQ below the floor of the root is taken without writing the root. -/
theorem takeAseq_below_floor (h : s.store.nextAseq < s.root.floor) :
    s.takeAseq = ({ s with store := { s.store with nextAseq := s.store.nextAseq + 1 } }, s.store.nextAseq) := by
  unfold State.takeAseq
  dsimp only
  rw [if_neg (Nat.not_le.mpr h)]

/-- R451, R454: what follows a record: a full unit is sealed, a complete index closed. -/
def afterRecord (t : State) : State :=
  let u := if t.store.openRecs.length = 512 then t.sealUnit else t
  if u.cfgN 0x4C01 5 ≤ u.store.indexCount then u.closeIndex else u

theorem afterRecord_open {t : State} (h : t.store.openRecs.length ≠ 512) (hi : t.store.indexCount < t.cfgN 0x4C01 5) : afterRecord t = t := by
  unfold afterRecord
  dsimp only
  rw [if_neg h, if_neg (Nat.not_le.mpr hi)]

/-- R451, R454: a record of another day, or after a full unit, opens a unit. -/
def unitOpened (s : State) : State :=
  let s1 := if s.store.openDay ≠ s.utcDay then s.sealUnit.closeIndex else s
  if s1.store.openRecs = [] then
    { s1.takeMun.1 with store := { s1.takeMun.1.store with openMun := s1.takeMun.2, openDay := s.utcDay, openSince := s.now } }
  else s1

/-- R450, R454: a record takes its ASEQ and its place in the open unit and in the index. -/
def recordPlaced (s : State) (r : Bytes) : State :=
  let t := s.takeAseq
  let st := t.1.store
  State.storeCount { t.1 with store := { st with
      openRecs := st.openRecs ++ [(t.2, r)], index := addBatch (fieldLE r 4 3) (4 * st.openMun + st.openRecs.length / 128) st.index
      indexCount := st.indexCount + 1 } } (if decide (128 ≤ fieldLE r 7 1) then 2 else 1) 1

theorem appendRecord_stages (r : Bytes) : s.appendRecord r = afterRecord (recordPlaced (unitOpened s) r) := rfl

theorem unitOpened_same (hday : s.store.openDay = s.utcDay) (hopen : s.store.openRecs ≠ []) : unitOpened s = s := by
  unfold unitOpened
  dsimp only
  rw [if_neg (not_not_intro hday), if_neg hopen]

theorem recordPlaced_below_floor {r : Bytes} (hfloor : s.store.nextAseq < s.root.floor) :
    recordPlaced s r = State.storeCount { s with store := { s.store with
      nextAseq := s.store.nextAseq + 1, openRecs := s.store.openRecs ++ [(s.store.nextAseq, r)]
      index := addBatch (fieldLE r 4 3) (4 * s.store.openMun + s.store.openRecs.length / 128) s.store.index
      indexCount := s.store.indexCount + 1 } } (if 128 ≤ fieldLE r 7 1 then 2 else 1) 1 := by
  unfold recordPlaced
  dsimp only
  rw [takeAseq_below_floor hfloor]
  simp only [decide_eq_true_eq]

/-- R450, R454: a record that neither opens nor fills its unit, nor completes the index. -/
theorem appendRecord_within {r : Bytes} (hday : s.store.openDay = s.utcDay) (hopen : s.store.openRecs ≠ []) (room : s.store.openRecs.length < 511)
    (hindex : s.store.indexCount + 1 < s.cfgN 0x4C01 5) (hfloor : s.store.nextAseq < s.root.floor) : s.appendRecord r = recordPlaced s r := by
  rw [appendRecord_stages, unitOpened_same hday hopen, recordPlaced_below_floor hfloor]
  refine afterRecord_open ?_ ?_
  · change (s.store.openRecs ++ [(s.store.nextAseq, r)]).length ≠ 512
    rw [List.length_append, List.length_singleton]
    omega
  · exact Nat.lt_of_lt_of_eq hindex (cfgN_congr rfl rfl ..).symm

/-- R452: a record that has waited BatchAge is sealed. -/
theorem batchAgeSeal_due (hm : s.store.mode = .ready) (hage : s.cfgN 0x4C01 4 ≠ 0) (hu : (s.stream 0).units = []) (hopen : s.store.openRecs ≠ [])
    (due : s.store.openSince + cSec (s.cfgN 0x4C01 4) ≤ s.now) : batchAgeSeal s = s.forceSeal := by
  unfold batchAgeSeal
  dsimp only
  rw [hu, if_neg hopen]
  exact if_pos ⟨hm, hage, by simp [due]⟩

theorem batchAgeSeal_off (h : s.cfgN 0x4C01 4 = 0) : batchAgeSeal s = s := if_neg fun hc => hc.2.1 h

end Appends

/-! ### Stripes -/

section Stripes
variable {s s1 : State} {k : Nat}

/-- R461: a stripe with as many sealed units as its superblock holds is programmed. -/
theorem stripeProgram_full (hm : s.store.mode = .ready) (hf : (s.stream k).flying = []) (hu : (s.stream k).units ≠ []) (hr : s.readyStream k = some s1)
    {x : Stream} {dies : List Nat} {cap : Nat} (hx : s1.stream k = x) (hd : (s1.sb (x.sb.getD 0)).dies = dies) (hc : s1.stripeUnits dies = cap)
    (pos : 0 < cap) (full : cap ≤ x.units.length) :
    stripeProgram k s = ((s1.updNv (fun n => { n with
        pages := n.pages ++ s1.stripePages (x.sb.getD 0) x.page (s1.storeNv.pseq + 1) dies (x.units.take cap ++ List.replicate (cap - (x.units.take cap).length) (padUnit s.now))
        pseq := s1.storeNv.pseq + 1 })).updStream k (fun y => { y with
          units := x.units.drop cap, flying := x.units.take cap, flyingPseq := s1.storeNv.pseq + 1, page := y.page + 1
          force := y.force && x.units.drop cap != [] })).storeCount 4 1 := by
  unfold stripeProgram
  dsimp only
  rw [if_neg (by simp [hm, hf, hu]), hr]
  dsimp only
  rw [hx, hd, hc]
  exact if_neg (by omega)

theorem stripeProgram_none (h : (s.stream k).units = []) : stripeProgram k s = s := if_pos (.inr (.inr h))

section Complete
variable {failed : Option (Nat × Nat)}

theorem programComplete_none (h : (s.stream k).flying = []) : programComplete k failed s = s := if_pos (.inl h)

variable (hf : (s.stream k).flying ≠ []) (room : s.journalRoom ((s.stream k).flying.length + 1) = true)
include hf room

theorem programComplete_done : programComplete k none s = s.programDone k := if_neg (by simp [hf, room])

theorem programComplete_failed (d p : Nat) : programComplete k (some (d, p)) s = s.programFailed k d p := if_neg (by simp [hf, room])

end Complete
end Stripes

/-! ### What is on its way to the array -/

/-- The units being programmed are those of before, in every stream. -/
def FlyingKept (s t : State) : Prop := ∀ k, (t.stream k).flying = (s.stream k).flying

/-- A change that leaves a part of an element leaves that part of every element. -/
theorem at'_upd_part {α β : Type} [Inhabited α] (l : List α) (i j : Nat) {f : α → α} (g : α → β) (h : ∀ x, g (f x) = g x) :
    g (at' (upd l i f) j) = g (at' l j) := by
  unfold at' upd
  simp only [List.getD_eq_getElem?_getD, List.getElem?_modify]
  split
  · cases l[j]?
    · rfl
    · exact h _
  · cases l[j]? <;> rfl

section Flying
variable {s t u : State}

theorem FlyingKept.trans (h : FlyingKept s t) (k : FlyingKept t u) : FlyingKept s u := fun i => (k i).trans (h i)

theorem FlyingKept.of_store (h : t.store = s.store) : FlyingKept s t := fun k => by unfold State.stream; rw [h]

theorem updStream_flyingKept {f : Stream → Stream} (h : ∀ x, (f x).flying = x.flying) (j : Nat) : FlyingKept s (s.updStream j f) :=
  fun k => at'_upd_part s.store.streams j k Stream.flying h

theorem updNv_flyingKept (f : StoreNv → StoreNv) : FlyingKept s (s.updNv f) := fun _ => rfl

theorem copyUnits_flyingKept (k origin : Nat) (l : List (Nat × Loc)) : FlyingKept s (s.copyUnits k origin l) := by
  unfold State.copyUnits
  induction l generalizing s with
  | nil => exact fun _ => rfl
  | cons p l ih =>
    rw [List.foldl_cons]
    refine FlyingKept.trans ?_ ih
    split
    · exact fun _ => rfl
    · exact updStream_flyingKept (by intro _; rfl) k

theorem closeStream_flyingKept (k : Nat) : FlyingKept s (s.closeStream k) := by
  unfold State.closeStream
  split
  · exact FlyingKept.trans (fun _ => rfl) (updStream_flyingKept (by intro _; rfl) k)
  · exact fun _ => rfl

theorem storeCount_flyingKept (i n : Nat) : FlyingKept s (s.storeCount i n) := fun _ => rfl

theorem event_flyingKept (code cell : Nat) (data : Bytes) : FlyingKept s (s.event code cell data) := by
  obtain ⟨_, _, _, h⟩ := event_eventsOnly s code cell data
  exact .of_store (by rw [h])

theorem retireBlock_flyingKept (i d plane cause : Nat) : FlyingKept s (s.retireBlock i d plane cause) := by
  unfold State.retireBlock
  exact (((updNv_flyingKept _).trans (updNv_flyingKept _)).trans (updNv_flyingKept _)).trans (event_flyingKept _ _ _)

/-- R475: after a failure nothing of the stripe is on its way any more. -/
theorem programFailed_flying {k : Nat} (hk : k < s.store.streams.length) (d p : Nat) : ((s.programFailed k d p).stream k).flying = [] := by
  unfold State.programFailed
  dsimp only
  refine (((((updStream_flyingKept (by intro _; rfl) 2).trans (closeStream_flyingKept k)).trans (copyUnits_flyingKept _ _ _)).trans (storeCount_flyingKept _ _)).trans
    (retireBlock_flyingKept _ _ _ _) k).trans ?_
  exact congrArg Stream.flying (at'_upd_same hk _)

end Flying

/-- Settles O37: a rule for each way in which a record is appended and a stripe programmed. -/
theorem recordsAndStripes : Obligations.RecordsAndStripes := by
  unfold Obligations.RecordsAndStripes
  refine ⟨⟨fun s s1 b hl hm hfree h hb => ?_, fun s s1 b hl hm h hb => ?_, fun s hl hm => ?_, fun s r _ hday hopen room hindex hfloor => ?_,
      fun s hrun hm hage hu hopen due => ?_, fun s hrun h => ?_⟩,
    fun s s1 k hl hm hf hu hr => ?_, fun s k hl h => ?_, fun s k hl hf room => ⟨?_, fun d p => ?_⟩, fun s k failed hl h => ?_,
      fun s k d p hk => programFailed_flying hk d p⟩
  · exact next_of_live rfl hl (recordAppend_ready hm hfree h hb)
  · exact next_of_live rfl hl (recordAppend_readOnly hm h hb)
  · exact next_of_live rfl hl (recordAppend_mounting hm)
  · exact (appendRecord_within hday hopen room hindex hfloor).trans (recordPlaced_below_floor hfloor)
  · exact next_of_running rfl hrun (batchAgeSeal_due hm hage hu hopen due)
  · exact next_of_running rfl hrun (batchAgeSeal_off h)
  · exact fun pos full => next_of_live rfl hl (stripeProgram_full hm hf hu hr rfl rfl rfl pos full)
  · exact next_of_live rfl hl (stripeProgram_none h)
  · exact next_of_live rfl hl (programComplete_done hf room)
  · exact next_of_live rfl hl (programComplete_failed hf room d p)
  · exact next_of_live rfl hl (programComplete_none h)

end Sys2Proof.Proofs
end

section
/-!
The record store's upkeep: reads (R456, R462), days and superblocks (R457, R470 to R477), checkpoints, images and FORMAT (R469, R479, R484).
-/
namespace Sys2Proof.Proofs
open Sys2Proof.Machine Sys2Proof.Laws

/-! ### Reads -/

section Reads
variable {s s1 : State}

theorem storeRead_takes {q : Nat} {b : Bytes} {a : Bool} {reads : List UnitRead} (hr : s.storeReads = true) (h : s.popPacket (42 + q) = some (s1, b, a)) :
    storeRead q reads s = reads.foldl State.readEffects s1 := by
  unfold storeRead
  rw [if_pos hr, h]

theorem storeRead_closed {q : Nat} {reads : List UnitRead} (hr : s.storeReads = false) : storeRead q reads s = s := if_neg (by simp [hr])

/-- R462: a read without trouble is only counted. -/
theorem readEffects_good {r : UnitRead} {l : Loc} (hl : lookupKey r.mun s.storeNv.map = some (some l)) (hbad : r.bad = []) (h0 : r.retries = 0)
    (hbits : r.bits ≤ s.cfgN 0x4C01 9) (hd : (s.die l.die).state ≠ 2) : s.readEffects r = (s.storeCount 9 r.corrected).storeCount 10 0 := by
  have alive : (((((s.storeCount 9 r.corrected).storeCount 10 r.retries).sb l.sb).dies.filter (fun d =>
      r.bad.contains d || (((s.storeCount 9 r.corrected).storeCount 10 r.retries).die d).state == 2)).contains l.die) = false := by
    rw [List.contains_eq_mem, decide_eq_false_iff_not]
    intro h
    obtain ⟨_, dead⟩ := List.mem_filter.mp h
    rw [hbad, Bool.or_eq_true] at dead
    exact dead.elim (fun h => by simp at h) (fun h => hd (beq_iff_eq.mp h))
  have bits : ((s.storeCount 9 r.corrected).storeCount 10 r.retries).cfgN 0x4C01 9 = s.cfgN 0x4C01 9 := cfgN_congr rfl rfl ..
  unfold State.readEffects
  rw [hl]
  dsimp only
  rw [alive, Bool.not_false, if_pos rfl, bits, if_neg (by omega), h0]

theorem patrolRead_one {i : Nat} {r : UnitRead} (hm : s.store.mode = .ready) (hon : s.cfgN 0x4C01 10 ≠ 0) (hi : i < s.storeNv.sbs.length)
    (hc : (s.sb i).state = .closed) (hv : (s.validIn i).any (fun p => p.1 == r.mun) = true) : patrolRead i [r] s = s.readEffects r := by
  unfold patrolRead
  rw [if_pos ⟨hm, hon, hi, hc⟩, List.filter_cons, if_pos hv]
  rfl

theorem patrolRead_off {i : Nat} {reads : List UnitRead} (h : s.cfgN 0x4C01 10 = 0) : patrolRead i reads s = s := if_neg fun hc => hc.2.1 h

theorem unitRelocate_one {m : Nat} {l : Loc} (hm : s.store.mode = .ready) (hw : s.store.weak = [m]) (hl : lookupKey m s.storeNv.map = some (some l)) :
    unitRelocate s = State.copyUnits { s with store := { s.store with weak := [] } } 2 3 [(m, l)] := by
  unfold unitRelocate
  rw [if_pos hm, hw, List.filterMap_cons, hl]
  rfl

/-- A store that is read-only is not READY. -/
theorem not_ready (h : s.store.mode = .readOnly) : s.store.mode ≠ .ready := fun hc => by rw [h] at hc; cases hc

/-- A READY store is not read-only. -/
theorem not_readOnly (h : s.store.mode = .ready) : s.store.mode ≠ .readOnly := fun hc => by rw [h] at hc; cases hc

theorem unitRelocate_readOnly (h : s.store.mode = .readOnly) : unitRelocate s = s := if_neg (not_ready h)

end Reads

/-! ### Days and superblocks -/

section Upkeep
variable {s : State} {i : Nat}

theorem dayReclaimed_due {d : DayDir} (hm : s.store.mode = .ready) (hdue : s.reclaimDue = true) (room : s.journalRoom 1 = true) (hd : s.dueDay = some d) :
    dayReclaimed s = s.reclaimSealed d.day := by
  unfold dayReclaimed
  rw [if_pos ⟨hm, hdue, room⟩, hd]

theorem dayReclaimed_not_due (h : s.reclaimDue = false) : dayReclaimed s = s := if_neg fun hc => by simp [h] at hc

/-- R471: an empty closed superblock is erased. -/
theorem garbageCollection_empty (hm : s.store.mode = .ready) (hr : s.relocateDies = s) (hlow : s.freeSbs.length < s.cfgN 0x4C01 3)
    (he : s.closedSbs.find? (fun i => s.validIn i == []) = some i) : garbageCollection s = s.updSb i (fun b => { b with state := .erasing }) := by
  unfold garbageCollection
  dsimp only
  rw [if_neg (not_not_intro hm), hr, if_neg (Nat.not_le.mpr hlow), he]

theorem garbageCollection_readOnly (h : s.store.mode = .readOnly) : garbageCollection s = s := if_pos (not_ready h)

theorem eraseComplete_done (hi : i < s.storeNv.sbs.length) (he : (s.sb i).state = .erasing) (room : s.journalRoom 2 = true) :
    eraseComplete i none s = (((s.journal 0 i 0 3).updNv (fun n => { n with pages := n.pages.filter (fun p => p.at'.sb ≠ i) })).updSb i
      (fun b => { b with state := .free, erases := b.erases + 1 })).storeCount 8 1 := if_pos ⟨hi, he, room⟩

theorem eraseComplete_free {failed : Option (Nat × Nat)} (h : (s.sb i).state = .free) : eraseComplete i failed s = s :=
  if_neg fun hc => by rw [h] at hc; cases hc.2.1

/-- R474: the coldest superblock with units in it is moved onto the most-worn free one. -/
theorem wearMove_moves {src dst : Nat} (hm : s.store.mode = .ready) (hsb : (s.stream 3).sb = none) (hu : (s.stream 3).units = [])
    (hf : (s.stream 3).flying = []) (hw : s.cfgN 0x4C01 6 < s.eraseSpread) (hsrc : leastBy (fun i => (s.sb i).erases) s.closedSbs = some src)
    (hdst : leastBy (fun i => 0xFFFFFFFF - (s.sb i).erases) s.freeSbs = some dst) (hv : s.validIn src ≠ []) :
    wearMove s = ((s.openSb 3 dst).copyUnits 3 2 (s.validIn src)).event 0x4C0C 0x4200 (leBytes 2 src ++ leBytes 2 dst ++ leBytes 2 s.eraseSpread) := by
  unfold wearMove
  dsimp only
  rw [if_pos ⟨hm, hsb, hu, hf, hw⟩, hsrc, hdst]
  dsimp only
  rw [if_neg hv]
  rfl

theorem wearMove_even (h : s.eraseSpread ≤ s.cfgN 0x4C01 6) : wearMove s = s := if_neg fun hc => Nat.not_lt.mpr h hc.2.2.2.2

theorem dieRebuildDone_done {d : Nat} (hd : (s.die d).state = 2)
    (h : (List.range s.storeNv.sbs.length).all (fun i => !(s.sb i).dies.contains d || s.validIn i == []) = true) :
    dieRebuildDone d s = (s.updDie d (fun x => { x with state := 3 })).event 0x4C08 (0x4300 + d)
      (leBytes 4 (s.die d).relocated ++ leBytes 4 ((s.now - (s.die d).retiringAt) / cSec 1)) := if_pos ⟨hd, h⟩

theorem dieRebuildDone_other {d : Nat} (hd : (s.die d).state ≠ 2) : dieRebuildDone d s = s := if_neg fun hc => hd hc.1

/-- R459: two free superblocks let a read-only store go on. -/
theorem tryResume_free (hm : s.store.mode = .readOnly) (hf : 2 ≤ s.freeSbs.length) (hd : 2 ≤ s.activeDies.length) :
    s.tryResume = State.event { s with store := { s.store with mode := .ready } } 0x4C04 0x4200 (leBytes 4 s.freeSbs.length) := by
  unfold State.tryResume
  dsimp only
  rw [if_neg (Nat.not_lt.mpr hf)]
  exact if_pos ⟨hm, hd, by simp [hf]⟩

theorem storeFullHourly_due (hm : s.store.mode = .readOnly) (ht : s.store.fullAt + cSec 3600 ≤ s.now) : storeFullHourly s = s.fullAlarm := if_pos ⟨hm, ht⟩

theorem storeFullHourly_ready (hm : s.store.mode = .ready) : storeFullHourly s = s := if_neg fun hc => not_readOnly hm hc.1

end Upkeep

/-! ### Checkpoints and images -/

section Checkpoints
variable {s : State}

theorem mapCheckpoint_empty (hm : s.store.mode = .ready) (hc : s.store.ckpting = false) (ho : s.storeNv.otherHalf = true) (h0 : s.root.units = 0) :
    mapCheckpoint s = { s with store := { s.store with ckpting := true, ckptLocs := [] } } := by
  unfold mapCheckpoint
  dsimp only
  rw [if_pos ⟨hm, by rw [hc]; rfl, .inl ho⟩, h0, if_pos ho]
  rfl

theorem mapCheckpoint_running (h : s.store.ckpting = true) : mapCheckpoint s = s := if_neg fun hc => by simp [h] at hc

theorem checkpointComplete_done (hc : s.store.ckpting = true)
    (h : s.store.streams.any (fun x => (x.units ++ x.flying).any (fun u => u.kind == 6)) = false) :
    checkpointComplete s = (let t := s.updNv (fun n => { n with
        otherHalf := false, root := n.root.map (fun r => { r with checkpoint := s.store.ckptLocs, lastDurable := n.durable }) })
      { t with store := { t.store with ckpting := false, ckptLocs := [] } }) := if_pos ⟨hc, by rw [h]; rfl⟩

/-- R480: the marker of an image unit enters Q40, and its snapshot is taken. -/
theorem imageUnitWrite_marked {t : State} {u : Nat} (hm : s.store.mode = .ready) (hu : s.unitUsed u = true ∨ s.store.dueUnits.contains u = true)
    (hs : s.store.snaps.any (fun x => x.unit == u) = false) (ho : s.store.imagesOwed.contains u = false) (hq : s.pushPacket 40 0x2200 (leBytes 4 u) = some t) :
    imageUnitWrite u s = { t with store := { t.store with
      snaps := t.store.snaps ++ [Snap.mk u (t.imageBytes u)], dueUnits := t.store.dueUnits.filter (· ≠ u) } } := by
  unfold imageUnitWrite
  rw [if_pos ⟨hm, hu, by rw [hs]; rfl⟩, if_neg (by rw [ho]; exact Bool.false_ne_true), hq]
  rfl

theorem imageUnitWrite_unused {u : Nat} (hu : s.unitUsed u = false) (hd : s.store.dueUnits.contains u = false) : imageUnitWrite u s = s :=
  if_neg fun ⟨_, h, _⟩ => by rw [hu, hd] at h; exact h.elim Bool.false_ne_true Bool.false_ne_true

end Checkpoints

/-! ### FORMAT and RECLAIM_THROUGH -/

section Commands
variable {s : State}

theorem storeAnswer_refused {code : Nat} (h : code ≠ Abort.ok) : s.storeAnswer code = ({ s with store := { s.store with abort := code } }, code) := by
  unfold State.storeAnswer
  rw [if_neg h]

theorem format_ready (hm : s.store.mode = .ready) :
    format 0xA5 s = ({ s with store := { s.store with mode := .formatting, formatReady := true } }, Abort.ok) := by
  unfold format
  rw [if_neg (not_not_intro rfl), hm]
  rfl

theorem format_value {v : Nat} (h : v ≠ 0xA5) : format v s = ({ s with store := { s.store with abort := Abort.valueRange } }, Abort.valueRange) :=
  (if_pos h).trans (storeAnswer_refused (by decide))

theorem format_formatting (hm : s.store.mode = .formatting) :
    format 0xA5 s = ({ s with store := { s.store with abort := Abort.busy } }, Abort.busy) := by
  unfold format
  rw [if_neg (not_not_intro rfl), hm]
  exact storeAnswer_refused (by decide)

/-- R484: the store that a format leaves, and what it does not touch. -/
theorem formatComplete_fresh {bad : List (Nat × Nat × Nat)} (hm : s.store.mode = .formatting) (hr : s.store.formatReady = false) :
    ∃ t, formatComplete bad s = t ∧ t.store.mode = .ready ∧ t.store.imagesOwed = [] ∧ t.storeNv.map = [] ∧ t.storeNv.days = [] ∧
      t.store.nextAseq = 0 ∧ t.mtr = s.mtr ∧ t.cfg = s.cfg ∧ t.queue = s.queue := by
  refine ⟨_, if_pos hm, rfl, ?_, rfl, rfl, rfl, rfl, rfl, rfl⟩
  dsimp only
  rw [hr, if_neg Bool.false_ne_true]

theorem formatComplete_ready {bad : List (Nat × Nat × Nat)} (hm : s.store.mode = .ready) : formatComplete bad s = s :=
  if_neg fun hc => by rw [hm] at hc; cases hc

theorem reclaimThrough_mounting {day : Nat} (hm : s.store.mode = .mounting) :
    reclaimThrough day s = ({ s with store := { s.store with abort := Abort.notInState } }, Abort.notInState) := by
  unfold reclaimThrough
  rw [hm]
  exact storeAnswer_refused (by decide)

section Reclaims
variable {day : Nat} (hm : s.store.mode = .ready) (hr : s.reclaimable day = true) (hf : s.flushDay day = s)
include hm hr hf

theorem reclaimThrough_no_days (hd : s.storeNv.days = []) (ht : s.tryResume = s) : reclaimThrough day s = (s, Abort.ok) := by
  unfold reclaimThrough
  rw [hm]
  dsimp only
  rw [if_neg (by simp [hr]), hf, hd]
  exact congrArg (·, Abort.ok) ht

theorem reclaimThrough_one {d : DayDir} (hd : s.storeNv.days = [d]) (hle : d.day ≤ day) : reclaimThrough day s = ((s.reclaimDay d).tryResume, Abort.ok) := by
  unfold reclaimThrough
  rw [hm]
  dsimp only
  rw [if_neg (by simp [hr]), hf, hd, List.filter_cons_of_pos (by simp [hle]), List.filter_nil, List.map_cons, List.map_nil]
  have single : sortInts [(d.day : Int)] = [(d.day : Int)] := rfl
  rw [single, List.foldl_cons, List.foldl_nil, hd, List.find?_cons_of_pos (by simp)]

end Reclaims
end Commands

/-- Settles O38: a rule for each step of the store's upkeep and each of its commands. -/
theorem storeService : Obligations.StoreService := by
  unfold Obligations.StoreService
  refine ⟨⟨fun s s1 q b a reads hl hr h => ?_, fun s q reads hl hr => ?_, fun s r l hl hbad h0 hbits hd => readEffects_good hl hbad h0 hbits hd,
      fun s sb r hrun hm hon hi hc hv => ?_, fun s sb reads hrun h => ?_, fun s m l hrun hm hw hl => ?_, fun s hrun h => ?_⟩,
    ⟨fun s d hrun hm hdue room hd => ?_, fun s hrun h => ?_, fun s i hrun hm hr hlow he => ?_, fun s hrun h => ?_, fun s i hl hi he room => ?_,
      fun s i failed hl h => ?_, fun s src dst hrun hm hsb hu hf hw hsrc hdst hv => ?_, fun s hrun h => ?_, fun s d hrun hd h => ?_, fun s d hrun hd => ?_,
      fun s hrun hm hf hd => ?_, fun s hrun hm ht => ?_, fun s hrun hm => ?_⟩,
    fun s hrun hm hc ho h0 => ?_, fun s hrun h => ?_, fun s hl hc h => ?_, fun s t u hl hm hu hs ho hq => ?_, fun s u hl hu hd => ?_,
    fun s role ht hr => ⟨fun hm => ?_, fun v hv => ?_, fun hm => ?_⟩, fun s bad hrun hm hr => ?_, fun s bad hrun hm => ?_,
    fun s role day ht hr => ⟨fun hm => ?_, fun hm hre hf hd htry => ?_, fun d hm hre hf hd hle => ?_⟩⟩
  · exact next_of_live rfl hl (storeRead_takes hr h)
  · exact next_of_live rfl hl (storeRead_closed hr)
  · exact next_of_running rfl hrun (patrolRead_one hm hon hi hc hv)
  · exact next_of_running rfl hrun (patrolRead_off h)
  · exact next_of_running rfl hrun (unitRelocate_one hm hw hl)
  · exact next_of_running rfl hrun (unitRelocate_readOnly h)
  · exact next_of_running rfl hrun (dayReclaimed_due hm hdue room hd)
  · exact next_of_running rfl hrun (dayReclaimed_not_due h)
  · exact next_of_running rfl hrun (garbageCollection_empty hm hr hlow he)
  · exact next_of_running rfl hrun (garbageCollection_readOnly h)
  · exact next_of_live rfl hl (eraseComplete_done hi he room)
  · exact next_of_live rfl hl (eraseComplete_free h)
  · exact next_of_running rfl hrun (wearMove_moves hm hsb hu hf hw hsrc hdst hv)
  · exact next_of_running rfl hrun (wearMove_even h)
  · exact next_of_running rfl hrun (dieRebuildDone_done hd h)
  · exact next_of_running rfl hrun (dieRebuildDone_other hd)
  · exact next_of_running rfl hrun (tryResume_free hm hf hd)
  · exact next_of_running rfl hrun (storeFullHourly_due hm ht)
  · exact next_of_running rfl hrun (storeFullHourly_ready hm)
  · exact next_of_running rfl hrun (mapCheckpoint_empty hm hc ho h0)
  · exact next_of_running rfl hrun (mapCheckpoint_running h)
  · exact next_of_live rfl hl (checkpointComplete_done hc h)
  · exact next_of_live rfl hl (imageUnitWrite_marked hm hu hs ho hq)
  · exact next_of_live rfl hl (imageUnitWrite_unused hu hd)
  · exact next_of_command rfl ht hr (format_ready hm)
  · exact next_of_command rfl ht hr (format_value hv)
  · exact next_of_command rfl ht hr (format_formatting hm)
  · obtain ⟨t, step, left⟩ := formatComplete_fresh (bad := bad) hm hr
    exact ⟨t, next_of_running rfl hrun step, left⟩
  · exact next_of_running rfl hrun (formatComplete_ready hm)
  · exact next_of_command rfl ht hr (reclaimThrough_mounting hm)
  · exact next_of_command rfl ht hr (reclaimThrough_no_days hm hre hf hd htry)
  · exact next_of_command rfl ht hr (reclaimThrough_one hm hre hf hd hle)

end Sys2Proof.Proofs
end

section
/-!
Ethernet ports (R490, R492, R514), frame import (R509 to R512) and return datagrams (R513).
-/
namespace Sys2Proof.Proofs
open Sys2Proof.Machine Sys2Proof.Laws

/-! ### Frames received -/

section Frames
variable {s : State} {p capture : Nat} {frame : Bytes}

theorem ethFrameReceived_unusable (h : s.ethUsable p = false) : ethFrameReceived p capture frame s = s := if_pos (by rw [h]; rfl)

section Usable
variable (hu : s.ethUsable p = true)
include hu

theorem ethFrameReceived_short (h : frame.length < 18) : ethFrameReceived p capture frame s = (s.ethCount p 1).ethCount p 2 :=
  (if_neg (by simp [hu])).trans (if_pos (by simp [h]))

section Whole
variable (h18 : 18 ≤ frame.length) (hcrc : leBytes 4 (crc32 (frame.take (frame.length - 4))) = frame.drop (frame.length - 4))
include h18 hcrc

theorem ethFrameReceived_long (h : 1522 < frame.length) : ethFrameReceived p capture frame s = (s.ethCount p 1).ethCount p 3 :=
  (if_neg (by simp [hu])).trans ((if_neg (by simp [h18, hcrc])).trans (if_pos h))

/-- R492: a whole UDP datagram of the port's VLAN is distributed by its port. -/
theorem ethFrameReceived_udp {i : IpParts} (h : frame.length ≤ 1522)
    (hv : (ethParts (frame.take (frame.length - 4))).vlan.getD 0 = s.cfgN (0x5000 + p) 5)
    (ht : (ethParts (frame.take (frame.length - 4))).etherType = 0x0800)
    (hi : ipParts 0x0800 (ethParts (frame.take (frame.length - 4))).body = some i) (hfrag : i.frag = false) (hproto : i.protocol = 17)
    (hok : udpOk i = true) :
    ethFrameReceived p capture frame s = (s.ethCount p 1).udpReceived p capture (s.cfgN (0x5000 + p) 5) (frame.take (frame.length - 4)) i := by
  unfold ethFrameReceived
  dsimp only
  rw [if_neg (by simp [hu]), if_neg (by simp [h18, hcrc]), if_neg (Nat.not_lt.mpr h), if_neg (not_not_intro hv), ht, if_neg (by decide), if_neg (by decide),
    if_pos (.inl rfl), hi]
  exact (if_neg (by simp [hfrag])).trans ((if_pos hproto).trans (if_pos hok))

end Whole

/-- R514: the echo of a departure enters Q53. -/
theorem departureEcho_enters {tag : Nat} {t : State}
    (h : ((s.ethCount p 8).put (.eth p frame)).pushOrDrop 53 (0x6000 + p)
      (padTo 64 (time80 (s.tdAt 0 (s.ethTxStamp p capture)) ++ [byte p, 0] ++ leBytes 2 tag ++ leBytes 2 frame.length) ++ frame) = (t, true)) :
    departureEcho p capture tag frame s = t := by
  unfold departureEcho ethCell
  dsimp only
  rw [if_neg (by simp [hu]), h]
  exact if_pos rfl

end Usable

theorem departureEcho_unusable {tag : Nat} (h : s.ethUsable p = false) : departureEcho p capture tag frame s = s := if_pos (by rw [h]; rfl)

end Frames

/-! ### Links -/

section Links
variable {s : State} {p : Nat}

theorem ethLinkChanged_up (hon : s.cfgN (0x5000 + p) 1 = 1) (hs : s.inService (0x6000 + p) = true) (hd : (at' s.up.eth p).up = false) :
    ethLinkChanged p true s = State.event { s with up := { s.up with
      eth := upd s.up.eth p (fun y => { y with up := true, speed := s.cfgN (0x5000 + p) 2 }) } } 0x5001 (0x6000 + p)
      [byte p, 1, byte (s.cfgN (0x5000 + p) 2)] := by
  have ok : (true && s.cfgN (0x5000 + p) 1 == 1 && s.inService (0x6000 + p)) = true := by rw [hon, hs]; rfl
  unfold ethLinkChanged ethCell
  dsimp only
  rw [ok, hd, if_neg Bool.false_ne_true, if_pos rfl]
  rfl

theorem ethLinkChanged_down (hd : (at' s.up.eth p).up = true) :
    ethLinkChanged p false s = (State.event { s with up := { s.up with
      eth := upd s.up.eth p (fun y => { y with up := false, speed := s.cfgN (0x5000 + p) 2 }) } } 0x5001 (0x6000 + p)
      [byte p, 0, byte (s.cfgN (0x5000 + p) 2)]).raiseError (0x6000 + p) 0x0016 := by
  unfold ethLinkChanged ethCell
  dsimp only
  rw [Bool.false_and, Bool.false_and, hd, if_neg Bool.false_ne_true.symm, if_neg Bool.false_ne_true]
  rfl

theorem ethLinkChanged_stays_down (hd : (at' s.up.eth p).up = false) : ethLinkChanged p false s = s := by
  unfold ethLinkChanged
  dsimp only
  rw [Bool.false_and, Bool.false_and, hd]
  exact if_pos rfl

end Links

/-! ### Import -/

section Import
variable {s : State} {v : Via} {stamp : Int} {b : Bytes}

theorem importDatagram_off (h : s.cfgN 0x5020 1 = 0) : importDatagram v stamp b s = s := if_pos h

section On
variable (hon : s.cfgN 0x5020 1 ≠ 0) (hs : s.inService 0x6200 = true)
include hon hs

theorem importDatagram_malformed (hb : importBody b = none) : importDatagram v stamp b s = s.impReject 1 (fieldLE b 4 8) := by
  unfold importDatagram importCell
  dsimp only
  rw [if_neg hon, if_neg (by simp [hs]), hb]

variable {es : List ImportEntry} (hb : importBody b = some es) (h0 : bit (fieldLE b 3 1) 0 = false)
include hb h0

theorem importDatagram_untagged (ha : s.cfgN 0x5020 2 ≠ 0) : importDatagram v stamp b s = s.impReject 2 (fieldLE b 4 8) := by
  unfold importDatagram importCell State.importTagOk
  dsimp only
  rw [if_neg hon, if_neg (by simp [hs]), hb, h0, if_neg Bool.false_ne_true]
  exact if_pos (by simp [ha])

/-- R511, R512: the entries of a listed gateway enter Q6. -/
theorem importDatagram_listed (ha : s.cfgN 0x5020 2 = 0) (hl : s.gatewayListed (fieldLE b 4 8) = true) :
    importDatagram v stamp b s = es.foldl (fun st e => st.importEntry (fieldLE b 4 8) stamp e) (s.noteGateway (fieldLE b 4 8) v) := by
  unfold importDatagram importCell State.importTagOk
  dsimp only
  rw [if_neg hon, if_neg (by simp [hs]), hb, h0, if_neg Bool.false_ne_true, hl]
  exact (if_neg (by simp [ha])).trans ((if_neg (by simp)).trans (if_neg (by simp)))

end On
end Import

/-! ### Return datagrams -/

section Returns
variable {s s1 : State} {b : Bytes}

theorem returnDatagram_none (h : s.popPacket 14 = none) : returnDatagram s = s := by
  unfold returnDatagram
  split
  · rfl
  · rw [h]

section Packet
variable (hs : s.inService 0x6200 = true) (h : s.popPacket 14 = some (s1, b, false))
include hs h

theorem returnDatagram_unknown (hr : s1.up.imp.returns.find? (fun r => r.eui == fieldLE b 0 8) = none) : returnDatagram s = s1.impCount 6 := by
  unfold returnDatagram importCell
  rw [if_neg (by simp [hs]), h]
  dsimp only
  rw [if_neg Bool.false_ne_true, hr]

/-- R513: an unauthenticated return datagram goes to the gateway that heard the meter. -/
theorem returnDatagram_sent {r : ReturnEntry} {g : Gateway} (hr : s1.up.imp.returns.find? (fun r => r.eui == fieldLE b 0 8) = some r)
    (hg : s1.up.imp.gateways.find? (fun x => x.eui == r.gateway) = some g) (ha : s1.cfgN 0x5020 2 = 0) :
    returnDatagram s = (s1.takeImportSeq.1.impCount 5).udpSend
      { transport := if g.family = 4 then 0 else 1, port := g.ethPort, vlan := g.vlan, udpPort := g.udpPort, address := g.address } (s1.cfgN 0x5002 3)
      (returnBytes s1.up.imp.seq r.linkType (fieldLE b 8 4) (fieldLE b 0 8) (b.drop 64) none) := by
  have offPlan : (s1.cfgN 0x5020 2 == 1) = false := by simp [ha]
  unfold returnDatagram importCell
  rw [if_neg (by simp [hs]), h]
  dsimp only
  rw [if_neg Bool.false_ne_true, hr]
  dsimp only
  rw [hg]
  dsimp only
  rw [offPlan, if_neg Bool.false_ne_true, if_neg fun h => Bool.false_ne_true h.1]
  rfl

end Packet
end Returns

/-- R161: a return datagram makes room in Q14 for what waits in Q35. -/
theorem returnDatagram_exec {s t : State} (hl : s.live = true) (h : returnDatagram s = t) : exec .returnDatagram s = .next t.passReacks :=
  next_of_live (f := fun t => (returnDatagram t).passReacks) rfl hl (by rw [h])

/-- Settles O39: a rule for each way of a frame at a port, of an import datagram and of a return datagram. -/
theorem ethernetAndImport : Obligations.EthernetAndImport := by
  unfold Obligations.EthernetAndImport
  refine ⟨⟨fun s p capture frame hl h => ?_, fun s p capture frame hl hu h => ?_, fun s p capture frame hl hu h hcrc => ?_,
      fun s p capture frame i hl hu h18 h => ?_, fun s p capture tag frame t hl hu h => ?_,
      fun s p capture tag frame hl h => ?_, fun s p hl hon hs hd => ?_, fun s p hl hd => ?_, fun s p hl hd => ?_⟩,
    fun s v stamp b hrun h => ?_, fun s v stamp b hrun hon hs hb => ?_, fun s v stamp b es hrun hon hs hb h0 ha => ?_,
    fun s v stamp b es hrun hon hs hb h0 ha hlist => ?_, fun s s1 b hl hs h hr => ?_, fun s s1 b r g hl hs h hr hg ha => ?_, fun s hl h => ?_⟩
  · exact next_of_live rfl hl (ethFrameReceived_unusable h)
  · exact next_of_live rfl hl (ethFrameReceived_short hu h)
  · exact next_of_live rfl hl (ethFrameReceived_long hu (by omega) hcrc h)
  · intro f hcrc hv ht hi hfrag hproto hok
    exact next_of_live rfl hl (ethFrameReceived_udp hu h18 hcrc h hv ht hi hfrag hproto hok)
  · exact next_of_live rfl hl (departureEcho_enters hu h)
  · exact next_of_live rfl hl (departureEcho_unusable h)
  · exact next_of_live rfl hl (ethLinkChanged_up hon hs hd)
  · exact next_of_live rfl hl (ethLinkChanged_down hd)
  · exact next_of_live rfl hl (ethLinkChanged_stays_down hd)
  · exact next_of_running rfl hrun (importDatagram_off h)
  · exact next_of_running rfl hrun (importDatagram_malformed hon hs hb)
  · exact next_of_running rfl hrun (importDatagram_untagged hon hs hb h0 ha)
  · exact next_of_running rfl hrun (importDatagram_listed hon hs hb h0 ha hlist)
  · exact returnDatagram_exec hl (returnDatagram_unknown hs h hr)
  · exact returnDatagram_exec hl (returnDatagram_sent hs h hr hg ha)
  · exact returnDatagram_exec hl (returnDatagram_none h)

end Sys2Proof.Proofs
end

section
/-!
The uplink stream: records taken and datagrams sent (R498 to R500), acknowledgements (R501 to R504), keys and sessions (R498, R506, R507).
-/
namespace Sys2Proof.Proofs
open Sys2Proof.Machine Sys2Proof.Laws

/-! ### Records and datagrams -/

section Taking
variable {s k s1 : State}

theorem exportRecordTake_nothing (h : s.pickExport = none) : exportRecordTake s = s := by
  unfold exportRecordTake
  split
  · rfl
  · rw [h]

theorem exportRecordTake_fenced (h : s.inService 0x6100 = false) : exportRecordTake s = s := if_pos (by unfold exportCell; rw [h]; rfl)

/-- R499, R506: with a target and a key the record picked goes to the datagram in the making. -/
theorem exportRecordTake_datagram {q : Nat} {ls : ExportState} {key : Bytes} (hs : s.inService 0x6100 = true) (hp : s.pickExport = some (q, ls))
    (h20 : s.exportsToQ20 = false) (ht : s.exportTarget.isSome = true) (hk : s.exportKeyHeld = (k, some key))
    (hcut : ((at' s.queue.queues q).cells.take ((at' s.queue.queues q).cells.findIdx (·.last) + 1)).any (·.abort) = false) :
    exportRecordTake s = k.takeToDatagram q { ls with keyRaised := k.up.exp.keyRaised, state := k.up.exp.state } := by
  unfold exportRecordTake exportCell
  dsimp only
  rw [if_neg (by simp [hs]), hp]
  dsimp only
  rw [if_neg (by simp [h20]), if_neg (by rw [Option.isNone_iff_eq_none]; exact Option.isSome_iff_ne_none.mp ht), hk]
  exact (if_neg (by simp)).trans (if_neg (by simp [hcut]))

/-- R498: a record that fits the datagram in the making joins it. -/
theorem takeToDatagram_joins {q : Nat} {ls : ExportState} {b b' : Bytes} {ab : Bool} {t : State} (ht : ({ s with up := { s.up with exp := ls } } : State) = t)
    (hpeek : t.peekPacket q = some b) (hon : t.kindOff q = false) (hpop : t.popPacket q = some (s1, b', ab)) (hb : ls.building ≠ []) (hses : ls.session = none)
    (hfit : ls.building.length + (exportRecord (exportOf q b).1 (exportOf q b).2.1 (exportOf q b).2.2).length ≤ 1360) :
    s.takeToDatagram q ls = s1.updExp (fun y => { y with
      building := y.building ++ exportRecord (exportOf q b).1 (exportOf q b).2.1 (exportOf q b).2.2, buildCount := y.buildCount + 1 }) := by
  subst ht
  unfold State.takeToDatagram
  dsimp only at hpeek hon hpop ⊢
  rw [hpeek]
  dsimp only
  rw [hon, if_neg Bool.false_ne_true, hses]
  dsimp only [Option.isSome_none]
  simp only [Bool.false_eq_true, if_false, Nat.sub_zero, Nat.not_lt.mpr hfit, false_and, and_false, hb, hpop]

theorem exportHoldoff_due (hb : s.up.exp.building ≠ []) (ht : s.up.exp.buildAt + cUs (s.cfgN 0x5010 3) ≤ s.now) (hs : s.inService 0x6100 = true)
    (hk : s.keyStale = false) : exportHoldoff s = s.closeDatagram := by
  unfold exportHoldoff exportCell
  exact if_neg (by simp [hb, hs, hk, Nat.not_lt.mpr ht])

theorem exportHoldoff_empty (hb : s.up.exp.building = []) : exportHoldoff s = s := if_pos (.inl hb)

theorem keepAlive_due (hb : s.up.exp.building = []) (ht : s.up.exp.lastSentAt + cSec (s.cfgN 0x5010 6) ≤ s.now) (hs : s.inService 0x6100 = true)
    (hm : s.mayStart = true) : keepAlive s = s.closeDatagram := by
  unfold keepAlive exportCell
  exact if_neg (by simp [hb, hs, hm, Nat.not_lt.mpr ht])

theorem keepAlive_making (hb : s.up.exp.building ≠ []) : keepAlive s = s := if_pos (.inl hb)

theorem sendDatagram_exp (s : State) (b : Bytes) : (s.sendDatagram b).up.exp = s.up.exp := by
  unfold State.sendDatagram
  split
  · rfl
  · unfold State.udpSend
    split <;> rfl

/-- R500, R502: a datagram that is closed is outstanding, and the next one empty. -/
theorem closeDatagram_outstanding {key : Bytes} (hk : s.exportKey = (k, some key)) (hses : s.up.exp.session = none) :
    s.closeDatagram.up.exp.building = [] ∧ s.closeDatagram.up.exp.outstanding.length = k.up.exp.outstanding.length + 1 := by
  unfold State.closeDatagram
  dsimp only
  rw [hk]
  dsimp only
  rw [hses]
  dsimp only
  rw [sendDatagram_exp]
  exact ⟨rfl, List.length_append.trans rfl⟩

end Taking

/-! ### Acknowledgements -/

section Acks
variable {s k : State} {v : Via} {b : Bytes}

/-- R506, R562: where the register holds no key in use, it is asked of the vault. -/
def ackKey (s : State) : State × Nat := if s.keyInUse.isSome = true then (s, 0) else s.deliverKey .exporter s.up.exp.slot (.raw 3)

theorem ackKey_match (s : State) : (match s.keyInUse with | some _ => (s, 0) | none => s.deliverKey .exporter s.up.exp.slot (.raw 3)) = ackKey s := by
  unfold ackKey
  cases s.keyInUse <;> rfl

theorem ackKey_state (s : State) :
    (ackKey s).1 = if s.keyInUse.isSome = true then s else (s.deliverKey .exporter s.up.exp.slot (.raw 3)).1 := by
  unfold ackKey
  split <;> rfl

/-- R501: the acknowledgement under the key asked for. -/
theorem exportAck_checked (hs : s.inService 0x6100 = true) :
    exportAck v b s =
      (let r := ackKey s
       if s.ackBad v b || r.2 != 0 || gmac (r.1.reg .exporter).key (exportIv 1 (fieldLE b 4 8)) (b.take 44) != b.drop 44 then r.1.expCount 5 1
       else
         let s1 := (r.1.expCount 4 1).updExp (fun y => { y with
           cum := max s.up.exp.cum (fieldLE b 24 8), window := fieldLE b 40 2, ackHigh := some (fieldLE b 4 8)
           outstanding := unacked y.outstanding (fieldLE b 24 8) (fieldLE b 32 8), lastAckAt := s.now, state := 0, shedAt := none, shedSince := 0 })
         if s.up.exp.state = 1 ∨ s.up.exp.state = 2 then
           s1.event 0x5004 0x6100 (leBytes 4 ((s.now - s.up.exp.stalledAt) / cSec 1) ++ leBytes 8 (max s.up.exp.cum (fieldLE b 24 8)))
         else s1) := by
  rw [← ackKey_match]
  exact if_neg (by unfold exportCell; simp [hs])

theorem exportAck_bad (hs : s.inService 0x6100 = true) (hb : s.ackBad v b = true) : exportAck v b s = (ackKey s).1.expCount 5 1 :=
  (exportAck_checked hs).trans (if_pos (by simp [hb]))

theorem exportAck_forged (hs : s.inService 0x6100 = true) (hk : ackKey s = (k, 0))
    (hg : gmac (k.reg .exporter).key (exportIv 1 (fieldLE b 4 8)) (b.take 44) ≠ b.drop 44) : exportAck v b s = k.expCount 5 1 := by
  rw [exportAck_checked hs, hk]
  exact if_pos (by simp [hg])

/-- R501, R502: a good acknowledgement frees what it covers. -/
theorem exportAck_good (hs : s.inService 0x6100 = true) (hb : s.ackBad v b = false) (hk : ackKey s = (k, 0))
    (hg : gmac (k.reg .exporter).key (exportIv 1 (fieldLE b 4 8)) (b.take 44) = b.drop 44) (h0 : s.up.exp.state = 0) :
    exportAck v b s = (k.expCount 4 1).updExp (fun y => { y with
      cum := max s.up.exp.cum (fieldLE b 24 8), window := fieldLE b 40 2, ackHigh := some (fieldLE b 4 8)
      outstanding := unacked y.outstanding (fieldLE b 24 8) (fieldLE b 32 8), lastAckAt := s.now, state := 0, shedAt := none, shedSince := 0 }) := by
  rw [exportAck_checked hs, hk]
  exact (if_neg (by simp [hb, hg])).trans (if_neg (by simp [h0]))

/-- R502: datagrams whose timers have run out are sent again. -/
theorem exportRetransmit_due {key : Bytes} (hs : s.inService 0x6100 = true) (ht : s.exportTarget.isSome = true) (hk : s.exportKeyHeld = (k, some key))
    (hw : s.up.exp.ackHigh = none ∨ s.up.exp.window ≠ 0) :
    exportRetransmit s = (s.up.exp.outstanding.filter (fun d => decide (d.sentAt + d.rto ≤ s.now))).foldl State.resend k := by
  unfold exportRetransmit exportCell
  dsimp only
  rw [if_neg (by simp [hs, Option.isSome_iff_ne_none.mp ht]), hk]
  refine (if_neg (by simp)).trans (if_neg ?_)
  rintro ⟨some, zero⟩
  exact hw.elim (fun none => by rw [none] at some; cases some) (fun h => h zero)

theorem exportRetransmit_fenced (h : s.inService 0x6100 = false) : exportRetransmit s = s := if_pos (.inl (by unfold exportCell; rw [h]; rfl))

theorem exportStalled_fenced (h : s.inService 0x6100 = false) (h0 : s.up.exp.state = 0) :
    exportStalled s = (s.updExp (fun y => { y with state := 1, stalledAt := s.now })).event 0x5003 0x6100
      (leBytes 4 s.up.exp.outstanding.length ++ leBytes 8 s.up.exp.cum) := by
  unfold exportStalled exportCell
  dsimp only
  rw [if_neg (by simp [h0, h]), if_neg (by simp [h])]

theorem exportStalled_already (h : s.up.exp.state = 1) : exportStalled s = s := if_pos (.inl h)

theorem shedQueue_empty {q n : Nat} (h : n = 0) : s.shedQueue n q = s := by
  rw [h]
  rfl

/-- R503: queues without cells lose none. -/
theorem shedQueues_empty (l : List Nat) (h : ∀ q ∈ l, (at' s.queue.queues q).level = 0) :
    l.foldl (fun st q => st.shedQueue (at' st.queue.queues q).level q) s = s := by
  induction l with
  | nil => rfl
  | cons q l ih =>
    rw [List.foldl_cons, shedQueue_empty (h q List.mem_cons_self)]
    exact ih fun x hx => h x (List.mem_cons_of_mem _ hx)

/-- R503: SHEDDING begins. -/
theorem exportShed_begins (h1 : s.up.exp.state = 1) (hon : s.cfgN 0x5010 10 = 1) (ht : s.up.exp.stalledAt + cSec (s.cfgN 0x5010 11) ≤ s.now)
    (h : ∀ q ∈ [16, 17, 18, 19], (at' s.queue.queues q).level = 0) : exportShed s = s.updExp (fun y => { y with state := 2 }) := by
  unfold exportShed
  dsimp only
  rw [if_neg (by simp [h1, hon, ht])]
  exact shedQueues_empty (s := s.updExp _) _ h

theorem exportShed_connected (h : s.up.exp.state = 0) : exportShed s = s := if_pos (by simp [h])

end Acks

/-! ### Keys and sessions -/

section Keys
variable {s k : State} {key : Bytes}

section Stale
variable (hst : s.keyStale = true) (hs : s.inService 0x6100 = true) (hk : s.exportKey = (k, some key))
include hst hs hk

theorem exportKeySwitch_now (h0 : s.up.exp.outstanding = []) : exportKeySwitch s = k.useKey := by
  unfold exportKeySwitch exportCell
  dsimp only
  rw [if_neg (by simp [hst, hs]), hk]
  exact if_pos h0

theorem exportKeySwitch_waits (h0 : s.up.exp.outstanding ≠ []) (hw : s.up.exp.keyWaitAt = none) :
    exportKeySwitch s = s.exportKeyHeld.1.updExp (fun y => { y with keyWaitAt := some s.now }) := by
  unfold exportKeySwitch exportCell
  dsimp only
  rw [if_neg (by simp [hst, hs]), hk]
  dsimp only
  rw [if_neg h0, hw]

end Stale

theorem exportKeySwitch_current (h : s.keyStale = false) : exportKeySwitch s = s := if_pos (.inl (by rw [h]; rfl))

theorem cumPersist_due (ht : s.up.exp.persistAt + cSec 1 ≤ s.now) (hc : s.upNv.cum ≠ s.up.exp.cum) :
    cumPersist s = { s with up := { s.up with exp := { s.up.exp with persistAt := s.now } }, upNv := { s.upNv with cum := s.up.exp.cum } } :=
  if_neg fun h => h.elim (Nat.not_lt.mpr ht) hc

theorem cumPersist_early (h : s.now < s.up.exp.persistAt + cSec 1) : cumPersist s = s := if_pos (.inl h)

end Keys

/-- Settles O40: a rule for each step of the stream, of its acknowledgements and of its keys. -/
theorem exportStream : Obligations.Export := by
  unfold Obligations.Export
  refine ⟨⟨fun s k s1 key b b' q ls ab hl hs hp h20 ht hk hcut => ?_, fun s hl h => ?_, fun s hl h => ?_, fun s hl hb ht hs hk => ?_, fun s hl hb => ?_,
      fun s hl hb ht hs hm => ?_, fun s hl hb => ?_, fun s k key hk hses => closeDatagram_outstanding hk hses⟩,
    ⟨fun s v b hl hs hb => ?_, fun s k v b hl hs hb hk hg => ?_, fun s k v b hl hs hb hk hg h0 => ?_, fun s k key hl hs ht hk hw => ?_, fun s hl h => ?_,
      fun s hl h h0 => ?_, fun s hl h => ?_, fun s hl h1 hon ht h => ?_, fun s hl h => ?_⟩,
    fun s k key hl hst hs hk h0 => ?_, fun s k key hl hst hs hk h0 hw => ?_, fun s hl h => ?_, fun s hl ht hc => ?_, fun s hl h => ?_, fun s role ht hr => ?_⟩
  · intro t r hpeek hon hpop hb hses hfit
    exact next_of_live rfl hl ((exportRecordTake_datagram hs hp h20 ht hk hcut).trans (takeToDatagram_joins rfl hpeek hon hpop hb hses hfit))
  · exact next_of_live rfl hl (exportRecordTake_nothing h)
  · exact next_of_live rfl hl (exportRecordTake_fenced h)
  · exact next_of_live rfl hl (exportHoldoff_due hb ht hs hk)
  · exact next_of_live rfl hl (exportHoldoff_empty hb)
  · exact next_of_live rfl hl (keepAlive_due hb ht hs hm)
  · exact next_of_live rfl hl (keepAlive_making hb)
  · exact next_of_live rfl hl ((exportAck_bad hs hb).trans (by rw [ackKey_state]))
  · exact next_of_live rfl hl (exportAck_forged hs (if_pos hk) hg)
  · exact next_of_live rfl hl (exportAck_good hs hb hk hg h0)
  · exact next_of_live rfl hl (exportRetransmit_due hs ht hk hw)
  · exact next_of_live rfl hl (exportRetransmit_fenced h)
  · exact next_of_live rfl hl (exportStalled_fenced h h0)
  · exact next_of_live rfl hl (exportStalled_already h)
  · exact next_of_live rfl hl (exportShed_begins h1 hon ht h)
  · exact next_of_live rfl hl (exportShed_connected h)
  · exact next_of_live rfl hl (exportKeySwitch_now hst hs hk h0)
  · exact next_of_live rfl hl (exportKeySwitch_waits hst hs hk h0 hw)
  · exact next_of_live rfl hl (exportKeySwitch_current h)
  · exact next_of_live rfl hl (cumPersist_due ht hc)
  · exact next_of_live rfl hl (cumPersist_early h)
  · split
    case isTrue h => exact next_of_command rfl ht hr ((one_one _ _).trans (if_neg (by unfold exportCell; simp [h])))
    case isFalse h => exact next_of_command rfl ht hr ((one_one _ _).trans (if_pos (by unfold exportCell; simp [h])))

end Sys2Proof.Proofs
end

section
/-!
Time domains: offset samples (R525 to R528), the loss of a source (R525), and the commands on a domain (R522, R528 to R531).
-/
namespace Sys2Proof.Proofs
open Sys2Proof.Machine Sys2Proof.Laws

section Domain
variable {s : State} {k : Nat} {theta : Int}

/-! ### Offset samples -/

theorem offsetSample_unsampled (h : sampled (s.source k) = false) : offsetSample k theta s = s := if_neg (by simp [h])

theorem offsetSample_sampled (h : sampled (s.source k) = true) : offsetSample k theta s = s.sample k theta := if_pos h

section Servo
variable (hw : s.hardwareServo k = true)
include hw

/-- R528: a jump of a synchronised domain. -/
theorem sample_jump (hsync : (s.dom k).sync = true) (far : s.domCfg k 8 < theta.natAbs) :
    s.sample k theta = (((s.updDom k (fun d => { d with lastOffset := theta, lastSampleAt := s.now })).refuseJump k 0 theta).enterHoldover k 2).settleTime :=
  congrArg State.settleTime ((if_pos hw).trans (if_pos ⟨hsync, far⟩))

theorem sample_unsynchronised (hsync : (s.dom k).sync = false) :
    s.sample k theta = ((s.updDom k (fun d => { d with lastOffset := theta, lastSampleAt := s.now })).servoStep k theta).settleTime :=
  congrArg State.settleTime ((if_pos hw).trans ((if_neg (by simp [hsync])).trans (if_pos (.inl (by simp [hsync])))))

theorem sample_small (hsync : (s.dom k).sync = true) (near : theta.natAbs ≤ s.domCfg k 8) (small : theta.natAbs ≤ s.domCfg k 7) :
    s.sample k theta = ((s.updDom k (fun d => { d with lastOffset := theta, lastSampleAt := s.now })).servoFreq k theta).settleTime :=
  congrArg State.settleTime ((if_pos hw).trans ((if_neg (by simp [near])).trans (if_neg (by simp [hsync, small]))))

end Servo

/-- R527: with the hardware servo off a sample only judges the state. -/
theorem sample_judged (hw : s.hardwareServo k = false) :
    s.sample k theta = ((s.updDom k (fun d => { d with lastOffset := theta, lastSampleAt := s.now })).judgeSample k theta).settleTime :=
  congrArg State.settleTime (if_neg (by simp [hw]))

/-! ### A source that stays away -/

theorem sourceLost_due (hsrc : sampled (s.source k) = true) (locked : (s.dom k).state = .locked)
    (due : (s.dom k).lastSampleAt + cMs (s.domCfg k 9) ≤ s.now) : sourceLost k s = s.enterHoldover k 1 :=
  if_pos ⟨.inl hsrc, .inr locked, due⟩

theorem sourceLost_early (early : s.now < (s.dom k).lastSampleAt + cMs (s.domCfg k 9)) : sourceLost k s = s :=
  if_neg fun h => absurd h.2.2 (Nat.not_le.mpr early)

theorem syncLost_due (hold : (s.dom k).state = .holdover) (hsrc : s.source k ≠ 5) (due : (s.dom k).holdoverAt + cSec (s.domCfg k 10) ≤ s.now) :
    syncLost k s = ((s.updDom k (fun x => { x with state := .unsync, sync := false })).settleTime).event 0x5405 (domCell k)
      ([byte k, 0, 0, 0] ++ leBytes 4 ((s.now - (s.dom k).holdoverAt) / cSec 1)) :=
  if_neg (by simp [hold, hsrc, due])

theorem syncLost_locked (locked : (s.dom k).state = .locked) : syncLost k s = s := if_pos (.inl (by rw [locked]; decide))

/-! ### Commands on a domain -/

theorem periodWrite_free {v : Nat} (hsrc : s.source k = 0) (hv : periodOk v = true) : periodWrite k v s = (s.setPeriod k v, Abort.ok) := by
  unfold periodWrite
  dsimp only
  rw [hsrc, if_neg (by simp [sampled]), if_neg (by simp [hv]), if_neg (by decide)]

theorem periodWrite_range {v : Nat} (hsrc : s.source k = 0) (hv : periodOk v = false) : periodWrite k v s = (s, Abort.valueRange) := by
  unfold periodWrite
  dsimp only
  rw [hsrc, if_neg (by simp [sampled]), if_pos (by simp [hv])]

theorem periodWrite_follow {v : Nat} (hsrc : s.source k = 5) : periodWrite k v s = (s, Abort.notInState) := if_pos (.inl hsrc)

theorem stepRequest_far {delta : Int} (hsync : (s.dom k).sync = true) (far : s.domCfg k 8 < delta.natAbs) :
    stepRequest k delta s = (s.refuseJump k 1 delta, Abort.valueRange) := if_pos ⟨hsync, far⟩

theorem stepRequest_synchronised {delta : Int} (hsync : (s.dom k).sync = true) (near : delta.natAbs ≤ s.domCfg k 8) :
    stepRequest k delta s = ((s.stepDom k (nsUnits delta)).event 0x5403 (domCell k) ([byte k, 1, 0, 0] ++ leInt 8 delta), Abort.ok) :=
  (if_neg (by simp [near])).trans (congrArg (·, Abort.ok) (if_neg (by simp [hsync])))

theorem setTime_good {b : Bytes} (hlen : b.length = 12) (hb : timeOk b = true) :
    setTime k b s = (s.forceStep k 3 (ofTime80 b - (s.dom k).at s.now), Abort.ok) := (if_neg (by simp [hlen])).trans (if_neg (by simp [hb]))

theorem setTime_range {b : Bytes} (hlen : b.length = 12) (hb : timeOk b = false) : setTime k b s = (s, Abort.valueRange) :=
  (if_neg (by simp [hlen])).trans (if_pos (by simp [hb]))

end Domain

/-- Settles O41: each outcome of a sample, of the loss of a source and of a command by its condition. -/
theorem timeDomains : Obligations.TimeDomains := by
  refine ⟨fun s k theta hl => ?_, fun s k hl => ?_, fun s k role ht hr => ?_⟩
  · intro s1
    exact ⟨fun h => next_of_live rfl hl (offsetSample_unsampled h),
      fun h hw hs far => next_of_live rfl hl ((offsetSample_sampled h).trans (sample_jump hw hs far)),
      fun h hw hs => next_of_live rfl hl ((offsetSample_sampled h).trans (sample_unsynchronised hw hs)),
      fun h hw hs near small => next_of_live rfl hl ((offsetSample_sampled h).trans (sample_small hw hs near small)),
      fun h hw => next_of_live rfl hl ((offsetSample_sampled h).trans (sample_judged hw))⟩
  · exact ⟨fun h lk due => next_of_live rfl hl (sourceLost_due h lk due), fun early => next_of_live rfl hl (sourceLost_early early),
      fun hold hsrc due => next_of_live rfl hl (syncLost_due hold hsrc due), fun lk => next_of_live rfl hl (syncLost_locked lk)⟩
  · exact ⟨fun v h0 hv => next_of_command rfl ht hr (periodWrite_free h0 hv), fun v h0 hv => next_of_command rfl ht hr (periodWrite_range h0 hv),
      fun v h5 => next_of_command rfl ht hr (periodWrite_follow h5), fun delta hs far => next_of_command rfl ht hr (stepRequest_far hs far),
      fun delta hs near => next_of_command rfl ht hr (stepRequest_synchronised hs near), fun delta => next_of_command rfl ht hr rfl,
      fun b hlen hb => next_of_command rfl ht hr (setTime_good hlen hb), fun b hlen hb => next_of_command rfl ht hr (setTime_range hlen hb),
      next_of_command rfl ht hr (one_one _ _)⟩

end Sys2Proof.Proofs
end

section
/-!
Pairs of domains (R532 to R535), the backup anchor and leap seconds (R536, R539), and the samples of PTP, the cascade and pulses
(R541 to R547).
-/
namespace Sys2Proof.Proofs
open Sys2Proof.Machine Sys2Proof.Laws

/-! ### A fold in which at most one entry acts -/

theorem foldl_stands {α β : Type} {f : β → α → β} {l : List α} (h : ∀ b, ∀ j ∈ l, f b j = b) (b : β) : l.foldl f b = b := by
  induction l with
  | nil => rfl
  | cons j l ih => rw [List.foldl_cons, h b j (by simp), ih fun b i hi => h b i (by simp [hi])]

theorem foldl_acts_once {α β : Type} {f : β → α → β} {l : List α} {k : α} (hn : l.Nodup) (hk : k ∈ l)
    (h : ∀ b, ∀ j ∈ l, j ≠ k → f b j = b) (b : β) : l.foldl f b = f b k := by
  obtain ⟨before, after, rfl⟩ := List.append_of_mem hk
  have apart := List.nodup_append.mp hn
  have stands_before : ∀ b, ∀ j ∈ before, f b j = b := fun b j hj =>
    h b j (by simp [hj]) (apart.2.2 j hj k (by simp))
  have stands_after : ∀ b, ∀ j ∈ after, f b j = b := fun b j hj =>
    h b j (by simp [hj]) fun e => (List.nodup_cons.mp apart.2.1).1 (e ▸ hj)
  rw [List.foldl_append, List.foldl_cons, foldl_stands stands_before, foldl_stands stands_after]

/-- The eight domains: where every other one is left, the fold is its entry at `k`. -/
theorem foldl_domains {f : State → Nat → State} {k : Fin 8} (h : ∀ st, ∀ j : Fin 8, j ≠ k → f st j = st) (s : State) :
    (List.range 8).foldl f s = f s k :=
  foldl_acts_once List.nodup_range (List.mem_range.mpr k.isLt)
    (fun st j hj hne => h st ⟨j, List.mem_range.mp hj⟩ fun e => hne (congrArg Fin.val e)) s

section Pairs
variable {s : State} {k : Nat}

/-! ### Pairs -/

section Off
variable (off : (at' s.time.pairs k).enabled = false)
include off

theorem pairSwitched_off : pairSwitched k s = s := if_pos (by rw [off]; rfl)

theorem pairRevert_off : pairRevert k s = s := if_pos (by simp [off])

theorem slewComplete_off : slewComplete k s = s := if_pos (by simp [off])

end Off

section On
variable (on : (at' s.time.pairs k).enabled = true)
include on

theorem pairSwitched_due (unlocked : s.lockedDom (s.selectedMember k) = false)
    (other : s.lockedDom (2 * k + b2n (!(at' s.time.pairs k).partner)) = true) : pairSwitched k s = s.switchPair k 1 :=
  (if_neg (by simp [on])).trans (if_pos (by simp [unlocked, other]))

theorem pairRevert_due (partner : (at' s.time.pairs k).partner = true) (revert : s.cfgN 0x5430 3 = 1) (locked : (s.dom (2 * k)).state = .locked)
    (due : (s.dom (2 * k)).lockedAt + cSec (s.cfgN 0x5430 4) ≤ s.now) : pairRevert k s = s.switchPair k 2 :=
  if_neg (by simp [on, partner, revert, locked, due])

theorem slewComplete_met (slewing : (at' s.time.pairs k).slewing = true) (met : (s.dom (s.selectedMember k)).at s.now = s.pairAt k s.now) :
    slewComplete k s = ((s.updPair k (fun x => { x with slewing := false, slewD := 0 })).settleTime).event 0x5407 (domCell (2 * k))
      ([byte k, 0, 0, 0] ++ leBytes 4 (min maxU32 ((s.now - (at' s.time.pairs k).slewFrom) / cUs 1))) :=
  if_neg (by simp [on, slewing, met])

end On

/-! ### The anchor and the leap -/

theorem backupAnchor_due (hsync : s.syncOf 0 = true) (due : s.time.lastAnchorAt + cSec 60 ≤ s.now) : backupAnchor s = s.takeAnchor :=
  if_neg (by simp [hsync, due])

theorem backupAnchor_unsynchronised (hsync : s.syncOf 0 = false) : backupAnchor s = s := if_pos (.inl (by simp [hsync]))

theorem leapCheck_due (pending : s.cfgI 0x5440 2 ≠ 0) (due : ((s.cfgN 0x5440 3 : Nat) : Int) ≤ secOf s.td0) :
    s.leapCheck = ((s.setRw 0x5440 1 (leInt 2 (s.utcOffset + s.cfgI 0x5440 2))).setRw 0x5440 2 [0]).event 0x540A 0x6400
      (leInt 2 (s.utcOffset + s.cfgI 0x5440 2) ++ leInt 1 (s.cfgI 0x5440 2)) :=
  if_neg (by simp [pending, due])

theorem leapCheck_none (none_pending : s.cfgI 0x5440 2 = 0) : s.leapCheck = s := if_pos (.inl none_pending)

/-! ### Samples from outside -/

theorem ptpFrameReceived_enters {t : State} {p capture : Nat} {frame : Bytes}
    (h : (s.timeCount 6).pushOrDrop 55 (0x6000 + p) (leBytes 8 capture ++ time80 (s.tdAt (s.portDomain p) (s.ethStamp p capture)) ++ [byte p] ++ zeros 43 ++
      frame) = (t, true)) : ptpFrameReceived p capture frame s = t.announce p frame := by
  unfold ptpFrameReceived
  dsimp only
  rw [h]
  exact if_pos rfl

section Exchange
variable {p : Nat} {t1 t4 : Int} {c2 c3 : Nat}

theorem ihlostTimeExchange_elsewhere (h : s.board.cascMaster = true ∨ s.casc.upstream ≠ p) : ihlostTimeExchange p t1 c2 c3 t4 s = s := if_pos h

/-- R544: with one domain on the cascade the exchange is its sample. -/
theorem ihlostTimeExchange_one {k : Fin 8} (leaf : s.board.cascMaster = false) (up : s.casc.upstream = p) (hsrc : s.source k = 3)
    (others : ∀ j : Fin 8, j ≠ k → s.source j ≠ 3) :
    ihlostTimeExchange p t1 c2 c3 t4 s =
      (let delay := (((s.dom k).at c2 - nsUnits 37 - t1) + (t4 - ((s.dom k).at c3 + nsUnits 24))) / 2 + nsUnits (s.cfgI 0x5460 (5 + p))
       (s.updDom k (fun d => { d with pathDelay := delay / 65536 })).sample k ((t1 + delay - ((s.dom k).at c2 - nsUnits 37)) / 65536)) := by
  unfold ihlostTimeExchange
  rw [if_neg (by simp [leaf, up]), foldl_domains fun st j hj => if_pos (others j hj)]
  exact if_neg (not_not_intro hsrc)

end Exchange

section Pps
variable {gpio stamp : Nat}

theorem ppsEdge_unused (h : ∀ k < 8, s.source k = 6 → s.domCfg k 2 ≠ gpio) : ppsEdge gpio stamp s = s := by
  refine foldl_stands (fun st k hk => if_pos ?_) s
  by_cases hsrc : s.source k = 6
  case pos => exact .inr (h k (List.mem_range.mp hk) hsrc)
  case neg => exact .inl hsrc

/-- R547: with one domain on pulses, an edge within half a second of a whole one is its sample. -/
theorem ppsEdge_one {k : Fin 8} {theta : Int} (hsrc : s.source k = 6) (hgpio : s.domCfg k 2 = gpio) (others : ∀ j : Fin 8, j ≠ k → s.source j ≠ 6)
    (htheta : theta = ((((s.dom k).at stamp + nsUnits 500000000) / nsUnits 1000000000) * nsUnits 1000000000 - (s.dom k).at stamp) / 65536)
    (near : theta.natAbs < 500000000) : ppsEdge gpio stamp s = s.sample k theta := by
  subst htheta
  unfold ppsEdge
  rw [foldl_domains fun st j hj => if_pos (.inl (others j hj))]
  exact (if_neg (by simp [hsrc, hgpio])).trans (if_neg (Nat.not_le.mpr near))

end Pps

end Pairs

/-- Settles O42: each outcome by its condition; an exchange and an edge reach the one domain whose source they are. -/
theorem pairsAndSources : Obligations.PairsAndSources := by
  refine ⟨fun s k hl => ⟨fun off => ⟨?_, ?_, ?_⟩, fun on unl oth => ?_, fun on pa rv lk due => ?_, fun on sl met => ?_⟩, fun s hl hs due => ?_,
    fun s hl hs => ?_, fun s hl pend due => ?_, fun s hl no => ?_, fun s t p capture frame hl h => ?_, fun s p t1 t4 c2 c3 hl h => ?_,
    fun s p k t1 t4 c2 c3 hl leaf up hsrc oth => ?_, fun s gpio stamp hl h => ?_, fun s gpio k stamp hl hsrc hg oth => ?_⟩
  · exact next_of_live rfl hl (pairSwitched_off off)
  · exact next_of_live rfl hl (pairRevert_off off)
  · exact next_of_live rfl hl (slewComplete_off off)
  · exact next_of_live rfl hl (pairSwitched_due on unl oth)
  · exact next_of_live rfl hl (pairRevert_due on pa rv lk due)
  · exact next_of_live rfl hl (slewComplete_met on sl met)
  · exact next_of_live rfl hl (backupAnchor_due hs due)
  · exact next_of_live rfl hl (backupAnchor_unsynchronised hs)
  · exact next_of_live rfl hl (leapCheck_due pend due)
  · exact next_of_live rfl hl (leapCheck_none no)
  · exact next_of_live rfl hl (ptpFrameReceived_enters h)
  · exact next_of_live rfl hl (ihlostTimeExchange_elsewhere h)
  · exact next_of_live rfl hl (ihlostTimeExchange_one leaf up hsrc oth)
  · exact next_of_live rfl hl (ppsEdge_unused h)
  · exact fun near => next_of_live rfl hl (ppsEdge_one hsrc hg oth rfl near)

end Sys2Proof.Proofs
end

section
/-!
Key slots: deliveries (R563), imports (R565 to R567), revocation and erasure (R568, R569).
-/
namespace Sys2Proof.Proofs
open Sys2Proof.Machine Sys2Proof.Laws

/-! ### Deliveries -/

section Delivery
variable {s : State} {c : Consumer} {slot : Nat} {u : KeyUse}

theorem deliverKey_refused (h : s.slotRefusal slot c u ≠ 0) : s.deliverKey c slot u = (s, s.slotRefusal slot c u) := if_pos h

theorem deliverKey_badTag (h : s.slotRefusal slot c u = 0) (tag : s.tagOk slot = false) :
    s.deliverKey c slot u = (s.slotBad slot c.code, Abort.keySlotBad) := (if_neg (not_not_intro h)).trans (if_pos (by simp [tag]))

/-- R563: a sound slot loads the consumer's register; 0x5861 counts the delivery, and the derivation where there is one. -/
theorem deliverKey_loads (h : s.slotRefusal slot c u = 0) (tag : s.tagOk slot = true) :
    s.deliverKey c slot u =
      (let s1 := { s with vault := { s.vault with
         regs := s.vault.regs.set c.index { slot := slot, gen := polGen (s.slot slot).policy, key := u.key (s.slot slot).key } } }
       ((match u with | .raw _ => s1 | _ => s1.vaultCount 1 1).vaultCount 2 1, 0)) :=
  (if_neg (not_not_intro h)).trans (if_neg (by simp [tag]))

/-- A request is answered with the outcome of its delivery. -/
theorem keyRequest_of_delivery {t : State} {code : Nat} (hl : s.live = true) (h : s.deliverKey c slot u = (t, code)) :
    exec (.keyRequest c slot u) s = .next (t.put (.keyReply c.index slot code)) :=
  next_of_live (f := fun s => (s.deliverKey c slot u).1.put (.keyReply c.index slot (s.deliverKey c slot u).2)) rfl hl (by rw [h])

end Delivery

/-! ### Imports -/

section Import
variable {s : State}

section Asked
variable {blob : Bytes} (serves : fieldLE blob 1 1 ≤ 31 → s.inService (0xA000 + fieldLE blob 1 1) = true)
include serves

theorem keyImport_unfenced : ¬ (fieldLE blob 1 1 ≤ 31 ∧ (!s.inService (0xA000 + fieldLE blob 1 1)) = true) :=
  fun h => by simp [serves h.1] at h

section Free
variable (free : s.vault.pending = none)
include free

theorem keyImport_passes (h : s.importCheck blob = 0) :
    keyImport blob s = ({ s with vault := { s.vault with
      importState := 1, importSlot := 0, importAbort := 0
      pending := some { blob := blob, slot := s.importSlot blob, startedAt := s.now } } }, Abort.ok) :=
  (if_neg (not_not_intro free)).trans ((if_neg (keyImport_unfenced serves)).trans (if_neg (not_not_intro h)))

theorem keyImport_fails (h : s.importCheck blob ≠ 0) : keyImport blob s = (s.importResult 3 0 (s.importCheck blob), Abort.ok) :=
  (if_neg (not_not_intro free)).trans ((if_neg (keyImport_unfenced serves)).trans (if_pos h))

end Free
end Asked

section Pending
variable {i : PendingImport} (hp : s.vault.pending = some i)
include hp

theorem keyImported_badTag (tag : s.tagBroken (if fieldLE i.blob 2 1 = 1 then fieldLE i.blob 3 1 else 0) = true) :
    keyImported s = (s.slotBad (if fieldLE i.blob 2 1 = 1 then fieldLE i.blob 3 1 else 0) 0).importResult 3 0 Abort.keySlotBad := by
  unfold keyImported
  rw [hp]
  exact if_pos tag

section Sound
variable (tag : s.tagBroken (if fieldLE i.blob 2 1 = 1 then fieldLE i.blob 3 1 else 0) = false)
include tag

theorem keyImported_unwrapFails (h : s.importKey i.blob = none) : keyImported s = s.importResult 3 0 Abort.unwrapFail := by
  unfold keyImported
  rw [hp]
  exact (if_neg (by simp [tag])).trans (by rw [h])

theorem keyImported_fills {key : Bytes} {p : Nat} (h : s.importKey i.blob = some key)
    (hpol : p = importedPolicy (s.slot i.slot).policy (fieldLE i.blob 8 8) (fieldLE i.blob 2 1) (fieldLE i.blob 3 1)) :
    keyImported s = (((s.fillSlot i.slot p key).importResult 2 i.slot 0).vaultCount 4 1).event 0x5804 (0xA000 + i.slot)
      ([byte i.slot, byte (polKind p)] ++ leBytes 2 (polGen p) ++
        [byte (fieldLE i.blob 2 1), if fieldLE i.blob 2 1 = 1 then byte (fieldLE i.blob 3 1) else 0xFF]) := by
  subst hpol
  unfold keyImported
  rw [hp]
  exact (if_neg (by simp [tag])).trans (by rw [h])

end Sound
end Pending
end Import

/-! ### Revocation and erasure -/

section Slots
variable {s : State} {slot : Nat}

theorem keyRevoke_range (h : slot < 2 ∨ 31 < slot) : keyRevoke slot s = (s, Abort.valueRange) := if_pos h

theorem keyErase_range (h : slot < 2 ∨ 31 < slot) : keyErase slot s = (s, Abort.valueRange) := if_pos h

section InRange
variable (low : 2 ≤ slot) (high : slot ≤ 31)
include low high

theorem slot_inRange : ¬ (slot < 2 ∨ 31 < slot) := by omega

theorem keyRevoke_holding {targets : List Nat} {t : State} (holds : polKind (s.slot slot).policy ≠ 0)
    (htargets : targets = (s.family slot).filter (fun i => polState (s.slot i).policy ≠ 1))
    (ht : t = ((targets.foldl State.revokeOne s).clearRegs (s.family slot)).vaultCount 5 targets.length) :
    keyRevoke slot s = (({ t with vault := { t.vault with revoking := t.vault.revoking ++
      [({ slot := slot, count := targets.length, gen := polGen (t.slot slot).policy, since := s.now, slots := targets } : Revoking)] } }).finishRevokes,
        Abort.ok) := by
  subst ht htargets
  exact (if_neg (slot_inRange low high)).trans (if_neg holds)

theorem keyErase_parent {c : Nat} (hc : c < 32) (child : s.isChild slot c = true) : keyErase slot s = (s, Abort.valueInconsistent) :=
  (if_neg (slot_inRange low high)).trans (if_pos (List.any_eq_true.mpr ⟨c, List.mem_range.mpr hc, child⟩))

theorem keyErase_holding {p : Nat} (childless : ∀ c, c < 32 → s.isChild slot c = false) (holds : polKind (s.slot slot).policy ≠ 0)
    (hp : p = genUp (setField 0 32 16 (polGen (s.slot slot).policy))) :
    keyErase slot s = (((((s.setSlot slot (mkSlot slot p [])).saveSlot slot).clearRegs [slot]).notify slot).event 0x5806 (0xA000 + slot)
      ([byte slot, 0] ++ leBytes 2 (polGen p)), Abort.ok) := by
  subst hp
  exact (if_neg (slot_inRange low high)).trans ((if_neg (by simpa using childless)).trans (if_neg holds))

end InRange
end Slots

/-- Settles O43: a delivery, an import and its completion by their checks; a slot from 2 to 31 is revoked with its family or erased alone. -/
theorem keySlots : Obligations.KeySlots := by
  refine ⟨fun s c slot u hl h => ?_, fun s c slot u hl h tag => ?_, fun s c slot usage hl h tag => ?_, fun s c slot eui gen hl h tag => ?_,
    fun s role blob ht hr free serves h => ?_, fun s role blob ht hr free serves h => ?_, fun s i hl hp tag => ?_, fun s i hl hp tag h => ?_,
    fun s i key hl hp tag h => ?_, fun s role slot ht hr low high holds => ?_, fun s role slot ht hr h => ⟨?_, ?_⟩,
    fun s role slot ht hr low high childless holds => ?_, fun s role slot c ht hr low high hc child => ?_⟩
  · exact keyRequest_of_delivery hl (deliverKey_refused h)
  · exact keyRequest_of_delivery hl (deliverKey_badTag h tag)
  · exact keyRequest_of_delivery hl (deliverKey_loads h tag)
  · exact keyRequest_of_delivery hl (deliverKey_loads h tag)
  · exact next_of_command rfl ht hr (keyImport_passes serves free h)
  · exact next_of_command rfl ht hr (keyImport_fails serves free h)
  · exact next_of_live rfl hl (keyImported_badTag hp tag)
  · exact next_of_live rfl hl (keyImported_unwrapFails hp tag h)
  · exact next_of_live rfl hl (keyImported_fills hp tag h rfl)
  · exact next_of_command rfl ht hr (keyRevoke_holding low high holds rfl rfl)
  · exact next_of_command rfl ht hr (keyRevoke_range h)
  · exact next_of_command rfl ht hr (keyErase_range h)
  · exact next_of_command rfl ht hr (keyErase_holding low high childless holds rfl)
  · exact next_of_command rfl ht hr (keyErase_parent low high hc child)

end Sys2Proof.Proofs
end

section
/-!
Attestation (R589) and the debug access port (R586 to R588).
-/
namespace Sys2Proof.Proofs
open Sys2Proof.Machine Sys2Proof.Laws

/-! ### Attestation -/

section Attestation
variable {s : State} {challenge : Bytes}

theorem attest_length (h : challenge.length ≠ 32) : attest challenge s = (s, Abort.typeLength) := if_pos h

section Whole
variable (hlen : challenge.length = 32)
include hlen

theorem attest_busy (h : s.vault.attestAsked ≠ none) : attest challenge s = (s, Abort.busy) := (if_neg (not_not_intro hlen)).trans (if_pos h)

section Able
variable (idle : s.vault.attestAsked = none) (unlocked : s.vault.lockdown = false) (key : (s.slot 0).key ≠ []) (sound : polState (s.slot 0).policy ≠ 2)
include idle unlocked key sound

theorem attest_byTag :
    attest challenge s = if !s.tagOk 0 then (s.slotBad 0 0, Abort.keySlotBad)
      else ({ s with vault := { s.vault with attestAsked := some challenge } }, Abort.ok) :=
  (if_neg (not_not_intro hlen)).trans ((if_neg (not_not_intro idle)).trans ((if_neg (by simp [unlocked, key])).trans (if_neg sound)))

theorem attest_taken (tag : s.tagOk 0 = true) :
    attest challenge s = ({ s with vault := { s.vault with attestAsked := some challenge } }, Abort.ok) :=
  (attest_byTag hlen idle unlocked key sound).trans (if_neg (by simp [tag]))

theorem attest_badTag (tag : ¬ s.tagOk 0 = true) : attest challenge s = (s.slotBad 0 0, Abort.keySlotBad) :=
  (attest_byTag hlen idle unlocked key sound).trans (if_pos (by simp [tag]))

end Able
end Whole

theorem attestTick_signs (h : s.vault.attestAsked = some challenge) : s.attestTick = { s with fresh := s.fresh + 1, vault := { s.vault with
    attestAsked := none
    attestSig := ecdsaSign (beNat (s.slot 0).key) (Config.freeNat s.fresh % (pN - 1) + 1) (s.attestMessage challenge) } } := by
  unfold State.attestTick
  rw [h]
  rfl

end Attestation

/-! ### The debug port's gate -/

theorem next_of_powered {c : Instr} {s t : State} {f : State → State} (hc : exec c s = s.whenPowered f) (hp : s.power.phase ≠ .held) (h : f s = t) :
    exec c s = .next t := by
  rw [hc, whenPowered_on hp, h]

theorem powered_stands {c : Instr} {s : State} {f : State → State} (hc : exec c s = s.whenPowered f) (h : f s = s) : exec c s = .next s := by
  by_cases hp : s.power.phase = .held
  case pos => rw [hc, whenPowered_held hp]
  case neg => exact next_of_powered hc hp h

/-! ### Challenges and sessions -/

section Mailbox
variable {s : State}

section Issue
variable (idle : s.vault.dbg.busy = false) (closed : s.vault.dbg.state ≠ 2)
include idle closed

theorem issueChallenge_open : ¬ (s.vault.dbg.busy = true ∨ s.vault.dbg.state = 2) := by simp [idle, closed]

theorem issueChallenge_draws (few : s.vault.dbg.failures < 3) :
    issueChallenge s =
      (let c := (s.vaultNv.debugCounter + 1) % 2 ^ 32
       { s with fresh := s.fresh + 1, vaultNv := { s.vaultNv with debugCounter := c }
                vault := { s.vault with dbg := { s.vault.dbg with
         state := 1, scope := 0, issuedAt := s.now, answered := false
         challenge := challengeBytes s.lcs.code s.vaultNv.fuses.stage c (padTo 32 (Config.freeBytes s.fresh)) } } }) :=
  (if_neg (issueChallenge_open idle closed)).trans (if_neg (Nat.not_le.mpr few))

theorem issueChallenge_refused (many : 3 ≤ s.vault.dbg.failures) :
    issueChallenge s = { s with vault := { s.vault with dbg := { s.vault.dbg with state := 3 } } } :=
  (if_neg (issueChallenge_open idle closed)).trans (if_pos many)

end Issue

theorem submitResponse_taken {r : Bytes} (challenged : s.vault.dbg.state = 1) (new : s.vault.dbg.answered = false) (idle : s.vault.dbg.busy = false)
    (intime : s.now < s.vault.dbg.issuedAt + cSec 60) :
    submitResponse r s = { s with vault := { s.vault with dbg := { s.vault.dbg with busy := true, answered := true, response := padTo 200 r } } } :=
  if_pos ⟨challenged, by simp [new], by simp [idle], intime⟩

theorem submitResponse_stands {r : Bytes} (h : s.vault.dbg.state ≠ 1 ∨ s.vault.dbg.answered = true ∨ s.vault.dbg.issuedAt + cSec 60 ≤ s.now) :
    submitResponse r s = s := by
  refine if_neg fun ⟨challenged, new, _, intime⟩ => ?_
  rcases h with h | h | h
  · exact h challenged
  · simp [h] at new
  · exact absurd intime (Nat.not_lt.mpr h)

theorem challengeLapse_due (challenged : s.vault.dbg.state = 1) (new : s.vault.dbg.answered = false) (due : s.vault.dbg.issuedAt + cSec 60 ≤ s.now) :
    challengeLapse s = { s with vault := { s.vault with dbg := { s.vault.dbg with state := 0, challenge := [] } } } :=
  if_pos ⟨challenged, by simp [new], due⟩

theorem challengeLapse_stands (h : s.vault.dbg.answered = true ∨ s.now < s.vault.dbg.issuedAt + cSec 60) : challengeLapse s = s := by
  refine if_neg fun ⟨_, new, due⟩ => ?_
  rcases h with h | h
  · simp [h] at new
  · exact absurd due (Nat.not_le.mpr h)

/-- A scope of three bits does not name RETURN. -/
theorem bit_three_of_lt {n : Nat} (h : n < 8) : bit n 3 = false := by
  simp [bit, Nat.div_eq_of_lt h]

theorem debugAuthorised_idle (h : s.vault.dbg.busy = false) : debugAuthorised s = s := if_pos (by simp [h])

section Busy
variable (busy : s.vault.dbg.busy = true)
include busy

theorem debugAuthorised_grants (scope : fieldLE s.vault.dbg.response 1 1 < 8) (authentic : s.responseAuthentic = true)
    (allowed : s.debugAllowed (fieldLE s.vault.dbg.response 0 1) (fieldLE s.vault.dbg.response 1 1) = true) :
    debugAuthorised s = ({ s with vault := { s.vault with dbg := { s.vault.dbg with
      busy := false, state := 2, scope := fieldLE s.vault.dbg.response 1 1 } } }).event 0x580C 0xA300
        [byte (fieldLE s.vault.dbg.response 0 1), byte (fieldLE s.vault.dbg.response 1 1)] :=
  (if_neg (by simp [busy])).trans ((if_pos ⟨by omega, authentic, allowed⟩).trans (if_neg (by simp [bit_three_of_lt scope])))

section Forged
variable (forged : s.responseAuthentic = false)
include forged

/-- R588: a response that is not authentic counts as a failure, 3 at most. -/
theorem debugAuthorised_fails :
    debugAuthorised s =
      (let n := min 3 (s.vault.dbg.failures + 1)
       let s1 := { s with vault := { s.vault with dbg := { s.vault.dbg with busy := false, state := 3, scope := 0, failures := n } } }
       if n = 3 then s1.event 0x580D 0xA300 [byte n, byte (fieldLE s.vault.dbg.response 0 1)] else s1) :=
  (if_neg (by simp [busy])).trans (if_neg (by simp [forged]))

theorem debugAuthorised_failsEarly (few : s.vault.dbg.failures < 2) :
    debugAuthorised s = { s with vault := { s.vault with dbg := { s.vault.dbg with
      busy := false, state := 3, scope := 0, failures := s.vault.dbg.failures + 1 } } } := by
  rw [debugAuthorised_fails busy forged, Nat.min_eq_right (by omega : s.vault.dbg.failures + 1 ≤ 3)]
  exact if_neg (by omega)

theorem debugAuthorised_failsLast (many : 2 ≤ s.vault.dbg.failures) :
    debugAuthorised s = ({ s with vault := { s.vault with dbg := { s.vault.dbg with
      busy := false, state := 3, scope := 0, failures := 3 } } }).event 0x580D 0xA300 [3, byte (fieldLE s.vault.dbg.response 0 1)] := by
  rw [debugAuthorised_fails busy forged, Nat.min_eq_left (by omega : 3 ≤ s.vault.dbg.failures + 1)]
  exact if_pos rfl

end Forged
end Busy
end Mailbox

/-- Settles O44: the challenge for slot 0 by its checks, and each step of the mailbox by the state of its session. -/
theorem attestAndDebug : Obligations.AttestAndDebug := by
  refine ⟨fun s role c ht hr hlen idle unl key sound => ?_, fun s role c ht hr hlen busy => ?_, fun s c h => attestTick_signs h,
    fun s role c ht hr hlen => ?_, fun s hp few idle closed => ?_, fun s hp many idle closed => ?_, fun s _ h => ?_, fun s r hp ch new idle intime => ?_,
    fun s r h => ?_, fun s hp ch new due => ?_, fun s h => ?_, fun s hp => ?_, fun s hp busy scope auth allowed => ?_, fun s hp busy forged few => ?_,
    fun s hp busy forged many => ?_, fun s h => ?_⟩
  · split
    case isTrue tag => exact next_of_command rfl ht hr (attest_taken hlen idle unl key sound tag)
    case isFalse tag => exact next_of_command rfl ht hr (attest_badTag hlen idle unl key sound tag)
  · exact next_of_command rfl ht hr (attest_busy hlen busy)
  · exact next_of_command rfl ht hr (attest_length hlen)
  · exact next_of_powered rfl hp (issueChallenge_draws idle closed few)
  · exact next_of_powered rfl hp (issueChallenge_refused idle closed many)
  · exact powered_stands rfl (if_pos h)
  · exact next_of_powered rfl hp (submitResponse_taken ch new idle intime)
  · exact powered_stands rfl (submitResponse_stands h)
  · exact next_of_powered rfl hp (challengeLapse_due ch new due)
  · exact powered_stands rfl (challengeLapse_stands h)
  · exact next_of_powered rfl hp rfl
  · exact next_of_powered rfl hp (debugAuthorised_grants busy scope auth allowed)
  · exact next_of_powered rfl hp (debugAuthorised_failsEarly busy forged few)
  · exact next_of_powered rfl hp (debugAuthorised_failsLast busy forged many)
  · exact powered_stands rfl (debugAuthorised_idle h)

end Sys2Proof.Proofs
end

section
/-!
Tamper responses (R571 to R576, R590): the one case in which a sample of the first mesh pair is not its firing alone.
-/
namespace Sys2Proof.Proofs
open Sys2Proof.Machine Sys2Proof.Laws

/-- The disagreements in a row that the second mesh pair has counted after a command. -/
def secondPairMisses : Res → Nat
  | .next s => (at' s.vaultNv.sources 1).misses
  | _ => 0

/-- A last gasp between the save of a configuration set and its end (R32): in force the second pair is Off and the first one erases, having
disagreed once; the settings saved, which a restart puts in force, have the second pair on Record. -/
def pairSwitchedOnBySave : State :=
  let s := State.reset
  { s with
    power := { s.power with phase := .lastGasp }
    cfg := { s.cfg with active := [(objKey 0x5830 1, [3])] }
    vaultNv := { s.vaultNv with
      settings := [(objKey 0x5830 1, [3]), (objKey 0x5830 2, [1])]
      sources := upd s.vaultNv.sources 0 (fun t => { t with misses := 1 }) } }

/-- What O45 says is left by the second disagreement of the first pair there: that pair's firing, and no more. -/
def firstPairFired : State :=
  let s := pairSwitchedOnBySave
  State.tamperFire { s with vaultNv := { s.vaultNv with sources := upd s.vaultNv.sources 0 (fun t => { t with misses := 1 + 1 }) } } 0

theorem secondPairMisses_sampled : secondPairMisses (exec (.meshSample true true) pairSwitchedOnBySave) = 1 := rfl

theorem secondPairMisses_fired : secondPairMisses (.next firstPairFired) = 0 := rfl

/-- Refutes O45: the Erase response of the first mesh pair restarts the device, which puts the saved settings in force; where they have the second
pair on, the sample of the second pair, taken after it, counts its disagreement. -/
theorem not_tamperResponses : ¬ Obligations.TamperResponses := by
  unfold Obligations.TamperResponses
  rintro ⟨-, -, mesh, -⟩
  have fires : exec (.meshSample true true) pairSwitchedOnBySave = .next firstPairFired :=
    (mesh pairSwitchedOnBySave 0 true true true (.inl ⟨rfl, rfl⟩) (by decide) (by decide)).2.2 rfl (by decide)
  have counts : secondPairMisses (exec (.meshSample true true) pairSwitchedOnBySave) = 0 := fires ▸ secondPairMisses_fired
  rw [secondPairMisses_sampled] at counts
  exact absurd counts (by decide)

end Sys2Proof.Proofs
end

section
/-!
Life-cycle transitions (R580 to R583).
-/
namespace Sys2Proof.Proofs
open Sys2Proof.Machine Sys2Proof.Laws

section Transitions
variable {s : State}

theorem provision_starts {b : Bytes} (from' : s.lcs = .blank ∨ s.lcs = .returned) (room : s.vaultNv.fuses.stage < 12) (free : s.lifeBusy = false)
    (good : s.bundleOk b (s.vaultNv.fuses.stage + 1) = true) :
    provision b s = (({ s with vaultNv := { s.vaultNv with bundle := b } }).startTransition 1 0, Abort.ok) := by
  have allowed : ¬ (s.lcs ≠ .blank ∧ s.lcs ≠ .returned ∨ 12 ≤ s.vaultNv.fuses.stage) := by
    rintro (⟨notBlank, notReturned⟩ | full)
    · exact from'.elim notBlank notReturned
    · exact absurd full (Nat.not_le.mpr room)
  exact (if_neg allowed).trans ((if_neg (by simp [free])).trans (if_neg (by simp [good])))

theorem provision_elsewhere {b : Bytes} (notBlank : s.lcs ≠ .blank) (notReturned : s.lcs ≠ .returned) :
    provision b s = s.lifeRefused Abort.notInState := if_pos (.inl ⟨notBlank, notReturned⟩)

section Eui
variable {eui target : Nat} {from' : List LifeCycle}

theorem euiTransition_elsewhere (h : s.lcs ∉ from') : s.euiTransition eui target from' = s.lifeRefused Abort.notInState :=
  if_pos (by simpa using h)

section From
variable (h : s.lcs ∈ from')
include h

theorem euiTransition_otherEui (other : eui ≠ Config.deviceEui) : s.euiTransition eui target from' = s.lifeRefused Abort.valueInconsistent :=
  (if_neg (by simpa using h)).trans (if_pos other)

theorem euiTransition_busy (own : eui = Config.deviceEui) (busy : s.lifeBusy = true) :
    s.euiTransition eui target from' = s.lifeRefused Abort.busy :=
  (if_neg (by simpa using h)).trans ((if_neg (not_not_intro own)).trans (if_pos busy))

theorem euiTransition_starts (own : eui = Config.deviceEui) (free : s.lifeBusy = false) :
    s.euiTransition eui target from' = (s.startTransition target 0, Abort.ok) :=
  (if_neg (by simpa using h)).trans ((if_neg (not_not_intro own)).trans (if_neg (by simp [free])))

end From
end Eui
end Transitions

/-- Settles O46: PROVISION by its state and bundle; DEPLOY, RETURN and LOCK by the states that each goes from, the EUI and what is under way. -/
theorem lifeCycle : Obligations.LifeCycle := by
  refine ⟨fun s role b ht hr from' room free good => ?_, fun s role b ht hr nb nr => ?_, fun s role ht hr free => ⟨fun h => ?_, fun h => ?_, fun h => ?_⟩,
    fun s role eui ht hr => ⟨fun h => ?_, fun h other => ?_, fun h h' => ⟨?_, ?_⟩, fun h other => ⟨?_, ?_⟩, fun h own busy => ?_⟩⟩
  · exact next_of_command rfl ht hr (provision_starts from' room free good)
  · exact next_of_command rfl ht hr (provision_elsewhere nb nr)
  · exact next_of_command rfl ht hr (euiTransition_starts (by simp [h]) rfl free)
  · exact next_of_command rfl ht hr (euiTransition_starts (by simp [h]) rfl free)
  · exact next_of_command rfl ht hr (euiTransition_starts (by simp [h]) rfl free)
  · exact next_of_command rfl ht hr (euiTransition_elsewhere (by simp [h]))
  · exact next_of_command rfl ht hr (euiTransition_otherEui (by simp [h]) other)
  · exact next_of_command rfl ht hr (euiTransition_elsewhere (by simp [h, h']))
  · exact next_of_command rfl ht hr (euiTransition_elsewhere (by simp [h, h']))
  · exact next_of_command rfl ht hr (euiTransition_otherEui (by simp [h]) other)
  · exact next_of_command rfl ht hr (euiTransition_otherEui (by simp [h]) other)
  · exact next_of_command rfl ht hr (euiTransition_busy (by simp [h]) own busy)

end Sys2Proof.Proofs
end

section
/-!
The service port (R592 to R596) and the staging of images (R597 to R603, R615, R617).
-/
namespace Sys2Proof.Proofs
open Sys2Proof.Machine Sys2Proof.Laws

/-! ### Frames written and read -/

section Port
variable {s : State} {f : Bytes}

section Taken
variable (fault : s.writeFault f = 0)
include fault

theorem serviceWrite_takes (h : s.inRecovery = false ∨ portType f ≠ 1) :
    serviceWrite f s = s.updPortal (fun p => { p with inputs := p.inputs ++ [f.take (fieldLE f 1 2 + 8)] }) := by
  unfold serviceWrite
  rw [fault]
  exact if_neg fun both => h.elim (fun no => by simp [no] at both) (fun no => no both.2)

theorem serviceWrite_recovery (recovery : s.inRecovery = true) (dict : portType f = 1) : serviceWrite f s = s := by
  unfold serviceWrite
  rw [fault]
  exact if_pos ⟨recovery, dict⟩

end Taken

theorem serviceWrite_badCrc (fault : s.writeFault f = 7) :
    serviceWrite f s = ((s.fwCount 7).updPortal (fun p => { p with crcErr := true })).portError 0 := by
  unfold serviceWrite
  rw [fault]
  rfl

theorem serviceWrite_malformed (fault : s.writeFault f = 9) : serviceWrite f s = (s.fwCount 9).portError 2 := by
  unfold serviceWrite
  rw [fault]
  rfl

theorem serviceWrite_full (full : 4 ≤ s.fw.port.inputs.length) :
    serviceWrite f s = ((s.fwCount 8).updPortal (fun p => { p with overflow := true })).portError 1 := by
  have fault : s.writeFault f = 8 := if_pos full
  unfold serviceWrite
  rw [fault]
  rfl

variable {n : Nat}

theorem serviceRead_empty (h : s.fw.port.outputs = []) : serviceRead n s = s.put (.svc (zeros (min n 3))) := by
  unfold serviceRead
  rw [h]

section Waiting
variable {r : List Bytes} (h : s.fw.port.outputs = f :: r)
include h

theorem serviceRead_whole (whole : f.length ≤ n) :
    serviceRead n s = ({ s with fw := { s.fw with port := { s.fw.port with outputs := r } } }).put (.svc (f.take n)) := by
  unfold serviceRead
  rw [h]
  exact if_pos whole

theorem serviceRead_part (part : n < f.length) : serviceRead n s = s.put (.svc (f.take n)) := by
  unfold serviceRead
  rw [h]
  exact if_neg (Nat.not_le.mpr part)

end Waiting

/-! ### Input frames -/

variable {typ : Nat}

theorem takeInput_front {r : List Bytes} (h : s.fw.port.inputs = f :: r) (typed : portType f = typ) (room : s.fw.port.outputs.length < 16) :
    s.takeInput typ = some (s.updPortal (fun p => { p with inputs := r }), portPayload f) := by
  unfold State.takeInput
  rw [h]
  exact if_pos ⟨typed, room⟩

theorem takeInput_stuck (h : s.fw.port.inputs = [] ∨ 16 ≤ s.fw.port.outputs.length) : s.takeInput typ = none := by
  unfold State.takeInput
  split
  · rfl
  · next f r front =>
    refine if_neg fun ⟨_, room⟩ => ?_
    rcases h with h | h
    · exact absurd (front.symm.trans h) (List.cons_ne_nil f r)
    · exact absurd room (Nat.not_lt.mpr h)

/-- A frame taken is the oldest one, and nothing else changes. -/
theorem takeInput_some {s1 : State} {p : Bytes} (h : s.takeInput typ = some (s1, p)) : ∃ r, s1 = s.updPortal (fun x => { x with inputs := r }) := by
  unfold State.takeInput at h
  split at h
  · exact absurd h (by simp)
  · next f r front =>
    split at h
    · exact ⟨r, (congrArg Prod.fst (Option.some.inj h)).symm⟩
    · exact absurd h (by simp)

theorem statusFrame_none (h : s.takeInput 0x20 = none) : statusFrame s = s := by
  unfold statusFrame
  rw [h]

theorem imageBegin_none (h : s.takeInput 0x10 = none) : imageBegin s = s := by
  unfold imageBegin
  rw [h]

theorem imageData_none (h : s.takeInput 0x11 = none) : imageData s = s := by
  unfold imageData
  rw [h]

theorem imageEnd_none (h : s.takeInput 0x12 = none) : imageEnd s = s := by
  unfold imageEnd
  rw [h]

theorem statusFrame_answers {r : List Bytes} (h : s.fw.port.inputs = f :: r) (typed : portType f = 0x20) (room : s.fw.port.outputs.length < 16) :
    statusFrame s = { s with fw := { s.fw with port := { s.fw.port with
      inputs := r, outputs := s.fw.port.outputs ++ [portFrame 0x20 s.statusPayload] } } } := by
  unfold statusFrame
  rw [takeInput_front h typed room]
  rfl

end Port

/-- Settles O47: a frame written by its fault, an output by what is clocked out of it, an input by its type and the room for an answer. -/
theorem servicePort : Obligations.ServicePort := by
  refine ⟨fun s f hp fault h => ?_, fun s f hp fault rec dict => ?_, fun s f hp fault => ?_, fun s f hp full => ?_, fun s f hp fault => ?_,
    fun s n hp h => ?_, fun s n f r hp h whole => ?_, fun s n f r hp h part => ?_, fun s hp => ?_, fun s f r hp h typed room => ?_,
    fun s hp h => ⟨?_, ?_, ?_, ?_⟩⟩
  · exact next_of_port rfl hp (serviceWrite_takes fault h)
  · exact next_of_port rfl hp (serviceWrite_recovery fault rec dict)
  · exact next_of_port rfl hp (serviceWrite_badCrc fault)
  · exact next_of_port rfl hp (serviceWrite_full full)
  · exact next_of_port rfl hp (serviceWrite_malformed fault)
  · exact next_of_port rfl hp (serviceRead_empty h)
  · exact next_of_port rfl hp (serviceRead_whole h whole)
  · exact next_of_port rfl hp (serviceRead_part h part)
  · exact next_of_port rfl hp rfl
  · exact next_of_port rfl hp (statusFrame_answers h typed room)
  · exact next_of_port rfl hp (statusFrame_none (takeInput_stuck h))
  · exact next_of_port rfl hp (imageBegin_none (takeInput_stuck h))
  · exact next_of_port rfl hp (imageData_none (takeInput_stuck h))
  · exact next_of_port rfl hp (imageEnd_none (takeInput_stuck h))

/-! ### Staging -/

theorem not_not_eq_true {b : Bool} (h : b = true) : ¬ (!b) = true := by simp [h]

section Staging
variable {s s1 : State} {p : Bytes}

section Begin
variable (h : s.takeInput 0x10 = some (s1, p)) (serves : s.inService updateCell = true) (four : p.length = 4)
include h serves four

theorem imageBegin_opens (idle : s.fw.state < 3 ∨ 5 < s.fw.state) (some' : leNat p ≠ 0) (fits : leNat p ≤ 4194304) :
    imageBegin s = ({ s1 with
      fwNv := { s.fwNv with slots := s.fwNv.slots.set s.idleSlot emptyFw, staged := false }
      fw := { s1.fw with state := 1, total := leNat p, next := 0, opened := true, hoVersion := 0 } }).frameDone 0x10 0 := by
  unfold imageBegin
  rw [h]
  obtain ⟨r, rfl⟩ := takeInput_some h
  have small : ¬ (leNat p = 0 ∨ 4194304 < leNat p) := by omega
  have free : ¬ (3 ≤ s.fw.state ∧ s.fw.state ≤ 5) := by omega
  exact (if_neg (not_not_eq_true serves)).trans ((if_neg (not_not_intro four)).trans ((if_neg free).trans (if_neg small)))

theorem imageBegin_busy (low : 3 ≤ s.fw.state) (high : s.fw.state ≤ 5) : imageBegin s = s1.frameDone 0x10 Abort.busy := by
  unfold imageBegin
  rw [h]
  obtain ⟨r, rfl⟩ := takeInput_some h
  exact (if_neg (not_not_eq_true serves)).trans ((if_neg (not_not_intro four)).trans (if_pos ⟨low, high⟩))

end Begin

section Data
variable (h : s.takeInput 0x11 = some (s1, p)) (serves : s.inService updateCell = true) (low : 5 ≤ p.length) (high : p.length ≤ 1028)
include h serves low high

theorem imageData_takes (opened : s.fw.opened = true) (next : fieldLE p 0 4 = s.fw.next) (fits : fieldLE p 0 4 + (p.length - 4) ≤ s.fw.total) :
    imageData s = ({ s1 with
      fwNv := { s.fwNv with slots := upd s.fwNv.slots s.idleSlot (fun x => { x with image := x.image ++ p.drop 4 }) }
      fw := { s1.fw with next := s.fw.next + (p.length - 4) } }).frameDone 0x11 0 := by
  unfold imageData
  rw [h]
  obtain ⟨r, rfl⟩ := takeInput_some h
  have sized : ¬ (p.length < 5 ∨ 1028 < p.length) := by omega
  rw [← List.length_drop] at fits ⊢
  exact (if_neg (not_not_eq_true serves)).trans ((if_neg sized).trans ((if_neg fun bad => bad.elim (not_not_eq_true opened) (· next)).trans
    (if_neg (Nat.not_lt.mpr fits))))

theorem imageData_outOfOrder (bad : s.fw.opened = false ∨ fieldLE p 0 4 ≠ s.fw.next) : imageData s = s1.frameDone 0x11 Abort.blockSequence := by
  unfold imageData
  rw [h]
  obtain ⟨r, rfl⟩ := takeInput_some h
  have sized : ¬ (p.length < 5 ∨ 1028 < p.length) := by omega
  exact (if_neg (not_not_eq_true serves)).trans ((if_neg sized).trans (if_pos (bad.imp_left (congrArg (!·)))))

end Data

section End
variable (h : s.takeInput 0x12 = some (s1, p)) (serves : s.inService updateCell = true) (opened : s.fw.opened = true) (full : s.fw.next = s.fw.total)
include h serves opened full

theorem imageEnd_staged (passes : (s1.checkImageSlot (s.fwSlot s.idleSlot).image).imageFault (s.fwSlot s.idleSlot).image = none)
    (normal : s.inRecovery = false) :
    imageEnd s = ((s1.checkImageSlot (s.fwSlot s.idleSlot).image).imageStaged (s.fwSlot s.idleSlot).image).frameDone 0x12 0 := by
  unfold imageEnd
  rw [h]
  obtain ⟨r, rfl⟩ := takeInput_some h
  refine (if_neg (not_not_eq_true serves)).trans ((if_neg fun bad => bad.elim (not_not_eq_true opened) (· full)).trans ?_)
  dsimp only
  generalize fault : State.imageFault _ _ = o
  obtain rfl : none = o := passes.symm.trans fault
  exact if_neg (ne_true_of_eq_false normal)

theorem imageEnd_refused {check code : Nat}
    (fails : (s1.checkImageSlot (s.fwSlot s.idleSlot).image).imageFault (s.fwSlot s.idleSlot).image = some (check, code)) :
    imageEnd s = ((s1.checkImageSlot (s.fwSlot s.idleSlot).image).imageRefused check code (imgVersion (s.fwSlot s.idleSlot).image)).frameDone 0x12 code := by
  unfold imageEnd
  rw [h]
  obtain ⟨r, rfl⟩ := takeInput_some h
  refine (if_neg (not_not_eq_true serves)).trans ((if_neg fun bad => bad.elim (not_not_eq_true opened) (· full)).trans ?_)
  dsimp only
  generalize fault : State.imageFault _ _ = o
  obtain rfl : some (check, code) = o := fails.symm.trans fault
  rfl

end End

section Discard
variable (serves : s.inService updateCell = true)
include serves

theorem discardStaged_staged (staged : s.fw.state = 2) :
    discardStaged s = ({ s with
      fwNv := { s.fwNv with slots := s.fwNv.slots.set s.idleSlot emptyFw, staged := false }
      fw := { s.fw with state := 0, hoVersion := 0, abort := 0 } }, 0) :=
  (if_neg (by simp [serves])).trans (if_neg (not_not_intro staged))

theorem discardStaged_elsewhere (h : s.fw.state ≠ 2) : discardStaged s = s.updateAnswer Abort.notInState := (if_neg (by simp [serves])).trans (if_pos h)

end Discard
end Staging

/-- Settles O48: each staging frame by the checks that it passes, and the staged image discarded by the state of the update manager. -/
theorem imageStaging : Obligations.ImageStaging := by
  refine ⟨fun s s1 p hp h sv four idle some' fits => ?_, fun s s1 p hp h sv four low high => ?_, fun s s1 p hp h sv low high op next fits => ?_,
    fun s s1 p hp h sv low high bad => ?_, fun s s1 p hp h sv op full passes normal => ?_, fun s s1 p check code hp h sv op full fails => ?_,
    fun s role ht hr sv staged => ?_, fun s role ht hr sv no => ?_⟩
  · exact next_of_port rfl hp (imageBegin_opens h sv four idle some' fits)
  · exact next_of_port rfl hp (imageBegin_busy h sv four low high)
  · exact next_of_port rfl hp (imageData_takes h sv low high op next fits)
  · exact next_of_port rfl hp (imageData_outOfOrder h sv low high bad)
  · exact next_of_port rfl hp (imageEnd_staged h sv op full passes normal)
  · exact next_of_port rfl hp (imageEnd_refused h sv op full fails)
  · exact next_of_command rfl ht hr (discardStaged_staged sv staged)
  · exact next_of_command rfl ht hr (discardStaged_elsewhere sv no)

end Sys2Proof.Proofs
end

section
/-!
Handover (R605 to R608), restart-mode updates (R615) and probation (R612 to R614).
-/
namespace Sys2Proof.Proofs
open Sys2Proof.Machine Sys2Proof.Laws

section Handover
variable {s : State}

/-! ### Commands to the update manager -/

section Serves
variable (serves : s.inService updateCell = true)
include serves

theorem hitlessHandover_notStaged (h : s.fw.state ≠ 2) : hitlessHandover s = s.updateAnswer Abort.notInState :=
  (if_neg (not_not_eq_true serves)).trans (if_pos h)

theorem restartModeUpdate_notStaged (h : s.fw.state ≠ 2) : restartModeUpdate s = s.updateAnswer Abort.notInState :=
  (if_neg (not_not_eq_true serves)).trans (if_pos h)

section Staged
variable (staged : s.fw.state = 2)
include staged

theorem hitlessHandover_noVersion (h : s.fw.hoVersion = 0) : hitlessHandover s = s.updateAnswer Abort.handoverRefused :=
  (if_neg (not_not_eq_true serves)).trans ((if_neg (not_not_intro staged)).trans (if_pos h))

theorem hitlessHandover_busy (version : s.fw.hoVersion ≠ 0) (busy : s.updateBusy = true) : hitlessHandover s = s.updateAnswer Abort.busy :=
  (if_neg (not_not_eq_true serves)).trans ((if_neg (not_not_intro staged)).trans ((if_neg version).trans (if_pos busy)))

theorem hitlessHandover_starts (version : s.fw.hoVersion ≠ 0) (free : s.updateBusy = false) (whole : s.standbyWhole = true) :
    hitlessHandover s = ((s.forwardSeal (s.fwSlot s.idleSlot).measure).updFw (fun u => { u with
      state := 3, step := 3, startedAt := s.now, stepAt := s.now + cMs 80, pauseAt := none, abort := 0 }), 0) :=
  (if_neg (not_not_eq_true serves)).trans ((if_neg (not_not_intro staged)).trans ((if_neg version).trans
    ((if_neg (ne_true_of_eq_false free)).trans (if_neg (not_not_eq_true whole)))))

theorem restartModeUpdate_busy (busy : s.updateBusy = true) : restartModeUpdate s = s.updateAnswer Abort.busy :=
  (if_neg (not_not_eq_true serves)).trans ((if_neg (not_not_intro staged)).trans (if_pos busy))

theorem restartModeUpdate_boots {t : State} (free : s.updateBusy = false) (ht : t = (s.forwardSeal (s.fwSlot s.idleSlot).measure).fwCount 6) :
    restartModeUpdate s = (({ t with fwNv := { t.fwNv with
      active := s.idleSlot, previous := s.fwNv.active, probation := true, boots := 0
      schemaDue := schemaChanges (s.fwSlot s.fwNv.active) (s.fwSlot s.idleSlot), staged := false } }).restart 6, Abort.ok) := by
  subst ht
  exact (if_neg (not_not_eq_true serves)).trans ((if_neg (not_not_intro staged)).trans (if_neg (ne_true_of_eq_false free)))

end Staged

theorem revert_elsewhere (h : s.fw.state ≠ 4) : revert s = s.updateAnswer Abort.notInState := (if_neg (not_not_eq_true serves)).trans (if_pos h)

theorem accept_elsewhere (h : s.fw.state ≠ 4) : accept s = s.updateAnswer Abort.notInState := (if_neg (not_not_eq_true serves)).trans (if_pos h)

theorem revert_probation (h : s.fw.state = 4) : revert s = (s.revertHitless 1).updateAnswer 0 :=
  (if_neg (not_not_eq_true serves)).trans (if_neg (not_not_intro h))

theorem accept_probation (h : s.fw.state = 4) : accept s = s.probationDone.updateAnswer 0 :=
  (if_neg (not_not_eq_true serves)).trans (if_neg (not_not_intro h))

end Serves

/-! ### The end of a handover -/

theorem bindOff_elsewhere (h : s.fw.state ≠ 3) : bindOff s = s := if_pos h

/-- With nothing held for it, the end of a pause changes nothing else. -/
theorem runHeld_none (h : s.dict.held = []) : s.runHeld = s := by
  unfold State.runHeld
  rw [h, List.foldl_nil, ← h]

theorem takeOver_swaps {t : Nat} (hl : s.live = true) (handing : s.fw.state = 3) (held : s.dict.held = []) :
    s.takeOver t = State.swapSets { s with fw := { s.fw with step := 6, pauseAt := none } } t := by
  unfold State.takeOver
  rw [runHeld_none (s := s.updFw _) held]
  exact if_pos (Bool.and_eq_true_iff.mpr ⟨hl, beq_iff_eq.mpr handing⟩)

section Handing
variable (handing : s.fw.state = 3) (unlocked : s.vault.lockdown = false) (cores : s.mayAbandon 6 = false)
include handing unlocked cores

theorem bindOff_pauses (ready : s.fw.pauseAt = none) (intime : s.now ≤ s.fw.stepAt + cMs 1000) :
    bindOff s = { s with fw := { s.fw with step := 5, pauseAt := some s.now } } := by
  unfold bindOff
  rw [if_neg (not_not_intro handing), if_neg (ne_true_of_eq_false unlocked), if_neg (ne_true_of_eq_false cores), ready]
  exact if_neg (Nat.not_lt.mpr intime)

theorem bindOff_takesOver {t : Nat} (paused : s.fw.pauseAt = some t) (intime : s.now ≤ t + cMs 2) : bindOff s = s.takeOver t := by
  unfold bindOff
  rw [if_neg (not_not_intro handing), if_neg (ne_true_of_eq_false unlocked), if_neg (ne_true_of_eq_false cores), paused]
  exact if_neg (Nat.not_lt.mpr intime)

end Handing

/-! ### The end of a probation -/

theorem probationEnded_elsewhere (h : s.fw.state ≠ 4 ∨ s.now < s.fw.probationEnd) : probationEnded s = s := if_pos h

theorem probationEnded_due (probation : s.fw.state = 4) (due : s.fw.probationEnd ≤ s.now) : probationEnded s = s.probationDone :=
  if_neg fun h => h.elim (not_not_intro probation) (Nat.not_lt.mpr due)

theorem heartbeatLost_elsewhere (h : s.fw.state ≠ 4) : heartbeatLost s = s := if_pos h

theorem heartbeatLost_reverts {t : State} (probation : s.fw.state = 4) (good : s.oldImageOk = true)
    (ht : t = ((s.revertEvent 3 1 (s.fwSlot s.fwNv.active).version (s.fwSlot s.fwNv.previous).version).flush 2).bootOld.coldReset 6) :
    heartbeatLost s = { t with powerNv := { t.powerNv with lastGaspResult := 0 } } := by
  subst ht
  exact (if_neg (not_not_intro probation)).trans (if_neg (not_not_eq_true good))

end Handover

/-- Settles O49: each command to the update manager by its state, a bind-off by the pause, a probation by its time and its heartbeat. -/
theorem handoverAndProbation : Obligations.HandoverAndProbation := by
  refine ⟨fun s role ht hr sv st ver free whole => ?_, fun s role ht hr sv => ⟨fun h => ⟨?_, ?_⟩, fun st h => ?_, fun st ver busy => ⟨?_, ?_⟩, fun h => ⟨?_, ?_⟩⟩,
    fun s role ht hr sv st free => ?_, fun s hl hand unl cores ready intime => ?_, fun s t hl hand unl cores paused intime held => ?_, fun s hl h => ?_,
    fun s cause hl may => ?_, fun s cause hl no => ?_, fun s role ht hr sv h => ⟨?_, ?_⟩, fun s hl prob due => ?_, fun s hl h => ?_,
    fun s hrun prob good => ?_, fun s hrun h => ?_⟩
  · exact next_of_command rfl ht hr (hitlessHandover_starts sv st ver free whole)
  · exact next_of_command rfl ht hr (hitlessHandover_notStaged sv h)
  · exact next_of_command rfl ht hr (restartModeUpdate_notStaged sv h)
  · exact next_of_command rfl ht hr (hitlessHandover_noVersion sv st h)
  · exact next_of_command rfl ht hr (hitlessHandover_busy sv st ver busy)
  · exact next_of_command rfl ht hr (restartModeUpdate_busy sv st busy)
  · exact next_of_command rfl ht hr (revert_elsewhere sv h)
  · exact next_of_command rfl ht hr (accept_elsewhere sv h)
  · exact next_of_command rfl ht hr (restartModeUpdate_boots sv st free rfl)
  · exact next_of_live rfl hl (bindOff_pauses hand unl cores ready intime)
  · exact next_of_live rfl hl ((bindOff_takesOver hand unl cores paused intime).trans (takeOver_swaps hl hand held))
  · exact next_of_live rfl hl (bindOff_elsewhere h)
  · exact next_of_live rfl hl (if_pos may)
  · exact next_of_live rfl hl (if_neg (ne_true_of_eq_false no))
  · exact next_of_command rfl ht hr (accept_probation sv h)
  · exact next_of_command rfl ht hr (revert_probation sv h)
  · exact next_of_live rfl hl (probationEnded_due prob due)
  · exact next_of_live rfl hl (probationEnded_elsewhere h)
  · exact next_of_running rfl hrun (heartbeatLost_reverts prob good rfl)
  · exact next_of_running rfl hrun (heartbeatLost_elsewhere h)

end Sys2Proof.Proofs
end

section
/-!
The cascade: formation and links (R622 to R625), and messages on a hop (R626, R627).
-/
namespace Sys2Proof.Proofs
open Sys2Proof.Machine Sys2Proof.Laws

section Formation
variable {s : State} {p : Nat} {b : Bytes}

/-! ### ENUMERATE and its reports -/

theorem enumerate_otherMaster (master : s.board.cascMaster = true) (other : fieldLE b 0 8 ≠ Config.deviceEui) :
    enumerate p b s = s.sendConflict p Config.deviceEui := (if_pos master).trans (if_neg other)

/-- R623: the master's own ENUMERATE has gone round. -/
theorem enumerate_ring (master : s.board.cascMaster = true) (own : fieldLE b 0 8 = Config.deviceEui) (pass : s.casc.enumPort = 0)
    (quiet : s.casc.conflict = false) : enumerate 1 b s = (s.enterNodes 0 (enumEntries (b.drop 10))).formDone 2 :=
  (if_pos master).trans ((if_pos own).trans (if_pos ⟨rfl, pass, by rw [quiet]; rfl⟩))

/-- R623 step 2: the first leaf of a chain takes the number offered and passes the list on. -/
theorem takeNumber_first (first : enumEntries (b.drop 10) = []) (free : fieldLE b 8 1 ≤ 63) (onward : (at' s.casc.ports (1 - p)).up = true) :
    s.takeNumber p b = (s.updCasc (fun c => { c with
      own := fieldLE b 8 1, masterEui := fieldLE b 0 8, enumPort := p, hops := fieldLE b 9 1, upstream := p })).sendEnumerate
        (1 - p) (fieldLE b 0 8) (fieldLE b 9 1 + 1) [(fieldLE b 8 1, Config.deviceEui, p, fieldLE b 9 1)] := by
  unfold State.takeNumber
  dsimp only
  rw [first]
  exact (if_neg (Nat.not_lt.mpr free)).trans (if_pos onward)

theorem enumerate_leaf (leaf : s.board.cascMaster = false) (quiet : s.casc.conflict = false) (unheard : s.casc.heard = []) :
    enumerate p b s = (s.updCasc (fun c => { c with heard := [(fieldLE b 0 8, p)] })).takeNumber p b := by
  have heard : s.updCasc (fun c => { c with heard := c.heard.filter (fun h => h.1 != fieldLE b 0 8) ++ [(fieldLE b 0 8, p)] }) =
      s.updCasc (fun c => { c with heard := [(fieldLE b 0 8, p)] }) :=
    congrArg (fun l => s.updCasc (fun c => { c with heard := l.filter (fun h => h.1 != fieldLE b 0 8) ++ [(fieldLE b 0 8, p)] })) unheard
  unfold enumerate
  dsimp only
  rw [if_neg (ne_true_of_eq_false leaf), heard]
  exact if_neg (ne_true_of_eq_false quiet)

theorem cascadeFormed_last (master : s.board.cascMaster = true) (quiet : s.casc.conflict = false) (pass : s.casc.enumPort = 1)
    (every : fieldLE b 0 8 = 0) : cascadeFormed 1 b s = (s.enterNodes 1 (enumEntries (b.drop 8))).formDone 1 := by
  unfold cascadeFormed
  dsimp only
  rw [if_neg (by simp [master, quiet, pass]), if_pos every]
  exact if_neg (by simp)

theorem cascadeFormed_first (master : s.board.cascMaster = true) (quiet : s.casc.conflict = false) (pass : s.casc.enumPort = 0)
    (every : fieldLE b 0 8 = 0) (second : (at' s.casc.ports 1).up = true) :
    cascadeFormed 0 b s = (s.enterNodes 0 (enumEntries (b.drop 8))).enumPass 1 := by
  unfold cascadeFormed
  dsimp only
  rw [if_neg (by simp [master, quiet, pass]), if_pos every]
  exact if_pos ⟨rfl, second⟩

/-- What arrives on a port that is up, and what arrives on one that is down. -/
theorem next_of_upPort {c : Instr} {t : State} {f : State → State}
    (hc : exec c s = s.whenLive (fun s => if (at' s.casc.ports p).up then f s else s)) (hl : s.live = true)
    (up : (at' s.casc.ports p).up = true) (h : f s = t) : exec c s = .next t :=
  next_of_live hc hl ((if_pos up).trans h)

theorem next_of_downPort {c : Instr} {f : State → State}
    (hc : exec c s = s.whenLive (fun s => if (at' s.casc.ports p).up then f s else s)) (hl : s.live = true)
    (down : (at' s.casc.ports p).up = false) : exec c s = .next s :=
  next_of_live hc hl (if_neg (ne_true_of_eq_false down))

/-! ### Links -/

/-- A link that is not the broken one of a ring. -/
theorem ringRestored_unbroken (h : s.casc.topology ≠ 3) : s.ringRestored p = s := if_pos (.inl h)

/-- A leaf of no conflict whose link comes up counts its messages anew and tells of it, and no more. -/
theorem linkUp_leaf (down : (at' s.casc.ports p).up = false) (used : s.ihUsed p = true) (whole : s.casc.topology < 3)
    (leaf : s.board.cascMaster = false) (quiet : s.casc.conflict = false) :
    s.linkUp p = (s.updIh p (fun x => { x with up := true, txSeq := 0, rx := none, unacked := [] })).event 0x5E03 (ihCell p) [byte p, 1] := by
  obtain ⟨q, u, l, told⟩ := event_eventsOnly (s.updIh p (fun x => { x with up := true, txSeq := 0, rx := none, unacked := [] })) 0x5E03 (ihCell p) [byte p, 1]
  unfold State.linkUp
  dsimp only
  rw [if_neg (by simp [down, used]), ringRestored_unbroken (by rw [told]; exact Nat.ne_of_lt whole), told]
  exact (if_neg (ne_true_of_eq_false leaf)).trans (if_neg (ne_true_of_eq_false quiet))

theorem linkUp_stands (h : (at' s.casc.ports p).up = true ∨ s.ihUsed p = false) : s.linkUp p = s := if_pos (h.imp_right (by simp [·]))

theorem lockLost_down (down : (at' s.casc.ports p).up = false) : s.lockLost p = s := if_neg (ne_true_of_eq_false down)

theorem lockLost_up (up : (at' s.casc.ports p).up = true) : s.lockLost p = (s.raiseError (ihCell p) 0x0016).linkDown p := if_pos up

theorem linkDown_up (up : (at' s.casc.ports p).up = true) :
    s.linkDown p = (((State.event { s with casc := { s.casc with ports := upd s.casc.ports p (fun x => { x with up := false }) } }
      0x5E03 (ihCell p) [byte p, 0]).ringBroken p).moveUnacked p).updIh p (fun x => { x with neighbour := 0xFF, neighbourEui := 0 }) :=
  if_neg (not_not_eq_true up)

end Formation

/-- Settles O50: ENUMERATE and the report of a pass by role and conflict, a link by its port and what it was. -/
theorem cascadeFormation : Obligations.CascadeFormation := by
  refine ⟨fun s p b hl up ma oth => ?_, fun s b hl up ma own pass quiet => ?_, fun s p b hl up onward leaf quiet unheard first free => ?_,
    fun s p b hl down => ⟨?_, ?_⟩, fun s b hl up ma quiet pass every => ?_, fun s b hl up up1 ma quiet pass every => ?_,
    fun s p hl down used whole leaf quiet => ?_, fun s p hl h => ?_, fun s p hl down => ?_, fun s p hl up => ?_, fun s p up => linkDown_up up⟩
  · exact next_of_upPort (f := enumerate p b) rfl hl up (enumerate_otherMaster ma oth)
  · exact next_of_upPort (f := enumerate 1 b) rfl hl up (enumerate_ring ma own pass quiet)
  · exact next_of_upPort (f := enumerate p b) rfl hl up ((enumerate_leaf leaf quiet unheard).trans (takeNumber_first first free onward))
  · exact next_of_downPort (f := enumerate p b) rfl hl down
  · exact next_of_downPort (f := cascadeFormed p b) rfl hl down
  · exact next_of_upPort (f := cascadeFormed 1 b) rfl hl up (cascadeFormed_last ma quiet pass every)
  · exact next_of_upPort (f := cascadeFormed 0 b) rfl hl up (cascadeFormed_first ma quiet pass every up1)
  · exact next_of_live rfl hl (linkUp_leaf down used whole leaf quiet)
  · exact next_of_live rfl hl (linkUp_stands h)
  · exact next_of_live rfl hl (lockLost_down down)
  · exact next_of_live rfl hl (lockLost_up up)

/-! ### Messages -/

section Messages
variable {s : State} {p : Nat} {m : Bytes}

theorem ihlostMessage_down {a : Option Nat} (down : (at' s.casc.ports p).up = false) : ihlostMessage p a m s = s := if_pos (by simp [down])

theorem ihlostMessage_ack {h : Nat} (up : (at' s.casc.ports p).up = true) :
    ihlostMessage p (some h) [] s = s.updIh p (fun x => { x with unacked := x.unacked.filter (fun u => u.hseq ≠ h) }) :=
  (if_neg (not_not_eq_true up)).trans (if_pos rfl)

theorem ihlostMessage_message (up : (at' s.casc.ports p).up = true) (some' : m ≠ []) : ihlostMessage p none m s = s.hopTake p m :=
  (if_neg (not_not_eq_true up)).trans (if_neg some')

theorem hopTake_broken (broken : ihWhole m = false) : s.hopTake p m = s.cascCount 3 := if_pos (by simp [broken])

section Whole
variable (whole : ihWhole m = true)
include whole

/-- R627: a message already taken is acknowledged again. -/
theorem hopTake_again (taken : (at' s.casc.ports p).rx = some (fieldLE m 6 2)) : s.hopTake p m = s.put (.beat p 3 (fieldLE m 6 2)) := by
  have none_ahead : (fieldLE m 6 2 + 65536 - fieldLE m 6 2) % 65536 = 0 := by rw [Nat.add_sub_cancel_left]
  unfold State.hopTake
  dsimp only
  rw [if_neg (not_not_eq_true whole), taken]
  exact (if_pos (by dsimp only; rw [none_ahead]; decide)).trans (if_pos (.inl none_ahead))

/-- The first message of a hop, for this node. -/
theorem hopTake_first {t : State} (fresh : (at' s.casc.ports p).rx = none) (mine : fieldLE m 3 1 = s.casc.own) (one' : fieldLE m 3 1 ≠ 0xFE)
    (done : ((s.updIh p (fun x => { x with rx := some (fieldLE m 6 2) })).cascCount 2).takeMessage p (fieldLE m 0 1) (fieldLE m 1 1) (fieldLE m 2 1)
      (slice m 8 (fieldLE m 4 2)) = some t) : s.hopTake p m = t.put (.beat p 3 (fieldLE m 6 2)) := by
  unfold State.hopTake
  dsimp only
  rw [if_neg (not_not_eq_true whole), fresh]
  refine (if_neg (not_not_intro rfl)).trans ?_
  rw [if_pos (.inr (.inr (.inl mine))), done]
  exact congrArg (State.put · _) (if_neg fun both => one' both.1)

end Whole

/-! ### Resends -/

theorem hopResend_none (fresh : ∀ m ∈ (at' s.casc.ports p).unacked, s.now < m.sentAt + cUs 20) : hopResend p s = s := by
  have none_old : (at' s.casc.ports p).unacked.any (fun m => decide (m.sentAt + cUs 20 ≤ s.now)) = false :=
    List.any_eq_false.mpr fun m hm => by simpa using fresh m hm
  exact if_pos (.inr (by rw [none_old]; rfl))

section Old
variable (up : (at' s.casc.ports p).up = true)
include up

theorem hopResend_again (old : ∃ m ∈ (at' s.casc.ports p).unacked, m.sentAt + cUs 20 ≤ s.now)
    (few : ∀ m ∈ (at' s.casc.ports p).unacked, m.resends < 8) :
    hopResend p s = (at' s.casc.ports p).unacked.foldl (fun st m => (st.put (.ihlost p m.bytes)).cascCount 4)
      (s.updIh p (fun x => { x with unacked := x.unacked.map (fun m => { m with resends := m.resends + 1, sentAt := s.now }) })) := by
  have some_old : (at' s.casc.ports p).unacked.any (fun m => decide (m.sentAt + cUs 20 ≤ s.now)) = true := by simpa using old
  have none_spent : (at' s.casc.ports p).unacked.any (fun m => decide (m.sentAt + cUs 20 ≤ s.now) && decide (8 ≤ m.resends)) = false :=
    List.any_eq_false.mpr fun m hm => by simp [few m hm]
  exact (if_neg (by simp only [up, some_old]; decide)).trans (if_neg (ne_true_of_eq_false none_spent))

theorem hopResend_spent (spent : ∃ m ∈ (at' s.casc.ports p).unacked, m.sentAt + cUs 20 ≤ s.now ∧ 8 ≤ m.resends) : hopResend p s = s.linkDown p := by
  have some_old : (at' s.casc.ports p).unacked.any (fun m => decide (m.sentAt + cUs 20 ≤ s.now)) = true := by
    obtain ⟨m, hm, old, -⟩ := spent
    exact List.any_eq_true.mpr ⟨m, hm, decide_eq_true old⟩
  exact (if_neg (by simp only [up, some_old]; decide)).trans (if_pos (by simpa using spent))

end Old
end Messages

/-- Settles O51: an acknowledgement, a message by what its hop has taken, and a resend by the age and the resends of what waits. -/
theorem cascadeMessages : Obligations.CascadeMessages := by
  refine ⟨fun s p h hl up => ?_, fun s p m hl up some' broken => ?_, fun s p m hl up some' whole taken _ => ?_,
    fun s p m t hl up some' whole fresh mine one' done => ?_, fun s p a m hl down => ?_, fun s p hl up old few => ?_, fun s p hl up spent => ?_,
    fun s p hl fresh => ?_⟩
  · exact next_of_live rfl hl (ihlostMessage_ack up)
  · exact next_of_live rfl hl ((ihlostMessage_message up some').trans (hopTake_broken broken))
  · exact next_of_live rfl hl ((ihlostMessage_message up some').trans (hopTake_again whole taken))
  · exact next_of_live rfl hl ((ihlostMessage_message up some').trans (hopTake_first whole fresh mine one' done))
  · exact next_of_live rfl hl (ihlostMessage_down down)
  · exact next_of_live rfl hl (hopResend_again up old few)
  · exact next_of_live rfl hl (hopResend_spent up spent)
  · exact next_of_live rfl hl (hopResend_none fresh)

end Sys2Proof.Proofs
end

section
/-!
The cascade's directory and forwarded frames (R631 to R636), and its heartbeats and epochs (R628, R640, R643, R644).
-/
namespace Sys2Proof.Proofs
open Sys2Proof.Machine Sys2Proof.Laws

section Directory
variable {s s1 : State}

/-! ### Registrations -/

section Update
variable {u : DirUpdate} {r : List DirUpdate}

theorem directoryUpdate_none (h : s.casc.updates = []) : directoryUpdate s = s := by
  unfold directoryUpdate
  rw [h]

theorem directoryUpdate_registered (h : s.casc.updates = u :: r) (master : s.board.cascMaster = true) (hreg : s.register u = some s1) :
    directoryUpdate s = s1.updCasc (fun c => { c with updates := c.updates.drop 1 }) := by
  unfold directoryUpdate
  rw [h]
  refine (if_neg (not_not_eq_true master)).trans ?_
  rw [hreg]

/-- With the directory changed alone, what is left is the rest of the updates. -/
theorem drop_updates (h : s.casc.updates = u :: r) (d : List (Nat × Nat)) :
    (s.updCasc (fun c => { c with dir := d })).updCasc (fun c => { c with updates := c.updates.drop 1 }) =
      s.updCasc (fun c => { c with dir := d, updates := r }) :=
  congrArg (fun l => s.updCasc (fun c => { c with dir := d, updates := l })) (congrArg (List.drop 1) h)

theorem register_new (add : u.add = true) (free : lookupKey u.eui s.casc.dir = none) (room : s.casc.dir.length < 16777216) :
    s.register u = some (s.updCasc (fun c => { c with dir := insertKey u.eui u.node c.dir })) := by
  unfold State.register
  dsimp only
  rw [if_neg (not_not_eq_true add), free]
  exact if_neg (Nat.not_le.mpr room)

theorem register_removal (remove : u.add = false) (own : lookupKey u.eui s.casc.dir = some u.node) :
    s.register u = some (s.updCasc (fun c => { c with dir := eraseKey u.eui c.dir })) :=
  (if_pos (by simp [remove])).trans (congrArg some (if_pos own))

/-- R632: a meter that moves between two leaves, the old one out of reach. -/
theorem register_moved {o : Nat} (add : u.add = true) (held : lookupKey u.eui s.casc.dir = some o) (other : o ≠ u.node) (leaf : o ≠ 0)
    (unreached : s.cascSend 1 6 o (leBytes 8 u.eui) = none) :
    s.register u = some ((s.updCasc (fun c => { c with dir := insertKey u.eui u.node c.dir })).emit 0x5E0A (ihCell 0) u.meter
      (leBytes 8 u.eui ++ [byte o, byte u.node])) := by
  unfold State.register
  dsimp only
  rw [if_neg (not_not_eq_true add), held]
  refine (if_neg other).trans ((if_neg leaf).trans ?_)
  rw [unreached]
  rfl

end Update

/-! ### Forwarded frames -/

theorem drainReturns_empty (h : (at' s.queue.queues 13).level = 0) : s.drainReturns = s := by
  unfold State.drainReturns
  rw [h]
  rfl

theorem forwardFrame_routed {origin : Nat} {b : Bytes} {r : List (Nat × Bytes)} (idle : (at' s.queue.queues 13).level = 0)
    (h : s.casc.forwards = (origin, b) :: r) (routed : s.routeForward origin b = some s1) :
    forwardFrame s = s1.updCasc (fun c => { c with forwards := r }) := by
  unfold forwardFrame
  dsimp only
  rw [drainReturns_empty idle, h]
  dsimp only
  rw [routed]

theorem forwardFrame_idle (idle : (at' s.queue.queues 13).level = 0) (h : s.casc.forwards = []) (none' : s.peekPacket 33 = none) :
    forwardFrame s = s := by
  unfold forwardFrame
  dsimp only
  rw [drainReturns_empty idle, h, none']

theorem routeForward_sent {origin o : Nat} {b : Bytes} (held : lookupKey (fEui (b.drop 64)) s.casc.dir = some o) (other : o ≠ origin) (leaf : o ≠ 0)
    (sent : s.cascSend 2 2 o ([byte origin] ++ b) = some s1) : s.routeForward origin b = some s1 := by
  unfold State.routeForward
  rw [held]
  refine (if_neg other).trans ((if_neg leaf).trans ?_)
  rw [sent]
  rfl

/-! ### Records acknowledged -/

theorem recordAck_unformed (h : s.masterFormed = false) : recordAck s = s := if_pos (by simp [h])

theorem recordAck_one {n : CascNode} {t : Nat} (master : s.board.cascMaster = true) (formed : s.casc.formed = true) (only : s.casc.nodes = [n])
    (taken : n.taken = some t) (due : n.acked ≠ some t) (sent : s.cascSend 1 11 n.node (leBytes 4 t) = some s1) :
    recordAck s = s1.updCasc (fun c => { c with nodes := c.nodes.map (fun x => if x.node = n.node then { x with acked := some t } else x) }) := by
  have present : s.masterFormed = true := by
    unfold State.masterFormed
    rw [master, formed, only]
    rfl
  unfold recordAck
  rw [if_neg (not_not_eq_true present), only, List.foldl_cons, List.foldl_nil, taken]
  refine (if_neg due).trans ?_
  rw [sent]

end Directory

/-- Settles O52: the oldest registration by what the directory holds, the oldest FORWARD message by its route, one leaf's records by their
acknowledgement. -/
theorem cascadeDirectory : Obligations.CascadeDirectory := by
  refine ⟨fun s u r hl ma h add free room => ?_, fun s u r hl ma h remove own => ?_, fun s u r o hl ma h add held oth leaf unreached => ?_,
    fun s hl h => ?_, fun s s1 origin b r hl idle h routed => ?_, fun s hl idle h none' => ?_, fun s origin o b t held oth leaf sent => ?_,
    fun s eui fc hl => ?_, fun s hl h => ?_, fun s s1 n t hl ma formed only taken due sent => ?_⟩
  · exact next_of_live rfl hl ((directoryUpdate_registered h ma (register_new add free room)).trans (drop_updates h _))
  · exact next_of_live rfl hl ((directoryUpdate_registered h ma (register_removal remove own)).trans (drop_updates h _))
  · exact next_of_live rfl hl (directoryUpdate_registered h ma (register_moved add held oth leaf unreached))
  · exact next_of_live rfl hl (directoryUpdate_none h)
  · exact next_of_live rfl hl (forwardFrame_routed idle h routed)
  · exact next_of_live rfl hl (forwardFrame_idle idle h none')
  · exact routeForward_sent held oth leaf sent
  · exact next_of_live rfl hl rfl
  · exact next_of_live rfl hl (recordAck_unformed h)
  · exact next_of_live rfl hl (recordAck_one ma formed only taken due sent)

/-! ### Heartbeats -/

section Heartbeats
variable {s : State}

theorem masterHeartbeat_sent (h : s.masterFormed = true) : masterHeartbeat none s = (s.beatOut 0 1 0).beatOut 1 1 0 := if_pos h

section Arrival
variable {p : Fin 2}

theorem masterHeartbeat_taken (leaf : s.board.cascMaster = false) (numbered : s.casc.own ≠ 0xFF) (up : s.casc.upstream = p) :
    masterHeartbeat (some p) s = ((s.updCasc (fun c => { c with seenAt := s.now })).beatOut (1 - p) 1 0).reportCounts :=
  if_neg (by simp [leaf, numbered, up])

theorem masterHeartbeat_stands (h : s.board.cascMaster = true ∨ s.casc.own = 0xFF ∨ s.casc.upstream ≠ p) : masterHeartbeat (some p) s = s := if_pos h

end Arrival

theorem masterLost_due (present : s.leafPresent = true) (due : s.casc.seenAt + cMs (s.cfgN 0x5E00 3) ≤ s.now) :
    masterLost s = (s.updCasc (fun c => { c with masterLost := true, lostAt := s.now })).cascEvent 0x5E06 [byte s.casc.hopsUp] :=
  if_neg (by simp [present, due])

theorem masterLost_stands (h : s.leafPresent = false ∨ s.now < s.casc.seenAt + cMs (s.cfgN 0x5E00 3)) : masterLost s = s :=
  if_pos (h.imp_left (by simp [·]))

theorem leafLost_marks {k : Nat} (master : s.board.cascMaster = true) (h : ∃ n ∈ s.casc.nodes, n.node = k ∧ n.lost = false) :
    leafLost k s = (s.updCasc (fun c => { c with
      nodes := c.nodes.map (fun x => if x.node = k then { x with lost := true, lostAt := s.now } else x) })).cascEvent 0x5E08 [byte k] := by
  have unmarked : s.casc.nodes.any (fun n => n.node == k && !n.lost) = true := by simpa using h
  exact if_neg (by simp only [master, unmarked]; decide)

theorem leafLost_stands {k : Nat} (h : s.board.cascMaster = false ∨ ∀ n ∈ s.casc.nodes, n.node = k → n.lost = true) : leafLost k s = s := by
  refine if_pos (h.imp (by simp [·]) fun every => ?_)
  simpa using every

theorem masterRegained_returns {t : State} (leaf : s.board.cascMaster = false) (lost : s.casc.masterLost = true) (heard : s.casc.lostAt < s.casc.seenAt)
    (ht : t = (s.updCasc (fun c => { c with masterLost := false })).greetMaster) :
    masterRegained s = t.cascEvent 0x5E07 (zeros 4 ++ leBytes 4 ((s.now - s.casc.lostAt) / cSec 1) ++ leBytes 4 t.casc.resent) := by
  rw [ht]
  exact if_neg (by simp [leaf, lost, heard])

theorem masterRegained_present (h : s.casc.masterLost = false) : masterRegained s = s := if_pos (.inr (.inl (by simp [h])))

/-! ### Epochs -/

theorem sampleSyncEpoch_made (formed : s.masterFormed = true) (edge : s.cfgN 0x2000 4 = 1) :
    sampleSyncEpoch none s =
      (let t := s.td0 + nsUnits (s.cfgN 0x5E00 2 * 1000)
       ((s.updCasc (fun c => { c with epochs := c.epochs ++ [t] })).beatOut 0 2 t).beatOut 1 2 t) := if_neg (by simp [formed, edge])

theorem sampleSyncEpoch_stands (h : s.masterFormed = false ∨ s.cfgN 0x2000 4 ≠ 1) : sampleSyncEpoch none s = s := if_pos (h.imp_left (by simp [·]))

section Arrived
variable {p : Fin 2} {t : Int} (present : s.leafPresent = true) (up : s.casc.upstream = p)
include present up

theorem sampleSyncEpoch_past (past : t < s.td0) : sampleSyncEpoch (some (p, t)) s = (s.beatOut (1 - p) 2 t).cascCount 10 :=
  (if_neg (by simp [present, up])).trans (if_pos past)

theorem sampleSyncEpoch_taken (ahead : s.td0 ≤ t) (edge : s.cfgN 0x2000 4 = 1) :
    sampleSyncEpoch (some (p, t)) s = (s.beatOut (1 - p) 2 t).updCasc (fun c => { c with epochs := c.epochs ++ [t] }) :=
  (if_neg (by simp [present, up])).trans ((if_neg (Int.not_lt.mpr ahead)).trans (if_pos edge))

end Arrived
end Heartbeats

/-- Settles O53: each heartbeat, loss, return and epoch by the role of the node and the times it has seen. -/
theorem cascadeHeartbeats : Obligations.CascadeHeartbeats := by
  refine ⟨fun s hl formed => ?_, fun s p hl leaf num up => ?_, fun s p hl h => ?_, fun s hl pres due => ?_, fun s hl h => ?_, fun s k hl ma h => ?_,
    fun s k hl h => ?_, fun s hl leaf lost heard => ?_, fun s hl h => ?_, fun s hl formed edge => ?_, fun s hl h => ?_,
    fun s p t hl pres up past => ?_, fun s p t hl pres up ahead edge => ?_⟩
  · exact next_of_live rfl hl (masterHeartbeat_sent formed)
  · exact next_of_live rfl hl (masterHeartbeat_taken leaf num up)
  · exact next_of_live rfl hl (masterHeartbeat_stands h)
  · exact next_of_live rfl hl (masterLost_due pres due)
  · exact next_of_live rfl hl (masterLost_stands h)
  · exact next_of_live rfl hl (leafLost_marks ma h)
  · exact next_of_live rfl hl (leafLost_stands h)
  · exact next_of_live rfl hl (masterRegained_returns leaf lost heard rfl)
  · exact next_of_live rfl hl (masterRegained_present h)
  · exact next_of_live rfl hl (sampleSyncEpoch_made formed edge)
  · exact next_of_live rfl hl (sampleSyncEpoch_stands h)
  · exact next_of_live rfl hl (sampleSyncEpoch_past pres up past)
  · exact next_of_live rfl hl (sampleSyncEpoch_taken pres up ahead edge)

end Sys2Proof.Proofs
end

section
/-!
Clock islands (R648, R651) and crossings (R653, R654, R667, R668, R670).
-/
namespace Sys2Proof.Proofs
open Sys2Proof.Machine Sys2Proof.Laws

/-! ### Islands -/

section Islands
variable {s : State} {i : Nat}

section Check
variable {locked : Bool} {kHz : Nat}

theorem islandFrequencyCheck_good (h : s.islandCause i locked kHz = 0) :
    islandFrequencyCheck i locked kHz s = s.updIsland i (fun x => { x with
      locked := locked, kHz := if s.nominalHz i = 0 ∨ x.inReset then 0 else kHz }) := if_pos h

theorem islandFrequencyCheck_bad (h : s.islandCause i locked kHz ≠ 0) :
    islandFrequencyCheck i locked kHz s = (s.updIsland i (fun x => { x with
      locked := locked, kHz := if s.nominalHz i = 0 ∨ x.inReset then 0 else kHz })).islandFault i (s.islandCause i locked kHz) := if_neg h

end Check

theorem islandFault_new {cause : Nat} (h : (at' s.isl.islands i).fault = false) :
    s.islandFault i cause = (((s.updIsland i (fun y => { y with
      fault := true, inReset := true, faults := satAdd maxU8 y.faults 1, faultAt := s.now, faultTimes := y.faultTimes ++ [s.now] })).event 0x6001 islandCell
        [byte i, byte cause]).raiseErrorAt (islandCollector i) (islandUnit i) 0x0015).islandReset i := if_neg (ne_true_of_eq_false h)

theorem islandClockRestored_faulty (h : (at' s.isl.islands i).fault = true) :
    islandClockRestored i s = ((s.updIsland i (fun y => { y with fault := false, inReset := false, locked := true })).event 0x6002 islandCell
      ([byte i, 0, 0, 0] ++ leBytes 4 (min maxU32 ((s.now - (at' s.isl.islands i).faultAt) / cUs 1)))).openCrossings i := if_neg (not_not_eq_true h)

theorem islandClockRestored_sound (h : (at' s.isl.islands i).fault = false) : islandClockRestored i s = s := if_pos (by simp [h])

theorem phase_of_running (h : s.running = true) : s.power.phase = .run := by
  simp only [State.running, Bool.and_eq_true, beq_iff_eq] at h
  exact h.2

theorem islandGate_gates (run : s.power.phase = .run) (out : (at' s.isl.islands i).inReset = false) (time : i ≠ 9) (low : i < 22) :
    islandGate i s = s.updIsland i (fun x => { x with gated := true }) := if_neg (by simp [run, out, time, low])

theorem islandGate_keeps (h : (at' s.isl.islands i).inReset = true ∨ i = 9 ∨ 22 ≤ i) : islandGate i s = s :=
  if_pos (h.imp_right .inr)

end Islands

/-! ### Crossings -/

section Crossings
variable {s : State} {dst src : Nat}

/-- R667: while the crossing is fenced its toggle stands still. -/
theorem crossEvent_fenced (h : (s.crossing dst src).fenced = true) : s.crossEvent dst src = s := if_pos h

section Open
variable (fenced : (s.crossing dst src).fenced = false)
include fenced

theorem crossEvent_taken (h : ((s.crossing dst src).arrive s.now).2 = false) :
    s.crossEvent dst src = (s.putCrossing ((s.crossing dst src).arrive s.now).1).updIsland dst (fun i => { i with gated := false }) :=
  (if_neg (ne_true_of_eq_false fenced)).trans (if_pos (by simp [h]))

section Merged
variable (h : ((s.crossing dst src).arrive s.now).2 = true)
include h

theorem crossEvent_mergedTold (due : s.perSecond (s.crossing dst src).eventAt = true) :
    s.crossEvent dst src = ((s.raiseErrorAt (islandBlockCollector dst) (islandUnit dst) 0x0002).putCrossing
      { ((s.crossing dst src).arrive s.now).1 with
        overrun := true, merged := sat32 (s.crossing dst src).merged, eventAt := some s.now, mergedSince := 0 }).event 0x6003
          islandCell ([byte dst, byte src, 0, 0] ++ leBytes 4 ((s.crossing dst src).mergedSince + 1)) :=
  (if_neg (ne_true_of_eq_false fenced)).trans ((if_neg (not_not_eq_true h)).trans (if_pos due))

theorem crossEvent_mergedQuiet (early : s.perSecond (s.crossing dst src).eventAt = false) :
    s.crossEvent dst src = (s.raiseErrorAt (islandBlockCollector dst) (islandUnit dst) 0x0002).putCrossing
      { ((s.crossing dst src).arrive s.now).1 with
        overrun := true, merged := sat32 (s.crossing dst src).merged, mergedSince := (s.crossing dst src).mergedSince + 1 } :=
  (if_neg (ne_true_of_eq_false fenced)).trans ((if_neg (not_not_eq_true h)).trans (if_neg (ne_true_of_eq_false early)))

end Merged
end Open
end Crossings

/-! ### The arrival of an event -/

section Arrival
variable {x : Crossing} {now t : Nat}

theorem settle_none (h : x.invertedAt = none) : x.settle now = x := by
  unfold Crossing.settle
  rw [h]

theorem settle_waits (h : x.invertedAt = some t) (wait : ¬ (x.held = true ∧ t + spacing x.dst x.src ≤ now)) : x.settle now = x := by
  unfold Crossing.settle
  rw [h]
  exact if_neg wait

theorem arrive_first (h : x.invertedAt = none) : x.arrive now = (x.invert now, false) := by
  unfold Crossing.arrive
  dsimp only
  rw [settle_none h, h]

theorem arrive_spaced (h : x.invertedAt = some t) (free : x.held = false) (past : t + spacing x.dst x.src ≤ now) :
    x.arrive now = (x.invert now, false) := by
  unfold Crossing.arrive
  dsimp only
  rw [settle_waits h (by simp [free]), h]
  exact if_pos past

theorem arrive_soon (h : x.invertedAt = some t) (soon : now < t + spacing x.dst x.src) :
    x.arrive now = if x.held = true then (x, true) else ({ x with held := true }, false) := by
  unfold Crossing.arrive
  dsimp only
  rw [settle_waits h fun both => absurd both.2 (Nat.not_le.mpr soon), h]
  exact if_neg (Nat.not_le.mpr soon)

end Arrival

/-- Settles O54: the check, fault, return and gate of an island; an event of a crossing by its toggle, its fence and its clear. -/
theorem islandsAndCrossings : Obligations.IslandsAndCrossings := by
  refine ⟨fun s i lk kHz hl h => ?_, fun s i lk kHz hl h => ?_, fun s i cause h => islandFault_new h, fun s i hl h => ?_, fun s i hl h => ?_,
    fun s i hrun out time low => ?_, fun s i hl h => ?_, fun s i hl => ?_, fun s dst src hl => ⟨fun f => ?_, fun f h => ?_, fun f h due => ?_, fun f h early => ?_⟩,
    fun x now t h => ?_, fun x now t h soon => arrive_soon h soon, fun s dst src side items hl => ?_, fun s role ht hr => ?_⟩
  · exact next_of_live rfl hl (islandFrequencyCheck_good h)
  · exact next_of_live rfl hl (islandFrequencyCheck_bad h)
  · exact next_of_live rfl hl (islandClockRestored_faulty h)
  · exact next_of_live rfl hl (islandClockRestored_sound h)
  · exact next_of_live rfl (live_of_running hrun) (islandGate_gates (phase_of_running hrun) out time low)
  · exact next_of_live rfl hl (islandGate_keeps h)
  · exact next_of_live rfl hl rfl
  · exact next_of_live rfl hl (crossEvent_fenced f)
  · exact next_of_live rfl hl (crossEvent_taken f h)
  · exact next_of_live rfl hl (crossEvent_mergedTold f h due)
  · exact next_of_live rfl hl (crossEvent_mergedQuiet f h early)
  · rcases h with h | ⟨h, free, past⟩
    · exact arrive_first h
    · exact arrive_spaced h free past
  · exact next_of_live rfl hl rfl
  · exact next_of_command rfl ht hr (one_one _ _)

end Sys2Proof.Proofs
end

section
/-!
Filtered inputs (R661 to R664).
-/
namespace Sys2Proof.Proofs
open Sys2Proof.Machine Sys2Proof.Laws

section Inputs
variable {s : State} {i : Nat}

/-! ### Changes -/

section Change
variable {level : Bool} {ns : Nat}

theorem inputChange_noInput (h : s.isInput i = false) : inputChange i level ns s = s := if_pos (by simp [h])

section Input
variable (input : s.isInput i = true)
include input

theorem inputChange_glitch (short : ns < s.inputCfg i 1) :
    inputChange i level ns s = s.updInput i (fun x => { x with glitches := x.glitches + 1 }) :=
  (if_neg (not_not_eq_true input)).trans (if_pos short)

section Held
variable (held : s.inputCfg i 1 ≤ ns)
include held

/-- R662: a level that has held is taken; it is an activation, an end, or neither. -/
theorem inputChange_held :
    inputChange i level ns s =
      (let act := level == (s.inputCfg i 2 == 1)
       let t := s.updInput i (fun x => { x with raw := level })
       if act == (at' s.isl.inputs i).active then t
       else if act then t.activation i (s.now - ns / 2 - 2) else t.updInput i (fun x => { x with active := false })) :=
  (if_neg (not_not_eq_true input)).trans (if_neg (Nat.not_lt.mpr held))

theorem inputChange_same (h : (level == (s.inputCfg i 2 == 1)) = (at' s.isl.inputs i).active) :
    inputChange i level ns s = s.updInput i (fun x => { x with raw := level }) :=
  (inputChange_held input held).trans (if_pos (by simp [h]))

theorem inputChange_ends (h : (level == (s.inputCfg i 2 == 1)) = false) (active : (at' s.isl.inputs i).active = true) :
    inputChange i level ns s = (s.updInput i (fun x => { x with raw := level })).updInput i (fun x => { x with active := false }) :=
  (inputChange_held input held).trans ((if_neg (by simp [h, active])).trans (if_neg (ne_true_of_eq_false h)))

theorem inputChange_activates (h : (level == (s.inputCfg i 2 == 1)) = true) (inactive : (at' s.isl.inputs i).active = false) :
    inputChange i level ns s = (s.updInput i (fun x => { x with raw := level })).activation i (s.now - ns / 2 - 2) :=
  (inputChange_held input held).trans ((if_neg (by simp [h, inactive])).trans (if_pos h))

end Held
end Input
end Change

/-- R664: with no limit of activations every one is delivered. -/
theorem activation_unlimited {stamp : Nat} (unmasked : (at' s.isl.inputs i).mask = .none) (unlimited : s.inputCfg i 4 = 0) :
    s.activation i stamp =
      (let t := (s.updInput i (fun y => { y with active := true, activeSince := stamp })).updInput i (fun y => { y with
         delivered := y.delivered + 1, windowAt := none, inWindow := 0 })
       if i = 0 then t.crossEvent 20 9 else t) :=
  (if_neg (not_not_intro unmasked)).trans (if_pos unlimited)

/-! ### Masks -/

theorem inputStuck_due (input : s.isInput i = true) (limited : s.inputCfg i 3 ≠ 0) (unmasked : (at' s.isl.inputs i).mask = .none)
    (active : (at' s.isl.inputs i).active = true) (due : (at' s.isl.inputs i).activeSince + cMs (s.inputCfg i 3) ≤ s.now) :
    inputStuck i s = (s.updInput i (fun y => { y with mask := .stuck, maskedAt := s.now, stuckCount := sat32 y.stuckCount })).event 0x6005 0x6400
      ([byte i, 0, 0, 0] ++ leBytes 4 (s.inputCfg i 3)) :=
  if_neg (by simp [input, limited, unmasked, active, due])

theorem inputStuck_stands (h : s.inputCfg i 3 = 0 ∨ (at' s.isl.inputs i).active = false ∨
    s.now < (at' s.isl.inputs i).activeSince + cMs (s.inputCfg i 3)) : inputStuck i s = s := by
  refine if_pos ?_
  rcases h with unlimited | inactive | early
  · exact .inr (.inl unlimited)
  · exact .inr (.inr (.inr (.inl (by simp [inactive]))))
  · exact .inr (.inr (.inr (.inr early)))

theorem inputRearmed_stands (h : (at' s.isl.inputs i).active = true ∨ (at' s.isl.inputs i).mask = .none) : inputRearmed i s = s := by
  by_cases active : (at' s.isl.inputs i).active = true
  case pos => exact if_pos active
  case neg =>
    refine (if_neg active).trans ?_
    rw [h.resolve_left active]

section Inactive
variable (inactive : (at' s.isl.inputs i).active = false)
include inactive

theorem inputRearmed_stuck (stuck : (at' s.isl.inputs i).mask = .stuck) :
    inputRearmed i s = (s.updInput i (fun y => { y with mask := .none })).event 0x6007 0x6400
      ([byte i, 1, 0, 0] ++ leBytes 4 (min maxU32 ((s.now - (at' s.isl.inputs i).maskedAt) / cMs 1))) := by
  refine (if_neg (ne_true_of_eq_false inactive)).trans ?_
  rw [stuck]
  rfl

theorem inputRearmed_chattering (chattering : (at' s.isl.inputs i).mask = .chattering)
    (due : (at' s.isl.inputs i).maskedAt + cMs (s.inputCfg i 6) ≤ s.now) :
    inputRearmed i s = (s.updInput i (fun y => { y with mask := .none, windowAt := none, inWindow := 0 })).event 0x6007 0x6400
      ([byte i, 2, 0, 0] ++ leBytes 4 (min maxU32 ((s.now - (at' s.isl.inputs i).maskedAt) / cMs 1))) := by
  refine (if_neg (ne_true_of_eq_false inactive)).trans ?_
  rw [chattering]
  exact if_neg (Nat.not_lt.mpr due)

end Inactive
end Inputs

/-- Settles O55: a change of level by how long it held and what the input was, and the masks by activity and time. -/
theorem filteredInputs : Obligations.FilteredInputs := by
  refine ⟨fun s i level ns hl h => ?_, fun s i level ns hl input short => ?_, fun s i level ns hl input held => ⟨fun h => ?_, fun h act => ?_, fun h act => ?_⟩,
    fun s i stamp unm unl => activation_unlimited unm unl, fun s i hl input lim unm act due => ?_, fun s i hl h => ?_, fun s i hl ina stuck => ?_,
    fun s i hl ina ch due => ?_, fun s i hl h => ?_⟩
  · exact next_of_live rfl hl (inputChange_noInput h)
  · exact next_of_live rfl hl (inputChange_glitch input short)
  · exact next_of_live rfl hl (inputChange_same input held h)
  · exact next_of_live rfl hl (inputChange_ends input held h act)
  · exact next_of_live rfl hl (inputChange_activates input held h act)
  · exact next_of_live rfl hl (inputStuck_due input lim unm act due)
  · exact next_of_live rfl hl (inputStuck_stands h)
  · exact next_of_live rfl hl (inputRearmed_stuck ina stuck)
  · exact next_of_live rfl hl (inputRearmed_chattering ina ch due)
  · exact next_of_live rfl hl (inputRearmed_stands h)

end Sys2Proof.Proofs
end

section
/-!
Errors contained (R22, R23, R671 to R677, R680), and the service of cells (R677, R685 to R688, R695).
-/
namespace Sys2Proof.Proofs
open Sys2Proof.Machine Sys2Proof.Laws

/-! ### Reports on their way -/

section Reports
variable (s : State)

/-- Collectors take and pass on reports; which errors wait to be handled stands. -/
theorem reportTo_raised (a carried : Nat) (e : ErrReport) : (s.reportTo a e carried).health.raised = s.health.raised := by
  unfold State.reportTo
  split <;> rfl

theorem forwardFrom_raised (a : Nat) : (s.forwardFrom a).health.raised = s.health.raised := by
  unfold State.forwardFrom
  dsimp only
  split
  · rfl
  · exact reportTo_raised ..

theorem forwardLevel_raised (n : Nat) : (s.forwardLevel n).health.raised = s.health.raised := by
  unfold State.forwardLevel
  generalize List.filter _ _ = l
  induction l generalizing s with
  | nil => rfl
  | cons a l ih => rw [List.foldl_cons, ih, forwardFrom_raised]

theorem forwardReports_raised : s.forwardReports.health.raised = s.health.raised := by
  unfold State.forwardReports
  rw [forwardLevel_raised, forwardLevel_raised, forwardLevel_raised]

theorem raiseError_raised (cell code : Nat) :
    (s.raiseError cell code).health.raised = s.health.raised ++ [ErrReport.mk cell code (errClass code) s.td0 cell] := by
  unfold State.raiseError State.raiseErrorAt
  dsimp only
  rw [reportTo_raised]

end Reports

/-! ### ERROR_REPORT -/

section Handling
variable {s : State} {e : ErrReport} {bad : List Nat}

theorem errorReport_none (h : s.health.raised = []) : errorReport none s = s.forwardReports := by
  unfold errorReport
  dsimp only
  rw [(forwardReports_raised s).trans h]

theorem errorReport_one (h : s.health.raised = [e]) :
    errorReport none s = State.handleError { s.forwardReports with health := { s.forwardReports.health with raised := [] } } e [] := by
  unfold errorReport
  dsimp only
  rw [(forwardReports_raised s).trans h]
  simp only [List.find?_nil, Option.getD_none, List.erase_cons_head]

/-- An error detected while none waits is the one handled. -/
theorem errorReport_new {n : NewError} (h : s.health.raised = []) (plain : n.code ≠ 0x0020) :
    errorReport (some n) s =
      (let t := (s.raiseError n.cell n.code).forwardReports
       State.handleError { t with health := { t.health with raised := [] } } (ErrReport.mk n.cell n.code (errClass n.code) s.td0 n.cell) n.items) := by
  have raised : (s.raiseError n.cell n.code).forwardReports.health.raised = [ErrReport.mk n.cell n.code (errClass n.code) s.td0 n.cell] := by
    rw [forwardReports_raised, raiseError_raised, h, List.nil_append]
  unfold errorReport
  dsimp only
  rw [if_neg plain, raised]
  simp only [List.find?_nil, Option.getD_none, List.erase_cons_head]
  rw [if_pos ⟨trivial, plain⟩]

/-! ### By class -/

theorem handleError_recovered (h : e.cls = 0) : s.handleError e bad = s := if_pos h

section NotRecovered
variable (h : e.cls ≠ 0)
include h

theorem handleError_clock (clock : e.code = 0x0015) : s.handleError e bad = s.judgeIslands e.entry := (if_neg h).trans (if_pos clock)

end NotRecovered

section Transient
variable (h : e.cls = 1) (noClock : e.code ≠ 0x0015)
include h noClock

theorem handleError_transientOut (out : s.inService (unitOf e.cell) = false) : s.handleError e bad = s :=
  (if_neg (by simp [h])).trans ((if_neg noClock).trans ((if_pos h).trans (if_pos (by simp [out]))))

theorem handleError_transient (serves : s.inService (unitOf e.cell) = true) :
    s.handleError e bad = if (s.transient e).2 = 0 then (s.transient e).1
      else ((s.transient e).1.reportTo e.entry { e with code := (s.transient e).2, cls := 2 } 0).permanent e.cell (s.transient e).2 bad :=
  (if_neg (by simp [h])).trans ((if_neg noClock).trans ((if_pos h).trans (if_neg (not_not_eq_true serves))))

end Transient

/-- R673, R674: a report of the permanent class that none of the special codes names. -/
theorem handleError_permanent (h : e.cls = 2) (noClock : e.code ≠ 0x0015) (noDram : e.code ≠ 0x0020) (noTest : e.code ≠ 0x0035)
    (noLane : e.code ≠ 0x0030 ∨ cellKind e.cell ≠ 0) : s.handleError e bad = s.permanent e.cell e.code bad :=
  (if_neg (by simp [h])).trans ((if_neg noClock).trans ((if_neg (by simp [h])).trans ((if_neg noDram).trans
    ((if_neg fun lane => noLane.elim (· lane.1) (· lane.2)).trans (if_neg noTest)))))

section Permanent
variable {cell code : Nat}

theorem permanent_critical (h : critical (unitOf cell) = true) : s.permanent cell code bad = s.deviceFaulted (unitOf cell) code := if_pos h

section Plain
variable (h : critical (unitOf cell) = false)
include h

theorem permanent_out (out : s.inService (unitOf cell) = false) : s.permanent cell code bad = s :=
  (if_neg (ne_true_of_eq_false h)).trans (if_pos (by simp [out]))

section Serving
variable (serves : s.inService (unitOf cell) = true)
include serves

theorem permanent_retires (kind : cellKind (unitOf cell) ≤ 9) : s.permanent cell code bad = s.retire (unitOf cell) code bad :=
  (if_neg (ne_true_of_eq_false h)).trans ((if_neg (not_not_eq_true serves)).trans (if_pos kind))

theorem permanent_fences (kind : 9 < cellKind (unitOf cell)) : s.permanent cell code bad = s.fence (unitOf cell) code :=
  (if_neg (ne_true_of_eq_false h)).trans ((if_neg (not_not_eq_true serves)).trans (if_neg (Nat.not_le.mpr kind)))

end Serving
end Plain
end Permanent
end Handling

/-! ### Retries -/

section Retries
variable {s : State} {cell item : Nat}

theorem retry_stands {ok : Bool} (h : (s.cellRec cell).attempts = 0 ∨ 4 ≤ (s.cellRec cell).attempts ∨
    s.now < (s.cellRec cell).failedAt + cUs (s.kindPolicy cell 3 * 4 ^ ((s.cellRec cell).attempts - 1))) : retry cell item ok s = s := if_pos h

section Due
variable (some' : 1 ≤ (s.cellRec cell).attempts) (few : (s.cellRec cell).attempts ≤ 3)
  (due : (s.cellRec cell).failedAt + cUs (s.kindPolicy cell 3 * 4 ^ ((s.cellRec cell).attempts - 1)) ≤ s.now) (plain : 2 ≤ cellKind cell)
include some' few due plain

/-- R675: a retry of a cell that is neither a lane nor a demodulator touches its record alone. -/
theorem retry_due (ok : Bool) :
    retry cell item ok s = if ok then s.updCell cell (fun x => { x with attempts := 0 }) else s.raiseError cell (s.cellRec cell).lastCode := by
  obtain ⟨k, hk⟩ : ∃ k, cellKind cell = k + 2 := ⟨_, (Nat.sub_add_cancel plain).symm⟩
  unfold retry
  dsimp only
  rw [if_neg (by omega), hk]
  rfl

end Due
end Retries

/-- Settles O56: an error handled by its class and code, a permanent one by its unit, a retry by its attempts and time. -/
theorem errorsContained : Obligations.ErrorsContained := by
  refine ⟨fun s hl h => ?_, fun s e hl h => ?_, fun s n hl h plain => ?_, fun s e bad h => handleError_recovered h,
    fun s e bad h clock => handleError_clock h clock, fun s e bad h noClock out => handleError_transientOut h noClock out,
    fun s e bad h noClock serves => handleError_transient h noClock serves,
    fun s e bad h noClock noDram noTest noLane => handleError_permanent h noClock noDram noTest noLane,
    fun s cell code bad => ⟨fun h => permanent_critical h, fun h out => permanent_out h out, fun h serves kind => permanent_retires h serves kind,
      fun h serves kind => permanent_fences h serves kind⟩,
    fun s cell item hl some' few due plain => ⟨?_, ?_⟩, fun s cell item ok hl h => ?_⟩
  · exact next_of_live rfl hl (errorReport_none h)
  · exact next_of_live rfl hl (errorReport_one h)
  · exact next_of_live rfl hl (errorReport_new h plain)
  · exact next_of_live rfl hl (retry_due some' few due plain true)
  · exact next_of_live rfl hl (retry_due some' few due plain false)
  · exact next_of_live rfl hl (retry_stands h)

/-! ### Cells by command -/

section Service
variable {s : State} {v : Nat}

theorem retireCell_noCell (h : cellDefined v = false ∨ 9 < cellKind v) : retireCell v s = (s, Abort.valueInconsistent) :=
  if_pos (h.imp_left (by simp [·]))

section Cell
variable (defined : cellDefined v = true) (kind : cellKind v ≤ 9)
include defined kind

theorem retireCell_cell : ¬ ((!cellDefined v) = true ∨ 9 < cellKind v) :=
  fun h => h.elim (not_not_eq_true defined) (Nat.not_lt.mpr kind)

theorem retireCell_out (out : s.inService v = false) : retireCell v s = (s, Abort.fenced) :=
  (if_neg (retireCell_cell defined kind)).trans (if_pos (by simp [out]))

theorem retireCell_serving (serves : s.inService v = true) :
    retireCell v s = (((s.reportTo v (ErrReport.mk v 0x0036 2 s.td0 v) 0).forwardReports).permanent v 0x0036 [], Abort.ok) :=
  (if_neg (retireCell_cell defined kind)).trans ((if_neg (not_not_eq_true serves)).trans
    (congrArg (·, Abort.ok) (handleError_permanent rfl (by decide : (0x0036 : Nat) ≠ 0x0015) (by decide : (0x0036 : Nat) ≠ 0x0020)
      (by decide : (0x0036 : Nat) ≠ 0x0035) (.inl (by decide : (0x0036 : Nat) ≠ 0x0030)))))

end Cell

theorem returnCell_unready (h : s.cellStatus v ≠ .returnReady) (h' : s.cellStatus v ≠ .held) : returnCell v s = (s, Abort.valueInconsistent) :=
  if_pos ⟨h, h'⟩

theorem returnCell_ready (h : s.cellStatus v = .returnReady ∨ s.cellStatus v = .held) :
    returnCell v s = (s.updCell v (fun r => { r with returnAsked := true }), Abort.ok) := if_neg fun no => h.elim no.1 no.2

theorem clearCollector_health (h : s.cfgN 0x6420 0 = 0xE100) :
    clearCollector 1 s = ({ s with health := { s.health with
      collectors := insertKey 0xE100 { (lookupKey 0xE100 s.health.collectors).getD emptyCollector with counts := [0, 0, 0], first := none } s.health.collectors
      regionFaults := 0 } }, Abort.ok) := by
  refine (one_one _ s).trans ?_
  rw [h]
  rfl

theorem clearCollector_below {a : Nat} (h : s.cfgN 0x6420 0 = a) (below : a ≠ 0xE100) (noRegion : a % 8192 ≠ 0x1F00) :
    clearCollector 1 s = ({ s with health := { s.health with
      collectors := insertKey a { (lookupKey a s.health.collectors).getD emptyCollector with counts := [0, 0, 0], first := none } s.health.collectors } },
        Abort.ok) := by
  refine (one_one _ s).trans ?_
  dsimp only
  rw [h, if_neg (show ¬ a = healthCell from below), if_neg noRegion]
  rfl

/-! ### Failover and self-tests -/

section Failover
variable {k us : Nat} (h : s.health.failover = some k)
include h

theorem controlFailover_hitless :
    controlFailover true us s = State.event { s with
      health := { s.health with failover := none }, fw := { s.fw with activeSet := 1 - s.fw.activeSet } } 0x6406 (coreCell k)
        ([0, byte k] ++ leBytes 2 (min maxU16 us)) := by
  unfold controlFailover
  rw [h]
  rfl

theorem controlFailover_cold :
    controlFailover false us s = State.event { s.coldControl with
      health := { s.health with failover := none }, fw := { s.fw with activeSet := 1 - s.fw.activeSet } } 0x6406 (coreCell k)
        ([1, byte k] ++ leBytes 2 (min maxU16 us)) := by
  unfold controlFailover
  rw [h]
  rfl

end Failover

theorem controlFailover_none {hitless : Bool} {us : Nat} (h : s.health.failover = none) : controlFailover hitless us s = s := by
  unfold controlFailover
  rw [h]

section SelfTest
variable {cell space word : Nat}

theorem selfTest_serving {pass : Bool} (h : (s.cellRec cell).status = .inService) : selfTest cell pass space word s = s :=
  if_pos (.inl ⟨by rw [h]; decide, by rw [h]; decide, .inl (by rw [h]; decide)⟩)

section Due
variable (out : (s.cellRec cell).status = .fenced ∨ (s.cellRec cell).status = .retired)
  (due : (s.cellRec cell).lastTest = 0 ∨ (s.cellRec cell).lastTest + cSec (s.kindPolicy cell 5) ≤ s.now)
include out due

theorem selfTest_due (pass : Bool) :
    selfTest cell pass space word s =
      if pass then s.updCell cell (fun x => { x with lastTest := s.now, tested := true, status := if x.status = .held then .held else .returnReady })
      else ((s.updCell cell (fun x => { x with lastTest := s.now })).raiseError cell 0x0035).event 0x6403 cell
        ([byte (cellKind cell), byte space, 0, 0] ++ leBytes 4 word) :=
  if_neg fun h => h.elim (fun no => out.elim no.1 no.2.1) (not_not_eq_true (decide_eq_true due))

theorem selfTest_passes :
    selfTest cell true space word s = s.updCell cell (fun x => { x with lastTest := s.now, tested := true, status := .returnReady }) := by
  have notHeld : (s.cellRec cell).status ≠ .held := by rcases out with h | h <;> rw [h] <;> decide
  refine (selfTest_due out due true).trans ?_
  unfold State.updCell
  dsimp only
  rw [if_pos rfl, if_neg notHeld]

end Due
end SelfTest
end Service

/-- Settles O57: each command on a cell by its kind and state, the failover by the core that fell, a self-test by state and time. -/
theorem cellService : Obligations.CellService := by
  refine ⟨fun s role v ht hr => ⟨fun h => ?_, fun d k out => ?_, fun d k sv => ?_, fun h h' => ?_, fun h => ?_⟩, fun s role ht hr h => ?_,
    fun s role a ht hr h below noRegion => ?_, fun s k us hl h => ⟨?_, ?_⟩, fun s hit us hl h => ?_, fun s cell word space hl out due => ⟨?_, ?_⟩,
    fun s cell word pass space hl h => ?_⟩
  · exact next_of_command rfl ht hr (retireCell_noCell h)
  · exact next_of_command rfl ht hr (retireCell_out d k out)
  · exact next_of_command rfl ht hr (retireCell_serving d k sv)
  · exact next_of_command rfl ht hr (returnCell_unready h h')
  · exact next_of_command rfl ht hr (returnCell_ready h)
  · exact next_of_command rfl ht hr (clearCollector_health h)
  · exact next_of_command rfl ht hr (clearCollector_below h below noRegion)
  · exact next_of_live rfl hl (controlFailover_hitless h)
  · exact next_of_live rfl hl (controlFailover_cold h)
  · exact next_of_live rfl hl (controlFailover_none h)
  · exact next_of_live rfl hl (selfTest_passes out due)
  · exact next_of_live rfl hl (selfTest_due out due false)
  · exact next_of_live rfl hl (selfTest_serving h)

end Sys2Proof.Proofs
end

section
/-!
Freeze and its release (R689 to R692), and the swatch (R693, R694).
-/
namespace Sys2Proof.Proofs
open Sys2Proof.Machine Sys2Proof.Laws

/-! ### Freeze -/

section Freeze
variable {s : State}

theorem freeze_refused {r : Nat} (h : s.mayFreeze r = false) : freeze r s = s := if_pos (by simp [h])

/-- In a last gasp and in reset holds nobody may freeze the device (R712). -/
theorem mayFreeze_held {r : Nat} (h : s.power.phase = .lastGasp ∨ s.power.phase = .held ∨ s.power.phase = .refHeld) : s.mayFreeze r = false := by
  rcases h with h | h | h <;> simp [State.mayFreeze, h]

theorem mayFreeze_pinOff (h : s.cfgN 0x6441 1 ≠ 1) : s.mayFreeze 0 = false := by simp [State.mayFreeze, h]

theorem mayFreeze_debugOff (h : s.debugGrants 0 = false) : s.mayFreeze 1 = false := by simp [State.mayFreeze, h]

section Phase
variable (phase : s.power.phase = .run ∨ s.power.phase = .castOn ∨ s.power.phase = .flushed ∨ s.power.phase = .stopped)
include phase

theorem mayFreeze_pin (h : s.cfgN 0x6441 1 = 1) : s.mayFreeze 0 = true := by
  rcases phase with p | p | p | p <;> simp [State.mayFreeze, h, p]

theorem mayFreeze_debug (h : s.debugGrants 0 = true) : s.mayFreeze 1 = true := by
  rcases phase with p | p | p | p <;> simp [State.mayFreeze, h, p]

end Phase

theorem freeze_pin_first (may : s.mayFreeze 0 = true) (thawed : s.health.frozen = false) :
    freeze 0 s = State.cutSending { s with health := { s.health with
      frozen := true, freezePin := true, frozenBackup := s.time.backup, freezes := sat32 s.health.freezes, lastRequester := 1 } } := by
  refine (if_neg (not_not_eq_true may)).trans ((if_neg (ne_true_of_eq_false thawed)).trans ?_)
  simp [b2n]

theorem freeze_debug_again (may : s.mayFreeze 1 = true) (frozen : s.health.frozen = true) :
    freeze 1 s = { s with health := { s.health with freezeDebug := true } } := by
  refine (if_neg (not_not_eq_true may)).trans ((if_pos frozen).trans ?_)
  simp

theorem freezeReleased_thawed {r : Nat} (h : s.health.frozen = false) : freezeReleased r s = s := if_pos (by simp [h])

section Frozen
variable (frozen : s.health.frozen = true)
include frozen

theorem freezeReleased_pin (other : s.health.freezeDebug = true) :
    freezeReleased 0 s = { s with health := { s.health with freezePin := false, lastRequester := 1 } } := by
  refine (if_neg (not_not_eq_true frozen)).trans ((if_pos (by simp [other])).trans ?_)
  simp [b2n]

theorem freezeReleased_debugLast (alone : s.health.freezePin = false) :
    freezeReleased 1 s = State.thaw { s with health := { s.health with freezeDebug := false, lastRequester := 2 } } := by
  refine (if_neg (not_not_eq_true frozen)).trans ((if_neg (by simp [alone])).trans ?_)
  simp [b2n]

end Frozen
end Freeze

/-! ### The swatch -/

section Swatch
variable {s : State} {cell space addr : Nat} {present secret : Bool}

/-- The swatch as a read sets it. -/
def atSwatch (s : State) (cell space addr : Nat) : State :=
  { s with health := { s.health with swatch := { s.health.swatch with cell := cell, space := space, addr := addr } } }

/-- What a read leaves in the swatch, by why it is refused, and whether it is masked. -/
def swatchRead (s : State) (cell space addr why : Nat) (masked : Bool) : State :=
  { s with health := { s.health with swatch := { s.health.swatch with
      cell := cell, space := space, addr := (addr + 1) % 2 ^ 32
      error := s.health.swatch.error || why == 1, denied := why == 2, masked := masked } } }

theorem swatchRefusal_denied (h : s.debugGrants 0 = false) : (atSwatch s cell space addr).swatchRefusal present = 2 :=
  if_pos (congrArg (!·) h)

theorem swatchRefusal_read (granted : s.debugGrants 0 = true) (frozen : s.health.frozen = true) (defined : cellDefined cell = true) (low : space ≤ 1) :
    (atSwatch s cell space addr).swatchRefusal true = 0 :=
  (if_neg (not_not_eq_true granted)).trans (if_neg (by simp [atSwatch, frozen, defined, low]))

/-- R694: a read gives a word, a free value, or 0 where it is refused or masked. -/
theorem swData_eq {why : Nat} (h : (atSwatch s cell space addr).swatchRefusal present = why) :
    swData cell space addr present secret s =
      if why ≠ 0 ∨ (why == 0 && (secretCell cell || secret)) then
        (swatchRead s cell space addr why (why == 0 && (secretCell cell || secret))).put (.value cell addr (zeros 4))
      else ({ swatchRead s cell space addr why (why == 0 && (secretCell cell || secret)) with fresh := s.fresh + 1 }).put
        (.value cell addr (padTo 4 (Config.freeBytes s.fresh))) := by
  subst h
  rfl

theorem swData_denied (h : s.debugGrants 0 = false) :
    swData cell space addr present secret s = ({ s with health := { s.health with swatch := { s.health.swatch with
      cell := cell, space := space, addr := (addr + 1) % 2 ^ 32, denied := true, masked := false } } }).put (.value cell addr (zeros 4)) := by
  rw [swData_eq (swatchRefusal_denied h), if_pos (.inl (by decide))]
  simp [swatchRead]

section Readable
variable (granted : s.debugGrants 0 = true) (frozen : s.health.frozen = true) (defined : cellDefined cell = true) (low : space ≤ 1)
include granted frozen defined low

theorem swData_value (cellOpen : secretCell cell = false) :
    swData cell space addr true false s = ({ s with fresh := s.fresh + 1, health := { s.health with swatch := { s.health.swatch with
      cell := cell, space := space, addr := (addr + 1) % 2 ^ 32, denied := false, masked := false } } }).put
        (.value cell addr (padTo 4 (Config.freeBytes s.fresh))) := by
  rw [swData_eq (swatchRefusal_read granted frozen defined low), if_neg (by simp [cellOpen])]
  simp [swatchRead, cellOpen]

theorem swData_masked (hidden : secretCell cell = true ∨ secret = true) :
    swData cell space addr true secret s = ({ s with health := { s.health with swatch := { s.health.swatch with
      cell := cell, space := space, addr := (addr + 1) % 2 ^ 32, denied := false, masked := true } } }).put (.value cell addr (zeros 4)) := by
  have masked : (secretCell cell || secret) = true := Bool.or_eq_true_iff.mpr hidden
  rw [swData_eq (swatchRefusal_read granted frozen defined low), masked, if_pos (.inr rfl)]
  simp [swatchRead]

end Readable
end Swatch

/-- Settles O58: a request and a release by who may and who else holds the freeze, a read of the swatch by what stands in its way. -/
theorem freezeAndSwatch : Obligations.FreezeAndSwatch := by
  refine ⟨fun s ph on thawed => ?_, fun s ph on frozen => ?_, fun s off => ?_, fun s off => ?_, fun s r ph => ?_, fun s frozen other => ?_,
    fun s frozen alone => ?_, fun s r thawed => ?_, fun s cell space addr present secret hp off => ?_,
    fun s cell space addr hp on frozen def' low op => ?_, fun s cell space addr secret hp on frozen def' low hid => ?_, fun s hp => ?_⟩
  · exact congrArg Host.Outcome.next (freeze_pin_first (mayFreeze_pin ph on) thawed)
  · exact congrArg Host.Outcome.next (freeze_debug_again (mayFreeze_debug ph on) frozen)
  · exact congrArg Host.Outcome.next (freeze_refused (mayFreeze_pinOff off))
  · exact congrArg Host.Outcome.next (freeze_refused (mayFreeze_debugOff off))
  · exact congrArg Host.Outcome.next (freeze_refused (mayFreeze_held ph))
  · exact congrArg Host.Outcome.next (freezeReleased_pin frozen other)
  · exact congrArg Host.Outcome.next (freezeReleased_debugLast frozen alone)
  · exact congrArg Host.Outcome.next (freezeReleased_thawed thawed)
  · exact next_of_powered rfl hp (swData_denied off)
  · exact next_of_powered rfl hp (swData_value on frozen def' low op)
  · exact next_of_powered rfl hp (swData_masked on frozen def' low hid)
  · exact next_of_powered rfl hp rfl

end Sys2Proof.Proofs
end

section
/-!
Cold resets (R698, R704, R711, R712), the last gasp (R710) and a restart by command (R713).
-/
namespace Sys2Proof.Proofs
open Sys2Proof.Machine Sys2Proof.Laws

/-! ### Cold resets -/

section Resets
variable {s : State}

theorem cutGasp_lastGasp {cause : Nat} (h : s.power.phase = .lastGasp) :
    s.cutGasp cause = { s with powerNv := { s.powerNv with gaspCut := some (min 7 s.power.gaspStep, cause), lastGaspResult := 2 } } := if_pos h

theorem cutGasp_other {cause : Nat} (h : s.power.phase ≠ .lastGasp) : s.cutGasp cause = s := if_neg h

theorem porst_running (h : s.power.phase = .run ∨ s.power.phase = .stopped ∨ s.power.phase = .refHeld) :
    porst s = State.coldReset { s with powerNv := { s.powerNv with lastGaspResult := 0 } } 1 := by
  unfold porst
  rcases h with h | h | h <;> rw [cutGasp_other (by rw [h]; decide), h]

theorem porst_flushed (h : s.power.phase = .flushed) :
    porst s = State.coldReset { s with powerNv := { s.powerNv with lastGaspResult := 1 } } 1 := by
  unfold porst
  rw [cutGasp_other (by rw [h]; decide), h]

theorem porst_lastGasp (h : s.power.phase = .lastGasp) :
    porst s = State.coldReset { s with powerNv := { s.powerNv with gaspCut := some (min 7 s.power.gaspStep, 1), lastGaspResult := 2 } } 1 := by
  unfold porst
  rw [cutGasp_lastGasp h, h]

theorem porst_reset (h : s.power.phase = .castOn ∨ s.power.phase = .held) : porst s = s.coldReset 1 := by
  unfold porst
  rcases h with h | h <;> rw [cutGasp_other (by rw [h]; decide), h]

theorem brownOut_running (h : s.power.phase = .run ∨ s.power.phase = .refHeld) :
    brownOut s = State.coldReset { s with powerNv := { s.powerNv with lastGaspResult := 3 } } 2 := by
  unfold brownOut
  rcases h with h | h <;> rw [h]

theorem brownOut_lastGasp (h : s.power.phase = .lastGasp) :
    brownOut s = State.coldReset { s with powerNv := { s.powerNv with gaspCut := some (min 7 s.power.gaspStep, 2), lastGaspResult := 2 } } 2 := by
  unfold brownOut
  rw [h]
  exact congrArg (State.coldReset · 2) (cutGasp_lastGasp h)

theorem brownOut_hold (h : s.power.phase = .flushed ∨ s.power.phase = .held) :
    brownOut s = { s.coldReset 0 with power := { initPower 0 with phase := .held, pendingCause := 0 } } := by
  unfold brownOut
  rcases h with h | h <;> rw [h] <;> rfl

theorem brownOut_castOn (h : s.power.phase = .castOn) : brownOut s = s.coldReset 2 := by
  unfold brownOut
  rw [h]

theorem pfailReleased_down (h : s.power.phase = .flushed ∨ s.power.phase = .stopped) : pfailReleased s = s.coldReset 3 := by
  unfold pfailReleased
  rcases h with h | h <;> rw [h]

theorem pfailReleased_lastGasp (h : s.power.phase = .lastGasp) : pfailReleased s = { s with power := { s.power with pfailLow := false } } := by
  unfold pfailReleased
  rw [h]

theorem pfailReleased_other (h : s.power.phase = .run ∨ s.power.phase = .castOn ∨ s.power.phase = .held ∨ s.power.phase = .refHeld) :
    pfailReleased s = s := by
  unfold pfailReleased
  rcases h with h | h | h | h <;> rw [h]

/-! ### The last gasp -/

theorem lastGasp_other (h : s.power.phase ≠ .run) : lastGasp s = s := if_pos h

theorem lastGasp_thawed (h : s.power.phase = .run) (thawed : s.health.frozen = false) : lastGasp s = s.gaspStart 1 :=
  (if_neg (not_not_intro h)).trans (congrArg (State.gaspStart · 1) (if_neg (ne_true_of_eq_false thawed)))

theorem lastGasp_frozen (h : s.power.phase = .run) (frozen : s.health.frozen = true) : lastGasp s = s.thaw.gaspStart 1 :=
  (if_neg (not_not_intro h)).trans (congrArg (State.gaspStart · 1) (if_pos frozen))

theorem lastGaspStop_stands {late : Nat} (h : s.power.phase ≠ .lastGasp ∨ s.now < s.power.gaspAt + cMs 180) : lastGaspStop late s = s := if_pos h

/-- R710: a last gasp that reaches its stop has succeeded, whether a cold reset follows it or not. -/
theorem lastGaspStop_result {late : Nat} (h : s.power.phase = .lastGasp) (due : s.power.gaspAt + cMs 180 ≤ s.now) :
    (lastGaspStop late s).powerNv.lastGaspResult = 1 := by
  unfold lastGaspStop
  dsimp only
  rw [if_neg fun early => early.elim (not_not_intro h) (Nat.not_lt.mpr due)]
  split <;> rfl

/-! ### Restarts -/

theorem deviceRestart_range {v : Nat} (h : v ≠ 1) : deviceRestart v s = (s, Abort.valueRange) := if_pos h

theorem deviceRestart_lastGasp (h : s.power.phase = .lastGasp) : deviceRestart 1 s = (s, Abort.busy) := (if_neg (not_not_intro rfl)).trans (if_pos h)

theorem deviceRestart_running (h : s.power.phase = .run) : deviceRestart 1 s = (s.restart 4, Abort.ok) :=
  (if_neg (not_not_intro rfl)).trans (if_neg (by rw [h]; decide))

end Resets

/-- Settles O59: each reset, the last gasp and a restart by the phase that it meets. -/
theorem resetsAndLastGasp : Obligations.ResetsAndLastGasp := by
  refine ⟨fun s h => ?_, fun s h => ?_, fun s h => ?_, fun s h => ?_, fun s h => ?_, fun s h => ?_, fun s h => ?_, fun s h => ?_, fun s h => ?_, fun s h => ?_,
    fun s h => ?_, fun s h thawed => ?_, fun s h frozen => ?_, fun s h => ?_, fun s late h due _ => ⟨_, rfl, lastGaspStop_result h due⟩,
    fun s late h => ?_, fun s role ht hr h => ?_, fun s role v ht hr h => ?_, fun s role ht hr h => ?_⟩
  · exact congrArg Host.Outcome.next (porst_running h)
  · exact congrArg Host.Outcome.next (porst_flushed h)
  · exact congrArg Host.Outcome.next (porst_lastGasp h)
  · exact congrArg Host.Outcome.next (porst_reset h)
  · exact congrArg Host.Outcome.next (brownOut_running h)
  · exact congrArg Host.Outcome.next (brownOut_lastGasp h)
  · exact congrArg Host.Outcome.next (brownOut_hold h)
  · exact congrArg Host.Outcome.next (brownOut_castOn h)
  · exact congrArg Host.Outcome.next (pfailReleased_down h)
  · exact congrArg Host.Outcome.next (pfailReleased_lastGasp h)
  · exact congrArg Host.Outcome.next (pfailReleased_other h)
  · exact congrArg Host.Outcome.next (lastGasp_thawed h thawed)
  · exact congrArg Host.Outcome.next (lastGasp_frozen h frozen)
  · exact congrArg Host.Outcome.next (lastGasp_other h)
  · exact congrArg Host.Outcome.next (lastGaspStop_stands h)
  · exact next_of_command rfl ht hr (deviceRestart_running h)
  · exact next_of_command rfl ht hr (deviceRestart_range h)
  · exact next_of_command rfl ht hr (deviceRestart_lastGasp h)

end Sys2Proof.Proofs
end

section
/-!
The reference clock (R703), supply warnings (R697), the periodic save (R709) and cast-on (R707, R708).
-/
namespace Sys2Proof.Proofs
open Sys2Proof.Machine Sys2Proof.Laws

/-! ### The reference clock -/

section Clock
variable {s : State} {t : Nat}

theorem referenceLost_new (h : s.power.refLostAt = none) :
    referenceLost s = (State.event { s with power := { s.power with refLostAt := some s.now, refSource := 2 } } 0x6803 0x6400
      [byte s.power.refSource]).tamperFire 10 := if_neg (by simp [h])

theorem referenceLost_lost (h : s.power.refLostAt = some t) : referenceLost s = s := if_pos (by simp [h])

theorem referenceLossLimit_due (h : s.power.refLostAt = some t) (due : t + cMs 100 ≤ s.now) (run : s.power.phase = .run) :
    referenceLossLimit s =
      (let f := s.flush 3
       { f with power := { f.power with phase := .refHeld }, powerNv := { f.powerNv with lastGaspResult := 0 } }) := by
  unfold referenceLossLimit
  rw [h]
  exact if_neg fun early => early.elim (Nat.not_lt.mpr due) (not_not_intro run)

theorem referenceLossLimit_stands (h : s.power.refLostAt = none ∨ s.power.phase = .lastGasp) : referenceLossLimit s = s := by
  unfold referenceLossLimit
  split
  · rfl
  · next t lost =>
    rcases h with none_lost | gasp
    · exact absurd (none_lost.symm.trans lost) (by simp)
    · exact if_pos (.inr (by rw [gasp]; decide))

theorem referenceRestored_held (h : s.power.phase = .refHeld) : referenceRestored s = s.coldReset 7 := if_pos h

theorem not_refHeld_of_live (h : s.live = true) : s.power.phase ≠ .refHeld := by
  intro held
  simp [State.live, held] at h

theorem referenceRestored_present (hl : s.live = true) (h : s.power.refLostAt = none) : referenceRestored s = s := by
  refine (if_neg (not_refHeld_of_live hl)).trans ?_
  rw [h]

theorem referenceRestored_soon (hl : s.live = true) (h : s.power.refLostAt = some t) (soon : s.now ≤ t + cMs 100) :
    referenceRestored s = State.event { s with power := { s.power with refLostAt := none, refSource := if s.board.refclk then 1 else 0 } } 0x6804 0x6400
      ([0, 0, 0, 0] ++ leBytes 4 ((s.now - t) / 500)) := by
  refine (if_neg (not_refHeld_of_live hl)).trans ?_
  rw [h]
  exact if_neg fun late => absurd late.1 (Nat.not_lt.mpr soon)

theorem next_of_reference {u : State} (heldOrLive : s.live = true ∨ s.power.phase = .refHeld) (h : referenceRestored s = u) :
    exec .referenceRestored s = .next u := by
  have gate : (s.live || s.power.phase == .refHeld) = true := by simpa using heldOrLive
  exact congrArg Host.Outcome.next ((if_pos gate).trans h)

end Clock

/-! ### Supply warnings -/

section Supply
variable {s : State} {rail bank mV : Nat}

theorem supplyWarning_good (h : warnLevel rail (s.board.banks33.getD bank false) ≤ mV) :
    supplyWarning rail bank mV s = { s with power := { s.power with
      supply := (match measureOf rail with | some k => s.power.supply.set k mV | none => s.power.supply)
      railWarn := if rail = 5 then (if clearBit s.power.railWarn (8 + bank) / 256 = 0 then clearBit (clearBit s.power.railWarn (8 + bank)) 5
        else setBit (clearBit s.power.railWarn (8 + bank)) 5) else clearBit s.power.railWarn rail } } := by
  have high : decide (mV < warnLevel rail (s.board.banks33.getD bank false)) = false := by simpa using h
  unfold supplyWarning
  dsimp only
  rw [high]
  rfl

theorem supplyWarning_told (h : mV < warnLevel rail (s.board.banks33.getD bank false)) (due : s.perSecond (s.power.warnEventAt.getD rail none) = true)
    (first : at' s.power.warnLowest rail = 0) :
    supplyWarning rail bank mV s = State.event { s with power := { s.power with
      supply := (match measureOf rail with | some k => s.power.supply.set k mV | none => s.power.supply)
      railWarn := if rail = 5 then (if setBit s.power.railWarn (8 + bank) / 256 = 0 then clearBit (setBit s.power.railWarn (8 + bank)) 5
        else setBit (setBit s.power.railWarn (8 + bank)) 5) else setBit s.power.railWarn rail
      warnEventAt := s.power.warnEventAt.set rail (some s.now), warnLowest := s.power.warnLowest.set rail 0 } }
        0x6805 powerCell ([byte rail, 0] ++ leBytes 2 mV) := by
  have low : decide (mV < warnLevel rail (s.board.banks33.getD bank false)) = true := decide_eq_true h
  unfold supplyWarning
  dsimp only
  rw [low, due, first]
  exact (if_neg (by decide)).trans (if_pos rfl)

end Supply

/-! ### Saves and cast-on -/

section CastOn
variable {s : State}

theorem periodicSave_due (due : s.power.lastSaveAt + cSec 60 ≤ s.now) : periodicSave s = s.saveTimes := if_neg (Nat.not_lt.mpr due)

theorem periodicSave_early (early : s.now < s.power.lastSaveAt + cSec 60) : periodicSave s = s := if_pos early

variable {i : CastOnInput}

theorem castOn_elsewhere (h : (s.power.phase ≠ .castOn ∧ s.power.phase ≠ .held) ∨ s.inRecovery = true ∨ s.health.frozen = true) : castOn i s = s :=
  if_pos h

theorem castOn_fromReset (h : s.power.phase = .castOn) (normal : s.inRecovery = false) (thawed : s.health.frozen = false) (battery : i.vbatLost = false) :
    castOn i s = castOnRun i 10 ((State.loadSettings { s with
      board := i.board
      time := { s.time with counter := cUs (i.times.getD 9 0), backup := (s.time.backup + i.backup) % 2 ^ 48 }
      powerNv := { s.powerNv with castOnCount := sat32 s.powerNv.castOnCount } }).seedTime 0) := by
  unfold castOn
  dsimp only
  rw [if_neg (by simp [h, normal, thawed]), if_neg (show ¬ s.power.phase = .held by rw [h]; decide), battery]
  rfl

end CastOn

/-- Settles O60: the reference clock by when it was lost, a rail by its warning level, a save by its time, cast-on by the phase it meets. -/
theorem clocksSupplyAndCastOn : Obligations.ClocksSupplyAndCastOn := by
  refine ⟨fun s hl h => ?_, fun s t hl h => ?_, fun s t hl h due run => ?_, fun s hl h => ?_, fun s t hl h soon => ?_, fun s h => ?_, fun s hl h => ?_,
    fun s rail bank mV hl h => ?_, fun s rail bank mV hl h due first => ?_, fun s hrun due => ?_, fun s hrun early => ?_, fun s i h => ?_,
    fun s i h normal thawed battery => ?_⟩
  · exact next_of_live rfl hl (referenceLost_new h)
  · exact next_of_live rfl hl (referenceLost_lost h)
  · exact next_of_live rfl hl (referenceLossLimit_due h due run)
  · exact next_of_live rfl hl (referenceLossLimit_stands h)
  · exact next_of_reference (.inl hl) (referenceRestored_soon hl h soon)
  · exact next_of_reference (.inr h) (referenceRestored_held h)
  · exact next_of_reference (.inl hl) (referenceRestored_present hl h)
  · exact next_of_live rfl hl (supplyWarning_good h)
  · exact next_of_live rfl hl (supplyWarning_told h due first)
  · exact next_of_running rfl hrun (periodicSave_due due)
  · exact next_of_running rfl hrun (periodicSave_early early)
  · exact congrArg Host.Outcome.next (castOn_elsewhere h)
  · exact congrArg Host.Outcome.next (castOn_fromReset h normal thawed battery)

end Sys2Proof.Proofs
end
